-- ==== Sys2Proof/Word.lean ====
section
/-! DEFINITION. Word.lean: the word types and the sparse-table type of the model, and their plainest arithmetic. -/

namespace Sys2Proof

/-- One byte (R10: bit 0 is the least significant bit). -/
abbrev Byte := BitVec 8

/-- A 64-bit word: a DMB word, a memory-port word, a register of the fabric. -/
abbrev Word := BitVec 64

/-- A sparse table: pairs of a key and a value, keys strictly rising, no entry equal to what an unlisted key reads as.
The operations, and what an unlisted key reads as, are in Machine/Sparse.lean. -/
abbrev SMap (α : Type) := List (Nat × α)

/-- Addition of a counter that sticks at all ones (R391). -/
def satAdd (width a b : Nat) : Nat := min (a + b) (2 ^ width - 1)

/-- Addition of a counter of `width` bits that wraps. -/
def wrapAdd (width a b : Nat) : Nat := (a + b) % 2 ^ width

end Sys2Proof
end

