-- ==== Sys2Proof/Syntax.lean ====
section
/-! DEFINITION. Syntax.lean: the commands of the module. One constructor of `Instr` per row of spec/opcode_table.json,
with the row's operands. What the surroundings decide (pad levels, arriving frames and packets, the outcome of a check of
stored cipher text, a reading of a sensor) is an operand of the command that meets it; so is what a core has written
beforehand where no row names that write (SCH_ARG, an entry buffer, a C2H slot). -/

namespace Sys2Proof

/-- Privilege of a dictionary request (R360). -/
inductive Priv where
  | oper | admin | vendor
  deriving DecidableEq, Repr

/-- The carrier on which a dictionary frame arrives (R362, R364). -/
inductive Path where
  | mailbox | mgt0 | mgt1
  deriving DecidableEq, Repr

/-- Outcome of the check of one HBM sector as it is read (R343, R346): good, one byte corrected, or failed with KIND
0 tag, 1 check code, 2 tree; or what the stack returns for it, 64 bytes from bit 0 up and above them the 64 check bits,
whose check the model makes. -/
inductive SectorCheck where
  | good | corrected | failed (kind : Nat) | stands (raw : BitVec 576)
  deriving DecidableEq, Repr

/-- The unit that a repair or a walker read concerns (R421, R329). -/
inductive RepairUnit where
  | imWord | shadowWord | xbarEntry | spineEntry | linkEntry | segWord | dispEntry | romDmb
  deriving DecidableEq, Repr

/-- A Bilyr packet (R264); `data` holds the data flits that follow. LEN is their number, and in an RD the number of flits
asked for. -/
structure Packet where
  op      : Nat
  pri     : Nat
  sr      : Bool
  ackreq  : Bool
  len     : Nat
  dst     : Nat
  src     : Nat
  tag     : Nat
  status  : Nat
  hops    : Nat
  route   : Nat
  xhops   : Nat
  addr    : Nat
  idata   : Word
  data    : List (BitVec 256)
  deriving DecidableEq, Repr

/-- The stitch token, payload of a priority frame (R141). -/
structure Token where
  folio   : Nat
  kind    : Nat
  members : BitVec 16
  trig    : BitVec 16
  txno    : BitVec 16
  txyes   : BitVec 16
  clkcrc  : BitVec 32
  clkmis  : Bool
  haltr   : Bool
  depart  : Bool
  reqok   : Bool
  masters : Nat
  pacego  : Bool
  target  : Nat
  stepn   : Nat
  lapns   : Nat
  frzorg  : Nat
  frzcode : BitVec 16
  deriving DecidableEq, Repr

/-- The control block of a lane frame (R292). -/
structure CtlBlock where
  op       : Nat
  nclass   : Nat
  nseq     : Nat
  nlane    : Nat
  lsStatic : Nat
  lsPrio   : Nat
  lsPkt    : Nat
  ackPkt   : Nat
  crReq    : Nat
  crRsp    : Nat
  crMsg    : Nat
  skewcr   : Nat
  vc       : Nat
  deriving DecidableEq, Repr

/-- A discovery record, payload of a priority frame (R303): KIND 0 RING_DISC, 1 HEAD_DISC, 2 IDENT, 3 ECHO_REQ, 4 ECHO_RSP,
5 ADJ. -/
structure Bringup where
  kind   : Nat
  ring   : Nat
  count  : Nat
  module : Nat
  nbr    : List (Option Nat)
  sysid  : Word
  mods   : Nat
  imgnum : Nat
  deriving DecidableEq, Repr

/-- A die-link frame as received (R272): its control word, its flits and whether its CRC-32C passes. -/
structure DieFrame where
  crcOk : Bool
  seq   : Nat
  ack   : Nat
  vcmap : List Nat
  crReq : Nat
  crRsp : Nat
  crMsg : Nat
  flits : List (BitVec 256)
  deriving DecidableEq, Repr

/-- R360: an IPv4 packet that carries UDP, or a fragment of one: its addresses, identification, offset in bytes, whether more
fragments follow, and its bytes, which open with the UDP header at offset 0. -/
structure Fragment where
  src    : Nat
  dst    : Nat
  ident  : Nat
  offset : Nat
  more   : Bool
  bytes  : List Byte
  deriving DecidableEq, Repr

/-- What a traced courier core retires (R252). -/
inductive CoreEvent where
  | branch (taken : Bool)
  | transfer (xfer addr : Nat)
  deriving DecidableEq, Repr

/-- What the built-in test of one E-die found (R398). -/
structure BistDie where
  fails         : Nat
  outsideSpares : Bool
  deriving DecidableEq, Repr

/-- The training phases of a lane (R302). -/
inductive TrainPhase where
  | detect | lock | align | eq | verify
  deriving DecidableEq, Repr

/-- Which kind of unit a collator test ran on (R382). -/
inductive CollActivity where
  | spares | imSched | dmbs | lanes
  deriving DecidableEq, Repr

/-- The commands of the module: the rows of spec/opcode_table.json. -/
inductive Instr where
  -- power, pins and start steps
  | powerOn
  | porstN
  | warmrstN
  | supplyFail (rail : Nat)
  | vstbyLoss
  | hpPerstN
  | storeMounted (fails : List Nat)
  | bistComplete (dies : List BistDie)
  | entropyFillDone
  | pllLock
  | epochChangeDone (design : Bool)
  -- stream delivery and verification
  | loadData (block : List Byte)
  | loadGoVerify
  | loadGoAbandon
  | stageDiscard
  | completenessCheckDone (chk : SectorCheck)
  | crcCheckDone (chk : SectorCheck)
  | decryptionDone (chk : SectorCheck)
  | imageChecksDone (chk : SectorCheck)
  | programmingDone (chk : SectorCheck)
  | stageDigestCheckDone (chk : SectorCheck)
  -- lane training and discovery
  | trainingPhaseDone (lane : Nat) (symbol : BitVec 128)
  | trainingLimitExpiry (lane : Nat)
  | ringDisc (seq ring count : Nat)
  | headDisc (seq ring : Nat)
  | ident (bundle seq sender : Nat) (sysid : Word) (mods imgnum : Nat)
  | adj (bundle seq module : Nat) (nbr : List (Option Nat))
  | echoReq (bundle seq : Nat)
  | echoReplyDue (bundle : Nat)
  | echoRsp (bundle seq roundTrip : Nat)
  | discoveryFail
  -- start-up sequence
  | startupLock
  | pllUnlock
  | modreadyNetHigh
  | doneTimeout
  -- mode requests
  | modeReqWarmStart (priv : Priv) (arg : BitVec 24)
  | modeReqStopResume (priv : Priv) (arg : BitVec 24)
  | modeReqRun (priv : Priv) (arg : BitVec 24)
  | modeReqStep (priv : Priv) (arg : BitVec 24)
  | modeReqPaced (priv : Priv) (arg : BitVec 24)
  | modeReqFreeze (priv : Priv) (arg : BitVec 24)
  | modeReqInspect (priv : Priv) (arg : BitVec 24)
  | modeReqLinksvc (priv : Priv) (arg : BitVec 24)
  | modeReqSelftest (priv : Priv) (arg : BitVec 24)
  | modeReqLockdown (priv : Priv) (arg : BitVec 24)
  | modeReqReserved (priv : Priv) (target : Nat) (arg : BitVec 24)
  | serviceComplete (failedBps : List Nat)
  -- steps, stalls and repair
  | stepIssue (padsHigh : List Nat) (badChannels : List (Nat × Nat × Nat))
  | repairComplete (unit : RepairUnit) (addr : Nat) (chk : SectorCheck)
  | stallRelease
  | memTimeout (portKey seqNo : Nat)
  | starveTimeout (bundle : Nat)
  | walkerRead (unit : RepairUnit) (addr : Nat) (chk : SectorCheck)
  -- boundary, stitch, launch
  | drainComplete (badChannels : List (Nat × Nat × Nat))
  | stuckInput (pin : Nat)
  | ringGather (seq : Nat) (t : Token)
  | headGather (seq : Nat) (t : Token)
  | headRelease (seq : Nat) (t : Token)
  | ringRelease (seq : Nat) (t : Token)
  | stepComplete
  | freezeFlood (bundle seq : Nat) (t : Token)
  | launch (chk : SectorCheck)
  | effWindow
  | partition
  | cadInEdge
  | ptpCadenceEvent
  | trigInEdge (pin : Nat) (rising : Bool)
  | trigClear
  -- capture, mask tests, trace
  | capGoStart
  | capGoStop
  | capWindowClosed
  | capRearmDone
  | maskCtrlWrite (v : Byte)
  | traceGoStart
  | traceGoStop
  | traceGoSync
  | traceStopped
  | traceBranchTimeout (core : Nat)
  | traceDeltaLimit (src : Nat)
  | traceGap (src : Nat)
  | classBTrace (core pc : Nat) (ev : CoreEvent)
  -- transactions and tip-ins
  | txnOpen (slot : Nat) (scope : Bool)
  | txnSubmit (slot whenMode count : Nat)
  | txnCancel (slot : Nat)
  | txnClose (slot : Nat)
  | txnValidated (slot : Nat)
  | tipPreload (key : Nat) (discard : Bool)
  | tipPreloadImage (quarter : Nat) (discard : Bool)
  | tipPreloadDone (chk : SectorCheck)
  -- inspection
  | inspReadDm (rsv : BitVec 24) (target : BitVec 32) (data : Word)
  | inspWriteDm (rsv : BitVec 24) (target : BitVec 32) (data : Word)
  | inspReadIm (rsv : BitVec 24) (target : BitVec 32) (data : Word)
  | inspReadShadow (rsv : BitVec 24) (target : BitVec 32) (data : Word)
  | inspReadDmb (rsv : BitVec 24) (target : BitVec 32) (data : Word)
  | inspWriteDmb (rsv : BitVec 24) (target : BitVec 32) (data : Word)
  | inspParityTest (rsv : BitVec 24) (target : BitVec 32) (data : Word)
  | inspReadSchedule (rsv : BitVec 24) (target : BitVec 32) (data : Word)
  | inspForceDm (rsv : BitVec 24) (target : BitVec 32) (data : Word)
  | inspForcePoint (rsv : BitVec 24) (target : BitVec 32) (data : Word)
  | inspReleaseDm (rsv : BitVec 24) (target : BitVec 32) (data : Word)
  | inspReleasePoint (rsv : BitVec 24) (target : BitVec 32) (data : Word)
  | inspReadBpControls (rsv : BitVec 24) (target : BitVec 32) (data : Word)
  | inspWriteHaltEnable (rsv : BitVec 24) (target : BitVec 32) (data : Word)
  | inspReadQueue (rsv : BitVec 24) (target : BitVec 32) (data : Word)
  | inspReadIoCell (rsv : BitVec 24) (target : BitVec 32) (data : Word) (padHigh : Bool)
  | inspOpReserved (op : Byte)
  -- couriers and channels
  | schWait (core : Nat) (obj : BitVec 16) (arg : Word)
  | schSignal (core ctx : Nat)
  | schSetup (core : Nat) (v arg : Word)
  | schExit (core : Nat)
  | schPulse (core gen : Nat)
  | schFail (core : Nat)
  | schPtpWaitExpiry
  | take (core chan : Nat)
  | chanDone (core chan : Nat) (v : Word) (buffer : List Word)
  | chanPop (core chan : Nat)
  | c2hAlloc (core chan : Nat)
  | c2hPost (core chan slot : Nat) (image : List Byte)
  | chanErrRead (core chan : Nat)
  | h2cPush (chan : Nat)
  | c2hCons (chan : Nat) (v : BitVec 32)
  | retire (chan : Nat)
  | deadlineMiss (chan : Nat)
  | replyTimeout (chan : Nat)
  | courierTrap (core pc cause : Nat)
  -- packets, die links, host port
  | packetRd (p : Packet) (parityBad : Option Nat) (chk : SectorCheck)
  | packetWr (p : Packet) (parityBad : Option Nat) (chk : SectorCheck) (stored : Bool)
  | packetPwr (p : Packet) (parityBad : Option Nat) (chk : SectorCheck) (stored : Bool)
  | packetMsg (p : Packet) (parityBad : Option Nat)
  | packetCpl (p : Packet) (parityBad : Option Nat)
  | packetAck (p : Packet) (parityBad : Option Nat)
  | errnote (p : Packet) (parityBad : Option Nat)
  | badOp (p : Packet) (parityBad : Option Nat)
  | npTimeout (tag : Nat)
  | tagQuarantineEnd (tag : Nat)
  | requestAgeLimit (output : Nat)
  | dlinkDataFrame (link dir : Nat) (f : DieFrame)
  | dlinkIdleFrame (link dir : Nat) (f : DieFrame)
  | dlinkNak (link dir : Nat) (f : DieFrame)
  | dlinkReplayTimeout (link dir : Nat)
  | hostRead (bar offset len : Nat)
  | hostWrite (bar offset : Nat) (bytes : List Byte)
  | hostReadTimeout (tag : Nat)
  | mbDoorbell
  | mbResponseRead (offset len : Nat)
  | mgtDictFrame (port : Nat) (f : Fragment)
  | mgtFrameForward (port : Nat) (frame : List Byte) (residence : Nat)
  | initSel (ep : Nat)
  | statsClearOne
  | statsClearAll
  -- lanes
  | laneIdle (bundle lane : Nat) (cb : CtlBlock)
  | laneNak (bundle : Nat) (cb : CtlBlock)
  | nakRepeat (bundle cls : Nat)
  | quietReq (bundle : Nat) (cb : CtlBlock)
  | quietAck (bundle : Nat) (cb : CtlBlock)
  | quietRefuse (bundle : Nat) (cb : CtlBlock)
  | laneDrop (bundle lane : Nat) (cb : CtlBlock)
  | laneFailed (bundle lane : Nat)
  | staticFrame (bundle seq : Nat) (payload : BitVec 464)
  | staticLast (bundle seq : Nat) (payload : BitVec 464)
  | lanePacket (bundle seq : Nat) (flit : BitVec 256) (cb : CtlBlock)
  | laneFrameBad (bundle lane cls : Nat)
  | lanePacketResendTimeout (bundle : Nat)
  | quietIdleExpiry (bundle : Nat)
  | quietExit (bundle : Nat)
  | trainingBurst (bundle : Nat)
  | offEntry (bundle : Nat)
  | linksvcCmdRetrain
  | linksvcCmdRecalibrate
  | linksvcCmdRediscover
  | laneCtlRetrain (bundle lane : Nat)
  | laneCtlClr (bundle lane : Nat)
  -- scrubber, store, keys, settings, log
  | scrubGoStart
  | scrubGoAbort
  | scrubDone (hbmChecks : List (Nat × SectorCheck))
  | storeWriteDone (sector : Nat) (verifyOk : Bool)
  | storeClearDone (sector : Nat) (verifyOk : Bool)
  | storeReadData
  | keyInstall (v : BitVec 512)
  | keyRemove (slot : Byte)
  | zeroise (v : BitVec 32)
  | random
  | memPolicyWrite (v : Byte)
  | adminKey (wrap : BitVec 320)
  | trngFail
  | drbgReseed
  | settingsSave (v : Byte)
  | logFlush (v : Byte)
  | logFlushAuto
  -- time
  | ptpSync (port domain : Nat) (twoStep : Bool) (rxStamp originStamp correction : Int)
  | ptpFollowUp (port domain : Nat) (originStamp correction : Int)
  | ptpDelayResp (port domain : Nat) (txStamp rxStamp correction : Int)
  | ptpHoldover (domain : Nat)
  | timeActiveWrite (v : Byte)
  | secondPulse
  -- collator, health, thermal, probe banks
  | collatorUnit (act : CollActivity) (unit : Nat) (pass : Bool)
  | collStoreHourly
  | chanImbalance (die : Nat)
  | thermalReading (die : Nat) (centiC : Int)
  | vioChange (bank : Nat) (wrongVoltage : Bool)
  | bankPowered (bank : Nat)
  -- dictionary
  | dclkWrite (gen : Nat) (isTime : Bool) (v : BitVec 32)
  | deadMarkSet (die : Nat) (router : Bool) (target : Nat)
  | deadMarkClear (die : Nat) (router : Bool) (target : Nat)
  | srcRouteWrite (die ni entry : Nat) (v : Word)
  | registerWrite (priv : Priv) (index sub : Nat) (data : List Byte)
  | porstNHigh
  | dictRetryTimeout
  | logEntryMove
  | mgtLinkChange (port : Nat) (up : Bool)
  | prbsLock (bundle lane : Nat)
  | prbsLockLoss (bundle lane : Nat)
  | slewingDone
  deriving DecidableEq, Repr

end Sys2Proof
end

