-- ==== Sys2Proof/Config.lean ====
section
/-! DEFINITION. Config.lean: what is fixed at manufacture and the values the spec leaves open. A constant with no body is
free: no proof can see its value. -/

namespace Sys2Proof.Config

/-- R335: the 256-bit device root key, one per module. -/
opaque rootKey : BitVec 256

/-- R1: the order code; true for OND-C8M-64S. -/
opaque is64S : Bool

/-- R1: the unique ID of an OND-C8M-64S. -/
opaque uid : BitVec 128

/-- R396: what the serial number is made of: its length modulo 17, and what each character is drawn from (R386). -/
opaque serialLength : Nat
opaque serialChar : Nat → Nat

/-- R355: the body of record 0x0F00, manufacturing and identity data. -/
opaque manufacture : List Byte

/-- R350, R352, R353: whether the n-th clear of a recovery fails its verify twice. -/
opaque clearFails : Nat → Bool

/-- R396: steward firmware version. -/
opaque firmware : BitVec 32

/-- R365: MAC address of MGT0 or MGT1. -/
opaque mac : Nat → BitVec 48

/-- R396: the silicon stepping of every module this manual describes. -/
def stepping : Nat := 0x11

/-- R339: the n-th fill of the entropy pool, 512 bits. -/
opaque entropyPool : Nat → BitVec 512

/-- R414, chapter 18: the n-th measured value of a power, energy, voltage or current entry (key 256 * index + sub). -/
opaque reading : Nat → Nat → BitVec 64

/-- R215: nothing in the manual fixes what the stored data of a DMB word is after a cold start. -/
opaque openWord : Nat → BitVec 64

/-- R25: the manual gives no contents for the built-in tip-ins of SELFTEST and LINKSVC: what the n-th entry leaves in an
IM word or schedule entry (by kind 0 IM, 1 crossbar, 2 spine, and key) and in a DM cell (by key). -/
opaque builtinWord : Nat → Nat → Nat → Nat
opaque builtinCell : Nat → Nat → Bool

/-- R340, R345: the address in the counter region of a tree node, and the entry of a full cache that an engine gives up the
n-th time. -/
opaque treePlace : Nat → Nat
opaque treeVictim : Nat → Nat

/-- R28, R61: the BPs that the n-th built-in test had found failed when a fault freeze ended it. -/
opaque testFound : Nat → List Nat

end Sys2Proof.Config
end

