-- ==== Sys2Proof/Machine/Sparse.lean ====
section
/-! DEFINITION. Machine/Sparse.lean: the operations of a sparse table in canonical form, and of sparse bytes. -/

namespace Sys2Proof.Machine

/-- The value listed at a key, if any. -/
def sfind {α : Type} : SMap α → Nat → Option α
  | [], _ => none
  | (k', v) :: t, k => if k' = k then some v else sfind t k

/-- The value at a key; an unlisted key reads the default `d`. -/
def sget {α : Type} (d : α) (m : SMap α) (k : Nat) : α := (sfind m k).getD d

/-- Remove a key. -/
def serase {α : Type} : SMap α → Nat → SMap α
  | [], _ => []
  | (k', v) :: t, k => if k' = k then serase t k else (k', v) :: serase t k

/-- Put a value at a key, keys rising. -/
def sinsert {α : Type} : SMap α → Nat → α → SMap α
  | [], k, v => [(k, v)]
  | (k', v') :: t, k, v =>
    if k < k' then (k, v) :: (k', v') :: t
    else if k' = k then (k, v) :: t
    else (k', v') :: sinsert t k v

/-- Write a key; writing the default removes the entry. -/
def sset {α : Type} [DecidableEq α] (d : α) (m : SMap α) (k : Nat) (v : α) : SMap α :=
  if v = d then serase m k else sinsert m k v

/-- Every key of the table is above `b`, keys rise strictly, and no entry equals the default of its key. -/
def swfFrom {α : Type} [DecidableEq α] (d : Nat → α) : Option Nat → SMap α → Bool
  | _, [] => true
  | lo, (k, v) :: t =>
    (match lo with | none => true | some b => decide (b < k)) && !decide (v = d k) && swfFrom d (some k) t

/-- The canonical form of a sparse table. -/
def swf {α : Type} [DecidableEq α] (d : Nat → α) (m : SMap α) : Bool := swfFrom d none m

/-- The part of a table with keys in [lo, hi). -/
def srange {α : Type} (m : SMap α) (lo hi : Nat) : SMap α := m.filter (fun e => lo ≤ e.1 && e.1 < hi)

/-- The table without the keys in [lo, hi). -/
def sclear {α : Type} (m : SMap α) (lo hi : Nat) : SMap α := m.filter (fun e => !(lo ≤ e.1 && e.1 < hi))

/-- Change one key through a function. -/
def smod {α : Type} [DecidableEq α] (d : α) (m : SMap α) (k : Nat) (f : α → α) : SMap α := sset d m k (f (sget d m k))

/-- Write a list of pairs, in order. -/
def ssetAll {α : Type} [DecidableEq α] (d : α) (m : SMap α) (kvs : List (Nat × α)) : SMap α :=
  kvs.foldl (fun m e => sset d m e.1 e.2) m

/-- The bytes at addresses a, a+1, ... as cells that an unlisted zero leaves out. -/
def cellsOf (a : Nat) : List Byte → SMap Byte
  | [] => []
  | b :: t => if b = 0 then cellsOf (a + 1) t else (a, b) :: cellsOf (a + 1) t

/-- Write consecutive bytes into sparse bytes whose unlisted byte reads zero. -/
def writeBytes (m : SMap Byte) (a : Nat) (bs : List Byte) : SMap Byte :=
  m.filter (fun e => e.1 < a) ++ cellsOf a bs ++ m.filter (fun e => a + bs.length ≤ e.1)

/-- Read n consecutive bytes of sparse bytes; the table may be long, so it is cut to the range first. -/
def readBytes (m : SMap Byte) (a n : Nat) : List Byte :=
  let r := srange m a (a + n)
  (List.range n).map (fun i => sget 0 r (a + i))

/-- A little-endian number from bytes (R10). -/
def leNat : List Byte → Nat
  | [] => 0
  | b :: t => b.toNat + 256 * leNat t

/-- The n little-endian bytes of a number (R10). -/
def leBytes : Nat → Nat → List Byte
  | 0, _ => []
  | n + 1, v => BitVec.ofNat 8 v :: leBytes n (v / 256)

/-- A little-endian number read from sparse bytes. -/
def readLe (m : SMap Byte) (a n : Nat) : Nat :=
  (srange m a (a + n)).foldl (fun acc e => acc + e.2.toNat * 2 ^ (8 * (e.1 - a))) 0

/-- Bits [hi:lo] of a number. -/
def bitsOf (v hi lo : Nat) : Nat := (v >>> lo) % 2 ^ (hi + 1 - lo)

/-- Bit i of a number. -/
def bitOf (v i : Nat) : Bool := v.testBit i

/-- Put `x` in bits [hi:lo] of a number. -/
def putBits (v hi lo x : Nat) : Nat :=
  v - bitsOf v hi lo * 2 ^ lo + (x % 2 ^ (hi + 1 - lo)) * 2 ^ lo

/-- 1 for true, 0 for false. -/
def b2n (b : Bool) : Nat := if b then 1 else 0

/-- The element at a position of a list, or a default. -/
def nth {α : Type} (d : α) : List α → Nat → α
  | [], _ => d
  | x :: _, 0 => x
  | _ :: t, n + 1 => nth d t n

/-- Replace the element at a position; nothing where the list is shorter. -/
def setNth {α : Type} : List α → Nat → α → List α
  | [], _, _ => []
  | _ :: t, 0, v => v :: t
  | x :: t, n + 1, v => x :: setNth t n v

/-- The even parity of the low `n` bits of a number: 1 when an odd number of them is 1. -/
def parityN : Nat → Nat → Bool
  | 0, _ => false
  | n + 1, v => xor (v % 2 == 1) (parityN n (v / 2))

/-- One even parity bit per byte over `n` bytes, bit k for byte k (R47). -/
def byteParity : Nat → Nat → Nat
  | 0, _ => 0
  | n + 1, v => if v = 0 then 0 else b2n (parityN 8 (v % 256)) + 2 * byteParity n (v / 256)

end Sys2Proof.Machine
end

