-- ==== Sys2Proof/Machine/Crypto.lean ====
section
/-! DEFINITION. Machine/Crypto.lean: CRC-32C, SHA-384, HMAC, the key derivation of R336, AES-256 with its counter mode
(R317), AES Key Wrap (R337) and CMAC (R343), written from the standards that chapter 15 names. -/

namespace Sys2Proof.Machine

/-- One bit of the reflected CRC-32C (polynomial 0x1EDC6F41, reflected 0x82F63B78). -/
def crcBits : Nat → BitVec 32 → BitVec 32
  | 0, c => c
  | n + 1, c => crcBits n (if c &&& 1#32 = 1#32 then (c >>> 1) ^^^ 0x82F63B78#32 else c >>> 1)

/-- CRC-32C of bytes. -/
def crc32c (bs : List Byte) : BitVec 32 :=
  ~~~ (bs.foldl (fun c b => crcBits 8 (c ^^^ b.setWidth 32)) (BitVec.allOnes 32))

/-- `n` words of 64 bits cut from a number, the most significant first. -/
def wordsOf (n v : Nat) : List Word := (List.range n).map (fun i => BitVec.ofNat 64 (v >>> (64 * (n - 1 - i))))

/-- The 80 round constants of FIPS 180-4 (fractional parts of the cube roots of the primes up to 409), packed sixteen to
a number. -/
def sha512K : List Word := [
  0x428A2F98D728AE227137449123EF65CDB5C0FBCFEC4D3B2FE9B5DBA58189DBBC3956C25BF348B53859F111F1B605D019923F82A4AF194F9BAB1C5ED5DA6D8118D807AA98A303024212835B0145706FBE243185BE4EE4B28C550C7DC3D5FFB4E272BE5D74F27B896F80DEB1FE3B1696B19BDC06A725C71235C19BF174CF692694,
  0xE49B69C19EF14AD2EFBE4786384F25E30FC19DC68B8CD5B5240CA1CC77AC9C652DE92C6F592B02754A7484AA6EA6E4835CB0A9DCBD41FBD476F988DA831153B5983E5152EE66DFABA831C66D2DB43210B00327C898FB213FBF597FC7BEEF0EE4C6E00BF33DA88FC2D5A79147930AA72506CA6351E003826F142929670A0E6E70,
  0x27B70A8546D22FFC2E1B21385C26C9264D2C6DFC5AC42AED53380D139D95B3DF650A73548BAF63DE766A0ABB3C77B2A881C2C92E47EDAEE692722C851482353BA2BFE8A14CF10364A81A664BBC423001C24B8B70D0F89791C76C51A30654BE30D192E819D6EF5218D69906245565A910F40E35855771202A106AA07032BBD1B8,
  0x19A4C116B8D2D0C81E376C085141AB532748774CDF8EEB9934B0BCB5E19B48A8391C0CB3C5C95A634ED8AA4AE3418ACB5B9CCA4F7763E373682E6FF3D6B2B8A3748F82EE5DEFB2FC78A5636F43172F6084C87814A1F0AB728CC702081A6439EC90BEFFFA23631E28A4506CEBDE82BDE9BEF9A3F7B2C67915C67178F2E372532B,
  0xCA273ECEEA26619CD186B8C721C0C207EADA7DD6CDE0EB1EF57D4F7FEE6ED17806F067AA72176FBA0A637DC5A2C898A6113F9804BEF90DAE1B710B35131C471B28DB77F523047D8432CAAB7B40C724933C9EBE0A15C9BEBC431D67C49C100D4C4CC5D4BECB3E42B6597F299CFC657E2A5FCB6FAB3AD6FAEC6C44198C4A475817].flatMap (wordsOf 16)

/-- The initial hash value of SHA-384 (fractional parts of the square roots of the ninth to the sixteenth prime). -/
def sha384Init : List Word := wordsOf 8
  0xCBBB9D5DC1059ED8629A292A367CD5079159015A3070DD17152FECD8F70E593967332667FFC00B318EB44A8768581511DB0C2E0D64F98FA747B5481DBEFA4FA4

/-- A big-endian number from bytes. -/
def beNat (bs : List Byte) : Nat := bs.foldl (fun a b => 256 * a + b.toNat) 0

/-- The n big-endian bytes of a number. -/
def beBytes (n v : Nat) : List Byte := (leBytes n v).reverse

/-- Extend the message schedule, newest word first, by `n` words. -/
def shaSchedule : Nat → List Word → List Word
  | 0, w => w
  | n + 1, w =>
    let x2 := nth 0 w 1
    let x15 := nth 0 w 14
    let s0 := x15.rotateRight 1 ^^^ x15.rotateRight 8 ^^^ (x15 >>> 7)
    let s1 := x2.rotateRight 19 ^^^ x2.rotateRight 61 ^^^ (x2 >>> 6)
    shaSchedule n ((nth 0 w 15 + s0 + nth 0 w 6 + s1) :: w)

/-- One round over the eight working words. -/
def shaRound (st : List Word) (kw : Word) : List Word :=
  match st with
  | [a, b, c, d, e, f, g, h] =>
    let s1 := e.rotateRight 14 ^^^ e.rotateRight 18 ^^^ e.rotateRight 41
    let ch := (e &&& f) ^^^ (~~~ e &&& g)
    let t1 := h + s1 + ch + kw
    let s0 := a.rotateRight 28 ^^^ a.rotateRight 34 ^^^ a.rotateRight 39
    let mj := (a &&& b) ^^^ (a &&& c) ^^^ (b &&& c)
    [t1 + s0 + mj, a, b, c, d + t1, e, f, g]
  | _ => st

/-- Words of 8 bytes, big-endian; `n` of them. -/
def beWords : Nat → List Byte → List Word
  | 0, _ => []
  | n + 1, bs => BitVec.ofNat 64 (beNat (bs.take 8)) :: beWords n (bs.drop 8)

/-- The compression of one 128-byte block. -/
def shaBlock (h : List Word) (block : List Byte) : List Word :=
  let w := (shaSchedule 64 (beWords 16 block).reverse).reverse
  let st := (List.zipWith (· + ·) sha512K w).foldl shaRound h
  List.zipWith (· + ·) h st

/-- The blocks of a padded message, `n` of them. -/
def shaBlocks : Nat → List Word → List Byte → List Word
  | 0, h, _ => h
  | n + 1, h, bs => shaBlocks n (shaBlock h (bs.take 128)) (bs.drop 128)

/-- SHA-384 of bytes: 48 bytes. -/
def sha384 (m : List Byte) : List Byte :=
  let l := m.length
  let pad := (111 + 128 - l % 128) % 128
  let p := m ++ [0x80#8] ++ List.replicate pad 0#8 ++ beBytes 16 (8 * l)
  ((shaBlocks (p.length / 128) sha384Init p).take 6).flatMap (fun w => beBytes 8 w.toNat)

/-- HMAC-SHA-384. -/
def hmac384 (key m : List Byte) : List Byte :=
  let k0 := if key.length > 128 then sha384 key else key
  let k := k0 ++ List.replicate (128 - k0.length) 0#8
  sha384 (k.map (· ^^^ 0x5C#8) ++ sha384 (k.map (· ^^^ 0x36#8) ++ m))

/-- The bytes of an ASCII label. -/
def ascii (s : String) : List Byte := s.toList.map (fun c => BitVec.ofNat 8 c.toNat)

/-- R336: kdf(key, label, context), 32 bytes. -/
def kdf (key : List Byte) (label : String) (context : List Byte) : List Byte :=
  (hmac384 key (beBytes 4 1 ++ ascii label ++ [0#8] ++ context ++ beBytes 4 256)).take 32

/-- Multiplication by x in GF(2^8) with the AES polynomial. -/
def xtime (b : Byte) : Byte := if b.msb then (b <<< 1) ^^^ 0x1B#8 else b <<< 1

/-- Multiplication in GF(2^8), by the bits of the first factor. -/
def gmulN : Nat → Byte → Byte → Byte
  | 0, _, _ => 0
  | n + 1, a, b => (if a &&& 1#8 = 1#8 then b else 0) ^^^ gmulN n (a >>> 1) (xtime b)

def gmul (a b : Byte) : Byte := gmulN 8 a b

/-- b to the power 254, the inverse in GF(2^8) (0 for 0). -/
def ginv (b : Byte) : Byte :=
  let b2 := gmul b b
  let b4 := gmul b2 b2
  let b8 := gmul b4 b4
  let b16 := gmul b8 b8
  let b32 := gmul b16 b16
  let b64 := gmul b32 b32
  let b128 := gmul b64 b64
  gmul b128 (gmul b64 (gmul b32 (gmul b16 (gmul b8 (gmul b4 b2)))))

/-- The AES S-box. -/
def sbox (b : Byte) : Byte :=
  let i := ginv b
  i ^^^ i.rotateLeft 1 ^^^ i.rotateLeft 2 ^^^ i.rotateLeft 3 ^^^ i.rotateLeft 4 ^^^ 0x63#8

/-- The inverse AES S-box. -/
def invSbox (b : Byte) : Byte := ginv (b.rotateLeft 1 ^^^ b.rotateLeft 3 ^^^ b.rotateLeft 6 ^^^ 0x05#8)

/-- Key expansion of AES-256: 4-byte words, newest first; `i` is the index of the next word. -/
def aesExpand : Nat → Nat → Byte → List (List Byte) → List (List Byte)
  | 0, _, _, w => w
  | n + 1, i, rc, w =>
    let prev := nth [] w 0
    let back := nth [] w 7
    let t :=
      if i % 8 = 0 then
        match (prev.drop 1 ++ prev.take 1).map sbox with
        | x :: r => (x ^^^ rc) :: r
        | [] => []
      else if i % 8 = 4 then prev.map sbox
      else prev
    aesExpand n (i + 1) (if i % 8 = 0 then xtime rc else rc) (List.zipWith (· ^^^ ·) back t :: w)

/-- Words of 4 bytes, `n` of them. -/
def chunk4 : Nat → List Byte → List (List Byte)
  | 0, _ => []
  | n + 1, bs => bs.take 4 :: chunk4 n (bs.drop 4)

/-- The fifteen 16-byte round keys of an AES-256 key, `n` of them from a flat list. -/
def chunk16 : Nat → List Byte → List (List Byte)
  | 0, _ => []
  | n + 1, bs => bs.take 16 :: chunk16 n (bs.drop 16)

def aesKeys (key : List Byte) : List (List Byte) :=
  chunk16 15 ((aesExpand 52 8 1#8 (chunk4 8 key).reverse).reverse.flatten)

def xorBytes (a b : List Byte) : List Byte := List.zipWith (· ^^^ ·) a b

/-- ShiftRows on a column-major state. -/
def shiftRows (s : List Byte) : List Byte :=
  [0, 5, 10, 15, 4, 9, 14, 3, 8, 13, 2, 7, 12, 1, 6, 11].map (fun i => nth 0#8 s i)

def invShiftRows (s : List Byte) : List Byte :=
  [0, 13, 10, 7, 4, 1, 14, 11, 8, 5, 2, 15, 12, 9, 6, 3].map (fun i => nth 0#8 s i)

/-- Multiply one column by the circulant matrix whose first row is [p, q, r, t]. -/
def mixCol (p q r t : Byte) (c : List Byte) : List Byte :=
  match c with
  | [a, b, d, e] =>
    [gmul p a ^^^ gmul q b ^^^ gmul r d ^^^ gmul t e, gmul t a ^^^ gmul p b ^^^ gmul q d ^^^ gmul r e,
     gmul r a ^^^ gmul t b ^^^ gmul p d ^^^ gmul q e, gmul q a ^^^ gmul r b ^^^ gmul t d ^^^ gmul p e]
  | _ => c

def mixColumns (s : List Byte) : List Byte := (chunk4 4 s).flatMap (mixCol 2#8 3#8 1#8 1#8)

def invMixColumns (s : List Byte) : List Byte := (chunk4 4 s).flatMap (mixCol 14#8 11#8 13#8 9#8)

/-- AES-256 encryption of one 16-byte block. -/
def aesEnc (key block : List Byte) : List Byte :=
  let ks := aesKeys key
  let s0 := xorBytes block (nth [] ks 0)
  let s13 := ((ks.drop 1).take 13).foldl (fun s k => xorBytes (mixColumns (shiftRows (s.map sbox))) k) s0
  xorBytes (shiftRows (s13.map sbox)) (nth [] ks 14)

/-- AES-256 decryption of one 16-byte block. -/
def aesDec (key block : List Byte) : List Byte :=
  let ks := aesKeys key
  let s0 := xorBytes block (nth [] ks 14)
  let s13 := ((ks.drop 1).take 13).reverse.foldl
    (fun s k => invMixColumns (xorBytes ((invShiftRows s).map invSbox) k)) s0
  xorBytes ((invShiftRows s13).map invSbox) (nth [] ks 0)

/-- R317: counter mode from block `j`, `n` blocks at most, the last truncated. -/
def aesCtr (key nonce : List Byte) : Nat → Nat → List Byte → List Byte
  | 0, _, _ => []
  | n + 1, j, bs => xorBytes (bs.take 16) (aesEnc key (nonce ++ beBytes 4 j)) ++ aesCtr key nonce n (j + 1) (bs.drop 16)

/-- R317: decryption (or encryption) of a whole section under its key. -/
def ctrSection (key nonce bs : List Byte) : List Byte := aesCtr key nonce ((bs.length + 15) / 16) 0 bs

/-- One inner step of AES Key Wrap's unwrapping: A and the list of 8-byte semiblocks; t counts down. -/
def kwStep (kek : List Byte) (n t : Nat) (st : List Byte × List (List Byte)) : List Byte × List (List Byte) :=
  let i := (t - 1) % n
  let b := aesDec kek (xorBytes st.1 (beBytes 8 t) ++ nth [] st.2 i)
  (b.take 8, setNth st.2 i (b.drop 8))

def kwLoop (kek : List Byte) (n : Nat) : Nat → List Byte × List (List Byte) → List Byte × List (List Byte)
  | 0, st => st
  | t + 1, st => kwLoop kek n t (kwStep kek n (t + 1) st)

/-- R337: AES Key Wrap (SP 800-38F, KW) unwrapping of a 40-byte wrap; none where its integrity check fails. -/
def kwUnwrap (kek wrap : List Byte) : Option (List Byte) :=
  let r := [1, 2, 3, 4].map (fun i => (wrap.drop (8 * i)).take 8)
  let out := kwLoop kek 4 24 (wrap.take 8, r)
  if out.1 = List.replicate 8 0xA6#8 then some out.2.flatten else none

/-- The bytes of a 256-bit key, most significant byte first. -/
def keyBytes (k : BitVec 256) : List Byte := beBytes 32 k.toNat

def bytesKey (bs : List Byte) : BitVec 256 := BitVec.ofNat 256 (beNat bs)

end Sys2Proof.Machine
end

