-- ==== Sys2Proof/Machine/State.lean ====
section
/-! DEFINITION. Machine/State.lean: the state of the module as plain data, the reasons a step can stop, and the state
right after reset. Every field cites the rule of spec/ that gives it. Fields marked MODEL are the model's own. -/

namespace Sys2Proof.Machine

/-- The twelve modes (table of chapter 01, R24, R31). -/
inductive Mode where
  | reset | load | bringup | idle | run | step | paced | frozen | inspect | linksvc | selftest | lockdown
  deriving DecidableEq, Repr

/-- Mode status and pending mode work (R24, R30, R31, R112). -/
structure ModeCtl where
  /-- R31 MODE -/
  mode : Mode
  /-- R31 PREV -/
  prev : Mode
  /-- R31 CAUSE -/
  cause : BitVec 16
  /-- R31 COLD -/
  cold : Bool
  /-- R31 RESUMABLE -/
  resumable : Bool
  /-- R141 pending host request: 0 none, 3 stop, 4 RUN, 5 STEP, 6 PACED -/
  target : Nat
  /-- R141 argument of a pending STEP -/
  stepn : Nat
  /-- R112 departures STEP still has to make -/
  stepLeft : Nat
  /-- R24 a resumable freeze is due at the hold point of this boundary -/
  freezeReq : Bool
  /-- R248 the cause that a resumable freeze will show -/
  freezeCause : BitVec 16
  /-- R28 the fault freeze came from a cold RESET whose remap load had not completed -/
  coldOnly : Bool
  /-- R309 LINKSVC has been entered since the last start: the lanes it tested are retrained in full -/
  linksvc : Bool
  /-- R348 the cycle in which LOCKDOWN was entered -/
  lockAt : Nat
  deriving DecidableEq, Repr

/-- Pins and supplies (R403-R411, R333, R239). -/
structure Pins where
  /-- R404 rails 0-11 (R401 numbering) that are out of tolerance -/
  lowRails : List Nat
  /-- R403 every core, lane and memory supply is in tolerance and REFCLK runs -/
  suppliesGood : Bool
  /-- R405 PORST_N recognised high -/
  porstHigh : Bool
  /-- R333 the module drives MODREADY_N low -/
  modreadyLow : Bool
  /-- R331 the net reads high -/
  netHigh : Bool
  /-- R414 THERM_N asserted -/
  thermN : Bool
  /-- R239 TRIG_OUT[k] asserted, one bit per pin -/
  trigOut : BitVec 8
  /-- R235 level of each TRIG_IN pin behind its 8 ns filter, one bit per pin -/
  trigLevel : BitVec 8
  /-- R279, R280 when an event last crossed from the PTP domain to the step clock (crossing 7), by `Steward.up` -/
  crossed : Option Nat
  /-- R414 the step, courier and NOC clocks of the E-dies and H are gated -/
  gated : Bool
  /-- R411 bank b is powered, one bit per bank -/
  bankPowered : BitVec 12
  /-- R365 MGT_LINK -/
  mgtLink : BitVec 2
  deriving DecidableEq, Repr

/-- Progress of a start (R117, R331-R333). -/
structure StartCtl where
  /-- R117 the start steps of a start are running -/
  running : Bool
  /-- R352 -/
  storeMounted : Bool
  /-- R117 -/
  bistDone : Bool
  /-- R59 -/
  remapLoaded : Bool
  /-- R117 -/
  pllLocked : Bool
  /-- R331 STARTUP_STATE -/
  startupState : Nat
  /-- R331 steps of the sequence still to run after the LOCK wait -/
  stepsLeft : List Nat
  /-- R332 the LOCK step has ended -/
  lockDone : Bool
  /-- R332 OUTEN has run -/
  outen : Bool
  /-- R332 WREN has run -/
  wren : Bool
  /-- R330 the cycle in which the walker's pass began -/
  walkAt : Nat
  /-- R302 every bundle has ended its training -/
  lanesTrained : Bool
  /-- R185 IMAGE_SYSTEM_MISMATCH logged in this start -/
  sysMismatch : Bool
  /-- R304 DISCOVERY_FAIL logged in this start -/
  discFail : Bool
  /-- R59 remap entries in force, by gathering -/
  remapInForce : SMap (BitVec 32)
  /-- R59, R61 remap table as the store holds it -/
  remapStored : SMap (BitVec 32)
  /-- R398 BIST_FAILS of E0-E7 -/
  bistFails : List Nat
  /-- R398 BIST_PASS of E0-E7 -/
  bistPass : BitVec 8
  /-- R398 BIST_RUN -/
  bistRun : Bool
  /-- R111, R417: which events have been logged since the start (first-occurrence rules) -/
  firstLogged : List Nat
  deriving DecidableEq, Repr

/-- A standing stall request (R91, R109). -/
inductive StallCause where
  /-- R55, R123: repair of a word or entry of step `step` -/
  | repair (unit : RepairUnit) (addr step : Nat)
  /-- R135 starvation of a bundle at the step whose bits are due -/
  | lateStatic (bundle step : Nat)
  /-- R91 memory return on port key, needed at a step -/
  | memReturn (portKey step : Nat)
  /-- R416 a fifth read of a port waits for one of its four -/
  | memRead (portKey : Nat)
  /-- R162 memory write window on port key -/
  | memWrite (portKey : Nat)
  /-- R137 sender back-pressure of a bundle -/
  | backPressure (bundle : Nat)
  /-- R88 courier-bound push to a DMB -/
  | courierPush (dmb : Nat)
  /-- R258 class A trace -/
  | traceA
  /-- R228 reply deadline of a channel -/
  | deadline (chan : Nat)
  deriving DecidableEq, Repr

/-- A stall request with the number of steps issued since it was raised, its own step included (R109). -/
structure Stall where
  cause : StallCause
  age   : Nat
  deriving DecidableEq, Repr

/-- Where the walk of a folio stands (R22, R23). -/
inductive Phase where
  /-- steps issue -/
  | issuing
  /-- phase 1 waits for DRAIN_COMPLETE -/
  | drain
  /-- phase 4, or a round at the hold point -/
  | stitch
  /-- a release allowed departure; the launch wait runs -/
  | launching
  /-- parked at the hold point between rounds -/
  | hold
  deriving DecidableEq, Repr

/-- A 96-bit instruction word with its 12 parity bits (R43, R47). -/
structure ImWord where
  word : BitVec 96
  par  : BitVec 12
  deriving DecidableEq, Repr

/-- A schedule entry, segment word or dispatch entry with its parity bits (R98, R123). -/
structure SchedWord where
  bits : Nat
  par  : Nat
  deriving DecidableEq, Repr

/-- The step sequencers, the design-clock generators and pacing (R93-R119, R418). -/
structure Seq where
  /-- R20 -/
  folio : Nat
  /-- R20 the copies of the eight E-die sequencers -/
  copies : List Nat
  /-- R108 the next departure runs the opening boundary -/
  opening : Bool
  phase : Phase
  /-- R96 executed steps of this folio still to issue -/
  steps : List Nat
  /-- R21 steps issued in this folio -/
  issued : Nat
  /-- R109 standing stall requests -/
  stalls : List Stall
  /-- R109, R110 a stall holds step advance, and a request raised now joins it -/
  inStall : Bool
  /-- R99 DKEY[0..3] -/
  dkey : List Nat
  /-- R95, R418 segment words: key 256 * sequencer + index, sequencer 0-7 the E-dies and 8 the master step timer -/
  segs : SMap SchedWord
  /-- R99 dispatch entries: key 260 * sequencer + 65 * quarter + key -/
  disp : SMap SchedWord
  /-- R104 DCLK_CFG in force, by generator -/
  dclkCfg : SMap Nat
  /-- R104 DCLK_TIME in force, by generator -/
  dclkTime : SMap Nat
  /-- R104 dictionary writes held until the next launch: (generator, is TIME, word), oldest first -/
  dclkHeld : List (Nat × Bool × Nat)
  /-- R102 edge vector of the folio being executed -/
  edges : BitVec 64
  /-- R105 CRC-32C of that vector and of the words that decided it -/
  clkCrc : BitVec 32
  /-- R113 GRANTS -/
  grants : Nat
  /-- R116 WAITING -/
  waiting : Bool
  /-- R114 when the last accepted cadence event was recognised, by `Steward.up` -/
  lastCad : Option Nat
  /-- R115 the number k of the next PTP cadence event -/
  cadK : Nat
  /-- R144 lateness of the last 1,024 launches, newest first -/
  lateHist : List Bool
  /-- R143 the pending launch is late -/
  launchLate : Bool
  /-- R144 DRIFT has been logged and the count has not yet fallen -/
  driftLogged : Bool
  /-- R373 when the running round began, by `Steward.up` -/
  roundStart : Nat
  /-- R140 this round's own values have been merged -/
  merged : Bool
  /-- R140 a lap token held until the module reaches phase 4 -/
  heldToken : Option Token
  /-- R140 the gathered ring result that a ring head holds -/
  ringResult : Option Token
  /-- R374 members shown as merged by tokens of this round -/
  heard : BitVec 256
  /-- R200 the coming round is the one in which an APPLYING slot votes -/
  applyRound : Bool
  /-- R186 cycles of the window: E, S, B, S_own, B_own -/
  effE : Nat
  effS : Nat
  effB : Nat
  effSown : Nat
  effBown : Nat
  /-- R186 folios completed in the window -/
  effFolios : Nat
  /-- R74, R75 halt requests of this folio: count and first (step, BP) -/
  haltCount : Nat
  haltFirst : Option (Nat × Nat)
  /-- R234 happenings counted for the coming trigger evaluation, by input number -/
  happened : BitVec 64
  /-- R234 stall cycles of this folio -/
  folioStall : Nat
  /-- R196 cycles of the apply hold at this boundary so far -/
  applyHold : Nat
  /-- R253 step-clock cycles since the start, by which trace packets are timed -/
  cycle : Nat
  deriving DecidableEq, Repr

/-- What a shadow bank holds (R206). -/
inductive Shadow where
  | empty | ready (k : Nat) | held (q : Nat)
  deriving DecidableEq, Repr

/-- A force entry (R197). -/
structure ForceEntry where
  cell  : Nat
  value : Bool
  deriving DecidableEq, Repr

/-- The force-point register (R72). -/
structure ForcePt where
  armed : Bool
  value : Bool
  deriving DecidableEq, Repr

/-- Where a static bit in flight arrives (R119, R122, R126, R129). -/
inductive FlightDest where
  /-- crossbar receive port, key gathering * 8 + port -/
  | xbarRecv (key : Nat)
  /-- spine input port, key quire * 4 + port -/
  | spineIn (key : Nat)
  /-- input bit of a spine switch, coded as SRC of R125 -/
  | switchIn (quire src : Nat)
  /-- channel bit of a link-die static port: bundle side, die 0/1, window bit 0-3,071 -/
  | linkPort (die bit : Nat)
  deriving DecidableEq, Repr

/-- A one-bit on its way; `left` counts executed steps until it is presented (R94). A zero bit is not held. -/
structure Flight where
  left : Nat
  dest : FlightDest
  deriving DecidableEq, Repr

/-- A word that will appear on a return line (R84): in `left` executed steps (DMBRD) or at step `vis` (MEMRQ). -/
structure PendRet where
  portKey : Nat
  /-- executed steps until visibility, for DMBRD -/
  left : Option Nat
  /-- visibility step, for MEMRQ -/
  vis : Option Nat
  /-- the word, once it has arrived -/
  word : Option Word
  /-- sequence number of the MEMRQ read it belongs to -/
  seqNo : Nat
  deriving DecidableEq, Repr

/-- A memory-port access that is outstanding (R162-R165). -/
structure MemAcc where
  portKey : Nat
  seqNo   : Nat
  write   : Bool
  addr    : Nat
  data    : Word
  /-- R162 a write that waits in the two-entry skid, or a fifth read (R416) -/
  waiting : Bool
  /-- R274 module tag of a read; R265 the port's sequence number of a write -/
  tag     : Option Nat
  /-- R165 when it was issued, by `Steward.up` -/
  issued  : Nat
  deriving DecidableEq, Repr

/-- A queue controller (R154, R157). -/
structure Queue where
  head  : Nat
  tail  : Nat
  count : Nat
  /-- R157 design view of a courier-bound queue -/
  dvHead  : Nat
  dvTail  : Nat
  dvCount : Nat
  /-- R88 the port's two-entry skid -/
  skid : List Word
  deriving DecidableEq, Repr

/-- The data plane (R34-R92, R119-R165). Keys: BP address (R2), gathering = BP address / 64, quire instance =
BP address / 1,024, DMB number and DMB word address (R147). -/
structure Data where
  /-- R34 IM and shadow banks: key (BP * 5 + bank) * 512 + word -/
  im : SMap ImWord
  /-- R38 essential marks, keyed as `im` -/
  imEss : SMap Bool
  /-- R121, R204 crossbar entries: key (quire * 5 + bank) * 512 + entry -/
  xbar : SMap SchedWord
  xbarEss : SMap Bool
  /-- R125, R204 spine entries, keyed as `xbar` -/
  spine : SMap SchedWord
  spineEss : SMap Bool
  /-- R129, R295 link-die entries: key die * 2,048 + entry -/
  link : SMap SchedWord
  linkEss : SMap Bool
  /-- R36 -/
  bankmap : SMap (BitVec 16)
  /-- R206 -/
  shadow : SMap Shadow
  /-- R38, R206 the tip-in that last filled a bank: key quire * 5 + bank, value its number + 1; an unlisted bank holds
  image content -/
  fill : SMap Nat
  /-- R39 DM cells: key BP * 2,048 + cell -/
  dm : SMap Bool
  /-- R34 watch latches by BP -/
  watch : SMap Bool
  /-- R197 force entries by BP -/
  forces : SMap (List ForceEntry)
  /-- R72 by BP -/
  fpoint : SMap ForcePt
  /-- R75 halt-enable bits by BP; an unlisted BP has 1 -/
  haltEn : SMap Bool
  /-- R51 result of the previous executed step by BP -/
  bus : SMap Bool
  /-- R122, R126 bits in the crossbar and spine pipelines and static channels -/
  flights : List Flight
  /-- R137 where the bits that each executed step has presented on spine send ports are, whatever their value: the step,
  and the bits on their way -/
  sends : List (Nat × List Flight)
  /-- R84 return lines: key gathering * 8 + port -/
  returns : SMap Word
  pendRets : List PendRet
  /-- R162 -/
  memAccs : List MemAcc
  /-- number of the next access of the ports (MODEL: what tells accesses apart) -/
  memSeq : Nat
  /-- R265 next write sequence number, by port key -/
  portSeq : SMap Nat
  /-- R78 output registers: key gathering * 16 + cell -/
  ioData : SMap Bool
  ioEn : SMap Bool
  /-- R131 row 16: pad drive values on their way, (executed steps left, pin, level; none = high impedance) -/
  padFlight : List (Nat × Nat × Option Bool)
  /-- R78 level driven on pad P: 0 low, 1 high; an unlisted pad is at high impedance -/
  padOut : SMap (Option Bool)
  /-- R131 row 17: pads read high at the start of each of the last steps, newest first -/
  padSamples : List (List Nat)
  /-- R147 stored data of DMB words -/
  dmbData : SMap Word
  /-- R150 stored parity -/
  dmbPar : SMap Byte
  /-- R151 valid bits -/
  dmbValid : SMap Bool
  /-- R154 by DMB number -/
  queues : SMap Queue
  /-- R155 descriptors by DMB number -/
  dmbDesc : SMap Word
  /-- R159 windows: key gathering * 8 + port -/
  windows : SMap Word
  /-- R76 I/O map: key gathering * 16 + cell -/
  iomap : SMap Byte
  /-- R382 DMBs named by a request of the image -/
  dmbUsed : SMap Bool
  /-- R231 latch frame copies at H: value by BP address -/
  latched : SMap Bool
  /-- R25 built-in tip-ins stand in the IM quarters and schedules, and in the DM: the number under which their contents
  are free (MODEL) -/
  builtinIm : Option Nat
  builtinDm : Option Nat
  deriving DecidableEq, Repr

/-- The image in force (R173-R176). -/
structure Image where
  /-- R313, R319 an image is in force -/
  present : Bool
  modnum : Nat
  modules : Nat
  systemId : Word
  /-- R174 region words -/
  design : Nat
  tipin : Nat
  capture : Nat
  trace : Nat
  /-- R232 watch map: CAP_SLOTS, MASK_SLOTS, and the entries of taps, capture and mask slots by slot -/
  capSlots : Nat
  maskSlots : Nat
  taps : SMap Nat
  caps : SMap Nat
  masks : SMap Nat
  /-- R203 resident tip-ins: (number, quarter, quires, byte offset in the tip-in region) -/
  tips : List (Nat × Nat × BitVec 256 × Nat)
  /-- R321 -/
  plain : Bool
  deriving DecidableEq, Repr

/-- Stream delivery and the staged image (R319-R328). -/
structure Load where
  /-- R319 LOAD_STATE -/
  state : Nat
  /-- R322 the pass that runs: 0 none, 1-5 -/
  pass : Nat
  /-- R320 32 KiB blocks held: block number and its length -/
  blocks : SMap Nat
  /-- R313 the header accepted, as 1,024 bits -/
  header : BitVec 1024
  /-- R319 STAGE_STATE -/
  staged : Bool
  /-- R325 -/
  digest : BitVec 384
  /-- R325 the steward's copy -/
  stewardDigest : BitVec 384
  /-- R322 digest of the passes under way -/
  newDigest : BitVec 384
  /-- R341 an epoch change of STAGE, DESIGN is under way -/
  epochStage : Bool
  epochDesign : Bool
  /-- R339 a header block waits for the entropy pool -/
  waitEntropy : Option (List Byte)
  /-- R341 blocks that wait for the epoch change of STAGE to end: stream offset and bytes, oldest first -/
  held : List (Nat × List Byte)
  /-- R327 a discard waits for a repair to end -/
  discardWait : Bool
  /-- R328 the digest comparison of a warm start runs -/
  comparing : Bool
  deriving DecidableEq, Repr

/-- A transaction slot (R188-R200). -/
structure Slot where
  /-- R190 STATE 0-7 -/
  state : Nat
  scope : Bool
  reason : BitVec 16
  at_ : Nat
  masked : Nat
  refused : Bool
  /-- R190 TXN_FOLIO; none reads all ones -/
  folio : Option Nat
  /-- R188 the window: records, data blocks, TXN_WHEN -/
  winRecords : SMap (BitVec 128)
  winBlocks : SMap (BitVec 512)
  txnWhen : Nat
  /-- R194 the reason that SUBMIT itself gives for the end of validation; 0 none -/
  early : Nat
  /-- R191 what SUBMIT copied -/
  records : List (BitVec 128)
  blocks : SMap (BitVec 512)
  whenMode : Nat
  when_ : Nat
  /-- R199 an aborted system slot still votes no -/
  voteNo : Bool
  /-- R198 pre-images of the sectors written: (sector address, 64 bytes), newest first -/
  preImages : List (Nat × BitVec 512)
  /-- R198, R274 HBMWR actions whose pre-image is still to be read: (sector, action, the tag of its RD) -/
  preOut : List (Nat × Nat × Option Nat)
  /-- R200 HBMWR writes posted and not acknowledged: (sector, tag) -/
  hbmwrOut : List (Nat × Nat)
  /-- R198 a write met ERRNOTE: the slot rolls back -/
  rolling : Bool
  /-- R198 the pre-images are being rewritten -/
  rewriting : Bool
  /-- R200, R212 the reason with which a slot that rolls back aborts; 0 TXN_WRITE_FAIL in the round that brings it -/
  endReason : Nat
  deriving DecidableEq, Repr

/-- A running preload (R206). -/
structure Preload where
  key : Nat
  quarter : Nat
  quires : List Nat
  deriving DecidableEq, Repr

/-- The transaction engine (R188-R213). -/
structure Txn where
  slots : List Slot
  /-- R202 generators with a pending pulse -/
  pulses : BitVec 64
  /-- R202 folios at which pulses commit, each with the generators that its release committed; in a single module the
  pending ones are meant -/
  pulseCommit : List (Nat × BitVec 64)
  /-- R102 pulses applied in this phase 5 -/
  pulsedNow : BitVec 64
  /-- R206 -/
  preload : Option Preload
  /-- R207 the quarter that the last preload with KEY 0x40 reloads -/
  tipQuarter : Nat
  /-- R209 command-page reads waiting for a boundary: (op, target, data) oldest first -/
  inspWait : List (Nat × BitVec 32 × Word)
  /-- R208 INSP_RESP -/
  inspStatus : Byte
  inspValue : BitVec 120
  /-- R208 INSP_CMD bytes written so far -/
  inspCmd : BitVec 128
  deriving DecidableEq, Repr

/-- A courier context (R216). -/
structure Ctx where
  /-- 0 FREE, 1 READY, 2 RUNNING, 3 WAITING -/
  state : Nat
  home : Nat
  prio : Nat
  waitobj : Nat
  waitArg : Nat
  pend : Bool
  pc : Nat
  regs : List Word
  /-- R218 the context reads SCH_FAIL as its own number -/
  failSelf : Bool
  /-- R216 place in the order in which contexts became READY (MODEL: the count of the event) -/
  readyAt : Nat
  deriving DecidableEq, Repr

/-- An entry of a channel's reorder buffer (R224). -/
structure Entry where
  /-- 0 FREE, 1 TAKEN, 2 DONE, 3 RETIRED -/
  state : Nat
  seq : Nat
  len : Nat
  buffer : List Word
  /-- R226 folio of the request's last word, when the message is a request -/
  reqFolio : Option Nat
  /-- R228 the deadline has passed -/
  missed : Bool
  deriving DecidableEq, Repr

/-- A channel (R219-R229). -/
structure Channel where
  entries : SMap Entry
  /-- R220 next ingress SEQ -/
  nextSeq : Nat
  /-- R224 SEQ of the oldest entry not RETIRED -/
  retireSeq : Nat
  /-- R225 SEQ of the oldest entry not published -/
  pubSeq : Nat
  /-- R222 pending H2C slots, oldest first, each 256 bytes -/
  h2c : List (List Byte)
  /-- R221 staged slot image: byte offset to byte -/
  stage : SMap Byte
  accepted : Nat
  freed : Nat
  /-- R223 -/
  c2hProd : Nat
  c2hCons : Nat
  c2hAlloc : Nat
  c2hPosted : List Nat
  c2hRing : SMap (List Byte)
  /-- R220 ERR -/
  err : BitVec 4
  /-- R226 folio in which the design pushed each word that stands on the outbound queue, oldest first -/
  wordFolios : List Nat
  /-- R228 requests with a running deadline: folio of the last word, oldest first -/
  deadlines : List Nat
  /-- R228 how many of the oldest requests not yet taken have missed their deadline -/
  reqMissed : Nat
  deriving DecidableEq, Repr

/-- The courier cluster (R214-R230). -/
structure Couriers where
  contexts : SMap Ctx
  /-- R215 COURIER_RUN -/
  run : BitVec 32
  /-- R215 the cores have been started since the start -/
  started : Bool
  /-- R214 local memories: key core * 262,144 + byte address -/
  mem : SMap Byte
  /-- R216 ready lists: key core * 32 + priority, head first -/
  ready : SMap (List Nat)
  /-- R216 contexts made READY so far (MODEL: it orders them) -/
  readySeq : Nat
  /-- R217 SCH_FAIL by core; none reads all ones -/
  schFail : SMap (Option Nat)
  /-- R217 SCH_ARG by core -/
  schArg : SMap Nat
  channels : SMap Channel
  /-- R217 value returned by the last read of a scheduler or channel page (MODEL: what the core sees) -/
  lastRead : Word
  deriving DecidableEq, Repr

/-- Trigger array, capture and mask tests (R231-R249). -/
structure Trigger where
  /-- R237 feedback lines -/
  fb : BitVec 16
  /-- R238 ARM -/
  arm : BitVec 16
  /-- R238 lines acting in the folio that runs next or now -/
  act : BitVec 16
  /-- R237 lines this module fired at this boundary -/
  fired : BitVec 16
  /-- R235 transitions into the active level since the previous sample -/
  pinEdges : BitVec 8
  /-- R235 consecutive active samples of each pin -/
  pinCount : List Nat
  /-- R242 CAP_STATE -/
  capState : Nat
  capWindow : Nat
  /-- R242 a stop takes effect at the next boundary -/
  capStop : Bool
  /-- R242 a start whose first record is that of the next folio launched -/
  capFresh : Bool
  /-- R243 first recorded folio of the window -/
  capA : Nat
  /-- R243 trigger folio -/
  capT : Nat
  capMarks : Nat
  capLines : BitVec 16
  /-- R243 folios of REARM that remain -/
  capRearm : Nat
  /-- R249, R274 addresses of the sectors of the record that wait for a tag -/
  maskWait : List Nat
  /-- R245 write queue of records: (HBM address, header, body) oldest first -/
  capQueue : List (Nat × BitVec 512 × Nat)
  /-- R244 how many of the oldest queued records belong to an earlier run, or to a ring, and do not count in CAP_PROD -/
  capOld : Nat
  /-- R242 the run is one of stream mode -/
  capStream : Bool
  /-- R210, R245 sectors of the oldest queued record that have been posted and are not acknowledged; none before it leaves -/
  capOut : Option (List Nat)
  /-- R247 MASK_STATE -/
  maskState : Nat
  maskEnd : Bool
  /-- R249 records present, as folio, EXPECT and CARE bits: that of the folio that runs and that of the next -/
  maskRecs : List (Nat × Nat × Nat)
  /-- R249 record read outstanding for folio F: the folio and the reads still to complete -/
  maskRead : Option (Nat × Nat)
  /-- R249 bytes of that record received so far -/
  maskBytes : SMap Byte
  /-- R247 MASK_FAIL_BITS -/
  maskFailBits : Nat
  deriving DecidableEq, Repr

/-- State of one trace source (R253-R257). -/
structure TraceSrc where
  /-- local time of the last packet -/
  last : Nat
  /-- R254 branch bits held, oldest first -/
  bits : List Bool
  /-- R254 cycle of the first held bit -/
  firstAt : Nat
  /-- R253 cycle of the last held bit, and the folio count then -/
  lastAt : Nat
  atFolio : Nat
  lost : Nat
  sinceSync : Nat
  needSync : Bool
  lastFolio : Nat
  deriving DecidableEq, Repr

/-- Flow trace (R250-R261). -/
structure Trace where
  state : Nat
  fifo : List (BitVec 128)
  sources : SMap TraceSrc
  stopReq : Bool
  stopReason : Nat
  /-- R260 last folio traced in a countdown -/
  lastFolio : Nat
  deriving DecidableEq, Repr

/-- A tag in use (R274, R275). -/
structure TagUse where
  tag : Nat
  src : Nat
  dst : Nat
  addr : Nat
  issued : Nat
  quarantine : Bool
  /-- R283 a host read, R206 a preload read, ... : what to do with the completion: 0 memory port, 1 host, 2 transaction
  engine, 3 mask unit, 4 other -/
  use : Nat
  deriving DecidableEq, Repr

/-- Counters of an initiator (R278): REQS, BYTES, HIST0-7, MAX_LAT, WRAP, TIMEOUTS, ERR_CPL, LATE_CPL, ERRNOTES. -/
structure InitStats where
  c : List Nat
  wrap : BitVec 16
  maxLat : Nat
  timeouts : Nat
  errCpl : Nat
  lateCpl : Nat
  errnotes : Nat
  deriving DecidableEq, Repr

/-- One direction end of a die-link packet channel (R272, R273), key 2 * link + direction. -/
structure DieLink where
  /-- next SEQ to send -/
  txSeq : Nat
  /-- frames sent and not acknowledged, oldest first: (SEQ, flits with VC) -/
  unacked : List (Nat × List (Nat × BitVec 256))
  /-- passes in a row that resent the same oldest frame -/
  passes : Nat
  /-- R285 the last resend pass: step-clock cycle, and whether a NAK asked for it -/
  passAt : Option (Nat × Bool)
  /-- R267 flits of the request packet under way that are still to leave -/
  reqLeft : Nat
  /-- R273 the control word of the last frame sent: ACK and credits, which an IDLE frame carries on -/
  told : Nat
  /-- next SEQ expected -/
  rxSeq : Nat
  /-- a NAK has been sent and the expected frame has not come -/
  nakSent : Bool
  /-- R272 last accepted cumulative credits -/
  crReq : Nat
  crRsp : Nat
  crMsg : Nat
  /-- R267 credits held -/
  haveReq : Nat
  haveRsp : Nat
  haveMsg : Nat
  /-- R272 flits freed by this receiver -/
  freed : List Nat
  /-- R273 flits accepted of packets that are not whole yet, with their VC, oldest first -/
  rxq : List (Nat × BitVec 256)
  /-- R267, R273 flits that wait for credit or for room in the replay buffer, with their VC, oldest first -/
  txq : List (Nat × BitVec 256)
  deriving DecidableEq, Repr

/-- What a lane frame carries (R291): an LCTL frame its OP, NCLASS, NSEQ and NLANE, a priority frame its payload (BRINGUP or
not), a static frame its payload and whether it is a folio's last, a packet frame its VC and flit. -/
inductive LaneBody where
  | idle
  | lctl (op nclass nseq nlane : Nat)
  | prio (bringup : Bool) (payload : BitVec 464)
  | static (last : Bool) (payload : BitVec 464)
  | packet (vc : Nat) (flit : BitVec 256)
  deriving DecidableEq, Repr

/-- A frame that a bundle holds for sending: its place in the order of R293 (1 LCTL, 2 PRIO and BRINGUP, 3 a replayed static
frame, 4 a replayed packet frame, 5 a new static frame, 6 a new packet frame), its SEQ and what it carries. -/
structure TxFrame where
  rank : Nat
  seq  : Nat
  body : LaneBody
  deriving DecidableEq, Repr

/-- What a lane's pad drives for one frame period (R289, R307, R308): a frame and its 529 bits, 529 bits of a pattern, the
data recovered from the lane, or nothing. -/
inductive PadTx where
  | line (frame : BitVec 512) (bits : BitVec 529)
  | pattern (bits : BitVec 529)
  | recovered
  | idle
  deriving DecidableEq, Repr

/-- A message the module has sent on a link, a bundle or a wire (MODEL: the record of what left). -/
inductive OutMsg where
  | packet (p : Packet)
  | token (bundle : Nat) (t : Token)
  | lctl (bundle : Nat) (cb : CtlBlock)
  | dieNak (link dir ack : Nat) (frame : BitVec 1120)
  | dieFrame (link dir seq : Nat) (frame : BitVec 1120)
  | dieIdle (link dir : Nat) (frame : BitVec 1120)
  | staticF (bundle seq : Nat) (last : Bool) (payload : BitVec 464)
  | pktFrame (bundle seq vc : Nat) (flit : BitVec 256)
  | disc (bundle kind ring count : Nat)
  | ident (bundle module : Nat) (sysid : Word) (mods imgnum : Nat)
  /-- R268 a message that its endpoint's queue has drained into the consumer that ADDR names -/
  | message (p : Packet)
  | adj (bundle module : Nat) (nbr : List (Option Nat))
  | echoReq (bundle : Nat)
  | echoRsp (bundle : Nat)
  | burst (bundle : Nat)
  /-- R301 the training symbol that a lane repeats from here -/
  | symbol (lane : Nat) (symbol : BitVec 128)
  /-- R289, R307 what a lane's pad drives for a frame period -/
  | pad (lane : Nat) (tx : PadTx)
  | hostCpl (ok : Bool) (bytes : List Byte)
  | mgtFrame (port : Nat) (frame : List Byte)
  /-- R360 a response: the port, the IPv4 address and the UDP port it goes to, and the payload, sent from UDP port 50417 -/
  | datagram (port addr udp : Nat) (payload : List Byte)
  /-- R366 a Delay_Req on a port: domain number and sequence number -/
  | delayReq (port domain seq : Nat)
  | msix (vector : Nat)
  deriving DecidableEq, Repr

/-- A host read turned into packets (R283): the bytes asked for, the tags still out, what has come. -/
structure HostRead where
  addr : Nat
  len  : Nat
  /-- R282 the bytes of it that lie in the region; those beyond read zero -/
  span : Nat
  tags : List Nat
  got  : SMap Byte
  bad  : Bool
  /-- R283 an access of BAR0 or of the command page that waits for a tag: the BAR and the offset -/
  page : Option (Nat × Nat)
  deriving DecidableEq, Repr

/-- The packet network and the host port (R262-R285). -/
structure Fabric where
  /-- R264 packets on their way -/
  net : List Packet
  /-- R270, R276 those of them whose way here starts at another router than SRC's (die, x, y): received on a bundle, or an
  absorber's answer -/
  starts : List (Packet × Nat × Nat × Nat)
  tags : List TagUse
  /-- R276 consecutive timeouts by endpoint -/
  timeouts : SMap Nat
  /-- R276 dead endpoints: key die * 256 + bits [7:0] -/
  deadEp : SMap Bool
  /-- R276 dead routers: key die * 64 + bits [7:2] -/
  deadRt : SMap Bool
  absorbedP : SMap Nat
  absorbedNP : SMap Nat
  /-- R271 source routes: key (die * 256 + NI) * 16 + entry -/
  srcRoute : SMap Word
  stats : SMap InitStats
  dieLinks : SMap DieLink
  /-- R268 message queues by endpoint, in flits -/
  msgq : SMap (List Packet)
  /-- R283 host reads that wait for completions -/
  hostReads : List HostRead
  /-- R273 DL_REPLAYS: key 2 * link + direction -/
  dlReplays : SMap Nat
  /-- R166 requests per pseudo-channel, with wrap flag in bit 63 -/
  pcReqs : SMap Nat
  /-- R166 requests since the last CHAN_IMBALANCE, per controller die (0: E1, 1: E6) and pseudo-channel -/
  pcWindow : SMap Nat
  chanImb : SMap Nat
  chanImbPeak : SMap Nat
  /-- R278 latched snapshot -/
  snapshot : InitStats
  /-- R282 MSI-X table and pending bits: byte offset in the 64 KiB -/
  msix : SMap Byte
  /-- R284 raises per vector (MODEL: what has been signalled) -/
  msixRaised : SMap Nat
  deriving DecidableEq, Repr

/-- A lane (R300-R310). -/
structure Lane where
  phase : Option TrainPhase
  attempts : Nat
  trained : Bool
  failed : Bool
  /-- R302 good frames in a row that the lane has received in VERIFY -/
  good : Nat
  /-- R302 no attempt of this training has detected a far end -/
  noFar : Bool
  /-- R310 LANE that the far end reported -/
  farLane : Nat
  /-- R302 RATE that the far end reported in this attempt -/
  farRate : Option Nat
  /-- R300 frame periods of the last 65,536 in which a CRC failed -/
  errAt : List Nat
  /-- R288 scramblers of the two directions -/
  scr : BitVec 31
  rxScr : BitVec 31
  /-- R308 pattern generator -/
  gen : BitVec 31
  ctl : Nat
  prbsLock : Bool
  loopRefused : Bool
  prbsErrs : Nat
  prbsBits : Nat
  bitsWrap : Bool
  crcErrs : Nat
  deriving DecidableEq, Repr

/-- An entry of an outbound skew buffer (R137). -/
structure SkewEntry where
  /-- the executed step of the SPSEND words that send on the bundle -/
  step : Nat
  /-- bits of the step that have not joined the stream yet -/
  due : Nat
  /-- cumulative stream position after the last of its bits that has -/
  last : Nat
  deriving DecidableEq, Repr

/-- A bundle (R286-R311). -/
structure Bundle where
  /-- R310 STATE 0 down, 1 up, 2 UNCABLED -/
  state : Nat
  /-- R310 PSTATE -/
  pstate : Nat
  nbr : Option Nat
  /-- R306 QUIET_REQ sent and not answered -/
  quietPending : Bool
  /-- R290 next SEQ to send, by class static, packet, priority -/
  txStatic : Nat
  txPkt : Nat
  txPrio : Nat
  /-- R292 last SEQ sent, by class -/
  lsStatic : Nat
  lsPkt : Nat
  lsPrio : Nat
  /-- R297, R298 frames kept: static and priority payloads newest first; packet flits with SEQ and VC oldest first -/
  keepStatic : List (Nat × BitVec 464 × Bool)
  keepPrio : List (Nat × OutMsg × LaneBody)
  keepPkt : List (Nat × Nat × BitVec 256)
  /-- R298 resends in a row of the packet frame that `resent` names -/
  pktResends : Nat
  /-- R311 the last resend of a packet frame: frame period, SEQ, whether a NAK asked for it -/
  resent : Option (Nat × Nat × Bool)
  /-- R290 next SEQ expected, by class -/
  rxStatic : Nat
  rxPkt : Nat
  rxPrio : Nat
  /-- R293 frames held out of order -/
  oooStatic : List (Nat × BitVec 464 × Bool)
  oooPkt : List (Nat × Nat × BitVec 256)
  oooPrio : List (Nat × Instr)
  /-- R297 gaps that stand, by class: the missing SEQs -/
  gapStatic : List Nat
  gapPkt : List Nat
  gapPrio : List Nat
  /-- R294 outbound stream bits not yet framed, oldest first -/
  txStream : List Bool
  /-- R294 the folio has sent a bit on this bundle -/
  sentThisFolio : Bool
  /-- R294 inbound store: bits of the current folio not released, oldest first -/
  store : List Bool
  /-- R294 inbound bits of later folios, after a STATIC_LAST -/
  storeNext : List (List Bool)
  /-- R294 a bit of the current folio's stream has come -/
  gotBits : Bool
  /-- R292 cumulative bits released -/
  released : Nat
  /-- R137 skew-buffer entries, oldest first -/
  skew : List SkewEntry
  /-- R137 cumulative bits placed on the stream, and those that SKEWCR has shown released -/
  streamed : Nat
  skewAck : Nat
  /-- R267, R272 last accepted cumulative packet credits, and credits held, by VC -/
  crReq : Nat
  crRsp : Nat
  crMsg : Nat
  haveReq : Nat
  haveRsp : Nat
  haveMsg : Nat
  /-- R298 flits queued for sending -/
  txPktQ : List (Nat × BitVec 256)
  /-- R267 flits of the request packet under way that are still to leave -/
  reqLeft : Nat
  /-- R292, R293 flits received in order of packets that are not whole yet, with their VC, oldest first -/
  rxq : List (Nat × BitVec 256)
  /-- R292 flits freed by this receiver, by VC -/
  freed : List Nat
  /-- R293 frames that wait for a frame period, oldest first -/
  txq : List TxFrame
  /-- R293 frames sent in a row without a control block -/
  sinceCtl : Nat
  /-- R289 UI of the running frame period that have passed, and the frame periods before it -/
  ui : Nat
  period : Nat
  /-- R382 the cycle in which the bundle entered Quiet -/
  quietAt : Nat
  /-- R305 the cycle in which this end last sent a frame other than IDLE, or became Active -/
  busyAt : Nat
  /-- R300 a retrain runs that no lane has ended yet -/
  retraining : Bool
  deriving DecidableEq, Repr

/-- Discovery and the kettle stitch links (R304, R143). -/
structure Disc where
  state : Nat
  ring : Nat
  position : Nat
  ringSize : Nat
  rings : Nat
  modnum : Nat
  hopRing : Nat
  hopHead : Nat
  /-- R304 ADJ records held: module to neighbours per bundle -/
  adjs : SMap (List (Option Nat))
  /-- R304 an echo answer due on a bundle -/
  echoDue : List Nat
  /-- R304 bundles on which an ECHO_REQ waits for its answer -/
  echoOut : List Nat
  /-- R145 floods forwarded: (origin, code) -/
  floods : List (Nat × Nat)
  /-- R303 discovery records received while lanes of this module still train, oldest first -/
  waiting : List Instr
  deriving DecidableEq, Repr

/-- A sector of the persistent store (R349). -/
structure Sector where
  /-- MAGIC and HCRC as they stand in the header -/
  magic : BitVec 24
  hcrc : BitVec 32
  /-- 0xA1 ERASED, 0xB2 CLEARING, 0xC3 WRITING, 0xD4 VALID, 0xE5 RETIRED -/
  st : Nat
  wear : Nat
  seq : Nat
  record : Nat
  len : Nat
  bcrc : BitVec 32
  /-- body bytes: offset to byte, an unlisted byte reads 0xFF -/
  body : SMap Byte
  /-- R350 verifies failed in a row -/
  fails : Nat
  deriving DecidableEq, Repr

/-- The persistent store (R349-R357). -/
structure Store where
  sectors : SMap Sector
  /-- R353 sectors with a clear or write in progress -/
  journal : List Nat
  /-- R351 record writes waiting: (record, body), oldest first -/
  queue : List (Nat × List Byte)
  /-- R356 STORE_STATE 0 not mounted, 1 mounting, 2 ready, 3 full -/
  state : Nat
  recovered : Nat
  /-- R356 bytes that the last STORE_READ_DATA returned -/
  readData : List Byte
  readSeq : Nat
  /-- R337, R338, R357 records that are cleared once their write completes -/
  removals : List Nat
  /-- R379 the log record that was written last, and those of this cold-start epoch, newest first (numbers - 0x0100) -/
  newest : Option Nat
  chunks : List Nat
  deriving DecidableEq, Repr

/-- Keys, entropy and memory protection (R335-R348). -/
structure Security where
  /-- R341 epoch secrets drawn for a change that the engines have not ended -/
  newStage : Option (BitVec 256)
  newDesign : Option (BitVec 256)
  /-- R341 epoch secrets that the engines hold; none once erased -/
  stageSecret : Option (BitVec 256)
  designSecret : Option (BitVec 256)
  /-- R317 a binding key is unwrapped in the engine -/
  engineKey : Option (BitVec 256)
  /-- R362 -/
  adminKey : Option (BitVec 256)
  /-- R339 -/
  trngReady : Bool
  /-- R339 the DRBG: requests since the last reseed, and its state -/
  drbgCount : Nat
  drbgK : BitVec 384
  drbgV : BitVec 384
  /-- R362 last accepted nonces: key path * 3 + privilege -/
  nonces : SMap Nat
  /-- R338 zeroisation is erasing key records -/
  zeroising : Bool
  /-- R346 policy in force is MEM_POLICY; ALARM sticky, TRNG_FAIL sticky (SEC_STATUS) -/
  alarm : Bool
  trngFail : Bool
  /-- R339 bytes returned by the last RANDOM -/
  lastRandom : List Byte
  /-- MODEL: counter that names the next free value -/
  freeCtr : Nat
  deriving DecidableEq, Repr

/-- A log entry (R378). -/
structure LogEntry where
  code : BitVec 16
  source : Nat
  seq : Nat
  folio : Nat
  time : Nat
  arg : BitVec 64
  deriving DecidableEq, Repr

/-- A kept response (R364). -/
structure Kept where
  path : Nat
  source : Nat
  seq : Nat
  nonce : Nat
  at_ : Nat
  frame : List Byte
  deriving DecidableEq, Repr

/-- A PTP domain (R369). -/
structure Domain where
  /-- 0 NONE, 1 ACQUIRING, 2 LOCKED, 3 HOLDOVER -/
  state : Nat
  /-- consecutive Syncs with the offset within 100 ns -/
  good : Nat
  offset : Int
  delay : Int
  /-- ns by which the domain's time is ahead of the local time, as last measured -/
  ahead : Int
  /-- receive stamp of a two-step Sync that waits for its Follow_Up -/
  pendRx : Option Int
  /-- R366 the sequence number of the next Delay_Req, and whether the last one waits for its answer -/
  reqSeq : Nat
  reqOut : Bool
  deriving DecidableEq, Repr

/-- R360: a datagram that the steward reassembles: the port it came on, its source address and identification, the pieces
held as offset and bytes, and its length once the last piece has come. -/
structure Reassembly where
  port : Nat
  src : Nat
  ident : Nat
  pieces : List (Nat × List Byte)
  total : Option Nat
  deriving DecidableEq, Repr

/-- The steward (R358-R385). -/
structure Steward where
  /-- R366 local time scale, ns, in steps of 2 ns -/
  now : Nat
  /-- step-clock cycles (1 ns, R107) since the island came up (MODEL: by which durations are measured) -/
  up : Nat
  /-- R360 datagrams under reassembly, newest first -/
  parts : List Reassembly
  /-- R368 residence times, in ns, of the two-step Syncs forwarded, by the identity that their Follow_Up carries -/
  residence : SMap Nat
  domains : List Domain
  active : Nat
  slewing : Bool
  /-- R369 the local time has been set since the start -/
  timeSet : Bool
  /-- R371 -/
  latchSec : Nat
  latchFolio : Nat
  latchPhase : Nat
  prevSec : Nat
  prevFolio : Nat
  /-- R379 queues per source: key source -/
  logQ : SMap (List LogEntry)
  logNext : Nat
  /-- R379 the ring, newest first, at most 4,096 -/
  ring : List LogEntry
  /-- R379 SEQ of the first entry not flushed -/
  flushed : Nat
  /-- R379 the record (number - 0x0100) that the next chunk takes -/
  chunk : Nat
  /-- R379 when the log was last flushed, by `up` -/
  lastFlush : Nat
  /-- R379 queue served last -/
  lastServed : Nat
  /-- R363 request and response areas, BUSY, REPLY -/
  reqArea : SMap Byte
  rspArea : List Byte
  mbBusy : Bool
  mbReply : Bool
  kept : List Kept
  /-- R339, R346, R359 the request whose answer waits: path, source, frame -/
  waitingReq : Option (Nat × Nat × List Byte)
  /-- R361, R364 the requests queued behind it, oldest first, at most 64 -/
  reqQ : List (Nat × Nat × List Byte)
  /-- R361 STATUS of the last dictionary access and the value read (MODEL: what the requester sees) -/
  lastStatus : Byte
  lastRead : List Byte
  /-- R374 -/
  partHeard : BitVec 256
  partitioned : Bool
  remapPending : Bool
  /-- R414 dies at or above THERM_WARN when last read -/
  hotDies : List Nat
  overtemp : Bool
  /-- R414 latest reading by die, 0.01 C -/
  tj : List Int
  deriving DecidableEq, Repr

/-- The scrubber (R167-R169). -/
structure Scrub where
  /-- R168 a pass runs -/
  running : Bool
  /-- R167 target and last address of the running pass -/
  target : Nat
  last : Nat
  /-- R168 the next address the pass checks -/
  next : Nat
  /-- R169 keys of the essential IM words that the pass has found and the repair stall has not rewritten yet -/
  repairs : List Nat
  deriving DecidableEq, Repr

/-- An entry of an engine's counter and tree cache (R345); a counter sector's values stand in `Hbm.ctr`. -/
structure TreeNode where
  bytes : BitVec 512
  dirty : Bool
  deriving DecidableEq, Repr

/-- The integrity trees of one engine (R345): keys are (16 * domain + level) * 2^32 + index. -/
structure Tree where
  /-- R345 verified entries -/
  cache : SMap (Option TreeNode)
  /-- R345 counter sectors and nodes as they stand in HBM -/
  held : SMap (BitVec 512)
  /-- R345 root tags by domain -/
  roots : SMap (BitVec 512)
  /-- MODEL: entries given up so far, which names the engine's next choice -/
  evicted : Nat
  deriving DecidableEq, Repr

/-- HBM as the module's agents read it (R176, R340-R342). -/
structure Hbm where
  /-- plain text by byte address; a byte of a sector never written in its epoch reads zero (R342) -/
  bytes : List Host.Cell
  /-- R342 CTR by sector number -/
  ctr : SMap Nat
  /-- R345 trees of the engines: 0 in E1, 1 in E6 -/
  trees : SMap Tree
  deriving DecidableEq, Repr

/-- The module without its queue of waiting commands. -/
structure Module where
  /-- R386-R391 dictionary entries held as registers: key 256 * index + subindex; unlisted entries read their default -/
  regs : SMap Nat
  ctl : ModeCtl
  pins : Pins
  start : StartCtl
  seq : Seq
  data : Data
  image : Image
  load : Load
  txn : Txn
  couriers : Couriers
  trig : Trigger
  trace : Trace
  fabric : Fabric
  lanes : SMap Lane
  bundles : SMap Bundle
  disc : Disc
  store : Store
  sec : Security
  stew : Steward
  scrub : Scrub
  hbm : Hbm
  /-- MODEL: what the module has sent, newest first -/
  outbox : List OutMsg
  deriving DecidableEq, Repr

/-- The state of the block: the commands that wait, first in first out, and the module. -/
structure State where
  pending : List Instr
  mod : Module
  deriving DecidableEq, Repr

/-- Why a step can stop with a fault. -/
inductive Fault where
  /-- Raised by no meaning: every condition the spec calls a fault is a mode change (FROZEN, LOCKDOWN) that the module
  goes on from, and an access to an absent address is answered by a STATUS (R266). Safe. -/
  | addressAbsent
  deriving DecidableEq, Repr

/-- Why a step can be refused. -/
inductive Refusal where
  /-- Raised by Dispatch.lean for a command that has no meaning yet. Safe. -/
  | notModelled (mnemonic : String)
  /-- Raised by a dictionary access at VENDOR privilege to 0x7F00-0x7FFF, entries that "this manual does not describe"
  (R394). Safe: the model stops where the hardware goes on. -/
  | vendorEntry (index sub : Nat)
  deriving DecidableEq, Repr

/-- A transaction slot at a start (R212: every slot FREE). -/
def Slot.init : Slot :=
  { state := 0, scope := false, reason := 0, at_ := 0, masked := 0, refused := false, folio := none, winRecords := [],
    winBlocks := [], txnWhen := 0, early := 0, records := [], blocks := [], whenMode := 0, when_ := 0, voteNo := false,
    preImages := [], preOut := [], hbmwrOut := [], rolling := false, rewriting := false, endReason := 0 }

/-- A queue controller after GSR (R154). -/
def Queue.init : Queue :=
  { head := 0, tail := 0, count := 0, dvHead := 0, dvTail := 0, dvCount := 0, skid := [] }

/-- Trees over counters that are all zero (R345). -/
def Tree.init : Tree := { cache := [], held := [], roots := [], evicted := 0 }

/-- A FREE context (R215). -/
def Ctx.init (n : Nat) : Ctx :=
  { state := 0, home := n / 32, prio := 0, waitobj := 0, waitArg := 0, pend := false, pc := 0,
    regs := List.replicate 31 0, failSelf := false, readyAt := 0 }

/-- A FREE entry (R224). -/
def Entry.init : Entry := { state := 0, seq := 0, len := 0, buffer := [], reqFolio := none, missed := false }

/-- A channel at a start (R230). -/
def Channel.init : Channel :=
  { entries := [], nextSeq := 0, retireSeq := 0, pubSeq := 0, h2c := [], stage := [], accepted := 0, freed := 0,
    c2hProd := 0, c2hCons := 0, c2hAlloc := 0, c2hPosted := [], c2hRing := [], err := 0, wordFolios := [],
    deadlines := [], reqMissed := 0 }

/-- A trace source at the start of trace (R255). -/
def TraceSrc.init : TraceSrc :=
  { last := 0, bits := [], firstAt := 0, lastAt := 0, atFolio := 0, lost := 0, sinceSync := 0, needSync := true, lastFolio := 0 }

def InitStats.init : InitStats :=
  { c := List.replicate 10 0, wrap := 0, maxLat := 0, timeouts := 0, errCpl := 0, lateCpl := 0, errnotes := 0 }

/-- A die link at a start: SEQ 0 and credit counts 0 (R285); 128 flits of room per VC at the far end (R267). -/
def DieLink.init : DieLink :=
  { txSeq := 0, unacked := [], passes := 0, passAt := none, reqLeft := 0, told := 0, rxSeq := 0, nakSent := false, crReq := 0, crRsp := 0, crMsg := 0,
    haveReq := 128, haveRsp := 128, haveMsg := 128, freed := [0, 0, 0], rxq := [], txq := [] }

def Lane.init : Lane :=
  { phase := none, attempts := 0, trained := false, failed := false, good := 0, noFar := false, farLane := 0, farRate := none,
    errAt := [], scr := 0, rxScr := 0, gen := 0,
    ctl := 0, prbsLock := false, loopRefused := false, prbsErrs := 0, prbsBits := 0, bitsWrap := false, crcErrs := 0 }

/-- A bundle at a start (R311: SEQ spaces, buffers and cumulative counts restart at 0). -/
def Bundle.init : Bundle :=
  { state := 0, pstate := 0, nbr := none, quietPending := false, txStatic := 0, txPkt := 0, txPrio := 0,
    lsStatic := 255, lsPkt := 255, lsPrio := 255, keepStatic := [], keepPrio := [], keepPkt := [], pktResends := 0, resent := none, rxStatic := 0, rxPkt := 0, rxPrio := 0,
    oooStatic := [], oooPkt := [], oooPrio := [], gapStatic := [], gapPkt := [], gapPrio := [], txStream := [],
    sentThisFolio := false, store := [], storeNext := [], gotBits := false, released := 0, skew := [], streamed := 0, skewAck := 0, crReq := 0,
    crRsp := 0, crMsg := 0, haveReq := 128, haveRsp := 128, haveMsg := 128, txPktQ := [], reqLeft := 0, rxq := [], freed := [0, 0, 0], txq := [], sinceCtl := 0, ui := 0, period := 0,
    quietAt := 0, busyAt := 0,
    retraining := false }

/-- R349: bytes 0 to 27 of a sector's header, which HCRC covers. -/
def Sector.head (s : Sector) : List Byte :=
  leBytes 3 s.magic.toNat ++ leBytes 1 s.st ++ leBytes 4 s.seq ++ leBytes 4 s.wear ++ leBytes 4 s.len ++ leBytes 2 s.record ++ leBytes 2 0
    ++ leBytes 4 s.bcrc.toNat ++ leBytes 4 0

/-- R349: a sector whose header has just been written. -/
def Sector.sealed (s : Sector) : Sector :=
  let s1 := { s with magic := 0x535446#24 }
  { s1 with hcrc := crc32c s1.head }

/-- A sector as cleared (R351): ERASED, body all ones. -/
def Sector.init : Sector :=
  { magic := 0x535446#24, hcrc := 0x2CA904FE#32, st := 0xA1, wear := 0, seq := 0, record := 0, len := 0, bcrc := 0, body := [], fails := 0 }

/-- R349, R351: the body bytes of a record that is written: those other than 0xFF, by offset. -/
def bodyTable (bs : List Byte) : SMap Byte := (bs.zipIdx.map (fun e => (e.2, e.1))).filter (fun e => e.2 != 0xFF#8)

/-- R355: the sector of record 0x0F00, written at manufacture. -/
def Sector.manufactured : Sector :=
  let bs := Config.manufacture.take 65504
  Sector.sealed { Sector.init with st := 0xD4, record := 0x0F00, len := bs.length, bcrc := crc32c bs, body := bodyTable bs }

def Domain.init : Domain := { state := 0, good := 0, offset := 0, delay := 0, ahead := 0, pendRx := none, reqSeq := 0, reqOut := false }

def Image.none_ : Image :=
  { present := false, modnum := 0, modules := 0, systemId := 0, design := 0, tipin := 0, capture := 0, trace := 0,
    capSlots := 0, maskSlots := 0, taps := [], caps := [], masks := [], tips := [], plain := false }

def ModeCtl.init : ModeCtl :=
  { mode := .reset, prev := .reset, cause := 0, cold := true, resumable := false, target := 0, stepn := 0,
    stepLeft := 0, freezeReq := false, freezeCause := 0, coldOnly := false, linksvc := false, lockAt := 0 }

def Pins.init : Pins :=
  { lowRails := [], suppliesGood := false, porstHigh := true, modreadyLow := true,
    netHigh := false, thermN := false, trigOut := 0, trigLevel := 0, crossed := none, gated := false, bankPowered := 0, mgtLink := 0 }

def StartCtl.init : StartCtl :=
  { running := false, storeMounted := false, bistDone := false, remapLoaded := false, pllLocked := false,
    startupState := 0, stepsLeft := [], lockDone := false, outen := false, wren := false, walkAt := 0, lanesTrained := false,
    sysMismatch := false, discFail := false, remapInForce := [], remapStored := [], bistFails := List.replicate 8 0,
    bistPass := 0, bistRun := false, firstLogged := [] }

def Seq.init : Seq :=
  { folio := 0, copies := List.replicate 8 0, opening := true, phase := .hold, steps := [], issued := 0, stalls := [], inStall := false,
    dkey := [0x40, 0x40, 0x40, 0x40], segs := [], disp := [], dclkCfg := [], dclkTime := [], dclkHeld := [],
    edges := 0, clkCrc := 0, grants := 0, waiting := false, lastCad := none, cadK := 0, lateHist := [],
    launchLate := false, driftLogged := false, roundStart := 0, merged := false, heldToken := none,
    ringResult := none, heard := 0, applyRound := false, effE := 0, effS := 0, effB := 0,
    effSown := 0, effBown := 0, effFolios := 0, haltCount := 0, haltFirst := none, happened := 0, folioStall := 0, applyHold := 0,
    cycle := 0 }

def Data.init : Data :=
  { im := [], imEss := [], xbar := [], xbarEss := [], spine := [], spineEss := [], link := [], linkEss := [],
    bankmap := [], shadow := [], fill := [], dm := [], watch := [], forces := [], fpoint := [], haltEn := [], bus := [],
    flights := [], sends := [], returns := [], pendRets := [], memAccs := [], memSeq := 0, portSeq := [], ioData := [], ioEn := [],
    padFlight := [], padOut := [], padSamples := [], dmbData := [], dmbPar := [], dmbValid := [], queues := [],
    dmbDesc := [], windows := [], iomap := [], dmbUsed := [], latched := [], builtinIm := none,
    builtinDm := none }

def Load.init : Load :=
  { state := 0, pass := 0, blocks := [], header := 0, staged := false, digest := 0, stewardDigest := 0,
    newDigest := 0, epochStage := false, epochDesign := false, waitEntropy := none, held := [], discardWait := false,
    comparing := false }

def Txn.init : Txn :=
  { slots := List.replicate 16 Slot.init, pulses := 0, pulseCommit := [], pulsedNow := 0, preload := none, tipQuarter := 0,
    inspWait := [], inspStatus := 0, inspValue := 0, inspCmd := 0 }

def Couriers.init : Couriers :=
  { contexts := [], run := 0, started := false, mem := [], ready := [], readySeq := 0, schFail := [],
    schArg := [], channels := [], lastRead := 0 }

def Trigger.init : Trigger :=
  { fb := 0, arm := 0, act := 0, fired := 0, pinEdges := 0, pinCount := List.replicate 8 0, capState := 0,
    capWindow := 0, capStop := false, capFresh := false, capA := 0, capT := 0, capMarks := 0, capLines := 0,
    capRearm := 0, capQueue := [], capOld := 0, capStream := false, capOut := none, maskState := 0, maskEnd := false, maskRecs := [], maskRead := none, maskBytes := [], maskWait := [],
    maskFailBits := 0 }

def Trace.init : Trace :=
  { state := 0, fifo := [], sources := [], stopReq := false, stopReason := 0, lastFolio := 0 }

def Fabric.init : Fabric :=
  { net := [], starts := [], tags := [], timeouts := [], deadEp := [], deadRt := [], absorbedP := [], absorbedNP := [],
    srcRoute := [], stats := [], dieLinks := [], msgq := [], hostReads := [], dlReplays := [], pcReqs := [],
    pcWindow := [], chanImb := [], chanImbPeak := [], snapshot := InitStats.init, msix := [], msixRaised := [] }

def Disc.init : Disc :=
  { state := 0, ring := 0, position := 0, ringSize := 0, rings := 0, modnum := 0, hopRing := 0, hopHead := 0,
    adjs := [], echoDue := [], echoOut := [], floods := [], waiting := [] }

def Store.init : Store :=
  { sectors := [(4095, Sector.manufactured)], journal := [], queue := [], state := 0, recovered := 0, readData := [], readSeq := 0, removals := [], newest := none, chunks := [] }

def Security.init : Security :=
  { newStage := none, newDesign := none, stageSecret := none, designSecret := none, engineKey := none, adminKey := none, trngReady := false,
    drbgCount := 0, drbgK := 0, drbgV := 0, nonces := [], zeroising := false, alarm := false, trngFail := false,
    lastRandom := [], freeCtr := 0 }

def Steward.init : Steward :=
  { now := 0, up := 0, parts := [], residence := [], domains := [Domain.init, Domain.init], active := 0, slewing := false, timeSet := false,
    latchSec := 0, latchFolio := 0, latchPhase := 0, prevSec := 0, prevFolio := 0, logQ := [], logNext := 0,
    ring := [], flushed := 0, chunk := 0, lastFlush := 0, lastServed := 0, reqArea := [], rspArea := [],
    mbBusy := false, mbReply := false, kept := [], waitingReq := none, reqQ := [], lastStatus := 0, lastRead := [],
    partHeard := 0, partitioned := false, remapPending := false, hotDies := [],
    overtemp := false, tj := List.replicate 11 0 }

/-- The module right after reset: in RESET (0), waiting for the supplies, nothing loaded (R31, R403). -/
def Module.reset : Module :=
  { regs := [], ctl := ModeCtl.init, pins := Pins.init, start := StartCtl.init, seq := Seq.init, data := Data.init,
    image := Image.none_, load := Load.init, txn := Txn.init, couriers := Couriers.init, trig := Trigger.init,
    trace := Trace.init, fabric := Fabric.init, lanes := [], bundles := [], disc := Disc.init, store := Store.init,
    sec := Security.init, stew := Steward.init, scrub := { running := false, target := 0, last := 0, next := 0, repairs := [] },
    hbm := { bytes := [], ctr := [], trees := [] }, outbox := [] }

/-- The state right after reset; no command waits. -/
def State.reset : State := { pending := [], mod := Module.reset }

end Sys2Proof.Machine
end

