-- ==== Sys2Proof/Machine/Frames.lean ====
section
/-! DEFINITION. Machine/Frames.lean: the frames of the serial lanes and of the die links bit by bit: their fields (R141, R272,
R290-R292, R301, R303), the scrambler, the stuffed and fill bits of a frame period (R288, R289), the PRBS patterns (R308), and
the command that a received frame spells. -/

namespace Sys2Proof.Machine

/-! ### Fields -/

/-- The number of bits of a list of widths. -/
def widths (ws : List Nat) : Nat := ws.foldr (· + ·) 0

/-- Fields (width, value) side by side, the first one highest. -/
def pack : List (Nat × Nat) → Nat
  | [] => 0
  | (w, v) :: t => v % 2 ^ w * 2 ^ widths (t.map (·.1)) + pack t

/-- The values of fields of these widths, the first one highest. -/
def unpack : List Nat → Nat → List Nat
  | [], _ => []
  | w :: t, v => v / 2 ^ widths t % 2 ^ w :: unpack t v

/-- The number that bits spell, the first one highest. -/
def lineNat (bs : List Bool) : Nat := bs.foldl (fun a b => 2 * a + b2n b) 0

/-! ### Control block, token and discovery record (R141, R292, R303) -/

def ctlWidths : List Nat := [8, 2, 8, 3, 8, 8, 8, 8, 8, 8, 8, 16, 2, 113]

/-- R292: the 208 bits of a control block. -/
def ctlBits (c : CtlBlock) : Nat :=
  pack (ctlWidths.zip [c.op, c.nclass, c.nseq, c.nlane, c.lsStatic, c.lsPrio, c.lsPkt, c.ackPkt, c.crReq, c.crRsp, c.crMsg,
    c.skewcr, c.vc, 0])

def ctlOf (v : Nat) : CtlBlock :=
  let f := unpack ctlWidths v
  { op := nth 0 f 0, nclass := nth 0 f 1, nseq := nth 0 f 2, nlane := nth 0 f 3, lsStatic := nth 0 f 4, lsPrio := nth 0 f 5,
    lsPkt := nth 0 f 6, ackPkt := nth 0 f 7, crReq := nth 0 f 8, crRsp := nth 0 f 9, crMsg := nth 0 f 10,
    skewcr := nth 0 f 11, vc := nth 0 f 12 }

def tokenWidths : List Nat := [64, 3, 5, 16, 16, 16, 16, 32, 1, 1, 1, 1, 2, 1, 4, 24, 16, 8, 16, 221]

/-- R141: the 464 bits of a stitch token. -/
def tokenBits (t : Token) : Nat :=
  pack (tokenWidths.zip [t.folio, t.kind, 0, t.members.toNat, t.trig.toNat, t.txno.toNat, t.txyes.toNat, t.clkcrc.toNat,
    b2n t.clkmis, b2n t.haltr, b2n t.depart, b2n t.reqok, t.masters, b2n t.pacego, t.target, t.stepn, t.lapns, t.frzorg,
    t.frzcode.toNat, 0])

def tokenOf (v : Nat) : Token :=
  let f := unpack tokenWidths v
  { folio := nth 0 f 0, kind := nth 0 f 1, members := BitVec.ofNat 16 (nth 0 f 3), trig := BitVec.ofNat 16 (nth 0 f 4),
    txno := BitVec.ofNat 16 (nth 0 f 5), txyes := BitVec.ofNat 16 (nth 0 f 6), clkcrc := BitVec.ofNat 32 (nth 0 f 7),
    clkmis := nth 0 f 8 == 1, haltr := nth 0 f 9 == 1, depart := nth 0 f 10 == 1, reqok := nth 0 f 11 == 1,
    masters := nth 0 f 12, pacego := nth 0 f 13 == 1, target := nth 0 f 14, stepn := nth 0 f 15, lapns := nth 0 f 16,
    frzorg := nth 0 f 17, frzcode := BitVec.ofNat 16 (nth 0 f 18) }

/-- R303: NBR: nine bits for each bundle, bundle 19 highest. -/
def nbrBits (nbr : List (Option Nat)) : Nat :=
  pack ((List.range 20).reverse.map (fun k => (9, match nth none nbr k with
    | some n => 256 + n % 256
    | none => 0)))

def nbrOf (v : Nat) : List (Option Nat) :=
  (unpack (List.replicate 20 9) v).reverse.map (fun n => if 256 ≤ n then some (n % 256) else none)

def bringupWidths : List Nat := [8, 4, 4, 8, 180, 64, 16, 8, 172]

/-- R303: the 464 bits of a discovery record. -/
def bringupBits (r : Bringup) : Nat :=
  pack (bringupWidths.zip [r.kind, r.ring, r.count, r.module, nbrBits r.nbr, r.sysid.toNat, r.mods, r.imgnum, 0])

def bringupOf (v : Nat) : Bringup :=
  let f := unpack bringupWidths v
  { kind := nth 0 f 0, ring := nth 0 f 1, count := nth 0 f 2, module := nth 0 f 3, nbr := nbrOf (nth 0 f 4),
    sysid := BitVec.ofNat 64 (nth 0 f 5), mods := nth 0 f 6, imgnum := nth 0 f 7 }

/-! ### Lane frames (R290, R291) -/

/-- R291: TYPE and the 464 bits of payload of a frame; IDLE, LCTL and PACKET frames carry the control block `cb`. -/
def LaneBody.type : LaneBody → Nat
  | .idle => 0x00
  | .lctl _ _ _ _ => 0x01
  | .static last _ => if last then 0x11 else 0x10
  | .packet _ _ => 0x20
  | .prio bringup _ => if bringup then 0x31 else 0x30

def LaneBody.payload (cb : CtlBlock) : LaneBody → Nat
  | .idle => ctlBits cb
  | .lctl op ncls nseq nlane => ctlBits { cb with op := op, nclass := ncls, nseq := nseq, nlane := nlane }
  | .static _ p => p.toNat
  | .packet vc flit => flit.toNat * 2 ^ 208 + ctlBits { cb with vc := vc }
  | .prio _ p => p.toNat

/-- R293: a frame with a control block. -/
def LaneBody.control : LaneBody → Bool
  | .idle | .lctl _ _ _ _ | .packet _ _ => true
  | .static _ _ | .prio _ _ => false

/-- R290: CRC-32C over bits [511:32], in bytes from bits [39:32] up, as R318 takes a colophon's. -/
def laneCrc (body : Nat) : Nat := (crc32c (leBytes 60 body)).toNat

/-- R290: the 512 bits of a lane frame. -/
def laneFrame (type seq payload : Nat) : BitVec 512 :=
  let body := pack [(8, type), (8, seq), (464, payload)]
  BitVec.ofNat 512 (body * 2 ^ 32 + laneCrc body)

/-- R290, R293: a frame as it leaves; IDLE and LCTL frames have SEQ 0. -/
def TxFrame.bits (cb : CtlBlock) (f : TxFrame) : BitVec 512 := laneFrame f.body.type f.seq (f.body.payload cb)

/-- R291, R297: the class of a TYPE: 1 static, 2 packet, 3 priority, 0 none. -/
def frameClass (type : Nat) : Nat :=
  if type = 0x10 ∨ type = 0x11 then 1 else if type = 0x20 then 2 else if type = 0x30 ∨ type = 0x31 then 3 else 0

/-- R292: the command of an IDLE or LCTL frame; an LCTL frame whose OP is no code of R292 tells only its counts. -/
def ctlCommand (bundle lane : Nat) (cb : CtlBlock) (lctl : Bool) : Instr :=
  match (if lctl then cb.op else 0) with
  | 1 => .laneNak bundle cb
  | 2 => .quietReq bundle cb
  | 3 => .quietAck bundle cb
  | 4 => .quietRefuse bundle cb
  | 5 => .laneDrop bundle cb.nlane cb
  | _ => .laneIdle bundle lane { cb with op := 0 }

/-- R141: the command of a PRIO frame; none where KIND is reserved. -/
def tokenCommand (bundle seq : Nat) (t : Token) : Option Instr :=
  match t.kind with
  | 0 => some (.ringGather seq t)
  | 1 => some (.headGather seq t)
  | 2 => some (.headRelease seq t)
  | 3 => some (.ringRelease seq t)
  | 4 => some (.freezeFlood bundle seq t)
  | _ => none

/-- R303: the command of a BRINGUP frame; an ECHO_RSP came `roundTrip` ns after its ECHO_REQ left. -/
def bringupCommand (bundle seq roundTrip : Nat) (r : Bringup) : Option Instr :=
  match r.kind with
  | 0 => some (.ringDisc seq r.ring r.count)
  | 1 => some (.headDisc seq r.ring)
  | 2 => some (.ident bundle seq r.module r.sysid r.mods r.imgnum)
  | 3 => some (.echoReq bundle seq)
  | 4 => some (.echoRsp bundle seq roundTrip)
  | 5 => some (.adj bundle seq r.module r.nbr)
  | _ => none

/-- R290, R291: the command that a frame received on a lane spells. A frame whose CRC fails, whose TYPE is reserved, or whose
KIND is, is a CRC failure of its lane. -/
def laneCommand (bundle lane roundTrip : Nat) (frame : BitVec 512) : Instr :=
  let v := frame.toNat
  let f := unpack [8, 8, 464, 32] v
  let type := nth 0 f 0
  let seq := nth 0 f 1
  let pl := nth 0 f 2
  let bad : Instr := .laneFrameBad bundle lane (frameClass type)
  if nth 0 f 3 ≠ laneCrc (v / 2 ^ 32) then bad
  else match type with
    | 0x00 => ctlCommand bundle lane (ctlOf pl) false
    | 0x01 => ctlCommand bundle lane (ctlOf pl) true
    | 0x10 => .staticFrame bundle seq (BitVec.ofNat 464 pl)
    | 0x11 => .staticLast bundle seq (BitVec.ofNat 464 pl)
    | 0x20 => .lanePacket bundle seq (BitVec.ofNat 256 (pl / 2 ^ 208)) (ctlOf pl)
    | 0x30 => (tokenCommand bundle seq (tokenOf pl)).getD bad
    | 0x31 => (bringupCommand bundle seq roundTrip (bringupOf pl)).getD bad
    | _ => bad

/-! ### Line coding (R288, R289) -/

/-- R288: one step of the scrambler: the bit f, and the state after it. -/
def scrStep (s : BitVec 31) : Bool × BitVec 31 :=
  let f := s.getLsbD 30 ^^ s.getLsbD 27
  (f, (s <<< 1) ||| BitVec.ofNat 31 (b2n f))

/-- R288: the state after n frame bits, which does not depend on them. -/
def scrRun : Nat → BitVec 31 → BitVec 31
  | 0, s => s
  | n + 1, s => scrRun n (scrStep s).2

/-- R288: the line bits of frame bits; the same again gives the frame bits back. -/
def scramble : BitVec 31 → List Bool → List Bool
  | _, [] => []
  | s, d :: t => (d ^^ (scrStep s).1) :: scramble (scrStep s).2 t

/-- R288: the seed of the lane with module lane number l. -/
def scrSeed (l : Nat) : BitVec 31 := BitVec.ofNat 31 (((l + 1) <<< 16) ^^^ 0x5555)

/-- R289: the count of identical bits after bit d, behind a run of n bits p. -/
def runAfter (n : Nat) (p d : Bool) : Nat := if n ≠ 0 ∧ d = p then n + 1 else 1

/-- R289: after 31 identical frame bits one bit of the inverse value. -/
def stuff : Nat → Bool → List Bool → List Bool
  | _, _, [] => []
  | n, p, d :: t =>
    let k := runAfter n p d
    if k = 31 then d :: (!d) :: stuff 0 d t else d :: stuff k d t

/-- R289: the receiver counts in the same way and removes the stuffed bits, until it has as many frame bits as asked for. -/
def unstuff : Nat → Bool → Nat → List Bool → List Bool
  | _, _, 0, _ => []
  | _, _, _, [] => []
  | n, p, left + 1, d :: t =>
    let k := runAfter n p d
    if k = 31 then d :: unstuff 0 d left (t.drop 1) else d :: unstuff k d left t

/-- R289: n fill bits after a bit: they alternate, from its inverse on. -/
def fillBits : Nat → Bool → List Bool
  | 0, _ => []
  | n + 1, last => (!last) :: fillBits n (!last)

/-- R288: the bits of a frame, bit 511 first. -/
def frameBits (f : BitVec 512) : List Bool := (List.range 512).map (fun i => f.getLsbD (511 - i))

/-- R288, R289: the bits of a frame period, without the fill bits. -/
def periodBits (s : BitVec 31) (f : BitVec 512) : List Bool := stuff 0 false (scramble s (frameBits f))

/-- R289: UI of a frame period. -/
def periodUi : Nat := 529

/-- R288, R289: the 529 line bits of a frame, the first one highest. -/
def lineOf (s : BitVec 31) (f : BitVec 512) : BitVec 529 :=
  let bs := periodBits s f
  BitVec.ofNat 529 (lineNat (bs ++ fillBits (periodUi - bs.length) (bs.getLast?.getD false)))

/-- R288, R289: the frame that a receiver finds in the bits of a period. -/
def frameOf (s : BitVec 31) (line : BitVec 529) : BitVec 512 :=
  let bs := (List.range periodUi).map (fun i => line.getLsbD (periodUi - 1 - i))
  BitVec.ofNat 512 (lineNat (scramble s (unstuff 0 false 512 bs)))

/-! ### Training symbols (R301) -/

def symbolWidths : List Nat := [24, 8, 1, 8, 3, 2, 2, 4, 4, 8]

/-- R301: the training symbol; MV = 1 where the module number is known. -/
def symbolOf (lane : Nat) (module : Option Nat) (phase rate pre post : Nat) : BitVec 128 :=
  let v := pack (symbolWidths.zip [0xF0C3A5, lane, b2n module.isSome, module.getD 0, phase, rate, 0, pre, post, 0])
  BitVec.ofNat 128 (v * 2 ^ 64 + (2 ^ 64 - 1 - v))

/-- R301: MARK stands, INV is the complement, and PHASE and RATE are no reserved codes. -/
def symbolOk (s : BitVec 128) : Bool :=
  let v := s.toNat / 2 ^ 64
  let f := unpack symbolWidths v
  nth 0 f 0 == 0xF0C3A5 && s.toNat % 2 ^ 64 + v == 2 ^ 64 - 1 && nth 0 f 4 != 0 && decide (nth 0 f 4 < 4) && nth 0 f 5 != 3

/-- R301: LANE and RATE of a symbol. -/
def symbolLane (s : BitVec 128) : Nat := bitsOf s.toNat 103 96
def symbolRate (s : BitVec 128) : Nat := bitsOf s.toNat 83 82

/-! ### PRBS patterns (R308) -/

/-- R308: the two taps of PRBS7, PRBS15, PRBS23 and PRBS31. -/
def prbsTaps (k : Nat) : Nat × Nat := nth (7, 6) [(7, 6), (15, 14), (23, 18), (31, 28)] k

/-- R308: ITU-T O.150 sends PRBS15, PRBS23 and PRBS31 inverted (PRESUMED, from that standard). -/
def prbsInverted (k : Nat) : Bool := k != 0

/-- R308: one bit of a pattern, and the register after it. -/
def prbsStep (k : Nat) (s : BitVec 31) : Bool × BitVec 31 :=
  let f := s.getLsbD ((prbsTaps k).1 - 1) ^^ s.getLsbD ((prbsTaps k).2 - 1)
  (f ^^ prbsInverted k, (s <<< 1) ||| BitVec.ofNat 31 (b2n f))

/-- R308: n bits of a pattern, and the register after them. -/
def prbsRun (k : Nat) : Nat → BitVec 31 → List Bool × BitVec 31
  | 0, s => ([], s)
  | n + 1, s =>
    let r := prbsStep k s
    let t := prbsRun k n r.2
    (r.1 :: t.1, t.2)

/-! ### Die-link frames (R272) -/

def dieWidths : List Nat := [8, 8, 2, 8, 6, 8, 8, 8, 8]

/-- R272: VCMAP: two bits a slot, slot 0 lowest. -/
def vcmapBits (vs : List Nat) : Nat := (List.range 4).foldl (fun a k => a + nth 0 vs k % 4 * 4 ^ k) 0

/-- R272: the control word; KIND 0 DATA, 1 IDLE, 2 NAK. -/
def dieControl (kind seq ack vcmap crReq crRsp crMsg : Nat) : Nat :=
  pack (dieWidths.zip [seq, ack, kind, vcmap, 0, crReq, crRsp, crMsg, 0])

/-- R272: CRC-32C over bits [1119:32], in bytes from bits [39:32] up. -/
def dieCrc (body : Nat) : Nat := (crc32c (leBytes 136 body)).toNat

/-- R272: the 1,120 bits of a frame: control word, four flit slots (slot 0 highest) and CRC. -/
def dieBits (control : Nat) (flits : List (BitVec 256)) : BitVec 1120 :=
  let body := control * 2 ^ 1024 + pack ((List.range 4).map (fun k => (256, (nth 0#256 flits k).toNat)))
  BitVec.ofNat 1120 (body * 2 ^ 32 + dieCrc body)

/-- R272: the command that a frame received on a direction of a link spells; a frame with a reserved KIND is taken as one
whose CRC fails. -/
def dieCommand (link dir : Nat) (frame : BitVec 1120) : Instr :=
  let v := frame.toNat
  let f := unpack dieWidths (v / 2 ^ 1056)
  let kind := nth 0 f 2
  let x : DieFrame := { crcOk := v % 2 ^ 32 == dieCrc (v / 2 ^ 32) && kind != 3, seq := nth 0 f 0, ack := nth 0 f 1,
                        vcmap := (unpack [2, 2, 2, 2] (nth 0 f 3)).reverse, crReq := nth 0 f 5, crRsp := nth 0 f 6,
                        crMsg := nth 0 f 7, flits := (unpack (List.replicate 4 256) (v / 2 ^ 32)).map (BitVec.ofNat 256) }
  if kind = 1 then .dlinkIdleFrame link dir x else if kind = 2 then .dlinkNak link dir x else .dlinkDataFrame link dir x

end Sys2Proof.Machine
end

