-- ==== Sys2Proof/Machine/Tree.lean ====
section
/-! DEFINITION. Machine/Tree.lean: the integrity tree over the write counters of HBM sectors, kept by each engine for each
domain, with the engine's cache (R345). A node of level 0 is a counter sector: its content is the counters of eight sectors
that follow one another. A node of a higher level holds the tags of its eight children. Where nodes lie in the counter
region, how many levels stand below the roots and which entry a full cache gives up are internal to the engines (R340):
DESIGN CHOICE, the node of a counter follows from its sector number; the region address and the entry given up are open. -/

namespace Sys2Proof.Machine

/-! ### AES-256-CMAC (SP 800-38B) -/

/-- Doubling in GF(2^128). -/
def cmacDouble (v : BitVec 128) : BitVec 128 := if v.msb then (v <<< 1) ^^^ 0x87#128 else v <<< 1

/-- A block of 16 bytes as a number, and back. -/
def blockOf (bs : List Byte) : BitVec 128 := BitVec.ofNat 128 (beNat bs)
def blockBytes (v : BitVec 128) : List Byte := beBytes 16 v.toNat

/-- The chain over all blocks but the last. -/
def cmacChain (key : List Byte) : Nat → BitVec 128 → List Byte → BitVec 128 × List Byte
  | 0, x, bs => (x, bs)
  | n + 1, x, bs =>
    if bs.length ≤ 16 then (x, bs)
    else cmacChain key n (blockOf (aesEnc key (blockBytes (x ^^^ blockOf (bs.take 16))))) (bs.drop 16)

/-- The CMAC of bytes under an AES-256 key. -/
def cmac (key bs : List Byte) : BitVec 128 :=
  let k1 := cmacDouble (blockOf (aesEnc key (List.replicate 16 0#8)))
  let r := cmacChain key (bs.length / 16) 0 bs
  let last := if r.2.length = 16 then blockOf r.2 ^^^ k1
    else blockOf ((r.2 ++ [0x80#8] ++ List.replicate 15 0#8).take 16) ^^^ cmacDouble k1
  blockOf (aesEnc key (blockBytes (r.1 ^^^ last)))

/-! ### Nodes -/

/-- The level of the roots: one node of eight tags spans every sector of a domain. -/
def treeTop : Nat := 10

/-- The key of a node: domain, level, index. -/
def treeKey (design : Bool) (level i : Nat) : Nat := (16 * b2n design + level) * 2 ^ 32 + i

/-- R161: the pseudo-channel of a byte address. -/
def pcOf (a : Nat) : Nat :=
  (bitsOf a 11 6) ^^^ (bitsOf a 17 12) ^^^ (bitsOf a 23 18) ^^^ (bitsOf a 29 24) ^^^ (bitsOf a 35 30) ^^^ (bitsOf a 36 36)

/-- R340, R161: the engine of a sector: 0 in E1, 1 in E6 (by the stack its pseudo-channel lies in). -/
def engineOf (s : Nat) : Nat := pcOf (64 * s) / 32

/-- A counter sector: the counters of the sectors 8 i to 8 i + 7. -/
def counterSector (ctr : SMap Nat) (i : Nat) : BitVec 512 :=
  BitVec.ofNat 512 ((List.range 8).foldl (fun v j => v + sget 0 ctr (8 * i + j) % 2 ^ 64 * 2 ^ (64 * j)) 0)

/-- The tag of a node's child, and the node with a new one. -/
def childTag (node : BitVec 512) (i : Nat) : BitVec 64 := (node >>> (64 * (i % 8))).setWidth 64
def setChildTag (node : BitVec 512) (i : Nat) (t : BitVec 64) : BitVec 512 :=
  BitVec.ofNat 512 (putBits node.toNat (64 * (i % 8) + 63) (64 * (i % 8)) t.toNat)

/-- R345: the tag of a child from its region address and its 64 bytes. -/
def nodeTag (key : List Byte) (place : Nat) (v : BitVec 512) : BitVec 64 :=
  if v = 0 then 0
  else
    let t := (cmac key (beBytes 8 place ++ leBytes 64 v.toNat)).extractLsb' 64 64
    if t = 0 then 1 else t

/-- What the engine's registers or its cache hold of a node; none where it must be fetched. -/
def Tree.known (t : Tree) (ctr : SMap Nat) (design : Bool) (level i : Nat) : Option (BitVec 512) :=
  if treeTop ≤ level then some (sget 0 t.roots (b2n design))
  else (sget none t.cache (treeKey design level i)).map (fun n => if level = 0 then counterSector ctr i else n.bytes)

/-- A node takes a new value, as a dirty entry or in the root registers. -/
def Tree.change (t : Tree) (design : Bool) (level i : Nat) (v : BitVec 512) : Tree :=
  if treeTop ≤ level then { t with roots := sset 0 t.roots (b2n design) v }
  else { t with cache := sset none t.cache (treeKey design level i) (some { bytes := v, dirty := true }) }

/-- R345: on a miss the path up to the first ancestor held is fetched, each node verified against its parent; only what was
verified enters the cache. False where a node fails. -/
def Tree.fetch (key : List Byte) (ctr : SMap Nat) (design : Bool) : Nat → Nat → Nat → Tree → Bool × Tree
  | 0, _, _, t => (true, t)
  | n + 1, level, i, t =>
    match t.known ctr design level i with
    | some _ => (true, t)
    | none =>
      let r := Tree.fetch key ctr design n (level + 1) (i / 8) t
      let k := treeKey design level i
      let v := sget 0 r.2.held k
      let parent := (r.2.known ctr design (level + 1) (i / 8)).getD 0
      if r.1 && nodeTag key (Config.treePlace k) v == childTag parent i then
        (true, { r.2 with cache := sset none r.2.cache k (some { bytes := v, dirty := false }) })
      else (false, r.2)

/-- R345: an entry leaves the cache: a dirty one is written to HBM, and its tag updated in its parent, which is fetched
first where it is not cached. False where that fetch fails: the entry then stays. -/
def Tree.evict (keys : Bool → List Byte) (ctr : SMap Nat) (t : Tree) : Bool × Tree :=
  match (t.cache.drop (Config.treeVictim t.evicted % t.cache.length)).head? with
  | some (k, some n) =>
    let design := decide (16 ≤ k / 2 ^ 32)
    let level := k / 2 ^ 32 % 16
    let i := k % 2 ^ 32
    let v := if level = 0 then counterSector ctr i else n.bytes
    let t1 := { t with cache := sset none t.cache k none, evicted := t.evicted + 1 }
    if n.dirty then
      let r := Tree.fetch (keys design) ctr design treeTop (level + 1) (i / 8) { t1 with held := sset 0 t1.held k v }
      let parent := (r.2.known ctr design (level + 1) (i / 8)).getD 0
      if r.1 then (true, r.2.change design (level + 1) (i / 8) (setChildTag parent i (nodeTag (keys design) (Config.treePlace k) v)))
      else (false, t)
    else (true, t1)
  | _ => (true, t)

/-- R345: the cache of an engine is 2 MiB: 32,768 entries of 64 bytes. False where an entry that leaves fails. -/
def Tree.fit (keys : Bool → List Byte) (ctr : SMap Nat) : Nat → Tree → Bool × Tree
  | 0, t => (true, t)
  | n + 1, t =>
    if t.cache.length ≤ 32768 then (true, t)
    else
      let r := t.evict keys ctr
      if r.1 then Tree.fit keys ctr n r.2 else r

/-! ### Accesses -/

/-- R340: the top of the STAGE domain, and of the DESIGN domain: above it lies the counter region. -/
def stageTop : Nat := 0x400000000
def hbmTop : Nat := 0x1500000000

/-- The domain of a sector. -/
def designSector (s : Nat) : Bool := decide (stageTop / 64 ≤ s)

/-- The sectors that a span touches. -/
def sectorsIn (a n : Nat) : List Nat := (List.range ((a + n - 1) / 64 + 1 - a / 64)).map (a / 64 + ·)

/-- R345: an access of sector s reaches its counter sector through the engine's tree; whether it had to be fetched, and
whether every node fetched was verified. -/
def treeAccess (keys : Bool → List Byte) (ctr : SMap Nat) (s : Nat) (ts : SMap Tree) : Bool × Bool × SMap Tree :=
  let e := engineOf s
  let t := sget Tree.init ts e
  let d := designSector s
  let hit := (t.known ctr d 0 (s / 8)).isSome
  let r := Tree.fetch (keys d) ctr d treeTop 0 (s / 8) t
  let f := Tree.fit keys ctr 64 r.2
  (!hit, r.1 && f.1, sset Tree.init ts e f.2)

/-- R345: a write of sector s updates the cached counter and marks it dirty; nothing enters the cache past a failed
verification. -/
def treeWrite (keys : Bool → List Byte) (ctr : SMap Nat) (ts : SMap Tree) (s : Nat) : SMap Tree :=
  let r := treeAccess keys ctr s ts
  let e := engineOf s
  if r.2.1 then sset Tree.init r.2.2 e ((sget Tree.init r.2.2 e).change (designSector s) 0 (s / 8) 0) else r.2.2

/-- R342, R345: sectors are written: their counters advance. -/
def Hbm.written (keys : Bool → List Byte) (h : Hbm) (ss : List Nat) : Hbm :=
  let ctr := ss.foldl (fun c s => smod 0 c s (· + 1)) h.ctr
  { h with ctr := ctr, trees := ss.foldl (treeWrite keys ctr) h.trees }

/-- R336: a key of a domain by its label, from the domain's epoch secret; none without one. -/
def Module.epochKey (m : Module) (label : String) (design : Bool) : List Byte :=
  match if design then m.sec.designSecret else m.sec.stageSecret with
  | some k => kdf (keyBytes k) label [if design then 1#8 else 0#8]
  | none => []

/-- R336: the node keys of the two domains. -/
def Module.nodeKeys (m : Module) : Bool → List Byte := m.epochKey "OND8-N"

/-- R336, R341: the keys under which a domain's sectors are encrypted and tagged. -/
def Module.sectorKey (m : Module) : Bool → List Byte := m.epochKey "OND8-E"
def Module.tagKeyOf (m : Module) : Bool → List Byte := m.epochKey "OND8-T"

/-- R341: the engines zero every node of a domain, with its roots. -/
def Tree.clear (design : Bool) (t : Tree) : Tree :=
  let lo := 16 * b2n design * 2 ^ 32
  let hi := lo + 16 * 2 ^ 32
  { t with cache := sclear t.cache lo hi, held := sclear t.held lo hi, roots := serase t.roots (b2n design) }

/-- R345: the sectors of a read or of the read ahead of a write; true where a path was fetched. A path on which the
command's outcome names a failed node is not cached. -/
def Module.treeRead (ss : List Nat) (bad : Bool) (m : Module) : Bool × Bool × Module :=
  let go (r : Bool × Bool × SMap Tree) (s : Nat) : Bool × Bool × SMap Tree :=
    let x := treeAccess m.nodeKeys m.hbm.ctr s r.2.2
    (r.1 || x.1, r.2.1 && x.2.1, x.2.2)
  let r := ss.foldl go (false, true, m.hbm.trees)
  (r.1, r.2.1, if bad && r.1 then m else { m with hbm := { m.hbm with trees := r.2.2 } })

end Sys2Proof.Machine
end

