-- ==== Sys2Proof/Machine/Protect.lean ====
section
/-! DEFINITION. Machine/Protect.lean: inline protection of HBM sectors (R342, R343): what a write stores, the ciphertext of
the sector with its check bits, and what a read of stored bits finds. -/

namespace Sys2Proof.Machine

/-- R342: AES-256 counter mode over the four blocks of a sector; the counter block holds CTR, the sector number and j. The
same function decrypts. -/
def sectorCipher (key : List Byte) (s ctr : Nat) (bs : List Byte) : List Byte :=
  (List.range 4).flatMap (fun j => xorBytes ((bs.drop (16 * j)).take 16)
    (aesEnc key (beBytes 16 (ctr % 2 ^ 64 * 2 ^ 64 + s % 2 ^ 32 * 2 ^ 32 + j))))

/-- R343: TAG, most significant byte first. -/
def sectorTag (key : List Byte) (s ctr : Nat) (cipher : List Byte) : List Byte :=
  beBytes 5 ((cmac key (beBytes 4 s ++ beBytes 8 ctr ++ cipher)).toNat / 2 ^ 88)

/-! ### CHECK (R343). The manual gives the code's field size, its length and its number of check symbols. PRESUMED: the field
of AES, the element 3 as generator, the generator polynomial (x + 1)(x + 3)(x + 5) with roots 3^0, 3^1, 3^2, and the first
byte at the highest degree. -/

/-- One step of the division by x^3 + 7 x^2 + 9 x + 15; the remainder from its highest coefficient on. -/
def rsStep (r : Byte × Byte × Byte) (b : Byte) : Byte × Byte × Byte :=
  let f := b ^^^ r.1
  (r.2.1 ^^^ gmul f 7#8, r.2.2 ^^^ gmul f 9#8, gmul f 15#8)

/-- The three check symbols of 69 bytes. -/
def rsCheck (bs : List Byte) : List Byte :=
  let r := bs.foldl rsStep (0#8, 0#8, 0#8)
  [r.1, r.2.1, r.2.2]

/-- The value of a word at a root. -/
def rsAt (root : Byte) (w : List Byte) : Byte := w.foldl (fun a b => gmul a root ^^^ b) 0#8

/-- R343: a word of 72 symbols as CHECK leaves it, and whether it corrected a byte; none where it finds an error that it
cannot correct. -/
def rsFix (w : List Byte) : Option (List Byte × Bool) :=
  let s0 := rsAt 1#8 w
  let s1 := rsAt 3#8 w
  let s2 := rsAt 5#8 w
  if s0 = 0 ∧ s1 = 0 ∧ s2 = 0 then some (w, false)
  else
    let fixed (d : Nat) : List Byte := setNth w (71 - d) (nth 0#8 w (71 - d) ^^^ s0)
    match (List.range 72).find? (fun d => rsAt 3#8 (fixed d) == 0 && rsAt 5#8 (fixed d) == 0) with
    | some d => if s0 = 0 then none else some (fixed d, true)
    | none => none

/-! ### Stored sectors -/

/-- R342, R343: what a write stores of a sector: ciphertext, and above it TAG and CHECK. -/
def storedBits (eKey tKey : List Byte) (s ctr : Nat) (plain : List Byte) : BitVec 576 :=
  let c := sectorCipher eKey s ctr plain
  let t := sectorTag tKey s ctr c
  BitVec.ofNat 576 (leNat c + (beNat t * 2 ^ 24 + beNat (rsCheck (c ++ t))) * 2 ^ 512)

/-- The bits that stand for a sector of HBM that was written in its epoch. -/
def Module.stored (m : Module) (s : Nat) : BitVec 576 :=
  let d := designSector s
  storedBits (m.sectorKey d) (m.tagKeyOf d) s (sget 0 m.hbm.ctr s) (readBytes m.hbm.bytes (64 * s) 64)

/-- R343, R346: what a read of stored bits finds: first CHECK, then TAG; a correction before a failed tag is not counted
(R348). A sector of the counter region has CHECK alone. With the plaintext of a good read. -/
def readBits (eKey tKey : List Byte) (s ctr : Nat) (raw : BitVec 576) : SectorCheck × List Byte :=
  let bits := raw.toNat / 2 ^ 512
  match rsFix (leBytes 64 raw.toNat ++ beBytes 8 bits) with
  | none => (.failed 1, [])
  | some (w, fixed) =>
    let c := w.take 64
    let found : SectorCheck := if fixed then .corrected else .good
    if hbmTop / 64 ≤ s then (found, c)
    else if sectorTag tKey s ctr c = (w.drop 64).take 5 then (found, sectorCipher eKey s ctr c)
    else (.failed 0, [])

/-- The outcome of a check: the one that a command names, or what the bits that the stack returns show; those then are what
the sector holds. -/
def Module.outcome (chk : SectorCheck) (s : Nat) (m : Module) : SectorCheck × Module :=
  match chk with
  | .stands raw =>
    let d := designSector s
    let r := readBits (m.sectorKey d) (m.tagKeyOf d) s (sget 0 m.hbm.ctr s) raw
    match r.1 with
    | .failed k => (.failed k, m)
    | f => (f, if hbmTop / 64 ≤ s then m else { m with hbm := { m.hbm with bytes := writeBytes m.hbm.bytes (64 * s) r.2 } })
  | c => (c, m)

end Sys2Proof.Machine
end

