-- ==== Sys2Proof/Machine/Regs.lean ====
section
/-! DEFINITION. Machine/Regs.lean: the dictionary entries that are held as registers, by number, with their defaults
(R386-R391), and the operations that read and write one. -/

namespace Sys2Proof.Machine

/-- The key of entry index.subindex. -/
def ent (index sub : Nat) : Nat := 256 * index + sub

def rPaceCfg : Nat := ent 0x2100 0x02
def rPaceOverrun : Nat := ent 0x2100 0x03
def rCadMerged : Nat := ent 0x2100 0x04
def rCadPtpStart : Nat := ent 0x2100 0x06
def rCadPtpPeriod : Nat := ent 0x2100 0x07
def rClkPulseMerged : Nat := ent 0x2100 0x08
def rStallRepair : Nat := ent 0x2100 0x10
def rStallStatic : Nat := ent 0x2100 0x11
def rStallMem : Nat := ent 0x2100 0x12
def rStallPressure : Nat := ent 0x2100 0x13
def rStallPush : Nat := ent 0x2100 0x14
def rPhase1 : Nat := ent 0x2100 0x15
def rStallTrace : Nat := ent 0x2100 0x16
def rStallReply : Nat := ent 0x2100 0x17
def rExecuted : Nat := ent 0x2100 0x18
def rBoundary : Nat := ent 0x2100 0x19
def rStallCycles : Nat := ent 0x2100 0x1A
def rEffFactor : Nat := ent 0x2100 0x1B
def rEffWorst : Nat := ent 0x2100 0x1C
def rEffOwn : Nat := ent 0x2100 0x1D
def rEffOwnWorst : Nat := ent 0x2100 0x1E
def rStitchSlot : Nat := ent 0x2100 0x20
def rStitchGuard : Nat := ent 0x2100 0x21
def rLateTokens : Nat := ent 0x2100 0x22
def rLastRound : Nat := ent 0x2100 0x24
def rBarrier : Nat := ent 0x2100 0x25
def rOverruns : Nat := ent 0x2100 0x26
def rUnderruns : Nat := ent 0x2100 0x27
def rDclkCfg (k : Nat) : Nat := ent 0x2101 k
def rDclkTime (k : Nat) : Nat := ent 0x2102 k
def rLoadPurpose : Nat := ent 0x2200 0x01
def rReload : Nat := ent 0x2200 0x02
def rLoadOffset : Nat := ent 0x2200 0x03
def rLoadResult : Nat := ent 0x2200 0x10
def rLoadFailOffset : Nat := ent 0x2200 0x11
def rLoadFailCount : Nat := ent 0x2200 0x12
def rPredFactor : Nat := ent 0x2200 0x13
def rWalkPasses : Nat := ent 0x2200 0x20
def rWalkLast : Nat := ent 0x2200 0x21
def rWalkFound : Nat := ent 0x2200 0x22
def rStartupSeq : Nat := ent 0x2300 0x01
def rDoneTimeout : Nat := ent 0x2300 0x02
def rTxnLead : Nat := ent 0x2400 0x02
def rApplyHoldMax : Nat := ent 0x2400 0x03
def rWinSlot : Nat := ent 0x2400 0x04
def rPulseDropped : Nat := ent 0x2400 0x05
def rTipStatus : Nat := ent 0x2400 0x11
def rChanCfg (c : Nat) : Nat := ent 0x2501 c
def rChanDeadline (c : Nat) : Nat := ent 0x2502 c
def rChanOverrun (c : Nat) : Nat := ent 0x2503 c
def rChanStatus (c : Nat) : Nat := ent 0x2504 c
def rDeadlineMisses (c : Nat) : Nat := ent 0x2505 c
def rFolioCmp0 : Nat := ent 0x2600 0x04
def rFolioCmp1 : Nat := ent 0x2600 0x05
def rStallLimit : Nat := ent 0x2600 0x06
def rLastFireFolio : Nat := ent 0x2600 0x07
def rLastLines : Nat := ent 0x2600 0x08
def rCsigChan : Nat := ent 0x2600 0x09
def rTrigTerm (t : Nat) : Nat := ent 0x2601 t
def rMcSelect (m : Nat) : Nat := ent 0x2602 m
def rMcCfg (m : Nat) : Nat := ent 0x2603 m
def rTrigInCfg (k : Nat) : Nat := ent 0x2604 k
def rTrigOutCfg (k : Nat) : Nat := ent 0x2605 k
def rCapMode : Nat := ent 0x2610 0x01
def rCapPre : Nat := ent 0x2610 0x02
def rCapPost : Nat := ent 0x2610 0x03
def rCapWindows : Nat := ent 0x2610 0x04
def rCapProd : Nat := ent 0x2610 0x08
def rCapCons : Nat := ent 0x2610 0x09
def rMissedTriggers : Nat := ent 0x2610 0x0A
def rCapFirstLoss : Nat := ent 0x2610 0x0B
def rMaskBase : Nat := ent 0x2620 0x01
def rMaskCount : Nat := ent 0x2620 0x02
def rMaskStart : Nat := ent 0x2620 0x03
def rMaskCtrl : Nat := ent 0x2620 0x04
def rMaskFailFolio : Nat := ent 0x2620 0x06
def rMaskFailCount : Nat := ent 0x2620 0x08
def rMaskViolations : Nat := ent 0x2620 0x09
def rMaskWait : Nat := ent 0x2620 0x0A
def rTraceCtrl : Nat := ent 0x2700 0x01
def rTraceCores : Nat := ent 0x2700 0x02
def rTraceStopFolios : Nat := ent 0x2700 0x03
def rTraceWptr : Nat := ent 0x2700 0x06
def rTraceTrigFolio : Nat := ent 0x2700 0x07
def rTraceDroppedA : Nat := ent 0x2700 0x08
def rTraceDroppedB : Nat := ent 0x2700 0x09
def rTracePeak : Nat := ent 0x2700 0x0A
def rInitSel : Nat := ent 0x2800 0x01
def rNpTimeout : Nat := ent 0x2800 0x03
def rNocParity : Nat := ent 0x2800 0x20
def rBadOp : Nat := ent 0x2800 0x21
def rMsgDropped : Nat := ent 0x2800 0x22
def rTagsPeak : Nat := ent 0x2800 0x24
def rXoverrun : Nat := ent 0x2800 0x30
def rXmerged : Nat := ent 0x2800 0x31
def rModroute (n : Nat) : Nat := ent 0x2810 n
def rAutoswitch : Nat := ent 0x3000 0x03
def rDomnum (d : Nat) : Nat := ent 0x3001 (d + 1)
def rPortAsym (p : Nat) : Nat := ent 0x3002 (p + 1)
/-- The sticky bits of HEALTH_STATUS: [7] LOG_OVERRUN, [6] COLL_FAIL (R376). -/
def rHealthSticky : Nat := ent 0x3100 0x01
def rLogReadSeq : Nat := ent 0x3100 0x03
def rLogLost : Nat := ent 0x3100 0x05
def rLogUnstored : Nat := ent 0x3100 0x06
def rScrubTarget : Nat := ent 0x3110 0x01
def rScrubFirst : Nat := ent 0x3110 0x02
def rScrubLast : Nat := ent 0x3110 0x03
def rScrubState : Nat := ent 0x3110 0x05
def rScrubWords : Nat := ent 0x3110 0x06
def rScrubErrors : Nat := ent 0x3110 0x07
def rScrubEssential : Nat := ent 0x3110 0x08
def rScrubRepairs : Nat := ent 0x3110 0x09
def rScrubFirstFail : Nat := ent 0x3110 0x0A
def rScrubLastFail : Nat := ent 0x3110 0x0B
def rCollCtrl : Nat := ent 0x3200 0x01
def rCollTested (a : Nat) : Nat := ent 0x3201 (a + 1)
def rCollEligible (a : Nat) : Nat := ent 0x3202 (a + 1)
def rCollFails (a : Nat) : Nat := ent 0x3203 (a + 1)
def rCollPasses (a : Nat) : Nat := ent 0x3204 (a + 1)
def rStoreReadSel : Nat := ent 0x3300 0x06
def rMemPolicy : Nat := ent 0x3400 0x10
def rMacFails : Nat := ent 0x3400 0x11
def rMemCorrected : Nat := ent 0x3400 0x13
def rLastFailAddr : Nat := ent 0x3400 0x14
def rThermWarn : Nat := ent 0x3500 0x02
def rPowerPeak : Nat := ent 0x3500 0x04
def rEnergy : Nat := ent 0x3500 0x05
def rBankCfg (b : Nat) : Nat := ent 0x3500 (0x60 + b)
def rBundleCfg (b : Nat) : Nat := ent (0x5000 + 0x20 * b) 0x01
def rQuietIdle (b : Nat) : Nat := ent (0x5000 + 0x20 * b) 0x03
def rSkewPeak (b : Nat) : Nat := ent (0x5000 + 0x20 * b) 0x05
def rReplaysS (b : Nat) : Nat := ent (0x5000 + 0x20 * b) 0x06
def rReplaysP (b : Nat) : Nat := ent (0x5000 + 0x20 * b) 0x07
def rReplaysPrio (b : Nat) : Nat := ent (0x5000 + 0x20 * b) 0x08

/-- All ones of 64 bits, the value of an entry that names no folio or address. -/
def ones64 : Nat := 2 ^ 64 - 1

/-- R390: the default of an entry, where it is other than zero. -/
def nonzeroDefaults : List (Nat × Nat) :=
  [(rPaceCfg, 1), (rCadPtpPeriod, 1000000), (rStitchGuard, 16), (rBarrier, 2000), (rStartupSeq, 0x4321),
   (rDoneTimeout, 10000), (rTxnLead, 2), (rWinSlot, 0xFF), (rFolioCmp0, ones64), (rFolioCmp1, ones64),
   (rCapFirstLoss, ones64), (rMaskCount, 1), (rMaskFailFolio, ones64), (rTraceTrigFolio, ones64),
   (rNpTimeout, 8000), (rAutoswitch, 1), (rDomnum 1, 1), (rScrubFirstFail, ones64), (rScrubLastFail, ones64),
   (rCollCtrl, 0xF), (rThermWarn, 100), (ent 0x1100 0x05, 24), (ent 0x1100 0x06, 24)]

/-- R390: the default of an entry by its key. DCLK_TIME has PERIOD 1 (R101), BUNDLE_CFG has ERR_LIMIT 16 and
QUIET_IDLE is 2,000 (R310). -/
def regDefault (key : Nat) : Nat :=
  let index := key / 256
  let sub := key % 256
  if index = 0x2102 ∧ sub < 64 then 0x10000
  else if 0x5000 ≤ index ∧ index < 0x5280 ∧ index % 32 = 0 then
    (if sub = 1 then 16 else if sub = 3 then 2000 else 0)
  else (sfind nonzeroDefaults key).getD 0

/-- Read a register. -/
def Module.reg (m : Module) (key : Nat) : Nat := sget (regDefault key) m.regs key

/-- Write a register. -/
def Module.setReg (m : Module) (key v : Nat) : Module :=
  { m with regs := sset (regDefault key) m.regs key v }

/-- Write several registers, in order. -/
def Module.setRegs (m : Module) (kvs : List (Nat × Nat)) : Module := kvs.foldl (fun m e => m.setReg e.1 e.2) m

/-- R391: add to a saturating counter of `width` bits. -/
def Module.satReg (m : Module) (width key n : Nat) : Module := m.setReg key (satAdd width (m.reg key) n)

/-- R391: add to a 48-bit statistics counter, which wraps and sets its wrap flag in bit 63. -/
def stat48 (v n : Nat) : Nat :=
  let x := v % 2 ^ 48 + n
  x % 2 ^ 48 + (if 2 ^ 48 ≤ x ∨ 2 ^ 63 ≤ v then 2 ^ 63 else 0)

def Module.statReg (m : Module) (key n : Nat) : Module := m.setReg key (stat48 (m.reg key) n)

/-- Registers that every start of either kind returns to their default: counters "since the start", saturating counters
(R391), and the registers whose own rule names a start (R111, R118, R186, R196, R230, R247, R419). -/
def clearedAtStart (key : Nat) : Bool :=
  let index := key / 256
  let sub := key % 256
  (index = 0x2100 && ((3 ≤ sub && sub ≤ 4) || sub = 8 || (0x10 ≤ sub && sub ≤ 0x1E) || (0x22 ≤ sub && sub ≤ 0x24)
      || sub = 0x26 || sub = 0x27))
  || (index = 0x2200 && (0x20 ≤ sub && sub ≤ 0x22))
  || (index = 0x2400 && (sub = 3 || sub = 5 || sub = 0x11))
  || (0x2503 ≤ index && index ≤ 0x2505)
  || key = rMissedTriggers || key = rMaskViolations || key = rMaskWait
  || key = rTraceDroppedA || key = rTraceDroppedB
  || key = rNocParity || key = rBadOp || key = rMsgDropped || key = rTagsPeak || key = rXmerged
  || key = rLogLost || key = rLogUnstored
  || key = rMacFails || key = rMemCorrected
  || key = rPowerPeak
  || (0x5000 ≤ index && index < 0x5280 && index % 32 = 0 && (5 ≤ sub && sub ≤ 8))

/-- The registers after a warm start: those that every start clears read their default again, MASK_CTRL has EN 0
(R247), and the load entries that entry to LOAD sets are set there (R319). -/
def Module.clearStartRegs (m : Module) : Module :=
  let m1 := { m with regs := m.regs.filter (fun e => !clearedAtStart e.1) }
  -- R391: the wrap flag of ENERGY ends
  (m1.setReg rMaskCtrl (m1.reg rMaskCtrl / 2 * 2)).setReg rEnergy (m1.reg rEnergy % 2 ^ 63)

end Sys2Proof.Machine
end

