-- ==== Sys2Proof/Machine/Ops.lean ====
section
/-! DEFINITION. Machine/Ops.lean: the named operations shared by many commands: the event log, messages that leave the
module, mode transitions, the fault freeze, LOCKDOWN and what they discard. -/

namespace Sys2Proof.Machine

/-- Answer a next state whose module is `m`; the queue of waiting commands is untouched. -/
def State.withMod (s : State) (m : Module) : State := { s with mod := m }

/-- The outcome of a meaning that always goes on. -/
def goOn (f : Module → Module) (s : State) : Host.Outcome State Fault Refusal := .next (s.withMod (f s.mod))

/-! ### Event log (R377-R380, R421) -/

/-- R421: items packed from bit p upwards; the item that passes bit 63 keeps the bits that fit and ends the packing. -/
def packFrom : Nat → List (Nat × Nat) → Nat
  | _, [] => 0
  | p, (w, v) :: t =>
    if p + w ≤ 64 then (v % 2 ^ w) * 2 ^ p + packFrom (p + w) t else (v % 2 ^ (64 - p)) * 2 ^ p

def packArgs (items : List (Nat × Nat)) : BitVec 64 := BitVec.ofNat 64 (packFrom 0 items)

/-- R284: raise an MSI-X vector; R281: MSI-X writes are what the module sends on the link. -/
def Module.msix (v : Nat) (m : Module) : Module :=
  { m with fabric := { m.fabric with msixRaised := smod 0 m.fabric.msixRaised v (· + 1) },
           outbox := .msix v :: m.outbox }

/-- SOURCE of the steward (R378) and die codes of H, L0 and L1 (R262). -/
def srcSteward : Nat := 15
def dieH : Nat := 8
def dieL0 : Nat := 9
def dieL1 : Nat := 10

/-- R379: nothing is logged at a cold start before STORE_MOUNTED. -/
def Module.logOpen (m : Module) : Bool := !(m.start.running && m.ctl.cold && !m.start.storeMounted)

/-- R379: a new entry waits in the 16-entry queue of its source; one that finds the queue full is lost. -/
def Module.log (code : Nat) (source : Nat) (items : List (Nat × Nat)) (m : Module) : Module :=
  if m.logOpen then
    let q := sget [] m.stew.logQ source
    if q.length < 16 then
      let e : LogEntry := { code := BitVec.ofNat 16 code, source := source, seq := 0, folio := m.seq.folio,
                            time := m.stew.now, arg := packArgs items }
      { m with stew := { m.stew with logQ := sset [] m.stew.logQ source (q ++ [e]) } }
    else
      let m1 := m.satReg 32 rLogLost 1
      m1.setReg rHealthSticky (m1.reg rHealthSticky ||| 0x80)
  else m

/-- R379: the queue served next: the first with entries after the one served last, in the order of SOURCE. -/
def nextLogSource (q : SMap (List LogEntry)) (last : Nat) : Option Nat :=
  match q.find? (fun e => last < e.1) with
  | some e => some e.1
  | none => q.head?.map (·.1)

/-- R379: one entry moves from its queue into the ring and takes the next SEQ; MSI-X vector 1 is raised. An entry that
the ring overwrites before a flush counts in LOG_UNSTORED. -/
def Module.logMove (m : Module) : Module :=
  match nextLogSource m.stew.logQ m.stew.lastServed with
  | none => m
  | some src =>
    match sget [] m.stew.logQ src with
    | [] => m
    | e :: rest =>
      let full := m.stew.ring.length ≥ 4096
      let unst := full && (m.stew.ring.getLast?.map (fun o => decide (m.stew.flushed ≤ o.seq))).getD false
      let st := m.stew
      let m1 := { m with stew := { st with logQ := sset [] st.logQ src rest, lastServed := src,
                                           logNext := st.logNext + 1,
                                           ring := { e with seq := st.logNext } :: st.ring.take 4095 } }
      (if unst then m1.satReg 32 rLogUnstored 1 else m1).msix 1

/-- Every waiting entry moves into the ring: for events of one command that the hardware raises many cycles apart. -/
def Module.logDrain (m : Module) : Module :=
  let n := m.stew.logQ.foldl (fun a e => a + e.2.length) 0
  (List.range n).foldl (fun m _ => m.logMove) m

/-- Log an event at its first occurrence after each start only. -/
def Module.logFirst (code source : Nat) (items : List (Nat × Nat)) (m : Module) : Module :=
  if m.start.firstLogged.contains code then m
  else ({ m with start := { m.start with firstLogged := code :: m.start.firstLogged } }).log code source items

/-- Append a message to what the module has sent. -/
def Module.send (o : OutMsg) (m : Module) : Module := { m with outbox := o :: m.outbox }

/-! ### Answers to dictionary requests (R360-R364). Paths: 0 mailbox, 1 MGT0, 2 MGT1; a source is IPv4 address * 65,536 + UDP
port. -/

def frameHead (frame : List Byte) : Nat := leNat (frame.take 32)
def hOp (h : Nat) : Nat := bitsOf h 247 240
def hPriv (h : Nat) : Nat := bitsOf h 239 238
def hIndex (h : Nat) : Nat := bitsOf h 231 216
def hSub (h : Nat) : Nat := bitsOf h 215 208
def hLen (h : Nat) : Nat := bitsOf h 191 176
def hSeq (h : Nat) : Nat := bitsOf h 175 144
def hNonce (h : Nat) : Nat := bitsOf h 143 80

def uidNum : Nat := if Config.is64S then Config.uid.toNat else 0
def pciIds : Nat := 0xC0081FD8

/-- R386, R396: SERIAL, ASCII 0x20 to 0x7E, padded at the end with 0x00. -/
def serialBytes : List Byte :=
  let n := Config.serialLength % 17
  (List.range 16).map (fun i => if i < n then BitVec.ofNat 8 (0x20 + Config.serialChar i % 95) else 0#8)

/-- R397: the IDENTITY record. -/
def identityRecord : List Byte :=
  leBytes 2 0x0F2D ++ leBytes 2 0xC008 ++ leBytes 1 Config.stepping ++ [if Config.is64S then 1#8 else 0#8] ++ leBytes 2 0
    ++ leBytes 16 uidNum ++ serialBytes ++ leBytes 4 pciIds ++ leBytes 4 Config.firmware.toNat ++ leBytes 16 0

/-- R362: the key of a privilege's tag. -/
def Module.tagKey (m : Module) (priv : Nat) : Option (List Byte) :=
  if priv = 1 then m.sec.adminKey.map keyBytes
  else if priv = 2 then some (kdf (keyBytes Config.rootKey) "OND8-V" identityRecord)
  else none

def tagOf (key body : List Byte) : List Byte := (hmac384 key body).take 16

/-- R360, R361, R362: the response to a request: the value read when a READ is answered OK. -/
def Module.response (m : Module) (h status : Nat) : List Byte :=
  let data := if hOp h = 1 ∧ status = 0 then m.stew.lastRead else []
  let head := 2 ^ 248 + (hOp h ||| 0x80) * 2 ^ 240 + hPriv h * 2 ^ 238 + hIndex h * 2 ^ 216 + hSub h * 2 ^ 208 + status % 256 * 2 ^ 200
    + data.length * 2 ^ 176 + hSeq h * 2 ^ 144 + hNonce h * 2 ^ 80
  let body := leBytes 32 head ++ data
  match m.tagKey (hPriv h) with
  | some key => body ++ tagOf key body
  | none => body

/-- R360, R363: a response leaves: in the response area with REPLY, BUSY and vector 0, or as a datagram to its source. -/
def Module.deliver (path source : Nat) (frame : List Byte) (m : Module) : Module :=
  if path = 0 then ({ m with stew := { m.stew with rspArea := frame, mbBusy := false, mbReply := true } }).msix 0
  else m.send (.datagram (path - 1) (source / 65536) (source % 65536) frame)

/-- R364: the last 16 responses of a source are kept. -/
def Module.keepReply (path source h : Nat) (frame : List Byte) (m : Module) : Module :=
  let k : Kept := { path := path, source := source, seq := hSeq h, nonce := hNonce h, at_ := m.stew.up, frame := frame }
  let mine (x : Kept) : Bool := x.path == path && x.source == source
  { m with stew := { m.stew with kept := k :: ((m.stew.kept.filter mine).take 15 ++ m.stew.kept.filter (fun x => !mine x)) } }

/-- The answer to a request. -/
def Module.reply (path source h status : Nat) (m : Module) : Module :=
  let f := m.response h status
  (m.keepReply path source h f).deliver path source f

/-- R361: the STATUS a dictionary request is answered with. -/
def Module.answer (st : Nat) (m : Module) : Module := { m with stew := { m.stew with lastStatus := BitVec.ofNat 8 st } }

def stOK : Nat := 0x00
def stNoEntry : Nat := 0x01
def stAccess : Nat := 0x02
def stPrivilege : Nat := 0x03
def stRefused : Nat := 0x04
def stMode : Nat := 0x05
def stRetry : Nat := 0x06
def stAuth : Nat := 0x07
def stBadFrame : Nat := 0x08
def stBusy : Nat := 0x09
def stNoRecord : Nat := 0x0A
def stModeRefused : Nat := 0x0B
/-- MODEL: the answer waits (R339, R346). -/
def stPending : Nat := 0xFF

/-- The request whose answer waits is answered with a STATUS that a start, LOCKDOWN or the store gives it. -/
def Module.endWait (st : Nat) (m : Module) : Module :=
  let m1 := if m.stew.lastStatus.toNat = stPending then m.answer st else m
  match m1.stew.waitingReq with
  | some (path, source, frame) =>
    ({ m1 with stew := { m1.stew with waitingReq := none } }).reply path source (frameHead frame) st
  | none => m1

/-- Whether the request whose answer waits names an entry. -/
def Module.waitsFor (m : Module) (index sub : Nat) : Bool :=
  match m.stew.waitingReq with
  | some (_, _, frame) => hIndex (frameHead frame) == index && hSub (frameHead frame) == sub
  | none => false

/-- R29, R359: in LOCKDOWN the requests that wait are answered MODE at once; a write of MEM_POLICY keeps its answer, since
the store it waits for works on. -/
def Module.lockRequests (m : Module) : Module :=
  let q := m.stew.reqQ
  let m1 := if m.waitsFor 0x3400 0x10 then m else m.endWait stMode
  q.foldl (fun (m : Module) (r : Nat × Nat × List Byte) => m.reply r.1 r.2.1 (frameHead r.2.2) stMode)
    { m1 with stew := { m1.stew with reqQ := [] } }

/-- Mark a happening for the trigger array (R234), by input number. -/
def Module.happen (input : Nat) (m : Module) : Module :=
  { m with seq := { m.seq with happened := m.seq.happened ||| BitVec.ofNat 64 (2 ^ input) } }

/-! ### Time -/

/-- The domain that the local time follows (R369). -/
def Steward.lead (w : Steward) : Int := (nth Domain.init w.domains w.active).ahead

/-- R366: an even part of a difference of times, since the local time moves in steps of 2 ns. -/
def even2 (d : Int) : Int := 2 * (d / 2)

/-- R366, R369: the local time moves; the domains' lead over it keeps its meaning. -/
def Steward.move (delta : Int) (w : Steward) : Steward :=
  let d := even2 delta
  { w with now := ((w.now : Int) + d).toNat, domains := w.domains.map (fun x => { x with ahead := x.ahead - d }) }

/-- R369: a slew at 100 ppm, 2 ns in 20,000 cycles, that does not pass the active domain's time. -/
def slewSpan : Nat := 20000

def slewStep (quanta : Nat) (ahead : Int) : Int :=
  let most : Int := 2 * (quanta : Int)
  if most < ahead then most else if ahead < -most then -most else ahead

/-- R366, R369: n cycles of the step clock pass (R107: 1 ns each); the local time, of 2 ns resolution, counts on and is slewed
while a change of domain lasts. -/
def Steward.pass (n : Nat) (w : Steward) : Steward :=
  let up := w.up + n
  let w1 := { w with up := up, now := w.now + 2 * (up / 2 - w.up / 2) }
  if w.slewing then w1.move (slewStep (up / slewSpan - w.up / slewSpan) w.lead) else w1

/-- The step-clock cycles that pass, and the local time with them. -/
def Module.cycles (n : Nat) (m : Module) : Module :=
  { m with stew := m.stew.pass n, seq := { m.seq with cycle := m.seq.cycle + n } }

/-- R115: the first event of START + k * PERIOD that is not past. -/
def Module.firstCadence (m : Module) : Nat :=
  let period := max 1 (m.reg rCadPtpPeriod)
  (m.stew.now - m.reg rCadPtpStart + period - 1) / period

/-! ### Segment words (R95) -/

def segCond (w : Nat) : Nat := bitsOf w 63 62
def segEnd (w : Nat) : Bool := bitOf w 61
def segSel (w : Nat) : Nat := bitsOf w 57 52
def segQuarter (w : Nat) : Nat := bitsOf w 53 52
def segNext (w : Nat) : Nat := bitsOf w 51 44
def segFirst (w : Nat) : Nat := bitsOf w 26 16
def segLast (w : Nat) : Nat := bitsOf w 10 0

/-! ### Stall requests (R109) -/

/-- A stall request raised by the step that issues now; at the end of the step its age is 1. -/
def Module.raiseStall (c : StallCause) (m : Module) : Module :=
  if m.seq.stalls.any (fun s => decide (s.cause = c)) then m
  else { m with seq := { m.seq with stalls := m.seq.stalls ++ [{ cause := c, age := 0 }] } }

/-! ### Trace packets and the funnel (R253-R258) -/

/-- R253: a trace packet. -/
def tracePkt (src ty delta body : Nat) : BitVec 128 :=
  BitVec.ofNat 128 (src % 64 * 2 ^ 122 + ty % 8 * 2 ^ 119 + delta % 2 ^ 24 * 2 ^ 95 + body % 2 ^ 95)

def Module.source (m : Module) (src : Nat) : TraceSrc := sget TraceSrc.init m.trace.sources src
def Module.setSource (src : Nat) (x : TraceSrc) (m : Module) : Module :=
  { m with trace := { m.trace with sources := sset TraceSrc.init m.trace.sources src x } }

/-- R257: occupancy below which a packet of a source is admitted. -/
def Module.traceLimit (m : Module) (src : Nat) : Nat :=
  if src = 0 then (if bitOf (m.reg rTraceCtrl) 2 then 1024 else 1008) else if src = 1 then 1024 else 512

/-- R258: the occupancy at which the funnel asks for a stall. -/
def traceFull : Nat := 640

/-- R258: with ASTALL = 1 the funnel's stall request stands whenever the FIFO stands at 640 or more. -/
def Module.traceStall (m : Module) : Module :=
  if traceFull ≤ m.trace.fifo.length ∧ bitOf (m.reg rTraceCtrl) 2 then m.raiseStall .traceA else m

/-- R256, R258: a packet enters the FIFO. -/
def Module.tracePush (p : BitVec 128) (m : Module) : Module :=
  let f := m.trace.fifo ++ [p]
  ({ m with trace := { m.trace with fifo := f } }.setReg rTracePeak (max (m.reg rTracePeak) f.length)).traceStall

/-- R257: a packet of a source is dropped; TRACE_GAP (0x0611) at the first drop of its class since trace started. The
funnel's own packets belong to no class. -/
def Module.traceDrop (src : Nat) (m : Module) : Module :=
  if src = 1 then m
  else
    let x := m.source src
    let key := if src = 0 then rTraceDroppedA else rTraceDroppedB
    let first := m.reg key = 0
    let m1 := (m.setSource src { x with lost := satAdd 32 x.lost 1 }).satReg 32 key 1
    if first then m1.log 0x0611 dieH [] else m1

/-- R253: a packet of a source of time t takes the cycles since the source's last packet; a full FIFO drops it. -/
def Module.tracePut (src ty body t : Nat) (m : Module) : Module :=
  let x := m.source src
  if m.trace.fifo.length < m.traceLimit src then
    let x1 : TraceSrc := { x with last := t, sinceSync := if ty = 2 then 0 else x.sinceSync + 1,
                                  needSync := if ty = 2 then false else x.needSync }
    (m.setSource src x1).tracePush (tracePkt src ty (t - x.last) body)
  else m.traceDrop src

/-- R253: bodies of SYNC and GAP. -/
def syncBody (addr folio : Nat) : Nat := addr * 2 ^ 71 + folio % 2 ^ 64
def gapBody (lost : Nat) : Nat := lost * 2 ^ 63

/-- R253, R255: a SYNC of a source; a class A packet sets the folio from which FDELTA counts. -/
def Module.syncPut (src addr folio t : Nat) (m : Module) : Module :=
  let m1 := m.tracePut src 2 (syncBody addr folio) t
  if m.trace.fifo.length < m.traceLimit src then m1.setSource src { m1.source src with lastFolio := folio } else m1

/-- R257: a source with packets lost emits GAP and its SYNC, both or neither. -/
def Module.traceGap (src addr folio t : Nat) (m : Module) : Module :=
  let x := m.source src
  if 0 < x.lost ∧ m.trace.fifo.length + 1 < m.traceLimit src then
    ((m.setSource src { x with lost := 0 }).tracePut src 3 (gapBody x.lost) t).syncPut src addr folio t
  else m

/-- R255, R257: what goes ahead of the next packet of a source: a GAP and its SYNC where it lost packets, a SYNC where one
is due. `addr` and `folio` are those of the SYNC. -/
def Module.traceLead (src addr folio t : Nat) (m : Module) : Module :=
  let m1 := m.traceGap src addr folio t
  let x := m1.source src
  if x.lost = 0 ∧ (x.needSync ∨ 256 ≤ x.sinceSync) then m1.syncPut src addr folio t else m1

/-- R257: a source offers a packet of time t; it is dropped while a GAP is owed. -/
def Module.traceOffer (src ty body t : Nat) (m : Module) : Module :=
  if 0 < (m.source src).lost then m.traceDrop src else m.tracePut src ty body t

/-- R255, R257: a source emits a packet of time t, with what goes ahead of it. -/
def Module.traceEmit (src ty body addr folio t : Nat) (m : Module) : Module :=
  (m.traceLead src addr folio t).traceOffer src ty body t

/-- The number that bits spell, bit 0 the oldest. -/
def bitsNat (bs : List Bool) : Nat := bs.zipIdx.foldl (fun a e => a + b2n e.1 * 2 ^ e.2) 0

/-- R253: BODY of a class B BRANCH. -/
def branchBody (bits : List Bool) : Nat := bits.length * 2 ^ 88 + bitsNat bits

/-- R254: a core's source ends its BRANCH packet, whose time and folio are those of its last recorded instruction (R253).
`pc` is the address of the next instruction. -/
def Module.endBranch (src pc : Nat) (m : Module) : Module :=
  let x := m.source src
  if x.bits.isEmpty then m
  else (m.setSource src { x with bits := [] }).traceEmit src 0 (branchBody x.bits) pc x.atFolio x.lastAt

/-- An address that no command names: a free value (R252: 18 bits). -/
def Module.freePc (m : Module) : Nat × Module :=
  ((Config.openWord m.sec.freeCtr).toNat % 2 ^ 18, { m with sec := { m.sec with freeCtr := m.sec.freeCtr + 1 } })

/-- R251: the first segment word that a walk from word i on records: an EDGE or JUMP word. -/
def Module.recordedFrom (m : Module) : Nat → Nat → Nat
  | 0, i => i
  | n + 1, i =>
    let w := (sget { bits := 0, par := 0 } m.seq.segs (2048 + i)).bits
    let nxt := if segNext w = 0 then i + 1 else segNext w
    if segCond w ≠ 0 ∨ segEnd w ∨ 255 < nxt then i else Module.recordedFrom m n nxt

/-- R253: ADDR of a SYNC outside a walk: for class A the index of the next word that a walk records, for class B the
address of the next instruction, which no command names. -/
def Module.syncAddr (src : Nat) (m : Module) : Nat × Module :=
  if src = 0 then (m.recordedFrom 256 0, m) else m.freePc

/-- R257: a source that lost packets and is offered room emits GAP and SYNC at time t, then the bits it holds. The manual
names the FOLIO of a class A SYNC within a walk only: outside one it is the folio count (DESIGN CHOICE). -/
def Module.gapOut (src t : Nat) (m : Module) : Module :=
  if 0 < (m.source src).lost ∧ m.trace.fifo.length + 1 < m.traceLimit src then
    let r := m.syncAddr src
    (r.2.endBranch src r.1).traceGap src r.1 m.seq.folio t
  else m

/-- R174, R176: base and packet slots of the trace region. -/
def Module.traceBase (m : Module) : Nat := m.image.trace / 65536 * 67108864
def Module.traceSlots (m : Module) : Nat := m.image.trace % 65536 * 2 ^ 22

/-- R256: packets in sectors of four: the HBM address of each sector and its four packets. Packet n since the start goes
to slot n of the region. -/
def Module.traceSectors (m : Module) (ps : List (BitVec 128)) : List (Nat × BitVec 512) :=
  (List.range (ps.length / 4)).map (fun i =>
    (m.traceBase + 16 * ((m.reg rTraceWptr + 4 * i) % m.traceSlots),
      nth 0 ps (4 * i + 3) ++ nth 0 ps (4 * i + 2) ++ nth 0 ps (4 * i + 1) ++ nth 0 ps (4 * i)))

/-- R342: a whole sector is written: its counter advances. -/
def Hbm.putSector (keys : Bool → List Byte) (h : Hbm) (a : Nat) (v : BitVec 512) : Hbm :=
  { h.written keys [a / 64] with bytes := writeBytes h.bytes a (leBytes 64 v.toNat) }

/-- R260, R261: the sources stop; held bits end their packets first, and losses are told. -/
def Module.stopSources (reason : Nat) (m : Module) : Module :=
  let m1 := (m.trace.sources.filter (fun e => 0x20 ≤ e.1)).foldl (fun (m : Module) (e : Nat × TraceSrc) => let r := m.freePc; r.2.endBranch e.1 r.1) m
  { m1 with trace := { m1.trace with stopReq := true, stopReason := reason, lastFolio := m1.seq.folio } }

/-- R256, R260, R261: the FIFO drains; then room allows the GAP of each source that lost packets; STOP, and PAD to the end
of the sector. `write` takes the packets to HBM. -/
def Module.traceFinish (write : List (BitVec 128) → Module → Module) (m : Module) : Module :=
  let told := (m.trace.sources.map (·.1)).foldl (fun m src => m.gapOut src m.seq.cycle) { m with trace := { m.trace with fifo := [] } }
  let ps := m.trace.fifo ++ told.trace.fifo ++ [tracePkt 1 5 0 (m.trace.stopReason * 2 ^ 64 + m.trace.lastFolio % 2 ^ 64)]
  let pad := List.replicate ((4 - ps.length % 4) % 4) (tracePkt 1 7 0 0)
  let m1 := write (ps ++ pad) told
  (({ m1 with trace := { m1.trace with fifo := [], sources := [], state := 3, stopReq := false } }).log 0x0610 dieH []).msix 5

/-! ### The mode controller (R24-R31) -/

/-- R31: a transition: PREV, CAUSE, MODE; RESUMABLE is set by the resumable freeze alone. R284: vector 3. -/
def Module.enter (mode : Mode) (cause : Nat) (m : Module) : Module :=
  ({ m with ctl := { m.ctl with prev := m.ctl.mode, mode := mode, cause := BitVec.ofNat 16 cause,
                                 resumable := false } }).msix 3

/-- A folio can run in this mode. -/
def Mode.running : Mode → Bool
  | .run | .step | .paced => true
  | _ => false

/-- A module of a system of more than one (R174). -/
def Module.inSystem (m : Module) : Bool := decide (1 < m.image.modules)

/-- R139: position 0 of its ring. -/
def Module.ringHead (m : Module) : Bool := m.disc.position == 0

/-- R139, R238: module 0x00. -/
def Module.sysHead (m : Module) : Bool := m.disc.modnum == 0

/-- The empty stitch token of folio N. -/
def Token.blank (folio kind : Nat) : Token :=
  { folio := folio, kind := kind, members := 0, trig := 0, txno := 0, txyes := 0, clkcrc := 0, clkmis := false,
    haltr := false, depart := false, reqok := false, masters := 0, pacego := false, target := 0, stepn := 0,
    lapns := 0, frzorg := 0, frzcode := 0 }

/-! ### Lanes and bundles by number -/

def Module.lane (m : Module) (l : Nat) : Lane := sget Lane.init m.lanes l
def Module.setLane (l : Nat) (x : Lane) (m : Module) : Module := { m with lanes := sset Lane.init m.lanes l x }
def Module.bundle (m : Module) (b : Nat) : Bundle := sget Bundle.init m.bundles b
def Module.setBundle (b : Nat) (x : Bundle) (m : Module) : Module := { m with bundles := sset Bundle.init m.bundles b x }

/-- R302: a lane trains in full, from DETECT. -/
def Lane.train (x : Lane) : Lane :=
  { x with phase := some .detect, attempts := 0, trained := false, failed := false, good := 0, noFar := true, farRate := none }

/-- R305: a bundle carries frames when it is up and Active. -/
def Bundle.carries (x : Bundle) : Bool := x.state == 1 && x.pstate == 0

/-- R305: a bundle leaves Quiet: the training burst is sent and frames resume. -/
def Module.leaveQuiet (b : Nat) (m : Module) : Module :=
  let x := m.bundle b
  if x.state = 1 ∧ x.pstate = 1 then (m.setBundle b { x with pstate := 0, busyAt := m.seq.cycle }).send (.burst b) else m

/-- R293, R305: a frame is handed to a bundle, which sends it in one of the coming frame periods; one that stands in Quiet
leaves it. -/
def Module.sendFrame (b : Nat) (f : TxFrame) (o : OutMsg) (m : Module) : Module :=
  let m1 := m.leaveQuiet b
  (m1.setBundle b { m1.bundle b with txq := (m1.bundle b).txq ++ [f] }).send o

/-- R303: the discovery record of a message; RING and COUNT are those of this module, or those that a token carries. -/
def Module.record (m : Module) (o : OutMsg) : Bringup :=
  let r : Bringup := { kind := 3, ring := m.disc.ring, count := m.disc.position, module := 0, nbr := [], sysid := 0, mods := 0,
                       imgnum := 0 }
  match o with
  | .disc _ kind ring count => { r with kind := kind, ring := ring, count := count }
  | .ident _ module sysid mods imgnum => { r with kind := 2, module := module, sysid := sysid, mods := mods, imgnum := imgnum }
  | .adj _ module nbr => { r with kind := 5, module := module, nbr := nbr }
  | .echoRsp _ => { r with kind := 4 }
  | _ => r

/-- R141, R291, R303: a token leaves in a PRIO frame, a discovery record in a BRINGUP frame. -/
def Module.prioBody (m : Module) (o : OutMsg) : LaneBody :=
  match o with
  | .token _ t => .prio false (BitVec.ofNat 464 (tokenBits t))
  | _ => .prio true (BitVec.ofNat 464 (bringupBits (m.record o)))

/-- R290, R297: a priority frame takes the next SEQ of its class and is kept until 8 later ones have been sent. -/
def Module.sendPrio (b : Nat) (o : OutMsg) (m : Module) : Module :=
  let x := m.bundle b
  let body := m.prioBody o
  (m.setBundle b { x with txPrio := (x.txPrio + 1) % 256, keepPrio := (x.txPrio, o, body) :: x.keepPrio }).sendFrame b
    { rank := 2, seq := x.txPrio, body := body } o

/-- R145, R287: send or forward a freeze flood on the ring link, and on the head link from a ring head; a ring of one module
has no ring link. -/
def Module.sendFlood (origin code : Nat) (m : Module) : Module :=
  let t : Token := { Token.blank m.seq.folio 4 with frzorg := origin, frzcode := BitVec.ofNat 16 code }
  let m1 := { m with disc := { m.disc with floods := (origin, code) :: m.disc.floods } }
  if m1.inSystem then
    let m2 := if m1.disc.ringSize ≠ 1 then m1.sendPrio 10 (.token 10 t) else m1
    if m2.ringHead && decide (1 < m2.disc.rings) then m2.sendPrio 11 (.token 11 t) else m2
  else m1

/-! ### Work in flight (R212) -/

/-- Reason codes of R194 used by several chapters. -/
def txnDiscarded : Nat := 0x0015

/-- R198: write one pre-image back into its sector. -/
def restoreSector (keys : Bool → List Byte) (h : Hbm) (e : Nat × BitVec 512) : Hbm := h.putSector keys e.1 e.2

/-- R198: rewrite the sectors a slot has written, newest first. -/
def rollback (keys : Bool → List Byte) (h : Hbm) (sl : Slot) : Hbm := sl.preImages.foldl (restoreSector keys) h

/-- R191: an aborted slot; its reason, and its sectors rolled back. -/
def Slot.abort (sl : Slot) (reason atIdx : Nat) : Slot :=
  { sl with state := 7, reason := BitVec.ofNat 16 reason, at_ := atIdx, preImages := [], preOut := [], hbmwrOut := [],
            rolling := false, rewriting := false, endReason := 0, voteNo := sl.scope }

/-- The slot at an index. -/
def Module.slot (m : Module) (i : Nat) : Slot := nth Slot.init m.txn.slots i

/-- Replace a slot. -/
def Module.setSlot (i : Nat) (sl : Slot) (m : Module) : Module :=
  { m with txn := { m.txn with slots := setNth m.txn.slots i sl } }

/-- R191, R198: abort slot i, roll back what it wrote, log TXN_ABORTED (0x0502), raise vector 2 (R284). -/
def Module.abortSlot (i reason atIdx : Nat) (m : Module) : Module :=
  let sl := m.slot i
  let stays (p : Packet) : Bool := !(p.op == 0x2 && p.src % 4096 == 0x861 && sl.hbmwrOut.contains (p.addr, p.tag))
  let m1 := { m with hbm := rollback m.nodeKeys m.hbm sl, fabric := { m.fabric with net := m.fabric.net.filter stays } }
  ((m1.setSlot i (sl.abort reason atIdx)).log 0x0502 dieH [(4, i), (16, reason), (13, atIdx)]).msix 2

/-- R198, R200, R212: slot i ends with a reason; one that has written sectors rolls them back first. One that rolls back for
its own failed write takes the reason that ends it first, or TXN_DISCARDED. -/
def Module.unwind (i reason : Nat) (m : Module) : Module :=
  let sl := m.slot i
  if sl.rolling then m.setSlot i { sl with endReason := if sl.endReason = 0 ∨ reason = txnDiscarded then reason else sl.endReason }
  else if sl.preImages.isEmpty then m.abortSlot i reason 0
  else m.setSlot i { sl with rolling := true, endReason := reason }

/-- R212: slots OPEN to APPLYING are aborted with TXN_DISCARDED; `now`: a start leaves no time to a roll-back, whose
sectors are restored within it. -/
def Module.discardSlot (now : Bool) (m : Module) (i : Nat) : Module :=
  let st := (m.slot i).state
  if 1 ≤ st ∧ st ≤ 5 then (if now then m.abortSlot i txnDiscarded 0 else m.unwind i txnDiscarded) else m

/-- R212, R285: outstanding host reads complete with completer-abort; their packets in flight complete or time out, and hold
their tags till then. -/
def Module.abortHostReads (m : Module) : Module :=
  let n := m.fabric.hostReads.length
  let m1 := { m with fabric := { m.fabric with hostReads := [] } }
  (List.replicate n ()).foldl (fun m _ => m.send (.hostCpl false [])) m1

/-- R281: read data in completions of at most 512 bytes each. -/
def payloads : Nat → List Byte → List (List Byte)
  | 0, bs => [bs]
  | fuel + 1, bs => if bs.length ≤ 512 then [bs] else bs.take 512 :: payloads fuel (bs.drop 512)

/-- R281, R283: a host read completes. -/
def Module.hostAnswer (bs : List Byte) (m : Module) : Module :=
  (payloads bs.length bs).foldl (fun m p => m.send (.hostCpl true p)) m

/-- R206, R212: stop a running preload; the shadows of its set become EMPTY. -/
def Module.stopPreload (m : Module) : Module :=
  match m.txn.preload with
  | none => m
  | some p =>
    let m1 := { m with data := { m.data with shadow := p.quires.foldl (fun s q => sset Shadow.empty s q Shadow.empty) m.data.shadow },
                       txn := { m.txn with preload := none } }
    m1.setReg rTipStatus (m1.reg rTipStatus / 4 * 4 + 3)

/-- R212: the work that a fault freeze, a start, LINKSVC or SELFTEST discards. -/
def Module.discardWork (now : Bool) (m : Module) : Module :=
  let m1 := (List.range 16).foldl (Module.discardSlot now) m
  let m2 := m1.abortHostReads.stopPreload
  let t := m2.txn
  let st : Byte := if t.inspWait.isEmpty then t.inspStatus else 0x07#8
  { m2 with txn := { t with pulses := 0, pulseCommit := [], inspStatus := st, inspWait := [] } }

/-- R230: the cores stop; entries, pending H2C slots, unposted C2H slots are discarded. -/
def Channel.discard (c : Channel) : Channel :=
  { c with entries := [], h2c := [], c2hPosted := [], c2hAlloc := c.c2hProd, wordFolios := [],
           deadlines := [], reqMissed := 0 }

def Module.stopCouriers (m : Module) : Module :=
  { m with couriers := { m.couriers with run := 0, started := false,
                                          channels := m.couriers.channels.map (fun e => (e.1, e.2.discard)) } }

/-- R241: the sectors of a record: its header, then its body. -/
def Module.capSectors (m : Module) (r : Nat × BitVec 512 × Nat) : List (Nat × BitVec 512) :=
  (r.1, r.2.1) :: (List.range ((m.image.capSlots + 511) / 512)).map (fun i =>
    (r.1 + 64 * (i + 1), BitVec.ofNat 512 (r.2.2 / 2 ^ (512 * i))))

/-- R244, R245: the oldest queued record has been written; a stream record of this run counts in CAP_PROD and raises
vector 4 (R284). -/
def Module.capWritten (m : Module) : Module :=
  let t := m.trig
  let m1 := { m with trig := { t with capQueue := t.capQueue.drop 1, capOld := t.capOld - 1, capOut := none } }
  if t.capOld = 0 ∧ t.capStream then (m1.setReg rCapProd (m1.reg rCapProd + 1)).msix 4 else m1

/-- R246: at a fault freeze or a start capture enters STOPPED; queued records are still written. A start then sets OFF. -/
def Module.stopCapture (m : Module) : Module :=
  if 1 ≤ m.trig.capState ∧ m.trig.capState ≤ 3 then
    ({ m with trig := { m.trig with capState := 5, capStop := false } }).msix 4
  else m

/-- R261: a fault freeze or a start stops the sources; TRACE_STOPPED ends the drain with REASON 2. -/
def Module.stopTrace (m : Module) : Module :=
  if (m.trace.state = 1 ∨ m.trace.state = 2) ∧ !m.trace.stopReq then m.stopSources 2 else m

/-- R28: an abandoned stream. An image whose pass 5 had begun is not in force. -/
def Module.abandonLoad (m : Module) : Module :=
  let inForce := m.load.pass != 5
  { m with load := { m.load with state := 0, pass := 0, blocks := [], waitEntropy := none, comparing := false, held := [],
                                 staged := m.load.staged && inForce },
           image := if inForce then m.image else Image.none_,
           sec := { m.sec with engineKey := none } }

/-- R309, R28: every loop, PRBS run and retrain ends; the test fields of every LANE_CTL return to 0. -/
def Module.endLaneTests (m : Module) : Module :=
  { m with lanes := m.lanes.map (fun e => (e.1, { e.2 with ctl := 0, prbsLock := false, gen := 0, phase := none })),
           bundles := m.bundles.map (fun e => (e.1, { e.2 with pstate := if e.2.pstate = 3 then 0 else e.2.pstate, retraining := false })) }

/-! ### The persistent store (R349-R354) -/

/-- STATE codes of R349. -/
def secErased : Nat := 0xA1
def secClearing : Nat := 0xB2
def secWriting : Nat := 0xC3
def secValid : Nat := 0xD4
def secRetired : Nat := 0xE5

/-- R4, R354: the endurance of a sector. -/
def wearLimit : Nat := 100000000

/-- The sector of a number. -/
def Store.sector (st : Store) (k : Nat) : Sector := sget Sector.init st.sectors k
def Store.put (st : Store) (k : Nat) (s : Sector) : Store := { st with sectors := sset Sector.init st.sectors k s.sealed }

/-- R350, R351, R354: the end of a clear: the body is all ones; ERASED, or RETIRED at the endurance. -/
def Sector.cleared (s : Sector) : Sector :=
  Sector.sealed { s with st := if s.wear < wearLimit then secErased else secRetired, record := 0, len := 0, bcrc := 0,
                         body := [], fails := 0 }

/-- R350: a sector whose clear has failed its verify twice: the body as it stands. -/
def Sector.retired (s : Sector) : Sector := Sector.sealed { s with st := secRetired, record := 0, len := 0, bcrc := 0, fails := 0 }

/-- R350, R351: a whole clear, from step 1. -/
def Sector.clear (fails : Bool) (s : Sector) : Sector :=
  let s1 := { s with wear := s.wear + 1 }
  if fails then s1.retired else s1.cleared

/-- R349: a header is readable when MAGIC, a STATE code and HCRC all agree. -/
def Sector.readable (s : Sector) : Bool :=
  s.magic == 0x535446#24 && [secErased, secClearing, secWriting, secValid, secRetired].contains s.st && s.hcrc == crc32c s.head

/-- R352: serial order of SEQ modulo 2^32: a is newer than b. -/
def seqNewer (a b : Nat) : Bool := a != b && decide ((a + 2 ^ 32 - b) % 2 ^ 32 < 2 ^ 31)

/-- R351, R352: the current copy of a record: the VALID copy with the greater SEQ; with equal SEQ the lower sector. -/
def Store.current (st : Store) (record : Nat) : Option (Nat × Sector) :=
  (st.sectors.filter (fun e => e.2.record == record && e.2.st == secValid && e.2.readable)).foldl
    (fun best e => match best with
      | none => some e
      | some b => if seqNewer e.2.seq b.2.seq then some e else best) none

/-- Bytes [lo, lo + n) of a body; an unlisted byte reads 0xFF. -/
def Sector.bodyBytes (s : Sector) (lo n : Nat) : List Byte :=
  let r := srange s.body lo (lo + n)
  (List.range n).map (fun i => sget 0xFF#8 r (lo + i))

/-- The body of the current copy of a record. -/
def Store.body (st : Store) (record : Nat) : Option (List Byte) :=
  (st.current record).map (fun e => e.2.bodyBytes 0 e.2.len)

/-- R356: sectors in ERASED, of 4,096; an unlisted sector is ERASED. -/
def Store.erased (st : Store) : Nat := 4096 - (st.sectors.filter (fun e => e.2.st != secErased)).length

/-- R351: the ERASED sector of least WEAR, the lowest number among equals. -/
def Store.pick (st : Store) : Option Nat :=
  let fresh := (List.range 4096).find? (fun k => (sfind st.sectors k).isNone)
  let listed := (st.sectors.filter (fun e => e.2.st == secErased)).foldl (fun (best : Option (Nat × Nat)) e =>
    match best with
    | none => some (e.2.wear, e.1)
    | some b => if e.2.wear < b.1 then some (e.2.wear, e.1) else best) none
  match fresh, listed with
  | some f, some (w, k) => if w = 0 ∧ k < f then some k else some f
  | some f, none => some f
  | none, some (_, k) => some k
  | none, none => none

/-- R351: the first steps of a record write: the header WRITING and the body. -/
def Store.begin_ (st : Store) (k record : Nat) (body : List Byte) : Store :=
  let s := st.sector k
  let seq := match st.current record with
    | some c => (c.2.seq + 1) % 2 ^ 32
    | none => 0
  { st.put k { s with st := secWriting, record := record, seq := seq, len := body.length,
                      bcrc := crc32c body, body := bodyTable body,
                      fails := 0 } with journal := k :: st.journal.filter (· != k) }

/-- R356: STORE_STATE of a mounted store. -/
def Store.stated (st : Store) : Store :=
  if st.state < 2 then st else { st with state := if st.erased = 0 then 3 else 2 }

/-- R346, R351: the waiting write of a record cannot be made: STORE_FULL; a write of MEM_POLICY is answered REFUSED. -/
def Module.storeFull (record : Nat) (m : Module) : Module :=
  let m1 := m.log 0x0804 srcSteward []
  if record = 0x0020 then m1.answer stRefused else m1

/-- R351: the store takes record writes one after the other; the oldest that waits begins when none is under way. -/
def Module.storePump (m : Module) : Module :=
  if m.store.state < 2 ∨ m.store.journal.any (fun k => (m.store.sector k).st == secWriting) then m
  else match m.store.queue with
    | [] => m
    | (record, body) :: rest =>
      let st := { m.store with queue := rest }
      -- with no ERASED sector every write that waits fails
      match st.pick with
      | none => m.store.queue.foldl (fun (m : Module) (e : Nat × List Byte) => m.storeFull e.1) { m with store := { st with queue := [] } }
      | some k => { m with store := (st.begin_ k record body).stated }

/-! ### Log flush (R379) -/

/-- The 32 bytes of a log entry (R378). -/
def LogEntry.bytes (e : LogEntry) : List Byte :=
  leBytes 8 e.arg.toNat ++ leBytes 8 e.time ++ leBytes 8 e.folio ++ leBytes 4 e.seq ++
    [0#8, BitVec.ofNat 8 e.source] ++ leBytes 2 e.code.toNat

/-- R351: queue a record write. -/
def Module.queueRecord (record : Nat) (body : List Byte) (m : Module) : Module :=
  ({ m with store := { m.store with queue := m.store.queue ++ [(record, body)] } }).storePump

/-- R379: flush the unflushed entries of the ring, 2,047 to a record body, oldest first. -/
def Module.flushChunks : Nat → Module → Module
  | 0, m => m
  | n + 1, m =>
    let es := (m.stew.ring.filter (fun e => m.stew.flushed ≤ e.seq)).reverse.take 2047
    if es.isEmpty then m
    else
      let m1 := m.queueRecord (0x0100 + m.stew.chunk) (es.flatMap LogEntry.bytes)
      Module.flushChunks n { m1 with stew := { m1.stew with flushed := (es.getLast?.map (fun (e : LogEntry) => e.seq + 1)).getD m1.stew.flushed,
                                                            chunk := (m1.stew.chunk + 1) % 256,
                                                            lastFlush := m1.stew.up } }

/-! ### Collator (R382, R384) -/

/-- The physical bank of an IM, crossbar or spine key. -/
def imKeyBank (k : Nat) : Nat := k / 512 % 5

/-- R36: the bank that serves quarter q (4: the shadow) in a quire. -/
def bankOf (d : Data) (quire q : Nat) : Nat := bitsOf (sget 0x4688#16 d.bankmap quire).toNat (3 * q + 2) (3 * q)

/-- R155: descriptor of a DMB. -/
def Data.desc (d : Data) (dmb : Nat) : Nat := (sget 0 d.dmbDesc dmb).toNat

/-- R382: a DMB that the image leaves unused. -/
def Module.dmbFree (m : Module) (dmb : Nat) : Bool :=
  decide (dmb < 4096) && m.data.desc dmb == 0 && !sget false m.data.dmbUsed dmb

/-- R382: the spare of the half that a lane lies in: neither in use nor bad. -/
def Module.spareFree (m : Module) (g x : Nat) : Bool :=
  let e := (sget 0 m.start.remapInForce g).toNat
  !bitOf e (8 * x + 7) && !bitOf e (8 * x + 6)

/-- R382: 1 s in cycles of the step clock (R107). -/
def quietLong : Nat := 1000000000

/-- R382: a bundle that has been Quiet for at least 1 s. -/
def Module.longQuiet (m : Module) (b : Nat) : Bool :=
  decide (b < 20) && (m.bundle b).state == 1 && (m.bundle b).pstate == 1 && decide ((m.bundle b).quietAt + quietLong ≤ m.seq.cycle)

/-- R384: eligible units of an activity: 2 spares to a gathering; the IM words and schedule entries of the four quarters, the
words and entries of EMPTY shadows, and the entries of the link dies; 1,024 words to a DMB. -/
def Module.eligibleCount (m : Module) (a : Nat) : Nat :=
  match a with
  | 0 => 8192 - (m.start.remapInForce.filter (fun e => bitOf e.2.toNat 7 || bitOf e.2.toNat 6)).length
              - (m.start.remapInForce.filter (fun e => bitOf e.2.toNat 15 || bitOf e.2.toNat 14)).length
  | 1 =>
    let serving (quire bank : Nat) : Bool := bankOf m.data quire 4 != bank
    let ims := ((m.data.im.map (·.1)) ++ (m.data.imEss.map (·.1)).filter (fun k => (sfind m.data.im k).isNone)).filter
      (fun k => serving (k / 2560 / 1024) (imKeyBank k))
    let busy (t : SMap SchedWord) (ess : SMap Bool) : Nat :=
      (((t.map (·.1)) ++ (ess.map (·.1)).filter (fun k => (sfind t k).isNone)).filter (fun k => serving (k / 2560) (imKeyBank k))).length
    let empty := 256 - m.data.shadow.length
    let links := ((m.data.link.map (·.1)) ++ (m.data.linkEss.map (·.1)).filter (fun k => (sfind m.data.link k).isNone)).length
    2 ^ 29 + 2 * 2 ^ 19 - ims.length - busy m.data.xbar m.data.xbarEss - busy m.data.spine m.data.spineEss + empty * (2 ^ 19 + 1024)
      + 4096 - links
  | 2 => 1024 * ((List.range 4096).filter m.dmbFree).length
  | _ => ((List.range 20).filter m.longQuiet).length

/-- R384: COLL_ELIGIBLE is recomputed: at programming, at a warm start and at a change of the remap in force. -/
def Module.recountEligible (m : Module) : Module :=
  m.setRegs ((List.range 4).map (fun a => (rCollEligible a, m.eligibleCount a)))

/-! ### Collator records (R384) -/

/-- R384: coverage and results of the four activities: units tested, failures and passes. -/
def Module.storeCollator (m : Module) : Module :=
  m.queueRecord 0x0200 ((List.range 4).flatMap (fun a =>
    leBytes 8 (m.reg (rCollTested a)) ++ leBytes 4 (m.reg (rCollFails a)) ++ leBytes 4 (m.reg (rCollPasses a))))

/-- R379: a flush takes every unflushed entry; the ring holds at most 4,096, so three bodies suffice. -/
def Module.flushLog (m : Module) : Module := m.flushChunks 3

/-! ### Findings of tests (R61) -/

/-- R59: the bytes of a remap table as stored. -/
def remapBody (t : SMap (BitVec 32)) : List Byte :=
  let bs := (List.range 4096).flatMap (fun g => leBytes 4 (sget 0 t g).toNat)
  bs ++ leBytes 4 (crc32c bs).toNat

/-- R59, R61: write an entry into the stored table, primary and copy. -/
def Module.writeRemap (g e : Nat) (m : Module) : Module :=
  let t := sset 0 m.start.remapStored g (BitVec.ofNat 32 e)
  let m1 := { m with start := { m.start with remapStored := t } }
  (m1.queueRecord 0x0001 (remapBody t)).queueRecord 0x0002 (remapBody t)

/-- R61: a test found a failed BP. -/
def Module.bpFailed (bp : Nat) (m : Module) : Module :=
  let g := bp / 64
  let lane := bp % 64
  let e := (sget 0 m.start.remapStored g).toNat
  let sh := if lane < 32 then 0 else 8
  if bitOf e (sh + 7) ∨ bitOf e (sh + 6) then (m.writeRemap g (e ||| 0x10000)).log 0x0851 srcSteward []
  else
    let m1 := m.writeRemap g (e ||| (2 ^ (sh + 7) + lane * 2 ^ sh))
    ({ m1 with stew := { m1.stew with remapPending := true } }).log 0x0850 srcSteward []

/-- R61: a test found a failed spare, 0 for S0 and 1 for S1. -/
def Module.spareFailed (g x : Nat) (m : Module) : Module :=
  let e := (sget 0 m.start.remapStored g).toNat
  if bitOf e (8 * x + 7) then (m.writeRemap g (e ||| 0x10000)).log 0x0851 srcSteward []
  else (m.writeRemap g (e ||| 2 ^ (8 * x + 6))).log 0x0850 srcSteward [(4, 1)]

/-- R28: a fault freeze ends SELFTEST; what the test had found so far, which the manual leaves open, is logged as R61
says. -/
def Module.endSelftest (m : Module) : Module :=
  (Config.testFound m.sec.freeCtr).foldl (fun m bp => m.bpFailed bp) { m with sec := { m.sec with freeCtr := m.sec.freeCtr + 1 } }

/-! ### Built-in tip-ins (R25) -/

/-- R25, R28: the built-in tip-ins of SELFTEST and LINKSVC displace the IM quarters, their schedules and the DM; their
contents are open. They stay until a warm start replaces them. -/
def Module.displace (m : Module) : Module :=
  { m with data := { m.data with dm := [], builtinIm := some m.sec.freeCtr, builtinDm := some m.sec.freeCtr },
           sec := { m.sec with freeCtr := m.sec.freeCtr + 1 } }

/-! ### Causes that a higher one outranks (R30) -/

/-- R74: the HALT_POINT event of the folio that runs. -/
def Module.logHalt (m : Module) : Module :=
  match m.seq.haltFirst with
  | none => m
  | some (step, bp) => m.log 0x0910 (bp / 32768) [(11, step), (18, bp), (16, m.seq.haltCount)]

/-- R30: a cause that ranks higher ends a folio whose halt requests have not reached the boundary: they are logged. -/
def Module.logOutranked (m : Module) : Module :=
  if m.ctl.mode.running ∧ (m.seq.phase = .issuing ∨ m.seq.phase = .drain) then m.logHalt else m

/-- R116: WAITING reads 0 once PACED is left. -/
def Module.paceLeft (m : Module) : Module := { m with seq := { m.seq with waiting := false } }

/-! ### Freezes, LOCKDOWN and staged image -/

/-- R358, R403, R404: RESET is held while a supply is absent or PORST_N is low, which ranks above every other cause (R30). -/
def Module.resetHeld (m : Module) : Bool := decide (m.ctl.mode = .reset) && !(m.pins.suppliesGood && m.pins.porstHigh)

/-- R26-R28, R212: FROZEN by fault with an event code; `flood` sends the freeze flood of a module that enters FROZEN on
its own fault. In FROZEN and INSPECT a fault clears RESUMABLE, which changes MODE_STATUS (R284); in LOCKDOWN it changes
nothing (R27). -/
def Module.freezeBy (flood : Module → Module) (code : Nat) (m : Module) : Module :=
  if m.resetHeld then m
  else match m.ctl.mode with
  | .frozen | .inspect =>
    let m1 := { m with ctl := { m.ctl with resumable := false } }
    if m.ctl.resumable then m1.msix 3 else m1
  | .lockdown => m
  | old =>
    let m1 := (m.logOutranked.paceLeft.discardWork false).stopCapture.stopTrace.stopCouriers
    let m2 := if old = Mode.load then m1.abandonLoad else if old = Mode.selftest then m1.endSelftest else m1
    let m3 := if old = Mode.linksvc then m2.endLaneTests else m2
    let coldOnly := decide (old = Mode.reset) && m3.ctl.cold && !m3.start.remapLoaded
    let m4 := { m3 with ctl := { m3.ctl with coldOnly := coldOnly, target := 0, stepn := 0, stepLeft := 0,
                                             freezeReq := false },
                        start := { m3.start with running := false },
                        pins := if old = Mode.bringup then { m3.pins with modreadyLow := true } else m3.pins }
    (flood (m4.enter .frozen code)).flushLog

/-- R26, R145: FROZEN by a fault of this module, which floods the system. -/
def Module.faultFreeze (code : Nat) (m : Module) : Module :=
  m.freezeBy (fun m => m.sendFlood m.disc.modnum code) code

/-- Log an event and freeze by fault with it as CAUSE. -/
def Module.faultWith (code source : Nat) (items : List (Nat × Nat)) (m : Module) : Module :=
  (m.log code source items).faultFreeze code

/-- R248: which of two causes of a resumable freeze governs: HALT_POINT, then MASK_VIOLATION, then the host's request. -/
def freezeRank (cause : Nat) : Nat := if cause = 0x0910 then 2 else if cause = 0x0603 then 1 else 0

/-- R24, R248: the resumable freeze takes effect at the hold point of this boundary. -/
def Module.askFreeze (cause : Nat) (m : Module) : Module :=
  let old := m.ctl.freezeCause.toNat
  let c := if m.ctl.freezeReq ∧ freezeRank cause < freezeRank old then old else cause
  { m with ctl := { m.ctl with freezeReq := true, freezeCause := BitVec.ofNat 16 c } }

/-- R24, R26: enter FROZEN (resumable) at the hold point. -/
def Module.resumableFreeze (cause : Nat) (m : Module) : Module :=
  let m1 := m.paceLeft.enter .frozen cause
  { m1 with ctl := { m1.ctl with resumable := true, freezeReq := false, target := 0, stepn := 0, stepLeft := 0 } }

/-- R327: discard the staged image with the number of its cause (order of the table of R327); a warm start that compares its
digest waits for a stream from then on. -/
def Module.discardStaged (cause : Nat) (m : Module) : Module :=
  let held := m.load.staged
  let m1 := { m with
    load := { m.load with staged := false, digest := 0, stewardDigest := 0, discardWait := false, comparing := false } }
  if held then m1.log 0x0105 srcSteward [(4, cause)] else m1

/-- R168: abort a running scrub pass. -/
def Module.abortScrub (m : Module) : Module :=
  if m.scrub.running then
    ((({ m with scrub := { m.scrub with running := false } }).setReg rScrubState 3).log 0x0428 srcSteward []).msix 6
  else m

/-- R347, R29: entry to LOCKDOWN erases secrets, keys and roots of both domains, discards the staged image and the key
unwrapped in the engine; only the steward runs. -/
def Module.lockdown (cause : Nat) (m : Module) : Module :=
  if m.resetHeld then m
  else match m.ctl.mode with
  | .lockdown => m
  | _ =>
    let m0 := if m.ctl.mode = .linksvc then m.endLaneTests else m.logOutranked.paceLeft
    let m1 := (m0.discardStaged 4).abortScrub.stopCouriers.abortHostReads.lockRequests
    let m2 := { m1 with sec := { m1.sec with stageSecret := none, designSecret := none, newStage := none, newDesign := none,
                                              engineKey := none },
                        ctl := { m1.ctl with target := 0, stepn := 0, stepLeft := 0, freezeReq := false, lockAt := m1.seq.cycle },
                        start := { m1.start with running := false },
                        hbm := { bytes := [], ctr := [], trees := [] },
                        load := { m1.load with state := 0, pass := 0, blocks := [], waitEntropy := none,
                                               comparing := false, held := [] } }
    (m2.enter .lockdown cause).flushLog

/-- R341, R342: from the start of an epoch change every sector of the domain reads as never written. -/
def Module.clearDomain (design : Bool) (m : Module) : Module :=
  let lo := if design then stageTop else 0
  let hi := if design then hbmTop else stageTop
  { m with hbm := { bytes := sclear m.hbm.bytes lo hi, ctr := sclear m.hbm.ctr (lo / 64) (hi / 64),
                    trees := m.hbm.trees.map (fun e => (e.1, e.2.clear design)) } }

/-- R346, R347: a failed sector check. HALT: a flood, then LOCKDOWN. ALARM: the bit, the count, and what the reader's
chapter says, which the caller does. During an epoch change of the domain, or in LOCKDOWN, it is counted only (R348). The entry carries domain, address, reader and KIND. -/
def Module.macFail (addr reader kind : Nat) (m : Module) : Module :=
  let dom := if addr < stageTop then 0 else 1
  let m1 := (m.log 0x0401 (if reader / 256 % 16 = 8 then dieH else reader / 256 % 16)
      [(1, dom), (37, addr), (20, reader), (4, kind)]).satReg 32 rMacFails 1
  let m2 := m1.setReg rLastFailAddr addr
  if (if addr < stageTop then m.load.epochStage else m.load.epochDesign) ∨ m.ctl.mode = .lockdown then m2
  else if m2.reg rMemPolicy % 2 = 0 then (m2.sendFlood m2.disc.modnum 0x0401).lockdown 0x0401
  else { m2 with sec := { m2.sec with alarm := true } }

/-- R343: a corrected sector counts, raises MEMCORR and is logged at the first and every 65,536th correction after it. -/
def Module.memCorrected (addr : Nat) (m : Module) : Module :=
  let n := m.reg rMemCorrected
  let m1 := (m.satReg 32 rMemCorrected 1).happen 49
  if n % 65536 = 0 then m1.log 0x0402 srcSteward [(37, addr)] else m1

/-! ### Checked reads and writes of HBM (R166, R342, R343, R345, R346) -/

/-- R166: each pseudo-channel counts its requests; s is a sector number. -/
def Module.countPc (m : Module) (s : Nat) : Module :=
  let pc := pcOf (64 * s)
  { m with fabric := { m.fabric with pcReqs := smod 0 m.fabric.pcReqs pc (fun v => stat48 v 1),
                                     pcWindow := smod 0 m.fabric.pcWindow pc (· + 1) } }

/-- One of several sectors, which no command names: a free value. -/
def Module.freeSector (ss : List Nat) (m : Module) : Nat × Module :=
  match ss with
  | [s] => (s, m)
  | _ => (nth 0 ss ((Config.openWord m.sec.freeCtr).toNat % ss.length), { m with sec := { m.sec with freeCtr := m.sec.freeCtr + 1 } })

/-- R343, R346: what the check of a sector found, for a reader. False when it failed. -/
def Module.found (chk : SectorCheck) (s reader : Nat) (m : Module) : Bool × Module :=
  let r := m.outcome chk s
  match r.1 with
  | .corrected => (true, r.2.memCorrected (64 * s))
  | .failed kind => (false, r.2.macFail (64 * s) reader kind)
  | _ => (true, r.2)

/-- R342, R343, R345, R346: an agent reads sectors, which its engine checks; `outcome` is what it finds in one of them.
Neither the tag nor the check code of a sector never written is checked; the tree over its counter is (KIND 2), where a part
of its path is not cached. False when a check failed. -/
def Module.checkSectors (outcome : SectorCheck) (ss : List Nat) (reader : Nat) (m : Module) : Bool × Module :=
  let bad := decide (outcome = .failed 2)
  let r := (ss.foldl Module.countPc m).treeRead ss bad
  let m1 := r.2.2
  let tree := (bad && r.1) || !r.2.1
  let chk := if tree then .failed 2 else if bad then .good else outcome
  let due := ss.filter (fun s => tree || sget 0 m1.hbm.ctr s != 0)
  if chk = .good ∨ due.isEmpty then (true, m1)
  else
    let f := m1.freeSector due
    f.2.found chk f.1 reader

/-- The check of the sector that holds an address. -/
def Module.checkAt (chk : SectorCheck) (addr reader : Nat) (m : Module) : Bool × Module := m.checkSectors chk [addr / 64] reader

/-- The checks of the sectors of [lo, hi). -/
def Module.checkRange (chk : SectorCheck) (lo hi reader : Nat) (m : Module) : Bool × Module :=
  m.checkSectors chk (sectorsIn lo (hi - lo)) reader

/-- R348: in the cycle in which LOCKDOWN was entered a further failed check is logged and counted. -/
def Module.lateFind (chk : SectorCheck) (s reader : Nat) (m : Module) : Module :=
  match chk with
  | .failed kind => if m.ctl.mode = .lockdown ∧ m.ctl.lockAt = m.seq.cycle then m.macFail (64 * s) reader kind else m
  | _ => m

/-- R342: what the check ahead of a write finds, where no command tells it: a free value, unless no sector was written. -/
def Module.freeCheck (ss : List Nat) (m : Module) : SectorCheck × Module :=
  if ss.all (fun s => sget 0 m.hbm.ctr s == 0) then (.good, m)
  else (nth .good [.good, .corrected, .failed 0, .failed 1, .failed 2] ((Config.openWord m.sec.freeCtr).toNat % 5),
        { m with sec := { m.sec with freeCtr := m.sec.freeCtr + 1 } })

/-- R342, R347: bytes are written, each sector after its check. False where a check failed: nothing is then written. -/
def Module.writeChecked (a : Nat) (bs : List Byte) (reader : Nat) (m : Module) : Bool × Module :=
  let ss := sectorsIn a bs.length
  let f := m.freeCheck ss
  let r := f.2.checkSectors f.1 ss reader
  if r.1 then (true, { r.2 with hbm := { r.2.hbm.written r.2.nodeKeys ss with bytes := writeBytes r.2.hbm.bytes a bs } })
  else (false, r.2)

/-- R246, R256, R261, R342: at a start, which ends the packet network's work (R285), sectors that wait are written at once.
A failed check under the HALT policy, which outranks the start (R30), ends that. -/
def Module.flushSectors (ss : List (Nat × BitVec 512)) (reader : Nat) (m : Module) : Module :=
  ss.foldl (fun (m : Module) e =>
    if m.ctl.mode = .lockdown then m else (m.writeChecked e.1 (leBytes 64 e.2.toNat) reader).2) m

/-- R246: the queued capture records, by the trigger unit of H (R263). -/
def Module.flushCapture (m : Module) : Module :=
  m.trig.capQueue.foldl (fun m r => (m.flushSectors (m.capSectors r) (4096 * m.disc.modnum + 0x80C)).capWritten) m

/-- R256: the packets that the trace funnel of H holds. -/
def Module.funnelFlush (ps : List (BitVec 128)) (m : Module) : Module :=
  if m.traceSlots = 0 then m
  else (m.flushSectors (m.traceSectors ps) (4096 * m.disc.modnum + 0x80D)).setReg rTraceWptr (m.reg rTraceWptr + ps.length)

/-! ### Entry to RESET (R24, R117, R118) -/

/-- R327: a discard that waits for a repair takes place when the repair ends, however it ends. -/
def Module.endRepairs (m : Module) : Module := if m.load.discardWait then m.discardStaged 0 else m

/-- R117, R118, R212: what was under way ends at a start: work in flight, capture, trace (R261, R284: its drain ends before
TRACE_STATE is set to OFF), the couriers, a scrub pass and lane tests; counters return to their defaults. -/
def Module.startEnds (cold : Bool) (m : Module) : Module :=
  let m0 := ((m.endRepairs.logOutranked).discardWork true).stopCapture
  let m1 := (if cold then m0 else m0.flushCapture).stopTrace.stopCouriers.abortScrub
  let mf := if m1.trace.stopReq then m1.traceFinish (if cold then fun _ m => m else Module.funnelFlush) else m1
  (if mf.trace.state = 0 then mf else mf.msix 5).endLaneTests.clearStartRegs

/-- R118, R78, R239, R242, R247, R261, R285, R311: what both kinds of start set at entry to RESET. R276 names no reset of the
counts of timeouts: a start clears them, with the tags they belong to; nor does any rule say what INSP_CMD and INSP_RESP hold
after a start: they stay (DESIGN CHOICE, both). -/
def Module.startSets (m2 : Module) : Module :=
  { m2 with
    ctl := { m2.ctl with target := 0, stepn := 0, stepLeft := 0, freezeReq := false, coldOnly := false },
    pins := { m2.pins with modreadyLow := true, netHigh := false, trigOut := 0, gated := false },
    seq := { Seq.init with segs := m2.seq.segs, disp := m2.seq.disp, dclkCfg := m2.seq.dclkCfg,
                           dclkTime := m2.seq.dclkTime, folio := m2.seq.folio, copies := m2.seq.copies },
    data := { m2.data with forces := [], fpoint := [], haltEn := [], ioData := [], ioEn := [], padFlight := [],
                           padOut := [], bus := [], flights := [], sends := [], returns := [], pendRets := [], memAccs := [],
                           padSamples := [] },
    -- R212: a command-page read that waited has ended with INSP_DISCARDED; a start leaves the page as it stands
    txn := { Txn.init with inspCmd := m2.txn.inspCmd, inspStatus := m2.txn.inspStatus, inspValue := m2.txn.inspValue },
    -- R310: the errors of a lane count from the start; R300: a failed pair stays out until it
    lanes := m2.lanes.map (fun e => (e.1, { e.2 with crcErrs := 0, errAt := [], failed := false, trained := e.2.trained && !e.2.failed })),
    trig := { Trigger.init with maskFailBits := m2.trig.maskFailBits },
    trace := { Trace.init with fifo := [] },
    couriers := { m2.couriers with started := false, channels := [], contexts := [], ready := [], readySeq := 0, schFail := [], schArg := [] },
    fabric := { m2.fabric with net := [], starts := [], tags := [], dieLinks := [], msgq := [], hostReads := [], dlReplays := [],
                               chanImbPeak := [], timeouts := [], absorbedP := [], absorbedNP := [],
                               -- R391: wrap flags stay until the next start
                               pcReqs := m2.fabric.pcReqs.filterMap (fun e => if e.2 % 2 ^ 63 = 0 then none else some (e.1, e.2 % 2 ^ 63)),
                               stats := m2.fabric.stats.filterMap (fun e =>
                                 let x := { e.2 with wrap := 0 }
                                 if x = InitStats.init then none else some (e.1, x)) },
    bundles := m2.bundles.map (fun e => (e.1, { Bundle.init with state := e.2.state, pstate := e.2.pstate })),
    disc := { Disc.init with modnum := m2.disc.modnum },
    start := { m2.start with running := true, pllLocked := false, startupState := 0, stepsLeft := [],
                             lockDone := false, outen := false, wren := false, lanesTrained := false,
                             sysMismatch := false, discFail := false, firstLogged := [] },
    stew := { m2.stew with partHeard := 0, partitioned := false, timeSet := false, overtemp := false } }

/-- R117: at warm-start entry every Active lane is placed in Quiet; R305: a bundle that is up goes Quiet. -/
def Module.lanesQuiet (m : Module) : Module :=
  { m with bundles := m.bundles.map (fun e =>
      (e.1, if e.2.state = 1 ∧ e.2.pstate = 0 then { e.2 with pstate := 1, quietAt := m.seq.cycle } else e.2)) }

/-- R338: some binding-key record still stands in a sector that is not cleared. -/
def Store.keysLeft (st : Store) : Bool :=
  st.sectors.any (fun e => decide (0x0010 ≤ e.2.record) && decide (e.2.record ≤ 0x001F)
    && (e.2.st == secValid || e.2.st == secWriting || e.2.st == secClearing) && e.2.readable)

/-- R338: zeroisation ends once every binding-key record is cleared: ZEROISED (0x0413). -/
def Module.endZeroise (m : Module) : Module :=
  if m.sec.zeroising && !m.store.keysLeft then
    ({ m with sec := { m.sec with zeroising := false } }).log 0x0413 srcSteward []
  else m

/-- R350, R352, R354: a recovery clears a sector and logs it; whether its clear verifies is free. -/
def Module.recoverSector (m : Module) (k : Nat) : Module :=
  let s := (m.store.sector k).clear (Config.clearFails m.sec.freeCtr)
  let m1 := { m with store := m.store.put k s, sec := { m.sec with freeCtr := m.sec.freeCtr + 1 } }
  let m2 := (m1.logDrain).log 0x0802 srcSteward []
  if s.st = secRetired then m2.log 0x0803 srcSteward [(12, k), (32, s.wear)] else m2

/-- R353, R352, R354: the journal check of a warm start: sectors with a write or clear in progress are cleared. A write of
MEM_POLICY that it undoes is answered REFUSED (R346). -/
def Module.journalCheck (m : Module) : Module :=
  let open_ (k : Nat) : Bool := (m.store.sector k).st == secClearing || (m.store.sector k).st == secWriting
  let bad := m.store.journal.filter open_
  let undone := bad.any (fun k => (m.store.sector k).record == 0x0020 && (m.store.sector k).st == secWriting)
  let m1 := bad.foldl Module.recoverSector { m with store := { m.store with journal := [], removals := [] } }
  if undone then m1.endWait stRefused else m1

/-- R280: the crossings whose far side stays up while the step, NOC and lane domains restart (3 NOC-HOST, 6 NOC-MGT,
7 PTP-STEP) flush and log XRESET. -/
def Module.xreset (crossing : Nat) (m : Module) : Module := m.log 0x0230 dieH [(4, crossing)]

/-- R24, R117, R118: a warm start begins: the journal check and the collator's record (R384), then the PLL lock is awaited. -/
def Module.warmStart (m : Module) : Module :=
  let m0 := ((if m.ctl.mode = .load then m.abandonLoad else m).journalCheck.storeCollator).startEnds false
  -- R30, R342: a check that failed under the HALT policy as its last work was written outranks the start
  if m0.ctl.mode = .lockdown then m0 else
  let m1 := ((m0.startSets.lanesQuiet.recountEligible.xreset 3).xreset 6).xreset 7
  let m2 := if m.ctl.linksvc then
      -- R309: lanes under test are retrained in full
      { m1 with bundles := m1.bundles.map (fun e => (e.1, { e.2 with pstate := 3 })) } else m1
  let m3 := { m2 with start := { m2.start with storeMounted := true, bistDone := true, remapLoaded := true } }
  let m4 := m3.enter .reset 0
  { m4 with ctl := { m4.ctl with cold := false, linksvc := false } }

/-- R24, R404: entry to RESET of the cold kind, with an event code as its cause or 0; the cold start itself begins under
R403. -/
def Module.enterColdReset (cause : Nat) (m : Module) : Module :=
  let m0 := if m.ctl.mode = .load then m.abandonLoad else m
  let m1 := ((m0.discardStaged 1).startEnds true).startSets
  let m2 := m1.enter .reset cause
  { m2 with ctl := { m2.ctl with cold := true, linksvc := false },
            start := { m2.start with running := false, storeMounted := false, bistDone := false,
                                     remapLoaded := false } }

/-- R403, R11, R117, R341, R369, R379, R390: the cold start begins: every field takes its reset value, an empty ring, time
from 0, the full mount, the entropy fill and new epochs. -/
def Module.beginCold (m0 : Module) : Module :=
  -- R346: a write of MEM_POLICY that the store has not made is not made
  let m := if m0.waitsFor 0x3400 0x10 then m0.endWait stRefused else m0
  { m with
    regs := [],
    disc := Disc.init,
    seq := { Seq.init with folio := m.seq.folio, copies := m.seq.copies },
    data := Data.init,
    couriers := Couriers.init,
    trig := Trigger.init,
    lanes := [],
    bundles := [],
    start := { m.start with running := true, storeMounted := false, bistDone := false, remapLoaded := false,
                            pllLocked := false, bistRun := false, bistPass := 0, bistFails := List.replicate 8 0 },
    store := { m.store with state := 1, queue := [], chunks := [] },
    sec := { m.sec with trngReady := false, nonces := [], alarm := false, trngFail := false, engineKey := none,
                        stageSecret := none, designSecret := none, newStage := none, newDesign := none },
    load := { Load.init with epochStage := true, epochDesign := true },
    image := Image.none_,
    hbm := { bytes := [], ctr := [], trees := [] },
    fabric := { m.fabric with deadEp := [], deadRt := [], srcRoute := [],
                              stats := [], pcReqs := [], pcWindow := [], chanImb := [], snapshot := InitStats.init },
    -- R410, R411: every bank is unused
    pins := { m.pins with bankPowered := 0 },
    stew := { m.stew with now := 0, domains := [Domain.init, Domain.init], active := 0, slewing := false,
                          logQ := [], ring := [], logNext := 0, flushed := 0,
                          -- R379: the record after the one that holds the newest stored chunk
                          chunk := (m.store.newest.map (fun r => (r + 1) % 256)).getD 0, lastServed := 0,
                          latchSec := 0, latchFolio := 0, latchPhase := 0, prevSec := 0, prevFolio := 0 } }

end Sys2Proof.Machine
end

