-- ==== Sys2Proof/Machine/Image.lean ====
section
/-! DEFINITION. Machine/Image.lean: the stream header, the section table and the sections of a compiled image, read from
the bytes of the staging area (R173-R178, R312-R316, R203, R232, R295). -/

namespace Sys2Proof.Machine

/-! ### Header and table -/

/-- An entry of the section table (R315). -/
structure TabEntry where
  ty     : Nat
  inst   : Nat
  piece  : Nat
  pieces : Nat
  offset : Nat
  len    : Nat
  rsv    : Bool
  deriving DecidableEq, Repr

/-- An image section, the concatenation of its pieces: whole pieces are multiples of 64 bytes, so the section is one
run of staged bytes (R315). -/
structure Sect where
  ty   : Nat
  inst : Nat
  off  : Nat
  len  : Nat
  deriving DecidableEq, Repr

/-- The 1,024-bit header as a number (R313), from the first 128 bytes of the staging area. Block 0 sent again in state 1
replaces those bytes: the manual names no second header check, so none is made; STREAM_LEN and the key slot stay those of the
header that was accepted, and SECTIONS, ENC and the rest are read from the bytes that stand (DESIGN CHOICE). -/
def Module.stagedHeader (m : Module) : Nat := readLe m.hbm.bytes 0 128

def hdrMagic (h : Nat) : Nat := bitsOf h 1023 992
def hdrFormat (h : Nat) : Nat := bitsOf h 991 976
def hdrVendor (h : Nat) : Nat := bitsOf h 975 960
def hdrPart (h : Nat) : Nat := bitsOf h 959 944
def hdrStepping (h : Nat) : Nat := bitsOf h 943 936
def hdrMinStepping (h : Nat) : Nat := bitsOf h 935 928
def hdrEnc (h : Nat) : Bool := bitOf h 927
def hdrNode (h : Nat) : Bool := bitOf h 926
def hdrKeyslot (h : Nat) : Nat := bitsOf h 919 912
def hdrSections (h : Nat) : Nat := bitsOf h 911 896
def hdrStreamLen (h : Nat) : Nat := bitsOf h 895 832
def hdrUid (h : Nat) : Nat := bitsOf h 831 704
def hdrNonce (h : Nat) : Nat := bitsOf h 703 608

/-- A multiple of 64 at or above n. -/
def pad64 (n : Nat) : Nat := (n + 63) / 64 * 64

/-- R315: entry n of the table. -/
def Module.tabEntry (m : Module) (n : Nat) : TabEntry :=
  let v := readLe m.hbm.bytes (128 + 32 * n) 32
  { ty := bitsOf v 255 240, inst := bitsOf v 239 224, piece := bitsOf v 223 216, pieces := bitsOf v 215 208,
    offset := bitsOf v 191 128, len := bitsOf v 127 96, rsv := bitsOf v 207 192 != 0 || bitsOf v 95 0 != 0 }

def Module.table (m : Module) : List TabEntry := (List.range (hdrSections m.stagedHeader)).map m.tabEntry

/-- R316: the index of the first table entry that breaks a rule. `pos` is where R312 puts the next section; `prev` is
the entry before. -/
def tableBad (streamLen : Nat) : Nat → Nat → Option TabEntry → List TabEntry → Option Nat
  | pos, i, prev, [] =>
    let lastOpen := match prev with
      | some p => p.piece + 1 != p.pieces
      | none => true
    if pos + 64 ≠ streamLen || lastOpen then some (i - 1) else none
  | pos, i, prev, e :: t =>
    let contOk := match prev with
      | some p =>
        if p.piece + 1 == p.pieces then e.piece == 0
        else e.piece == p.piece + 1 && e.pieces == p.pieces && e.ty == p.ty && e.inst == p.inst
      | none => e.piece == 0
    let ok := contOk && e.offset == pos && !e.rsv && 1 ≤ e.len && e.len ≤ 67108864 && 1 ≤ e.pieces
      && e.piece < e.pieces && (e.piece + 1 == e.pieces || e.len == 67108864)
    if ok then tableBad streamLen (pos + pad64 e.len) (i + 1) (some e) t else some i

/-- Join the pieces of each section, in table order. -/
def joinPieces : List TabEntry → List Sect
  | [] => []
  | e :: t =>
    match joinPieces t with
    | [] => [{ ty := e.ty, inst := e.inst, off := e.offset, len := e.len }]
    | s :: r =>
      if e.piece + 1 < e.pieces then { ty := e.ty, inst := e.inst, off := e.offset, len := e.len + s.len } :: r
      else { ty := e.ty, inst := e.inst, off := e.offset, len := e.len } :: s :: r

def Module.sects (m : Module) : List Sect := joinPieces m.table

/-- The sparse bytes of a section, offsets from its start. -/
def Sect.bytes (mem : SMap Byte) (s : Sect) : SMap Byte :=
  (srange mem s.off (s.off + s.len)).map (fun e => (e.1 - s.off, e.2))

/-- The nonzero little-endian units of k bytes, by unit number. -/
def unitsOf (k : Nat) : SMap Byte → SMap Nat
  | [] => []
  | (a, b) :: t =>
    let v := b.toNat * 2 ^ (8 * (a % k))
    match unitsOf k t with
    | [] => [(a / k, v)]
    | (u, w) :: r => if u = a / k then (u, w + v) :: r else (a / k, v) :: (u, w) :: r

/-- The set bits of a bit array, in rising order (R173: bit i is bit i mod 8 of byte i div 8). -/
def setBits (bs : SMap Byte) : List Nat :=
  bs.flatMap (fun e => ((List.range 8).filter (fun j => e.2.toNat.testBit j)).map (fun j => 8 * e.1 + j))

/-- Find a section. -/
def findSect (ss : List Sect) (ty inst : Nat) : Option Sect := ss.find? (fun s => s.ty == ty && s.inst == inst)

/-- Its bytes; none where the image has no such section. -/
def sectOf (mem : SMap Byte) (ss : List Sect) (ty inst : Nat) : SMap Byte :=
  match findSect ss ty inst with
  | some s => s.bytes mem
  | none => []

/-! ### The tables of an image -/

/-- A resident tip-in as its section holds it (R203); slices are keyed by quire. -/
structure TipImg where
  inst    : Nat
  header  : Nat
  len     : Nat
  /-- IM words: key (quire * 1,024 + lane) * 512 + word -/
  im      : SMap Nat
  imEss   : List Nat
  /-- key quire * 512 + entry -/
  xbar    : SMap Nat
  spine   : SMap Nat
  xbarEss : List Nat
  spineEss : List Nat
  deriving DecidableEq, Repr

/-- The sections of an image as sparse tables. IM keys are BP address * 2,048 + step; schedule keys are
quire * 2,048 + entry, or link die * 2,048 + entry. -/
structure Img where
  sects    : List Sect
  desc     : Nat
  im       : SMap Nat
  imEss    : List Nat
  xbar     : SMap Nat
  xbarEss  : List Nat
  spine    : SMap Nat
  spineEss : List Nat
  link     : SMap Nat
  linkEss  : List Nat
  seg      : SMap Nat
  disp     : SMap Nat
  clocks   : SMap Nat
  dmbDesc  : SMap Nat
  dmbInit  : List (Nat × Nat × Nat)
  windows  : SMap Nat
  iomap    : SMap Nat
  watch    : SMap Nat
  watchHdr : Nat
  courier  : SMap Byte
  tips     : List TipImg
  deriving DecidableEq, Repr

def tipHdrNumber (h : Nat) : Nat := bitsOf h 511 504
def tipHdrQuarter (h : Nat) : Nat := bitsOf h 497 496
def tipHdrQuires (h : Nat) : Nat := bitsOf h 255 0

/-- The quires of a set, ascending. -/
def quiresOf (set : Nat) : List Nat := (List.range 256).filter (fun q => set.testBit q)

/-- R203: length of a slice. -/
def sliceLen : Nat := 6742144

/-- A part of sparse bytes, rebased. -/
def cut (bs : SMap Byte) (lo len : Nat) : SMap Byte := (srange bs lo (lo + len)).map (fun e => (e.1 - lo, e.2))

/-- Shift the keys of a table. -/
def shift {α : Type} (k : Nat) (t : SMap α) : SMap α := t.map (fun e => (e.1 + k, e.2))

/-- R203: read a tip-in from the bytes of its section. -/
def readTip (inst len : Nat) (bs : SMap Byte) : TipImg :=
  let h := readLe bs 0 64
  let qs := quiresOf (tipHdrQuires h)
  let slices := qs.zipIdx.map (fun e => (e.1, cut bs (64 + sliceLen * e.2) sliceLen))
  { inst := inst, header := h, len := len,
    im := slices.flatMap (fun e => shift (e.1 * 524288) (unitsOf 12 (cut e.2 0 6291456))),
    imEss := slices.flatMap (fun e => (setBits (cut e.2 6291456 65536)).map (· + e.1 * 524288)),
    xbar := slices.flatMap (fun e => shift (e.1 * 512) (unitsOf 240 (cut e.2 6356992 122880))),
    spine := slices.flatMap (fun e => shift (e.1 * 512) (unitsOf 512 (cut e.2 6479872 262144))),
    xbarEss := slices.flatMap (fun e => (setBits (cut e.2 6742016 64)).map (· + e.1 * 512)),
    spineEss := slices.flatMap (fun e => (setBits (cut e.2 6742080 64)).map (· + e.1 * 512)) }

/-- Read every table of the image in the staging area. -/
def Module.readImage (m : Module) : Img :=
  let ss := m.sects
  let mem := srange m.hbm.bytes 0 stageTop
  let quires := List.range 256
  let ess := quires.map (fun q => (q, setBits (sectOf mem ss 0x0011 q)))
  { sects := ss,
    desc := readLe (sectOf mem ss 0x0001 0) 0 64,
    im := quires.flatMap (fun q => shift (q * 2097152) (unitsOf 12 (sectOf mem ss 0x0010 q))),
    imEss := ess.flatMap (fun e => (e.2.filter (· < 2097152)).map (· + e.1 * 2097152)),
    xbar := quires.flatMap (fun q => shift (q * 2048) (unitsOf 240 (sectOf mem ss 0x0012 q))),
    xbarEss := ess.flatMap (fun e => (e.2.filter (fun b => 2097152 ≤ b && b < 2099200)).map (· - 2097152 + e.1 * 2048)),
    spine := quires.flatMap (fun q => shift (q * 2048) (unitsOf 512 (sectOf mem ss 0x0013 q))),
    spineEss := ess.flatMap (fun e => (e.2.filter (2099200 ≤ ·)).map (· - 2099200 + e.1 * 2048)),
    link := [0, 1].flatMap (fun d => shift (d * 2048) (unitsOf 8704 (cut (sectOf mem ss 0x0014 d) 0 17825792))),
    linkEss := [0, 1].flatMap (fun d => (setBits (cut (sectOf mem ss 0x0014 d) 17825792 256)).map (· + d * 2048)),
    seg := unitsOf 8 (cut (sectOf mem ss 0x0020 0) 0 2048),
    disp := (cut (sectOf mem ss 0x0020 0) 2048 260).map (fun e => (e.1, e.2.toNat)),
    clocks := unitsOf 4 (sectOf mem ss 0x0021 0),
    dmbDesc := unitsOf 8 (sectOf mem ss 0x0030 0),
    dmbInit := (List.range 64).flatMap (fun i =>
      match findSect ss 0x0031 i with
      | some s =>
        let us := unitsOf 16 (s.bytes mem)
        (List.range (s.len / 16)).map (fun r => (i, r, sget 0 us r))
      | none => []),
    windows := unitsOf 8 (sectOf mem ss 0x0032 0),
    iomap := (sectOf mem ss 0x0040 0).map (fun e => (e.1, e.2.toNat)),
    watch := unitsOf 4 (cut (sectOf mem ss 0x0041 0) 64 36992),
    watchHdr := readLe (sectOf mem ss 0x0041 0) 0 64,
    courier := (List.range 32).flatMap (fun c => shift (c * 262144) (sectOf mem ss 0x0050 c)),
    tips := (List.range 64).filterMap (fun i =>
      (findSect ss 0x0060 i).map (fun s => readTip i s.len (s.bytes mem))) }

/-! ### Descriptor fields (R174) -/

def dFormat (d : Nat) : Nat := bitsOf d 511 496
def dModnum (d : Nat) : Nat := bitsOf d 495 488
def dModules (d : Nat) : Nat := bitsOf d 479 464
def dPred (d : Nat) : Nat := bitsOf d 463 448
def dSystem (d : Nat) : Nat := bitsOf d 447 384
def dDesign (d : Nat) : Nat := bitsOf d 383 352
def dTipin (d : Nat) : Nat := bitsOf d 351 320
def dCapture (d : Nat) : Nat := bitsOf d 319 288
def dTrace (d : Nat) : Nat := bitsOf d 287 256

/-- R174: base and size of a region word in units of 64 MiB, and in bytes. -/
def regBase (w : Nat) : Nat := bitsOf w 31 16
def regSize (w : Nat) : Nat := bitsOf w 15 0
def regBaseB (w : Nat) : Nat := regBase w * 67108864
def regSizeB (w : Nat) : Nat := regSize w * 67108864

/-- R203: where each resident tip-in starts, as a byte offset in the region, and where the next one may start. -/
def placeTips : Nat → List TipImg → List (TipImg × Nat)
  | _, [] => []
  | pos, t :: r => (t, pos) :: placeTips ((pos + t.len + 65535) / 65536 * 65536) r

/-- The first byte after the last tip-in. -/
def tipsEnd (ts : List TipImg) : Nat := (placeTips 0 ts).foldl (fun a e => max a (e.2 + e.1.len)) 0

/-! ### Instruction words (R43), gathering requests (R83), windows (R159), descriptors (R155) -/

def iwOpc (w : Nat) : Nat := bitsOf w 95 92
def iwTT (w : Nat) : Nat := bitsOf w 91 76
def iwA (w : Nat) : Nat := bitsOf w 75 65
def iwB (w : Nat) : Nat := bitsOf w 64 54
def iwC (w : Nat) : Nat := bitsOf w 53 43
def iwD (w : Nat) : Nat := bitsOf w 42 32
def iwW (w : Nat) : Nat := bitsOf w 31 21
def iwCsrc (w : Nat) : Nat := bitsOf w 20 13
def iwCadr (w : Nat) : Nat := bitsOf w 12 2
def iwChn (w : Nat) : Bool := bitOf w 1
def iwMrk (w : Nat) : Bool := bitOf w 0

/-- R63, R82: opclasses 5 to 7 are gathering requests. -/
def isReq (opc : Nat) : Bool := 5 ≤ opc && opc ≤ 7

def reqMode (tt : Nat) : Nat := bitsOf tt 9 8
def reqEn (tt : Nat) : Bool := bitOf tt 7
def reqPort (tt : Nat) : Nat := bitsOf tt 6 4
def reqDmb (tt : Nat) : Nat := bitsOf tt 3 0

def winV (d : Nat) : Bool := bitOf d 63
def winAw (d : Nat) : Nat := bitsOf d 57 52
def winBase (d : Nat) : Nat := bitsOf d 36 0

def descRom (d : Nat) : Bool := bitOf d 34
def descBind (d : Nat) : Nat := bitsOf d 33 32
def descChan (d : Nat) : Nat := bitsOf d 31 24
def descWm1 (d : Nat) : Nat := bitsOf d 21 11
def descWm0 (d : Nat) : Nat := bitsOf d 10 0

/-- R65: opclasses with a result. -/
def opcResult (opc : Nat) : Bool := opc == 1 || opc == 2 || opc == 3 || opc == 4 || opc == 8 || opc == 0xA || opc == 0xB || opc == 0xD

/-- R65: opclasses that read operand D, where CHN may be 1. -/
def opcChain (opc : Nat) : Bool := opc == 1 || opc == 2 || opc == 3 || opc == 0xC || opc == 0xD || opc == 0xF

/-- R49: a reserved catch source. -/
def csrcReserved (c : Nat) : Bool :=
  (0x41 ≤ c && c ≤ 0x7F) || (0x88 ≤ c && c ≤ 0xBF) || (0xC4 ≤ c && c ≤ 0xDF) || (0xE8 ≤ c && c ≤ 0xEF)

/-! ### The remap table (R59, R60) -/

/-- R60: an invalid entry. -/
def remapInvalid (e : Nat) : Bool :=
  let s0en := bitOf e 7
  let s1en := bitOf e 15
  (s0en && bitOf e 6) || (s1en && bitOf e 14) || (s0en && 31 < bitsOf e 5 0) || (s1en && bitsOf e 13 8 < 32)
    || (!s0en && bitsOf e 5 0 != 0) || (!s1en && bitsOf e 13 8 != 0) || bitsOf e 31 17 != 0

/-- R59, R60: the entry marks the gathering LOST, or is invalid. -/
def remapLost (e : Nat) : Bool := remapInvalid e || bitOf e 16

/-- The gathering is LOST in the remap in force. -/
def Module.gathLost (m : Module) (g : Nat) : Bool := remapLost (sget 0 m.start.remapInForce g).toNat

/-- The LOST gatherings of the remap in force. -/
def Module.lostList (m : Module) : List Nat := (m.start.remapInForce.filter (fun e => remapLost e.2.toNat)).map (·.1)

end Sys2Proof.Machine
end

