-- ==== Sys2Proof/Machine/Walks.lean ====
section
/-! DEFINITION. Machine/Walks.lean: the possible walks of a segment program (R97), by which the load checks judge what
executes together. -/

namespace Sys2Proof.Machine

/-- One possible walk: the words visited, the words executed (no JUMP), and the dispatch entries used as
(JUMP word, entry 65Q + key). -/
structure Walk where
  vis  : List Nat
  exec : List Nat
  uses : List (Nat × Nat)
  deriving DecidableEq, Repr

/-- What a walk has decided: edge value of clocks (key SEL) and key of quarters (key 64 + Q). -/
abbrev Choice := List (Nat × Nat)

/-- R97: the possible keys of a quarter: 0x40 and the resident tip-ins of that quarter. -/
def keysOf (tips : List (Nat × Nat)) (q : Nat) : List Nat :=
  0x40 :: (tips.filter (fun t => t.2 == q)).map (·.1)

/-- R96, R97: every walk from word i on. `tips` gives (number, quarter) of the resident tip-ins. -/
def walksFrom (seg disp : SMap Nat) (tips : List (Nat × Nat)) : Nat → Nat → Choice → List Walk
  | 0, _, _ => [{ vis := [], exec := [], uses := [] }]
  | fuel + 1, i, ch =>
    let w := sget 0 seg i
    let go (ex : Bool) (use : List (Nat × Nat)) (nxt : Nat) (ch' : Choice) : List Walk :=
      let rest := if segEnd w || 255 < nxt then [{ vis := [], exec := [], uses := [] }]
                  else walksFrom seg disp tips fuel nxt ch'
      rest.map (fun r => { vis := i :: r.vis, exec := if ex then i :: r.exec else r.exec, uses := use ++ r.uses })
    if segCond w = 2 then
      let q := segQuarter w
      let keys := match sfind ch (64 + q) with
        | some k => [k]
        | none => keysOf tips q
      keys.flatMap (fun k =>
        let t := sget 0 disp (65 * q + k)
        go false [(i, 65 * q + k)] (if t = 0 then i + 1 else t) ((64 + q, k) :: ch))
    else
      let n := if segNext w = 0 then i + 1 else segNext w
      if segCond w = 0 then go true [] n ch
      else
        let sel := segSel w
        let vals := match sfind ch sel with
          | some v => [v]
          | none => [0, 1]
        vals.flatMap (fun v => if v = 1 then go true [] n ((sel, 1) :: ch) else go false [] (i + 1) ((sel, 0) :: ch))

/-- Every possible walk; a walk visits at most 256 words. -/
def walksOf (seg disp : SMap Nat) (tips : List (Nat × Nat)) : List Walk := walksFrom seg disp tips 256 0 []

/-- The step ranges a walk executes, in order. -/
def Walk.ranges (seg : SMap Nat) (w : Walk) : List (Nat × Nat) :=
  w.exec.map (fun i => (segFirst (sget 0 seg i), segLast (sget 0 seg i)))

/-- The walk executes step s. -/
def runsStep (rs : List (Nat × Nat)) (s : Nat) : Bool := rs.any (fun r => r.1 ≤ s && s ≤ r.2)

/-- Executed steps of the walk after step s. -/
def stepsAfter (rs : List (Nat × Nat)) (s : Nat) : Nat :=
  rs.foldl (fun a r => a + (if s < r.1 then r.2 + 1 - r.1 else r.2 - s)) 0

end Sys2Proof.Machine
end

