-- ==== Sys2Proof/Machine/WordChecks.lean ====
section
/-! DEFINITION. Machine/WordChecks.lean: the load checks on instruction words, crossbar and spine entries (R48, R66, R128,
R152, R156, R160), shared by the load checks of R183 and the tip-in checks of R205. -/

namespace Sys2Proof.Machine

/-- What the checks on words look at beside the words: the walks' step ranges, the segment program's reachable ranges,
the windows, the DMB descriptors. -/
structure ChkEnv where
  walks   : List (List (Nat × Nat))
  ranges  : List (Nat × Nat)
  windows : SMap Nat
  desc    : SMap Nat
  deriving DecidableEq, Repr

/-- Words under check: IM by BP * 2,048 + step, schedules by quire * 2,048 + entry. -/
structure Words where
  im    : SMap Nat
  xbar  : SMap Nat
  spine : SMap Nat
  deriving DecidableEq, Repr

/-- A breach inside a quire: kind 0 IM, 1 ESSENTIAL, 2 XBAR, 3 SPINE, the unit's key in its table, the check code. -/
structure QFail where
  kind : Nat
  key  : Nat
  code : Nat
  deriving DecidableEq, Repr

def imBp (key : Nat) : Nat := key / 2048
def imLane (key : Nat) : Nat := key / 2048 % 64
def imGath (key : Nat) : Nat := key / 131072
def imQuire (key : Nat) : Nat := key / 2097152
def imStep (key : Nat) : Nat := key % 2048

/-- R82: the address width of a request. -/
def reqAw (env : ChkEnv) (gath opc tt : Nat) : Nat :=
  if opc = 7 then winAw (sget 0 env.windows (gath * 8 + reqPort tt))
  else if reqMode tt = 0 then 10 else 0

/-- R65, R66, R82: IW_FIELD_UNUSED. -/
def fieldUnused (env : ChkEnv) (gath lane w : Nat) : Bool :=
  let tt := iwTT w
  let a := iwA w != 0
  let b := iwB w != 0
  let c := iwC w != 0
  let d := iwD w != 0
  let ww := iwW w != 0
  let chn := iwChn w
  match iwOpc w with
  | 0x0 => tt != 0 || a || b || c || d || chn || ww
  | 0x2 => c
  | 0x3 => tt / 2 != 0
  | 0x4 => tt / 256 != 0 || a || b || c || d || chn
  | 0x5 => d || chn || b || (a && reqAw env gath 5 tt ≤ lane) || (c && !(lane == 0 && reqEn tt)) || ww
  | 0x6 => d || chn || (a && reqAw env gath 6 tt ≤ lane) || (c && !(lane == 0 && reqEn tt)) || ww
  | 0x7 => d || chn || (b && reqMode tt != 1) || (a && reqAw env gath 7 tt ≤ lane)
      || (c && !(lane == 0 && reqEn tt)) || (ww && !(lane == 0 && reqMode tt == 0))
  | 0x8 => chn
  | 0x9 => tt != 0 || c || chn || ww
  | 0xA => tt / 256 != 0 || chn
  | 0xB => tt / 256 != 0 || chn
  | 0xC => ww
  | 0xF => ww
  | _ => false

/-- R83: the rules of IW_REQ_CODE on the TT alone. -/
def reqTtBad (opc tt : Nat) : Bool :=
  let mode := reqMode tt
  tt / 1024 != 0 ||
  (if opc = 5 then mode == 3 || (reqEn tt && mode != 1)
   else if opc = 6 then 2 ≤ mode || reqPort tt != 0
   else 2 ≤ mode || reqDmb tt != 0)

/-- R83: the binding rules of IW_REQ_CODE. -/
def reqBindBad (bind opc tt : Nat) : Bool :=
  opc != 7 && ((bind == 0 && (reqMode tt == 1 || reqMode tt == 2)) || (bind != 0 && reqMode tt == 0))

/-- The index of the DMB a request names. -/
def reqDmbNum (gath tt : Nat) : Nat := gath / 16 * 16 + reqDmb tt

/-- R48, R66, R152, R156, R160: every check on one word alone, or at the lane-0 word of a request. -/
def wordCodes (env : ChkEnv) (key w : Nat) : List Nat :=
  let lane := imLane key
  let gath := imGath key
  let opc := iwOpc w
  let tt := iwTT w
  let chn := iwChn w
  let csrc := iwCsrc w
  let on (b : Bool) (c : Nat) : List Nat := if b then [c] else []
  let req := isReq opc
  let dsc := sget 0 env.desc (reqDmbNum gath tt)
  let lane0 := req && lane == 0
  on (chn && lane % 4 == 0) 0x1001 ++ on (chn && !opcChain opc) 0x1002 ++ on (chn && iwD w != 0) 0x1003
    ++ on (csrcReserved csrc) 0x1004 ++ on (csrc == 0 && iwCadr w != 0) 0x1005
    ++ on (opcResult opc && csrc != 0 && iwW w == iwCadr w) 0x1006 ++ on (opc == 0xE) 0x1007
    ++ on (fieldUnused env gath lane w) 0x1010
    ++ on (iwMrk w && !opcResult opc && opc != 0xE) 0x1011
    ++ on ((opc == 8 && 15 < iwD w) || (opc == 9 && 15 < iwD w) || (opc == 0xA && 3 < iwD w) || (opc == 0xB && 7 < iwD w)) 0x1012
    ++ on (opc == 3 && iwA w % 8 != 0) 0x1013 ++ on (opc == 2 && csrc == 0) 0x1014
    ++ on (opc == 4 && (tt % 256 == 0 || csrcReserved (tt % 256))) 0x1015
    ++ on ((req && reqTtBad opc tt) || (lane0 && reqBindBad (descBind dsc) opc tt)) 0x1017
    ++ on (lane0 && opc == 6 && descRom dsc) 0x1401
    ++ on (lane0 && ((opc == 6 && reqMode tt == 1 && descBind dsc == 2) || (opc == 5 && reqMode tt == 1 && descBind dsc == 3))) 0x1415
    ++ on (lane0 && opc == 7 && !winV (sget 0 env.windows (gath * 8 + reqPort tt))) 0x1420

/-- R184: IM_UNREACHED_STEP concerns the step, which no reachable segment word covers. -/
def unreached (env : ChkEnv) (step : Nat) : Bool := !runsStep env.ranges step

/-- The requests of lane 0: (gathering, step, word). -/
def lane0Reqs (im : SMap Nat) : List (Nat × Nat × Nat) :=
  (im.filter (fun e => imLane e.1 == 0 && isReq (iwOpc e.2))).map (fun e => (imGath e.1, imStep e.1, e.2))

/-- R84: a request returns a word, and its visibility step. -/
def reqVis (s w : Nat) : Option Nat :=
  if iwOpc w = 5 then some (s + 2)
  else if iwOpc w = 7 ∧ reqMode (iwTT w) = 0 then some (iwW w)
  else none

/-- Two steps execute in one walk. -/
def together (env : ChkEnv) (s t : Nat) : Bool := env.walks.any (fun rs => runsStep rs s && runsStep rs t)

/-- IW_REQ_GROUP (R66, R183), of a step in which some lane issues a request: the lowest lane above 0 whose word differs from
lane 0's in whether it issues one, in its opclass or in its TT. -/
def reqGroupBad (im : SMap Nat) (gath step : Nat) : Option Nat :=
  let word (n : Nat) : Nat := sget 0 im ((gath * 64 + n) * 2048 + step)
  let w0 := word 0
  let differs (n : Nat) : Bool := iwOpc (word n) != iwOpc w0 || iwTT (word n) != iwTT w0
  (List.range 63).map (· + 1) |>.find? differs

/-- The (gathering, step) pairs in which some lane issues a request. -/
def reqPlaces (im : SMap Nat) : List (Nat × Nat) :=
  ((im.filter (fun e => isReq (iwOpc e.2))).map (fun e => (imGath e.1, imStep e.1))).eraseDups

/-- IW_REQ_RETURN (R84) for one request among the requests of its gathering. -/
def reqReturnBad (env : ChkEnv) (rs : List (Nat × Nat × Nat)) (r : Nat × Nat × Nat) : Bool :=
  match reqVis r.2.1 r.2.2 with
  | none => false
  | some v =>
    let s := r.2.1
    let port := reqPort (iwTT r.2.2)
    let inSeg := env.ranges.any (fun g => g.1 ≤ s && s ≤ g.2 && g.1 ≤ v && v ≤ g.2)
    let covered := runsStep env.ranges s
    let order := rs.any (fun q => q.1 == r.1 && reqPort (iwTT q.2.2) == port && decide (q.2.1 < s)
      && (match reqVis q.2.1 q.2.2 with
          | some u => decide (v ≤ u)
          | none => false) && together env q.2.1 s)
    order || (covered && !inSeg) || (iwOpc r.2.2 == 7 && decide (v < s + 64))

/-- IW_REQ_DEPTH (R66): the read that is fifth outstanding on its port in some walk. -/
def reqDepthBad (env : ChkEnv) (rs : List (Nat × Nat × Nat)) (r : Nat × Nat × Nat) : Bool :=
  let isRead (q : Nat × Nat × Nat) : Bool := iwOpc q.2.2 == 7 && reqMode (iwTT q.2.2) == 0
  let port := reqPort (iwTT r.2.2)
  isRead r && env.walks.any (fun w => runsStep w r.2.1 &&
    (rs.filter (fun q => isRead q && q.1 == r.1 && reqPort (iwTT q.2.2) == port && decide (q.2.1 ≤ r.2.1)
      && runsStep w q.2.1 && decide (r.2.1 ≤ iwW q.2.2))).length == 5)

/-- IW_DMB_CLASH (R66): exactly one lane-0 request at a lower offset of the quire uses the same port of the same DMB
at the same step. -/
def dmbClashBad (rs : List (Nat × Nat × Nat)) (r : Nat × Nat × Nat) : Bool :=
  let isDmb (q : Nat × Nat × Nat) : Bool := iwOpc q.2.2 == 5 || iwOpc q.2.2 == 6
  isDmb r && (rs.filter (fun q => isDmb q && iwOpc q.2.2 == iwOpc r.2.2 && decide (q.1 < r.1)
    && reqDmbNum q.1 (iwTT q.2.2) == reqDmbNum r.1 (iwTT r.2.2) && q.2.1 == r.2.1)).length == 1

/-- IW_SEND_CLASH (R66): exactly one word at a lower offset drives the same send port at the same step. -/
def sendClashBad (sends : SMap Nat) (key w : Nat) : Bool :=
  let same (e : Nat × Nat) : Bool := iwOpc e.2 == iwOpc w && imStep e.1 == imStep key && decide (e.1 < key)
    && (if iwOpc w = 0xA then imQuire e.1 == imQuire key && iwD e.2 % 4 == iwD w % 4
        else imGath e.1 == imGath key && iwD e.2 % 8 == iwD w % 8)
  (sends.filter same).length == 1

/-- R121: send selector of port p of gathering k, and receive selector. -/
def xbSend (e k p : Nat) : Nat := bitsOf e (7 * (8 * k + p) + 6) (7 * (8 * k + p))
def xbRecv (e k p : Nat) : Nat := bitsOf e (896 + 8 * (8 * k + p) + 7) (896 + 8 * (8 * k + p))

/-- R125: route element i of a spine entry. -/
def spElem (e i : Nat) : Nat := bitsOf e (10 * i + 9) (10 * i)
def elemV (x : Nat) : Bool := bitOf x 9
def elemSrc (x : Nat) : Nat := bitsOf x 8 0

/-- Crossbar port index pairs. -/
def xbPorts : List (Nat × Nat) := (List.range 128).map (fun n => (n / 8, n % 8))

/-- IW_XBAR_DIRECT (R66, R81). `xs` are the XSEND words of the quire at this step as (gathering, port). -/
def xbDirectBad (entry : Nat) (xs : List (Nat × Nat)) : Bool :=
  xbPorts.any (fun gp => bitOf (xbSend entry gp.1 gp.2) 6 != xs.contains gp)

/-- XB_SEL_IDLE (R128). -/
def xbIdleBad (entry : Nat) : Bool :=
  xbPorts.any (fun gp =>
    let r := xbRecv entry gp.1 gp.2
    let s := xbSend entry gp.1 gp.2
    (!bitOf r 7 && r != 0) || (bitOf s 6 && s % 64 != 0))

/-! ### The spine mesh (R124) -/

/-- Which unit faces an edge of an E-die: 0-7 an E-die, 9 or 10 a link die, none otherwise (floorplan, R15). Edges are
0 north, 1 east, 2 south, 3 west. -/
def faces (die edge : Nat) : Option Nat :=
  match die, edge with
  | 0, 1 => some 1 | 0, 2 => some 3 | 0, 3 => some 9
  | 1, 1 => some 2 | 1, 3 => some 0
  | 2, 1 => some 10 | 2, 2 => some 4 | 2, 3 => some 1
  | 3, 0 => some 0 | 3, 2 => some 5 | 3, 3 => some 9
  | 4, 0 => some 2 | 4, 1 => some 10 | 4, 2 => some 7
  | 5, 0 => some 3 | 5, 1 => some 6 | 5, 3 => some 9
  | 6, 1 => some 7 | 6, 3 => some 5
  | 7, 0 => some 4 | 7, 1 => some 10 | 7, 3 => some 6
  | _, _ => none

def qRow (q : Nat) : Nat := q % 32 / 8
def qCol (q : Nat) : Nat := q % 8

/-- R124: the edge on which the switch of quire instance q has a die-link port. -/
def portEdge (q : Nat) : Option Nat :=
  let d := q / 32
  if qCol q = 0 then (if (faces d 3).isSome then some 3 else none)
  else if qCol q = 7 then (if (faces d 1).isSome then some 1 else none)
  else if qRow q = 0 then (if (faces d 0).isSome then some 0 else none)
  else if qRow q = 3 then (if (faces d 2).isSome then some 2 else none)
  else none

/-- R124: width of the die-link port of a switch. -/
def portWidth (q : Nat) : Nat :=
  match portEdge q with
  | some 3 => 256
  | some 1 => 256
  | some _ => 128
  | none => 0

/-- The die-link port faces a link die. -/
def facesLink (q : Nat) : Bool :=
  match portEdge q with
  | some e => (match faces (q / 32) e with
    | some 9 => true
    | some 10 => true
    | _ => false)
  | none => false

/-- R124: the switch has the input coded SRC. -/
def hasInput (q src : Nat) : Bool :=
  if src < 4 then true
  else if src < 0x24 then qRow q != 0
  else if src < 0x44 then qCol q != 7
  else if src < 0x64 then qRow q != 3
  else if src < 0x84 then qCol q != 0
  else src - 0x84 < portWidth q

/-- R173, R124: the switch has the output of route element i. -/
def hasOutput (q i : Nat) : Bool :=
  if i < 4 then true
  else if i < 36 then qRow q != 0
  else if i < 68 then qCol q != 7
  else if i < 100 then qRow q != 3
  else if i < 132 then qCol q != 0
  else i - 132 < portWidth q

/-- Executed steps from entry to the next arrival of an output (R126). -/
def outDelay (i : Nat) : Nat := if i < 4 then 2 else if i < 132 then 1 else 9

/-- SP_OVERRUN (R128): some walk executes entry e with fewer than `delay` steps after it. -/
def overrun (env : ChkEnv) (e delay : Nat) : Bool :=
  env.walks.any (fun rs => runsStep rs e && decide (stepsAfter rs e < delay))

/-- The checks of a spine entry. -/
def spineCodes (env : ChkEnv) (key entry : Nat) : List Nat :=
  let q := key / 2048
  let es := (List.range 388).map (fun i => (i, spElem entry i))
  let on (b : Bool) (c : Nat) : List Nat := if b then [c] else []
  on (es.any (fun e => elemV e.2 && 0x184 ≤ elemSrc e.2)) 0x1302
    ++ on (es.any (fun e => elemV e.2 && ((elemSrc e.2 < 0x184 && !hasInput q (elemSrc e.2)) || !hasOutput q e.1))) 0x1303
    ++ on (es.any (fun e => !elemV e.2 && elemSrc e.2 != 0)) 0x1304
    ++ on (es.any (fun e => elemV e.2 && overrun env (key % 2048) (outDelay e.1))) 0x1305

/-- The checks of a crossbar entry. -/
def xbarCodes (env : ChkEnv) (key entry : Nat) (xs : List (Nat × Nat)) : List Nat :=
  let on (b : Bool) (c : Nat) : List Nat := if b then [c] else []
  on (xbDirectBad entry xs) 0x101C ++ on (xbIdleBad entry) 0x1301
    ++ on (xbPorts.any (fun gp => bitOf (xbRecv entry gp.1 gp.2) 7) && overrun env (key % 2048) 2) 0x1305

/-- Every breach of R48, R66 and R128, and of R152, R156 and R160 where made at a request, in a set of words. -/
def wordFails (env : ChkEnv) (ws : Words) : List QFail :=
  let reqs := lane0Reqs ws.im
  let sends := ws.im.filter (fun e => iwOpc e.2 == 0xA || iwOpc e.2 == 0xB)
  let xsends := (sends.filter (fun e => iwOpc e.2 == 0xB)).map
    (fun e => (imQuire e.1 * 2048 + imStep e.1, imGath e.1 % 16, iwD e.2 % 8))
  let key0 (r : Nat × Nat × Nat) : Nat := r.1 * 131072 + r.2.1
  let im1 := ws.im.flatMap (fun e => (wordCodes env e.1 e.2).map (fun c => ⟨0, e.1, c⟩))
  let grp := (reqPlaces ws.im).filterMap (fun p =>
    (reqGroupBad ws.im p.1 p.2).map (fun n => ⟨0, (p.1 * 64 + n) * 2048 + p.2, 0x1016⟩))
  let ret := (reqs.filter (reqReturnBad env reqs)).map (fun r => ⟨0, key0 r, 0x1018⟩)
  let dep := (reqs.filter (reqDepthBad env reqs)).map (fun r => ⟨0, key0 r, 0x1019⟩)
  let dmb := (reqs.filter (dmbClashBad reqs)).map (fun r => ⟨0, key0 r, 0x101A⟩)
  let snd := (sends.filter (fun e => sendClashBad sends e.1 e.2)).map (fun e => ⟨0, e.1, 0x101B⟩)
  let xkeys := (ws.xbar.map (·.1) ++ xsends.map (·.1)).eraseDups
  let xb := xkeys.flatMap (fun k => (xbarCodes env k (sget 0 ws.xbar k)
    ((xsends.filter (fun x => x.1 == k)).map (·.2))).map (fun c => ⟨2, k, c⟩))
  let sp := ws.spine.flatMap (fun e => (spineCodes env e.1 e.2).map (fun c => ⟨3, e.1, c⟩))
  im1 ++ grp ++ ret ++ dep ++ dmb ++ snd ++ xb ++ sp

end Sys2Proof.Machine
end

