-- ==== Sys2Proof/Machine/ImageChecks.lean ====
section
/-! DEFINITION. Machine/ImageChecks.lean: the load checks of R183 and R184 on a whole image, and the tip-in checks of
R205. -/

namespace Sys2Proof.Machine

/-- A breach as LOAD_RESULT reports it: its group, the rank of its section in the group, its offset, code, section. -/
structure Fail where
  group : Nat
  rank  : Nat
  off   : Nat
  code  : Nat
  ty    : Nat
  inst  : Nat
  deriving DecidableEq, Repr

/-- R183: order of two breaches: group, section, offset, code. -/
def Fail.before (a b : Fail) : Bool :=
  decide (a.group < b.group) || (a.group == b.group && (decide (a.rank < b.rank) || (a.rank == b.rank &&
    (decide (a.off < b.off) || (a.off == b.off && decide (a.code < b.code))))))

/-- The first breach. -/
def firstFail : List Fail → Option Fail
  | [] => none
  | f :: t =>
    match firstFail t with
    | none => some f
    | some g => if g.before f then some g else some f

/-- A breach in a section of groups 1, 2 or 5, whose sections are ordered by TYPE and INSTANCE. -/
def tabFail (group code ty inst off : Nat) : Fail :=
  { group := group, rank := ty * 65536 + inst, off := off, code := code, ty := ty, inst := inst }

/-! ### Group 1: structure -/

/-- R173: TYPE, least and greatest INSTANCE count, whether all are required, and the length (none: by content). -/
def sectionKinds : List (Nat × Nat × Bool × Option Nat) :=
  [(0x0001, 1, true, some 64), (0x0010, 256, true, some 25165824), (0x0011, 256, true, some 262656),
   (0x0012, 256, true, some 491520), (0x0013, 256, true, some 1048576), (0x0014, 2, true, some 17826048),
   (0x0020, 1, true, some 2308), (0x0021, 1, true, some 512), (0x0030, 1, true, some 32768),
   (0x0031, 64, false, none), (0x0032, 1, true, some 262144), (0x0040, 1, true, some 65536),
   (0x0041, 1, true, some 37056), (0x0050, 32, true, some 262144), (0x0060, 64, false, none)]

def sectionKind (ty : Nat) : Option (Nat × Bool × Option Nat) := sfind sectionKinds ty

/-- IMG_LENGTH of one section; a tip-in's length follows its header (R203), DMBINIT holds whole records (R173). -/
def lengthBad (img : Img) (s : Sect) : Bool :=
  match sectionKind s.ty with
  | some (_, _, some n) => s.len != n
  | some (_, _, none) =>
    if s.ty = 0x0031 then s.len % 16 != 0 || 67108864 < s.len
    else match img.tips.find? (fun t => t.inst == s.inst) with
      | some t => s.len != 64 + sliceLen * (quiresOf (tipHdrQuires t.header)).length
      | none => false
  | none => false

/-- The reserved bits of a segment word (R95). -/
def segReserved (w : Nat) : Bool := bitsOf w 60 58 != 0 || bitsOf w 43 27 != 0 || bitsOf w 15 11 != 0

/-- Two regions overlap (R176). -/
def regOverlap (a b : Nat) : Bool :=
  regSize a != 0 && regSize b != 0 && decide (regBase a < regBase b + regSize b) && decide (regBase b < regBase a + regSize a)

/-- R174, R176: a region word breaks its own rules. -/
def regBad (w : Nat) : Bool :=
  if regSize w = 0 then regBase w != 0 else decide (regBase w < 256) || decide (1344 < regBase w + regSize w)

/-- IMG_REGION (R176, R203). -/
def regionsBad (img : Img) : Bool :=
  let d := img.desc
  let rs := [dDesign d, dTipin d, dCapture d, dTrace d]
  rs.any regBad || decide (512 < regSize (dCapture d))
    || regOverlap (dDesign d) (dTipin d) || regOverlap (dDesign d) (dCapture d) || regOverlap (dDesign d) (dTrace d)
    || regOverlap (dTipin d) (dCapture d) || regOverlap (dTipin d) (dTrace d) || regOverlap (dCapture d) (dTrace d)
    || decide (regSizeB (dTipin d) < tipsEnd img.tips)

/-- IMG_FORMAT of the DESCRIPTOR (R174). -/
def descBad (d : Nat) : Bool :=
  dFormat d != 1 || decide (dModules d < 1) || decide (256 < dModules d) || (dModules d == 1 && dModnum d != 0)
    || bitsOf d 487 480 != 0 || bitsOf d 255 0 != 0

/-- A section that the image has with its whole length. -/
def wholeSect (img : Img) (ty inst : Nat) : Bool := match findSect img.sects ty inst with
  | some s => !lengthBad img s
  | none => false

/-- Group 1 of R183. A TYPE of which several sections are missing has one breach of IMG_MISSING for each INSTANCE, and the
lowest is the first (DESIGN CHOICE: R183 names no unit of that check). -/
def structureFails (img : Img) : List Fail :=
  let ss := img.sects
  let types := (ss.filter (fun s => (sectionKind s.ty).isNone)).map (fun s => tabFail 1 0x1601 s.ty s.inst 0)
  let insts := (ss.filter (fun s => match sectionKind s.ty with
      | some k => decide (k.1 ≤ s.inst)
      | none => false)).map (fun s => tabFail 1 0x1602 s.ty s.inst 0)
  let dups := ss.zipIdx.filterMap (fun e =>
    if ((ss.take e.2).filter (fun s => s.ty == e.1.ty && s.inst == e.1.inst)).length = 1
    then some (tabFail 1 0x1603 e.1.ty e.1.inst 0) else none)
  let missing := (sectionKinds.filter (fun k => k.2.2.1)).flatMap (fun k =>
    ((List.range k.2.1).filter (fun i => (findSect ss k.1 i).isNone)).map (fun i => tabFail 1 0x1604 k.1 i 0))
  let lens := (ss.filter (lengthBad img)).map (fun s => tabFail 1 0x1605 s.ty s.inst 0)
  let fmt := (if descBad img.desc && wholeSect img 0x0001 0 then [tabFail 1 0x1606 0x0001 0 0] else [])
    ++ (img.dmbDesc.filter (fun e => bitsOf e.2 63 35 != 0 || bitsOf e.2 23 22 != 0)).map (fun e => tabFail 1 0x1606 0x0030 0 (8 * e.1))
    ++ (img.windows.filter (fun e => bitsOf e.2 62 58 != 0 || bitsOf e.2 51 37 != 0)).map (fun e => tabFail 1 0x1606 0x0032 0 (8 * e.1))
  let regs := if regionsBad img && wholeSect img 0x0001 0 then [tabFail 1 0x1607 0x0001 0 0] else []
  let rsv := (img.seg.filter (fun e => segReserved e.2)).map (fun e => tabFail 1 0x1608 0x0020 0 (8 * e.1))
    ++ (img.iomap.filter (fun e => bitOf e.2 7)).map (fun e => tabFail 1 0x1608 0x0040 0 e.1)
    ++ (img.spine.filter (fun e => e.2 / 2 ^ 3880 != 0)).map (fun e => tabFail 1 0x1608 0x0013 (e.1 / 2048) (512 * (e.1 % 2048)))
    ++ (img.link.filter (fun e => e.2 / 2 ^ 69396 != 0)).map (fun e => tabFail 1 0x1608 0x0014 (e.1 / 2048) (8704 * (e.1 % 2048)))
    ++ img.tips.flatMap (fun t => (t.spine.filter (fun e => e.2 / 2 ^ 3880 != 0)).map (fun e =>
        tabFail 1 0x1608 0x0060 t.inst (64 + sliceLen * ((quiresOf (tipHdrQuires t.header)).idxOf (e.1 / 512)) + 6479872 + 512 * (e.1 % 512))))
  types ++ insts ++ dups ++ missing ++ lens ++ fmt ++ regs ++ rsv

/-! ### Group 2: module tables -/

/-- R97: the segment program, of a SEGMENT section that the image has whole: one that is missing or short has no units to
judge (DESIGN CHOICE: it breaks IMG_MISSING or IMG_LENGTH). -/
def segFails (img : Img) (ws : List Walk) : List Fail :=
  if !wholeSect img 0x0020 0 then [] else
  let reach (i : Nat) : Bool := ws.any (fun w => w.vis.contains i)
  let word (i : Nat) : Nat := sget 0 img.seg i
  let at_ (code i : Nat) : Fail := tabFail 2 code 0x0020 0 (8 * i)
  let idx := List.range 256
  let uses := (ws.flatMap (·.uses)).eraseDups
  let cond := (idx.filter (fun i => (reach i && segCond (word i) == 3) || (segCond (word i) == 0 && segSel (word i) != 0))).map (at_ 0x1201)
  let fwd := (idx.filter (fun i => segNext (word i) != 0 && decide (segNext (word i) ≤ i))).map (at_ 0x1202)
    ++ (((uses.filter (fun u => sget 0 img.disp u.2 != 0 && decide (sget 0 img.disp u.2 ≤ u.1))).map (·.2)).eraseDups).map
        (fun k => tabFail 2 0x1202 0x0020 0 (2048 + k))
  let live := idx.filter (fun i => reach i && segCond (word i) != 2)
  let ord := (live.filter (fun k => decide (segLast (word k) < segFirst (word k))
    || live.any (fun j => decide (j < k) && decide (segFirst (word k) ≤ segLast (word j))))).map (at_ 0x1203)
  let jmp := (idx.filter (fun i => segCond (word i) == 2 && (segFirst (word i) != 0 || segLast (word i) != 0
    || segNext (word i) != 0 || segSel (word i) / 4 != 0 || segEnd (word i)))).map (at_ 0x1204)
  let unr := (idx.filter (fun i => !reach i && word i != 0)).map (at_ 0x1205)
    ++ (img.disp.filter (fun e => e.2 != 0 && !(uses.any (fun u => u.2 == e.1)))).map (fun e => tabFail 2 0x1205 0x0020 0 (2048 + e.1))
  cond ++ fwd ++ ord ++ jmp ++ unr

/-- R101, R102: a configuration word that a write refuses. -/
def clkCfgBad (v : Nat) : Bool :=
  bitsOf v 30 29 == 3 || (bitsOf v 26 24 != 0 && bitsOf v 30 29 != 2) || bitOf v 27 || bitsOf v 23 0 != 0

/-- R101, R102: a timing word that a write refuses. -/
def clkTimeBad (v : Nat) : Bool := bitsOf v 31 16 == 0 || decide (bitsOf v 31 16 ≤ bitsOf v 15 0)

/-- R102: the generator words, of a CLOCKS section that the image has whole. -/
def clockFails (img : Img) : List Fail :=
  if !wholeSect img 0x0021 0 then []
  else ((List.range 128).filter (fun i => if i % 2 = 0 then clkCfgBad (sget 0 img.clocks i) else clkTimeBad (sget 0 img.clocks i))).map
    (fun i => tabFail 2 0x1210 0x0021 0 (4 * i))

/-- R156: descriptors. -/
def dmbDescFails (img : Img) : List Fail :=
  img.dmbDesc.flatMap (fun e =>
    let d := e.2
    let on (b : Bool) (c : Nat) : List Fail := if b then [tabFail 2 c 0x0030 0 (8 * e.1)] else []
    on (descRom d && descBind d != 0) 0x1410 ++ on (descBind d == 0 && (descWm0 d != 0 || descWm1 d != 0)) 0x1411
      ++ on (decide (1024 < descWm0 d) || decide (1024 < descWm1 d)) 0x1412
      ++ on (decide (descBind d ≤ 1) && descChan d != 0) 0x1413)

/-- R175: initial words; of two records that name one word the later is reported. -/
def dmbInitFails (img : Img) : List Fail :=
  img.dmbInit.zipIdx.filterMap (fun e =>
    let v := e.1.2.2
    let a := bitsOf v 21 0
    let dup := (img.dmbInit.take e.2).any (fun r => bitsOf r.2.2 21 0 == a)
    if descBind (sget 0 img.dmbDesc (a / 1024)) != 0 || dup || bitsOf v 63 22 != 0
    then some (tabFail 2 0x1430 0x0031 e.1.1 (16 * e.1.2.1)) else none)

/-- R160: windows. -/
def windowFails (img : Img) : List Fail :=
  let r := dDesign img.desc
  img.windows.flatMap (fun e =>
    let d := e.2
    let size := 8 * 2 ^ winAw d
    let on (b : Bool) (c : Nat) : List Fail := if b then [tabFail 2 c 0x0032 0 (8 * e.1)] else []
    on (if winV d then winAw d == 0 || decide (34 < winAw d) else winAw d != 0) 0x1421
      ++ on (if winV d then winBase d % size != 0 else winBase d != 0) 0x1422
      ++ on (winV d && (decide (winBase d < regBaseB r) || decide (regBaseB r + regSizeB r < winBase d + size))) 0x1423)

/-- Dies with probe pins 32-63 (R76). -/
def widePins (die : Nat) : Bool := die == 0 || die == 2 || die == 5 || die == 7

def iomapFails (img : Img) : List Fail :=
  (img.iomap.filter (fun e => 32 ≤ bitsOf e.2 5 0 && !widePins (e.1 / 8192))).map (fun e => tabFail 2 0x1502 0x0040 0 e.1)

/-- R233: the watch map. Entry i of the table: taps 0-31, capture slots from 32, mask slots from 8,224. -/
def watchFails (img : Img) (lost : List Nat) : List Fail :=
  let caps := bitsOf img.watchHdr 15 0
  let masks := bitsOf img.watchHdr 31 16
  let within (i : Nat) : Bool := (32 ≤ i && i < 32 + caps) || (8224 ≤ i && i < 8224 + masks)
  let beyond (i : Nat) : Bool := (32 + caps ≤ i && i < 8224) || (8224 + masks ≤ i)
  let at_ (c i : Nat) : Fail := tabFail 2 c 0x0041 0 (64 + 4 * i)
  let cnt := if decide (8192 < caps) || caps % 512 != 0 || decide (1024 < masks) || masks % 64 != 0
    then [tabFail 2 0x1801 0x0041 0 0] else []
  let hdr := if img.watchHdr / 2 ^ 32 != 0 then [tabFail 2 0x1802 0x0041 0 0] else []
  let idle := ((List.range 9248).filter (fun i =>
    let v := sget 0 img.watch i
    (within i && !bitOf v 31) || (beyond i && v != 0) || (!bitOf v 31 && v != 0) || bitsOf v 30 18 != 0)).map (at_ 0x1802)
  let named := img.watch.filter (fun e => bitOf e.2 31)
  let die (v : Nat) : Nat := bitsOf v 17 15
  let wd := (named.filter (fun e => widePins (die e.2))).map (fun e => at_ 0x1803 e.1)
  let load := (List.range 8).filterMap (fun d =>
    let bps := (named.filter (fun e => die e.2 == d)).map (fun e => (bitsOf e.2 17 0, e.1))
    let firsts := bps.zipIdx.filterMap (fun e => if (bps.take e.2).any (fun x => x.1 == e.1.1) then none else some e.1.2)
    (firsts[4096]?).map (at_ 0x1804))
  let wl := (named.filter (fun e => lost.contains (bitsOf e.2 17 6))).map (fun e => at_ 0x1805 e.1)
  cnt ++ hdr ++ idle ++ wd ++ load ++ wl

/-! ### Tip-ins (R205) -/

/-- The (number, quarter) pairs of the resident tip-ins. -/
def Img.tipKeys (img : Img) : List (Nat × Nat) := img.tips.map (fun t => (tipHdrNumber t.header, tipHdrQuarter t.header))

/-- The words of the quires of a set, with quarter Q replaced by the slices of a tip-in. -/
def replaceQuarter (img : Img) (t : TipImg) (replace : Bool) : Words :=
  let set := tipHdrQuires t.header
  let q := tipHdrQuarter t.header
  let keep (quire step : Nat) : Bool := set.testBit quire && !(replace && step / 512 == q)
  let im := img.im.filter (fun e => keep (imQuire e.1) (imStep e.1))
  let xb := img.xbar.filter (fun e => keep (e.1 / 2048) (e.1 % 2048))
  let sp := img.spine.filter (fun e => keep (e.1 / 2048) (e.1 % 2048))
  let on {α : Type} (l : List α) : List α := if replace then l else []
  { im := im ++ on (t.im.map (fun e => (e.1 / 512 * 2048 + 512 * q + e.1 % 512, e.2))),
    xbar := xb ++ on (t.xbar.map (fun e => (e.1 / 512 * 2048 + 512 * q + e.1 % 512, e.2))),
    spine := sp ++ on (t.spine.map (fun e => (e.1 / 512 * 2048 + 512 * q + e.1 % 512, e.2))) }

/-- Where a breach stands in the TIPIN section; one outside the quarter is reported at its quire's slice. -/
def tipOffset (t : TipImg) (f : QFail) : Nat :=
  let q := tipHdrQuarter t.header
  let quire := if f.kind = 0 then imQuire f.key else f.key / 2048
  let step := f.key % 2048
  let base := 64 + sliceLen * ((quiresOf (tipHdrQuires t.header)).idxOf quire)
  if step / 512 = q then
    (if f.kind = 0 then base + 12 * (f.key / 2048 % 1024 * 512 + step % 512)
     else if f.kind = 2 then base + 6356992 + 240 * (step % 512) else base + 6479872 + 512 * (step % 512))
  else base

/-- R205: every breach of a tip-in as (offset in its section, code). -/
def tipFails (env : ChkEnv) (img : Img) (lost : List Nat) (t : TipImg) : List (Nat × Nat) :=
  let h := t.header
  let q := tipHdrQuarter h
  let pos (quire : Nat) : Nat := 64 + sliceLen * ((quiresOf (tipHdrQuires h)).idxOf quire)
  let hdr := if tipHdrNumber h != t.inst || tipHdrQuires h == 0 || bitsOf h 503 498 != 0 || bitsOf h 495 256 != 0
    then [(0, 0x1701)] else []
  let lane := (t.spine.filter (fun e => facesLink (e.1 / 512) && (List.range 388).any (fun i =>
      elemV (spElem e.2 i) && (132 ≤ i || (0x84 ≤ elemSrc (spElem e.2 i) && elemSrc (spElem e.2 i) < 0x184))))).map
    (fun e => (pos (e.1 / 512) + 6479872 + 512 * (e.1 % 512), 0x1702))
  let lst := if t.imEss.any (fun k => lost.contains (k / 32768)) then [(0, 0x1703)] else []
  let unr := (((t.im.map (·.1)) ++ t.imEss).eraseDups.filter (fun k => unreached env (512 * q + k % 512))).map
    (fun k => (pos (k / 524288) + 12 * (k % 524288), 0x1102))
  let base := wordFails env (replaceQuarter img t false)
  let fs := (wordFails env (replaceQuarter img t true)).filter (fun f => f.key % 2048 / 512 == q || !base.contains f)
  hdr ++ lane ++ lst ++ unr ++ fs.map (fun f => (tipOffset t f, f.code))

/-! ### Groups 3 to 5 -/

/-- Group 3: rank by quire, then IM, ESSENTIAL, XBAR, SPINE. -/
def quireFail (f : QFail) : Fail :=
  let quire := if f.kind = 0 then imQuire f.key else f.key / 2048
  let off := if f.kind = 0 then 12 * (f.key % 2097152) else if f.kind = 2 then 240 * (f.key % 2048) else 512 * (f.key % 2048)
  { group := 3, rank := 4 * quire + f.kind, off := off, code := f.code, ty := 0x0010 + f.kind, inst := quire }

/-- R62: marks of IM words of LOST gatherings. -/
def lostFails (img : Img) (lost : List Nat) : List Fail :=
  (img.imEss.filter (fun k => lost.contains (imGath k))).map (fun k =>
    { group := 3, rank := 4 * imQuire k + 1, off := k % 2097152 / 8, code := 0x1101, ty := 0x0011, inst := imQuire k })

/-- R295: fields of a link-die entry. -/
def lkOut (e k i : Nat) : Nat := bitsOf e (10 * (384 * k + i) + 9) (10 * (384 * k + i))
def lkIn (e j n : Nat) : Nat := bitsOf e (38400 + 10 * (1024 * j + n) + 9) (38400 + 10 * (1024 * j + n))
def lkOwin (e k g : Nat) : Nat := bitsOf e (69120 + 3 * (3 * k + g) + 2) (69120 + 3 * (3 * k + g))
def lkIwin (e j g : Nat) : Nat := bitsOf e (69210 + 4 * (8 * j + g) + 3) (69210 + 4 * (8 * j + g))
def lkRcnt (e k : Nat) : Nat := bitsOf e (69306 + 9 * k + 8) (69306 + 9 * k)

/-- R132: static bits per step and bundle at the RATE of BUNDLE_CFG. -/
def Module.bundleLimit (m : Module) (b : Nat) : Nat := 384 / 2 ^ (bitsOf (m.reg (rBundleCfg b)) 11 10)

/-- Valid outbound and inbound elements of an entry, as (bundle or link, slot or bit, element). -/
def lkOuts (e : Nat) : List (Nat × Nat × Nat) :=
  (List.range 10).flatMap (fun k => (List.range 384).map (fun i => (k, i, lkOut e k i)))
def lkIns (e : Nat) : List (Nat × Nat × Nat) :=
  (List.range 3).flatMap (fun j => (List.range 1024).map (fun n => (j, n, lkIn e j n)))

/-- Group 4: LS_WINDOW, LS_SRC, LS_RCNT (R296), and SP_OVERRUN of inbound elements (R128). -/
def linkFails (m : Module) (env : ChkEnv) (img : Img) : List Fail :=
  img.link.flatMap (fun e =>
    let d := e.1 / 2048
    let v := e.2
    let outs := (lkOuts v).filter (fun x => x.2.2 != 0)
    let ins := (lkIns v).filter (fun x => x.2.2 != 0)
    let at_ (b : Bool) (c : Nat) : List Fail :=
      if b then [{ group := 4, rank := d, off := 8704 * (e.1 % 2048), code := c, ty := 0x0014, inst := d }] else []
    at_ (outs.any (fun x => elemV x.2.2 && 6 ≤ lkOwin v x.1 (x.2.1 / 128))
        || ins.any (fun x => elemV x.2.2 && 10 ≤ lkIwin v x.1 (x.2.1 / 128))) 0x1901
      ++ at_ (outs.any (fun x => !elemV x.2.2) || ins.any (fun x => !elemV x.2.2
        || lkRcnt v (lkIwin v x.1 (x.2.1 / 128)) ≤ elemSrc x.2.2)) 0x1902
      ++ at_ ((List.range 10).any (fun k => m.bundleLimit (10 * d + k) < lkRcnt v k)) 0x1903
      ++ at_ (ins.any (fun x => elemV x.2.2) && overrun env (e.1 % 2048) 9) 0x1305)

/-- A breach of the whole module that is reported at a LINKSCHED entry. -/
def linkFail (code key : Nat) : Fail := tabFail 5 code 0x0014 (key / 2048) (8704 * (key % 2048))

/-- R132: ST_BUNDLE_RATE, at the first entry at which a bundle breaks its limit; an entry counts once. -/
def rateFails (m : Module) (img : Img) : List Fail :=
  ((List.range 20).filterMap (fun b =>
    (img.link.find? (fun e => e.1 / 2048 == b / 10 &&
      decide (m.bundleLimit b < ((List.range 384).filter (fun i => elemV (lkOut e.2 (b % 10) i))).length))).map
      (fun e => linkFail 0x1311 e.1))).eraseDups

/-- R134: ST_BUDGET_RANGE, at the first entry that releases a bit at a step below 32: no sending step of the folio lies 32
steps before it. The image does not hold the sending step of a received bit, so a greater budget is not judged. -/
def budgetFails (img : Img) : List Fail :=
  let early := img.link.filter (fun e => decide (e.1 % 2048 < 32) && (List.range 10).any (fun k => lkRcnt e.2 k != 0))
  match early.foldl (fun (best : Option Nat) e => match best with
      | none => some e.1
      | some k => if e.1 % 2048 < k % 2048 then some e.1 else best) none with
  | some k => [linkFail 0x1312 k]
  | none => []

/-- R76: the I/O cells that an IOOUT of the image targets, in its IM sections and in the slices of its tip-ins. -/
def Img.outCells (img : Img) : List Nat :=
  (img.im.filter (fun e => iwOpc e.2 == 9)).map (fun e => imGath e.1 * 16 + iwD e.2 % 16)
    ++ img.tips.flatMap (fun t => (t.im.filter (fun e => iwOpc e.2 == 9)).map (fun e => e.1 / 512 / 64 * 16 + iwD e.2 % 16))

/-- Group 5. DL_STATIC_RATE cannot fail: no die link has more than 1,024 routed bits per direction (R17, R127). -/
def moduleFails (m : Module) (img : Img) : List Fail :=
  let outs := img.outCells
  let cells := (img.iomap.filter (fun e => bitOf e.2 6 && outs.contains e.1))
  let multi := (cells.filter (fun e => cells.any (fun f => decide (f.1 < e.1) && f.1 / 8192 == e.1 / 8192
    && bitsOf f.2 5 0 == bitsOf e.2 5 0))).map (fun e => tabFail 5 0x1501 0x0040 0 e.1)
  let chan := (img.dmbDesc.filter (fun e => 2 ≤ descBind e.2 && img.dmbDesc.any (fun f => decide (f.1 < e.1)
    && descBind f.2 == descBind e.2 && descChan f.2 == descChan e.2))).map (fun e => tabFail 5 0x1414 0x0030 0 (8 * e.1))
  rateFails m img ++ budgetFails img ++ multi ++ chan

/-- What the checks on words need from an image. -/
def Img.env (img : Img) (ws : List Walk) : ChkEnv :=
  { walks := ws.map (Walk.ranges img.seg),
    ranges := (((ws.flatMap (·.vis)).eraseDups).filter (fun i => segCond (sget 0 img.seg i) != 2)).map
      (fun i => (segFirst (sget 0 img.seg i), segLast (sget 0 img.seg i))),
    windows := img.windows, desc := img.dmbDesc }

/-- R182, R183: every breach of an image, over all groups. IM_UNREACHED_STEP ranks in group 2 right after SEGMENT, by quire,
and is reported at its IM word (DEDUCED, log entry 42). -/
def Module.imageFails (m : Module) (img : Img) : List Fail :=
  let g1 := structureFails img
  let ws := walksOf img.seg img.disp img.tipKeys
  let env := img.env ws
  let lost := m.lostList
  let unr := if !wholeSect img 0x0020 0 then [] else ((img.im.map (·.1) ++ img.imEss).eraseDups.filter (fun k => unreached env (imStep k))).map (fun k =>
    { group := 2, rank := 0x0020 * 65536 + 1 + imQuire k, off := 12 * (k % 2097152), code := 0x1102, ty := 0x0010, inst := imQuire k : Fail })
  let tips := img.tips.flatMap (fun t => (tipFails env img lost t).map (fun f => tabFail 2 f.2 0x0060 t.inst f.1))
  g1 ++ segFails img ws ++ unr ++ clockFails img ++ dmbDescFails img ++ dmbInitFails img ++ windowFails img ++ iomapFails img
    ++ watchFails img lost ++ tips
    ++ (wordFails env { im := img.im, xbar := img.xbar, spine := img.spine }).map quireFail ++ lostFails img lost
    ++ linkFails m env img ++ moduleFails m img

end Sys2Proof.Machine
end

