-- ==== Sys2Proof/Machine/Startup.lean ====
section
/-! DEFINITION. Machine/Startup.lean: programming an image (R322 pass 5), the steps of the start-up sequence (R331-R333),
the entries to LOAD and BRINGUP, entropy (R339). -/

namespace Sys2Proof.Machine

/-! ### Entropy (R339): HMAC_DRBG with SHA-384 -/

/-- One update of the DRBG state (NIST SP 800-90A) with provided data. -/
def drbgUpdate (k v data : List Byte) : List Byte × List Byte :=
  let k1 := hmac384 k (v ++ [0#8] ++ data)
  let v1 := hmac384 k1 v
  if data.isEmpty then (k1, v1)
  else
    let k2 := hmac384 k1 (v1 ++ [1#8] ++ data)
    (k2, hmac384 k2 v1)

/-- R339: the DRBG takes a fresh 512-bit pool; `init` starts it anew. The pool's bits are free (Config.entropyPool). -/
def Module.drbgSeed (init : Bool) (m : Module) : Module :=
  let pool := beBytes 64 (Config.entropyPool m.sec.freeCtr).toNat
  let k0 := if init then List.replicate 48 (0#8) else beBytes 48 m.sec.drbgK.toNat
  let v0 := if init then List.replicate 48 (1#8) else beBytes 48 m.sec.drbgV.toNat
  let r := drbgUpdate k0 v0 pool
  { m with sec := { m.sec with drbgK := BitVec.ofNat 384 (beNat r.1), drbgV := BitVec.ofNat 384 (beNat r.2),
                               drbgCount := 0, freeCtr := m.sec.freeCtr + 1 } }

/-- R339: 32 bytes from the DRBG; a reseed after every 65,536 requests. -/
def Module.drbgDraw (m : Module) : List Byte × Module :=
  let v := hmac384 (beBytes 48 m.sec.drbgK.toNat) (beBytes 48 m.sec.drbgV.toNat)
  let r := drbgUpdate (beBytes 48 m.sec.drbgK.toNat) v []
  let m1 := { m with sec := { m.sec with drbgK := BitVec.ofNat 384 (beNat r.1), drbgV := BitVec.ofNat 384 (beNat r.2),
                                         drbgCount := m.sec.drbgCount + 1 } }
  (v.take 32, if 65536 ≤ m1.sec.drbgCount then m1.drbgSeed false else m1)

/-! ### Epochs (R341) -/

/-- R341 step 1: the steward draws the new secret of a domain whose epoch changes, once randomness is ready (R339). -/
def Module.drawEpoch (design : Bool) (m : Module) : Module :=
  let due := if design then m.load.epochDesign && m.sec.newDesign.isNone else m.load.epochStage && m.sec.newStage.isNone
  if due && m.sec.trngReady then
    let r := m.drbgDraw
    let k := some (bytesKey r.1)
    { r.2 with sec := if design then { r.2.sec with newDesign := k } else { r.2.sec with newStage := k } }
  else m

/-- R341: an epoch change of a domain begins: the new secret is drawn, the old keys are erased, and counters, nodes and roots
zeroed. -/
def Module.beginEpoch (design : Bool) (m : Module) : Module :=
  let m1 := m.clearDomain design
  let m2 : Module := if design then { m1 with load := { m1.load with epochDesign := true },
                                              sec := { m1.sec with designSecret := none, newDesign := none } }
    else { m1 with load := { m1.load with epochStage := true }, sec := { m1.sec with stageSecret := none, newStage := none } }
  m2.drawEpoch design

/-! ### HBM -/

/-- Count the writes of every sector of a byte range (R342). -/
def Hbm.bump (keys : Bool → List Byte) (h : Hbm) (a len : Nat) : Hbm :=
  h.written keys ((List.range ((a + len + 63) / 64 - a / 64)).map (a / 64 + ·))

/-- Write consecutive bytes of HBM. -/
def Hbm.write (keys : Bool → List Byte) (h : Hbm) (a : Nat) (bs : List Byte) : Hbm :=
  { h with bytes := writeBytes h.bytes a bs }.bump keys a bs.length

/-- Replace the bytes of a range by sparse bytes. -/
def Hbm.place (keys : Bool → List Byte) (h : Hbm) (a len : Nat) (bs : SMap Byte) : Hbm :=
  { h with bytes := srange h.bytes 0 a ++ shift a (srange bs 0 len) ++ h.bytes.filter (fun (e : Nat × Byte) => a + len ≤ e.1) }.bump keys a len

/-! ### Programming (pass 5) -/

/-- R35, R36: the key of IM word `step` of a BP in the bank that serves its quarter at reset. -/
def imBank (bp step : Nat) : Nat := (bp * 5 + step / 512) * 512 + step % 512

/-- R204: the same for a schedule entry. -/
def schedBank (quire e : Nat) : Nat := (quire * 5 + e / 512) * 512 + e % 512

/-- A schedule word with the parity the staging path generates over n bytes (R98, R123). -/
def schedWord (n v : Nat) : SchedWord := { bits := v, par := byteParity n v }

/-- R47: an IM word with its parity. -/
def imWord (v : Nat) : ImWord := { word := BitVec.ofNat 96 v, par := BitVec.ofNat 12 (byteParity 12 v) }

/-- Bytes of an entry of the crossbar, spine and link-die schedules (R173, R295). -/
def xbarLen : Nat := 240
def spineLen : Nat := 512
def linkLen : Nat := 8704

/-- R203: the requests of lane 0 in the slices of a tip-in. -/
def tipReqs (t : TipImg) : List (Nat × Nat × Nat) :=
  lane0Reqs (t.im.map (fun e => (e.1 / 512 * 2048 + 512 * tipHdrQuarter t.header + e.1 % 512, e.2)))

/-- R173: the data-plane tables of an image. BANKMAP returns to 0x4688, shadows are zero and EMPTY, force points and
I/O registers are clear, halt enables are 1 (R36, R73, R75, R78, R172). -/
def programData (img : Img) (d : Data) : Data :=
  { d with
    im := img.im.map (fun e => (imBank (imBp e.1) (imStep e.1), imWord e.2)),
    imEss := img.imEss.map (fun k => (imBank (imBp k) (imStep k), true)),
    xbar := img.xbar.map (fun e => (schedBank (e.1 / 2048) (e.1 % 2048), schedWord xbarLen e.2)),
    xbarEss := img.xbarEss.map (fun k => (schedBank (k / 2048) (k % 2048), true)),
    spine := img.spine.map (fun e => (schedBank (e.1 / 2048) (e.1 % 2048), schedWord spineLen e.2)),
    spineEss := img.spineEss.map (fun k => (schedBank (k / 2048) (k % 2048), true)),
    link := img.link.map (fun e => (e.1, schedWord linkLen e.2)),
    linkEss := img.linkEss.map (fun k => (k, true)),
    builtinIm := none, bankmap := [], shadow := [], fill := [], fpoint := [], haltEn := [], ioData := [], ioEn := [], padFlight := [], padOut := [],
    dmbDesc := img.dmbDesc.map (fun e => (e.1, BitVec.ofNat 64 e.2)),
    windows := img.windows.map (fun e => (e.1, BitVec.ofNat 64 e.2)),
    iomap := img.iomap.map (fun e => (e.1, BitVec.ofNat 8 e.2)),
    -- R382: DMBs with an initial word are in use as well
    dmbUsed := img.dmbInit.foldl (fun t r => sset false t (bitsOf r.2.2 21 10) true)
      ((lane0Reqs img.im ++ img.tips.flatMap tipReqs).foldl
        (fun t r => if iwOpc r.2.2 = 7 then t else sset false t (reqDmbNum r.1 (iwTT r.2.2)) true) []) }

/-- R98: identical copies of the segment program and dispatch table in every sequencer. -/
def programSeq (img : Img) (s : Seq) : Seq :=
  { s with
    segs := (List.range 9).flatMap (fun q => img.seg.map (fun e => (256 * q + e.1, schedWord 8 e.2))),
    disp := (List.range 9).flatMap (fun q => img.disp.map (fun e => (260 * q + e.1, schedWord 1 e.2))) }

/-- R173-R176, R203, R232: the image in force. -/
def imageOf (img : Img) (plain : Bool) : Image :=
  let d := img.desc
  { present := true, modnum := dModnum d, modules := dModules d, systemId := BitVec.ofNat 64 (dSystem d),
    design := dDesign d, tipin := dTipin d, capture := dCapture d, trace := dTrace d,
    capSlots := bitsOf img.watchHdr 15 0, maskSlots := bitsOf img.watchHdr 31 16,
    taps := cutKeys img.watch 0 32, caps := cutKeys img.watch 32 8192, masks := cutKeys img.watch 8224 1024,
    tips := (placeTips 0 img.tips).map (fun e =>
      (tipHdrNumber e.1.header, tipHdrQuarter e.1.header, BitVec.ofNat 256 (tipHdrQuires e.1.header), e.2)),
    plain := plain }
where
  /-- Part of a table, rebased. -/
  cutKeys (t : SMap Nat) (lo len : Nat) : SMap Nat := (srange t lo (lo + len)).map (fun e => (e.1 - lo, e.2))

/-- R203: copy the resident tip-ins to their region. -/
def placeTipBytes (keys : Bool → List Byte) (mem : SMap Byte) (ss : List Sect) (base : Nat) (h : Hbm) (e : TipImg × Nat) : Hbm :=
  h.place keys (base + e.2) e.1.len (sectOf mem ss 0x0060 e.1.inst)

/-- R322 pass 5: program everything but generators and DMB initial words. PRED_FACTOR is that of the image in force. -/
def Module.programImage (m : Module) : Module :=
  let img := m.readImage
  let mem := srange m.hbm.bytes 0 stageTop
  let m1 := { m with
    data := programData img m.data,
    seq := programSeq img m.seq,
    image := imageOf img (!hdrEnc m.stagedHeader),
    -- R230: as a warm start: the cores stop, their work is discarded, every count restarts at 0
    couriers := { Couriers.init with mem := img.courier, lastRead := m.couriers.lastRead },
    txn := { m.txn with pulses := 0, pulseCommit := [] },
    start := { m.start with outen := false },
    hbm := (placeTips 0 img.tips).foldl (placeTipBytes m.nodeKeys mem img.sects (regBaseB (dTipin img.desc))) m.hbm }
  -- R219: programming clears every CHAN_CFG
  let m2 := { m1 with regs := m1.regs.filter (fun e => !(rChanCfg 0 ≤ e.1 && e.1 ≤ rChanCfg 255)) }
  (m2.setReg rPredFactor (dPred img.desc)).recountEligible

/-- R206, R213: a bank of a quire takes the image's own content of quarter q. -/
def rewriteBank (img : Img) (quire q bank : Nat) (d : Data) : Data :=
  let inBank (k : Nat) : Bool := k / 512 % 5 == bank
  let wipe {α : Type} (t : SMap α) (per : Nat) : SMap α :=
    t.filter (fun e => !(e.1 / 2560 / per == quire && inBank e.1))
  let imW := (img.im.filter (fun e => imQuire e.1 == quire && imStep e.1 / 512 == q)).map
    (fun e => ((imBp e.1 * 5 + bank) * 512 + imStep e.1 % 512, imWord e.2))
  let imE := (img.imEss.filter (fun k => imQuire k == quire && imStep k / 512 == q)).map
    (fun k => ((imBp k * 5 + bank) * 512 + imStep k % 512, true))
  let sch (t : SMap Nat) (n : Nat) : List (Nat × SchedWord) :=
    (t.filter (fun e => e.1 / 2048 == quire && e.1 % 2048 / 512 == q)).map
      (fun e => ((quire * 5 + bank) * 512 + e.1 % 512, schedWord n e.2))
  let ess (t : List Nat) : List (Nat × Bool) :=
    (t.filter (fun k => k / 2048 == quire && k % 2048 / 512 == q)).map (fun k => ((quire * 5 + bank) * 512 + k % 512, true))
  let zw : SchedWord := { bits := 0, par := 0 }
  { d with
    fill := sset 0 d.fill (quire * 5 + bank) 0,
    im := ssetAll { word := 0, par := 0 } (wipe d.im 1024) imW,
    imEss := ssetAll false (wipe d.imEss 1024) imE,
    xbar := ssetAll zw (wipe d.xbar 1) (sch img.xbar xbarLen),
    xbarEss := ssetAll false (wipe d.xbarEss 1) (ess img.xbarEss),
    spine := ssetAll zw (wipe d.spine 1) (sch img.spine spineLen),
    spineEss := ssetAll false (wipe d.spineEss 1) (ess img.spineEss) }

/-! ### The start-up sequence (R331, R332) -/

/-- R118, R104: load the generators from the image, in force and in the dictionary's view. -/
def Module.loadGenerators (img : Img) (m : Module) : Module :=
  let ks := List.range 64
  let cfg (k : Nat) : Nat := sget 0 img.clocks (2 * k)
  let time (k : Nat) : Nat := sget 0 img.clocks (2 * k + 1)
  let m1 := { m with seq := { m.seq with
    dclkCfg := ks.foldl (fun t k => sset 0 t k (cfg k)) [],
    dclkTime := ks.foldl (fun t k => sset 0x10000 t k (time k)) [], dclkHeld := [] } }
  m1.setRegs (ks.flatMap (fun k => [(rDclkCfg k, cfg k), (rDclkTime k, time k)]))

/-- R149, R150: write a whole DMB word with generated parity and set its valid bit. -/
def Data.writeDmb (d : Data) (addr : Nat) (w : Word) : Data :=
  { d with dmbData := sset 0 d.dmbData addr w,
           dmbPar := sset 0 d.dmbPar addr (BitVec.ofNat 8 (byteParity 8 w.toNat)),
           dmbValid := sset false d.dmbValid addr true }

/-- R151, R175: write the DMB initial words of an image. -/
def writeInit (img : Img) (d : Data) : Data :=
  img.dmbInit.foldl (fun d r => d.writeDmb (bitsOf r.2.2 21 0) (BitVec.ofNat 64 (bitsOf r.2.2 127 64))) d

/-- R332 GSR. -/
def Module.gsr (m : Module) : Module :=
  let img := m.readImage
  let d := { m.data with dm := [], builtinDm := none, watch := [], ioData := [], ioEn := [], dmbValid := [], queues := [] }
  ({ m with data := writeInit img d }).loadGenerators img

/-- R332: a step of the sequence. -/
def Module.startStep (code : Nat) (m : Module) : Module :=
  if code = 2 then { m with start := { m.start with outen := true } }
  else if code = 3 then m.gsr
  else if code = 4 then { m with start := { m.start with wren := true } }
  else m

/-- R331, R332: run steps in order; LOCK waits until it has ended. After the last step DONE begins and the module
releases MODREADY_N, unless IMAGE_SYSTEM_MISMATCH or DISCOVERY_FAIL holds it (R333). -/
def Module.runSteps : List Nat → Module → Module
  | [], m =>
    let hold := m.start.sysMismatch || m.start.discFail
    { m with start := { m.start with startupState := 5, stepsLeft := [] },
             pins := if hold then m.pins else { m.pins with modreadyLow := false } }
  | c :: t, m =>
    if c = 1 ∧ !m.start.lockDone then
      { m with start := { m.start with stepsLeft := c :: t, startupState := 4 - t.length } }
    else (m.startStep c).runSteps t

/-- R331: the sequence may run: lane training is over, and discovery where MODULES > 1. -/
def Module.startupOn (m : Module) : Bool :=
  decide (m.ctl.mode = .bringup) && decide (m.start.startupState ≤ 4) && m.start.lanesTrained
    && (!m.inSystem || decide (2 ≤ m.disc.state))

/-- R331: the sequence runs on from where it stands; not yet begun, it begins. -/
def Module.advanceStartup (m : Module) : Module := if m.startupOn then m.runSteps m.start.stepsLeft else m

/-- R331: the codes of STARTUP_SEQ, first step first. -/
def Module.seqSteps (m : Module) : List Nat :=
  let v := m.reg rStartupSeq
  [bitsOf v 3 0, bitsOf v 7 4, bitsOf v 11 8, bitsOf v 15 12]

/-- R303: the bundles that are up. -/
def Module.upBundles (m : Module) : List Nat := (List.range 20).filter (fun b => (m.bundle b).state == 1)

/-- R304 step 4: IDENT on every up bundle. -/
def Module.sendIdents (m : Module) : Module :=
  m.upBundles.foldl (fun m b => m.sendPrio b (.ident b m.disc.modnum m.image.systemId m.image.modules m.image.modnum)) m

/-- R304 steps 2 and 3: the ring of a ring head has returned: HEAD_DISC goes on, from the system head if bundle 11 is up. -/
def Module.ringBack (size : Nat) (m : Module) : Module :=
  let m1 := { m with disc := { m.disc with ringSize := size } }
  if m1.image.modnum ≠ 0 then m1.sendPrio 11 (.disc 11 1 (m1.disc.ring + 1) 0)
  else if (m1.bundle 11).state = 1 then m1.sendPrio 11 (.disc 11 1 1 0)
  else ({ m1 with disc := { m1.disc with rings := 1 } }).sendIdents

/-- R304 step 1, R287: a ring head sends RING_DISC on bundle 10; where that bundle is not up its ring is of one module. -/
def Module.openRing (ring : Nat) (m : Module) : Module :=
  if (m.bundle 10).state = 1 then m.sendPrio 10 (.disc 10 0 ring 0) else m.ringBack 1

/-- R304 step 1: the module whose image has MODNUM 0x00 opens discovery; a module alone runs none. -/
def Module.beginDiscovery (m : Module) : Module :=
  let m1 := { m with disc := { m.disc with state := 1 } }
  if m.image.modnum = 0 then
    ({ m1 with disc := { m1.disc with ring := 0, position := 0, modnum := 0 } }).openRing 0
  else m1

/-- R331: once no lane trains, discovery or the start-up sequence follows. -/
def Module.trainingOver (m : Module) : Module :=
  if m.ctl.mode = .bringup ∧ !m.start.lanesTrained ∧ m.lanes.all (fun e => e.2.phase.isNone) then
    let m1 := { m with start := { m.start with lanesTrained := true } }
    if m1.inSystem then (if m1.disc.state = 0 then m1.beginDiscovery else m1) else m1.advanceStartup
  else m

/-- R24, R117, R304: entry to BRINGUP. At a warm start the trained lanes of a bundle in Quiet stay trained and exit with the
training burst; every other lane trains in full. -/
def Module.enterBringup (m : Module) : Module :=
  let bs : List (Nat × Bundle) := (List.range 20).map (fun b => (b, sget Bundle.init m.bundles b))
  let train (e : Nat × Bundle) : Bool := m.ctl.cold || e.2.pstate != 1
  let single := decide (m.image.modules ≤ 1)
  let m1 := { m with
    bundles := bs.foldl (fun (t : SMap Bundle) (e : Nat × Bundle) => sset Bundle.init t e.1
      (if train e then { e.2 with state := 0, pstate := 3, nbr := none } else { e.2 with pstate := 0, busyAt := m.seq.cycle })) [],
    lanes := (List.range 160).foldl (fun t l =>
      if train (l / 8, sget Bundle.init m.bundles (l / 8)) || !(m.lane l).trained then
        sset Lane.init t l (sget Lane.init t l).train
      else t) m.lanes,
    disc := { Disc.init with rings := b2n single, ringSize := b2n single },
    start := { m.start with stepsLeft := m.seqSteps, startupState := 0, lockDone := false, walkAt := m.seq.cycle } }
  let m2 := (bs.filter (fun e => !train e)).foldl (fun m e => m.send (.burst e.1)) m1
  (m2.enter .bringup 0).trainingOver

/-- R24, R319, R327, R328: entry to LOAD. -/
def Module.enterLoad (m : Module) : Module :=
  let reload := m.reg rReload != 0
  let m1 := ((m.enter .load 0).setReg rLoadPurpose 0).setReg rReload 0
  let m2 := { m1 with load := { m1.load with state := 0, pass := 0, blocks := [], waitEntropy := none, comparing := false } }
  if m.ctl.cold then m2
  else if reload then m2.discardStaged 2
  else { m2 with load := { m2.load with comparing := m2.load.staged } }

end Sys2Proof.Machine
end

