-- ==== Sys2Proof/Machine/Endpoints.lean ====
section
/-! DEFINITION. Machine/Endpoints.lean: endpoint addresses of the module's units (R262, R263), and where a dictionary
request is answered without its effect (R358, R359, R361). -/

namespace Sys2Proof.Machine

/-- R262: the endpoint address inside the module: die, router x and y, port. -/
def epOf (die x y port : Nat) : Nat := 256 * die + 32 * x + 4 * y + port

/-- R262: with the module number. -/
def Module.ep (m : Module) (die x y port : Nat) : Nat := 4096 * m.disc.modnum + epOf die x y port

def Module.epSteward (m : Module) : Nat := m.ep 8 0 0 0
def Module.epEngine (m : Module) : Nat := m.ep 8 0 0 1
def Module.epHost (m : Module) : Nat := m.ep 8 3 0 0
def Module.epTxn (m : Module) : Nat := m.ep 8 3 0 1
def Module.epTrigger (m : Module) : Nat := m.ep 8 0 3 0
def Module.epFunnel (m : Module) : Nat := m.ep 8 0 3 1
def Module.epTimer (m : Module) : Nat := m.ep 8 3 3 0
def Module.epCore (m : Module) (k : Nat) : Nat := m.ep 8 (k / 4 % 4) (1 + k / 16) (k % 4)

/-- R263: the NI of a quire instance. -/
def Module.epQuire (m : Module) (q : Nat) : Nat := m.ep (q / 32) (1 + qCol q / 2) (1 + qRow q) (q % 2)

/-- R263: the die controller of an E-die or a link die. -/
def Module.epDie (m : Module) (d : Nat) : Nat := if d < 8 then m.ep d 0 0 0 else m.ep d 1 5 0

/-- R263, R161: the HBM controller that owns a byte address. -/
def Module.epHbm (m : Module) (a : Nat) : Nat :=
  match pcOf a / 16 with
  | 0 => m.ep 1 1 0 0
  | 1 => m.ep 1 4 0 0
  | 2 => m.ep 6 1 5 0
  | _ => m.ep 6 4 5 0

/-- R263: an endpoint exists at die and bits [7:0]. -/
def endpointExists (die low : Nat) : Bool :=
  let x := low / 32
  let y := low / 4 % 8
  let p := low % 4
  if die < 8 then
    (x == 0 && y == 0 && p == 0) || (1 ≤ x && x ≤ 4 && 1 ≤ y && y ≤ 4 && p < 2)
      || (die == 1 && y == 0 && p == 0 && (x == 1 || x == 4)) || (die == 6 && y == 5 && p == 0 && (x == 1 || x == 4))
  else if die = 8 then
    (x == 0 && y == 0 && p < 2) || (x == 3 && y == 0 && p < 2) || (x == 0 && y == 3 && p < 2) || (x == 3 && y == 3 && p == 0)
      || (x < 4 && 1 ≤ y && y ≤ 2)
  else if die = 9 ∨ die = 10 then (x == 1 && y == 5 && p == 0) || (x < 2 && y < 5 && p == 0)
  else false

/-- R262: mesh size of a die. -/
def meshSize (die : Nat) : Nat × Nat := if die < 8 then (6, 6) else if die = 8 then (4, 4) else (2, 6)

/-- R262: a router lies in the mesh of its die; `low` is bits [7:2] shifted down. -/
def routerExists (die r : Nat) : Bool := decide (die ≤ 10) && decide (r / 8 < (meshSize die).1) && decide (r % 8 < (meshSize die).2)

/-! ### Requests outside the control plane -/

/-- R359, R361: in LOCKDOWN a request that the steward does not guarantee is answered MODE. -/
def Module.control (f : Module → Module) (m : Module) : Module :=
  if m.ctl.mode = .lockdown then m.answer stMode else f m

/-- R358, R361: an entry served outside the always-on island answers RETRY while a core supply is absent. -/
def Module.planeControl (f : Module → Module) (m : Module) : Module :=
  m.control (fun m => if m.pins.suppliesGood then f m else m.answer stRetry)

end Sys2Proof.Machine
end

