-- ==== Sys2Proof/Machine/Chan.lean ====
section
/-! DEFINITION. Machine/Chan.lean: operations of channels, of the queues bound to them and of the thread scheduler that
several families share (R157, R216, R218-R229). -/

namespace Sys2Proof.Machine

/-! ### Channel configuration (R219) -/

def Module.chanCfg (m : Module) (c : Nat) : Nat := m.reg (rChanCfg c)
def cfgEn (v : Nat) : Bool := bitOf v 31
def cfgPaired (v : Nat) : Bool := bitOf v 30
def cfgFixed (v : Nat) : Bool := bitOf v 29
def cfgDlstall (v : Nat) : Bool := bitOf v 28
def cfgLag (v : Nat) : Nat := bitsOf v 23 16
def cfgReqw (v : Nat) : Nat := bitsOf v 13 8

def Module.chan (m : Module) (c : Nat) : Channel := sget Channel.init m.couriers.channels c
def Module.setChan (c : Nat) (x : Channel) (m : Module) : Module :=
  { m with couriers := { m.couriers with channels := sset Channel.init m.couriers.channels c x } }

/-- R155: the DMB bound to channel c with a binding. -/
def Data.bound (d : Data) (bind c : Nat) : Option Nat :=
  (d.dmbDesc.find? (fun e => descBind e.2.toNat == bind && descChan e.2.toNat == c)).map (·.1)

/-- Inbound (BIND = 2) and outbound (BIND = 3) queue of a channel. -/
def Module.inQueue (m : Module) (c : Nat) : Option Nat := m.data.bound 2 c
def Module.outQueue (m : Module) (c : Nat) : Option Nat := m.data.bound 3 c

def Data.queue (d : Data) (dmb : Nat) : Queue := sget Queue.init d.queues dmb
def Data.setQueue (d : Data) (dmb : Nat) (q : Queue) : Data := { d with queues := sset Queue.init d.queues dmb q }

/-- R149, R154: a word enters a queue at its physical TAIL. -/
def Data.enqueue (d : Data) (dmb : Nat) (w : Word) : Data :=
  let q := d.queue dmb
  let d1 := d.writeDmb (dmb * 1024 + q.tail) w
  d1.setQueue dmb { q with tail := (q.tail + 1) % 1024, count := q.count + 1 }

/-- R154: the word at the physical HEAD leaves. -/
def Data.dequeue (d : Data) (dmb : Nat) : Data :=
  let q := d.queue dmb
  d.setQueue dmb { q with head := (q.head + 1) % 1024, count := q.count - 1 }

/-- R88: the words that wait in a skid enter their queue in push order while it has room. -/
def Data.drainSkid (d : Data) (dmb : Nat) : Data :=
  let q := d.queue dmb
  let n := min q.skid.length (1024 - q.count)
  (q.skid.take n).foldl (fun d w => d.enqueue dmb w) (d.setQueue dmb { q with skid := q.skid.drop n })

/-! ### Ingress (R220) -/

/-- R220: the free entry that TAKE gives: the lowest-numbered (DESIGN CHOICE: the rule says a free entry). -/
def Channel.freeEntry (ch : Channel) : Option Nat :=
  (List.range 64).find? (fun e => (sget Entry.init ch.entries e).state == 0)

/-- R220: the message that TAKE would take is pending: an H2C slot, or the words of the next request. -/
def Module.ingress (m : Module) (c : Nat) : Bool :=
  let v := m.chanCfg c
  if cfgPaired v then
    match m.outQueue c with
    | some dmb => decide (cfgReqw v ≤ (m.data.queue dmb).count) && cfgReqw v != 0
    | none => false
  else !(m.chan c).h2c.isEmpty

def Module.canTake (m : Module) (c : Nat) : Bool :=
  cfgEn (m.chanCfg c) && m.ingress c && (m.chan c).freeEntry.isSome

/-- R223: free slots of the C2H ring. -/
def Channel.c2hFree (ch : Channel) : Nat := 64 - (ch.c2hAlloc + 2 ^ 32 - ch.c2hCons) % 2 ^ 32

/-- Physical room of the inbound queue of a channel. -/
def Module.inRoom (m : Module) (c : Nat) : Nat :=
  match m.inQueue c with
  | some dmb => 1024 - (m.data.queue dmb).count
  | none => 0

/-! ### The scheduler (R216, R218) -/

def Module.ctx (m : Module) (n : Nat) : Ctx := sget (Ctx.init n) m.couriers.contexts n
def Module.setCtx (n : Nat) (x : Ctx) (m : Module) : Module :=
  { m with couriers := { m.couriers with contexts := sset (Ctx.init n) m.couriers.contexts n x } }

/-- R218: the condition of a wait object; `pend` is the context's own PEND and `arg` its SCH_ARG. -/
def Module.objReady (m : Module) (obj arg : Nat) (pend : Bool) : Bool :=
  let c := obj % 4096
  match obj / 4096 with
  | 0 => pend
  | 1 => m.canTake c
  | 2 => (match m.outQueue c with
      | some dmb => decide (descWm0 (m.data.desc dmb) ≤ (m.data.queue dmb).count)
      | none => false)
  | 3 => decide (0 < (m.chan c).c2hFree)
  | 4 => (match m.inQueue c with
      | some dmb => decide (descWm1 (m.data.desc dmb) ≤ 1024 - (m.data.queue dmb).count)
      | none => false)
  | 5 => decide (arg ≤ m.stew.now)
  | 6 => decide (arg ≤ m.seq.folio)
  | _ => true

/-- R218: a reserved class, or an index above 255. -/
def objReserved (obj : Nat) : Bool := decide (6 < obj / 4096 ∨ 255 < obj % 4096)

/-- The ready list of a core and a priority. -/
def readyKey (core prio : Nat) : Nat := core * 32 + prio

/-- R216: the ready list of a core and a priority takes a new value. -/
def Module.setReady (k : Nat) (l : List Nat) (m : Module) : Module :=
  { m with couriers := { m.couriers with ready := sset [] m.couriers.ready k l } }

/-- R216: a context becomes READY, at the tail of its list (`front`: a pre-empted one goes to the head, and its place in
the order in which contexts became READY stays, DEDUCED). -/
def Module.makeReady (n : Nat) (front : Bool) (m : Module) : Module :=
  let x := m.ctx n
  let k := readyKey x.home x.prio
  let l := sget [] m.couriers.ready k
  if front then (m.setCtx n { x with state := 1 }).setReady k (n :: l)
  else
    let m1 := (m.setCtx n { x with state := 1, readyAt := m.couriers.readySeq }).setReady k (l ++ [n])
    { m1 with couriers := { m1.couriers with readySeq := m1.couriers.readySeq + 1 } }

/-- R216: a list of READY contexts, longest READY first, with one more of stamp t. -/
def Module.byAge (m : Module) (n t : Nat) (l : List Nat) : List Nat :=
  let older (k : Nat) : Bool := decide ((m.ctx k).readyAt < t)
  l.takeWhile older ++ n :: l.dropWhile older

/-- The context that runs on a core. -/
def Module.running (m : Module) (core : Nat) : Option Nat :=
  (m.couriers.contexts.find? (fun e => e.2.state == 2 && e.2.home == core)).map (·.1)

/-- The READY context that a core would run: the head of the best list that is not empty. -/
def Module.bestReady (m : Module) (core : Nat) : Option (Nat × Nat) :=
  (List.range 32).findSome? (fun p => match sget [] m.couriers.ready (readyKey core p) with
    | n :: _ => some (p, n)
    | [] => none)

/-- The head of a list starts to run. -/
def Module.dispatch (core prio n : Nat) (m : Module) : Module :=
  let k := readyKey core prio
  (m.setCtx n { m.ctx n with state := 2 }).setReady k ((sget [] m.couriers.ready k).drop 1)

/-- R216: a core runs its READY context of highest priority; a higher priority pre-empts. -/
def Module.schedule (core : Nat) (m : Module) : Module :=
  if !m.couriers.run.getLsbD core then m
  else match m.bestReady core, m.running core with
    | some (p, n), none => m.dispatch core p n
    | some (p, n), some r => if p < (m.ctx r).prio then (m.makeReady r true).dispatch core p n else m
    | none, _ => m

/-- R218: every context whose condition holds becomes READY, but those of a core that has halted, which stay as they stand
(R215); class 0 clears PEND. Contexts that one event makes READY
join their lists in ascending context number (DESIGN CHOICE: R216 orders them by how long they have been READY). -/
def Module.wake (m : Module) : Module :=
  let hit := m.couriers.contexts.filter (fun e => e.2.state == 3 && m.couriers.run.getLsbD e.2.home
    && m.objReady e.2.waitobj e.2.waitArg e.2.pend)
  let wakeOne (m : Module) (n : Nat) : Module :=
    let x := m.ctx n
    (m.setCtx n { x with pend := x.pend && x.waitobj / 4096 != 0 }).makeReady n false
  if hit.isEmpty then m
  else
    let m1 := (hit.map (·.1)).foldl wakeOne m
    ((hit.map (·.2.home)).eraseDups).foldl (fun m c => m.schedule c) m1

/-! ### Requests of the design (R226, R228) -/

/-- The design pushed a word on the outbound queue of channel c. -/
def Module.requestWord (c : Nat) (m : Module) : Module :=
  m.setChan c { m.chan c with wordFolios := (m.chan c).wordFolios ++ [m.seq.folio] }

/-- R220, R226: the whole requests of `w` words that wait on the outbound queue, as the folios of their last words. -/
def Channel.requests (ch : Channel) (w : Nat) : List Nat :=
  if w = 0 then [] else (List.range (ch.wordFolios.length / w)).map (fun i => nth 0 ch.wordFolios (w * (i + 1) - 1))

/-! ### Retirement (R224) -/

/-- The entry that must retire next: its SEQ is the oldest not RETIRED. -/
def Channel.oldest (ch : Channel) : Option (Nat × Entry) :=
  ch.entries.find? (fun e => 1 ≤ e.2.state && e.2.state ≤ 2 && e.2.seq == ch.retireSeq)

/-- One entry retires when it is DONE and its words have room. Its LEN words enter the inbound queue as one unit; a word of
the buffer that nothing has written since TAKE is 0 (DESIGN CHOICE). -/
def Module.retireOne (c : Nat) (m : Module) : Option Module :=
  let ch := m.chan c
  match ch.oldest with
  | some (e, x) =>
    if x.state = 2 ∧ (x.len = 0 ∨ x.len ≤ m.inRoom c) then
      let ch1 := { ch with entries := sset Entry.init ch.entries e { x with state := 3 },
                           retireSeq := (ch.retireSeq + 1) % 2 ^ 32,
                           deadlines := match x.reqFolio with
                             | some f => if x.missed then ch.deadlines else ch.deadlines.erase f
                             | none => ch.deadlines }
      let m1 := m.setChan c ch1
      match m.inQueue c with
      | some dmb => some { m1 with data := ((List.range x.len).map (nth 0#64 x.buffer)).foldl (fun d w => d.enqueue dmb w) m1.data }
      | none => some m1
    else none
  | none => none

/-- Every entry that can retire does, in SEQ order; the contexts that wait are looked at again. -/
def Module.retireAll (c : Nat) : Nat → Module → Module
  | 0, m => m
  | n + 1, m => match m.retireOne c with
    | some m1 => Module.retireAll c n m1
    | none => m

end Sys2Proof.Machine
end

