-- ==== Sys2Proof/Machine/Route.lean ====
section
/-! DEFINITION. Machine/Route.lean: header flits (R264), default and source routes (R269, R271), and the die-link packet
channels that carry flits from die to die (R267, R272, R273). -/

namespace Sys2Proof.Machine

/-! ### Header flits (R264) -/

/-- R264: the header flit of a packet. -/
def packetFlit (p : Packet) : BitVec 256 :=
  BitVec.ofNat 256 (p.op % 16 * 2 ^ 252 + p.pri % 4 * 2 ^ 250 + b2n p.sr * 2 ^ 249 + b2n p.ackreq * 2 ^ 248
    + p.len % 16 * 2 ^ 244 + p.dst % 2 ^ 20 * 2 ^ 224 + p.src % 2 ^ 20 * 2 ^ 204 + p.tag % 4096 * 2 ^ 192
    + p.status % 16 * 2 ^ 188 + p.hops % 16 * 2 ^ 184 + p.route % 2 ^ 24 * 2 ^ 160 + p.xhops % 16 * 2 ^ 156
    + p.addr % 2 ^ 64 * 2 ^ 64 + p.idata.toNat)

/-- The packet that a header flit and data flits spell. -/
def flitPacket (h : BitVec 256) (data : List (BitVec 256)) : Packet :=
  let f (hi lo : Nat) : Nat := bitsOf h.toNat hi lo
  { op := f 255 252, pri := f 251 250, sr := bitOf h.toNat 249, ackreq := bitOf h.toNat 248, len := f 247 244,
    dst := f 243 224, src := f 223 204, tag := f 203 192, status := f 191 188, hops := f 187 184, route := f 183 160,
    xhops := f 159 156, addr := f 127 64, idata := BitVec.ofNat 64 (f 63 0), data := data }

/-- R264, R265: data flits that follow a header; an RD asks for LEN flits and carries none. -/
def dataFlits (op len : Nat) : Nat := if op = 0 then 0 else len

/-- R265: the VC of an OP: 1 request, 2 response, 3 message (the codes of VCMAP, R272). -/
def vcOf (op : Nat) : Nat := if op = 3 then 3 else if op < 3 then 1 else 2

/-- The flits of a packet with their VC. -/
def packetFlits (p : Packet) : List (Nat × BitVec 256) :=
  (packetFlit p :: p.data.take (dataFlits p.op p.len)).map (fun f => (vcOf p.op, f))

/-- The first whole packet of a VC among flits, and the flits without it. -/
def takePacket (vc : Nat) (fs : List (Nat × BitVec 256)) : Option (Packet × List (Nat × BitVec 256)) :=
  match fs.filter (fun f => f.1 == vc) with
  | [] => none
  | h :: t =>
    let n := dataFlits (bitsOf h.2.toNat 255 252) (bitsOf h.2.toNat 247 244)
    if t.length < n then none
    else some (flitPacket h.2 ((t.take n).map (·.2)), fs.filter (fun f => f.1 != vc) ++ t.drop n)

/-- The whole packets among flits, VC by VC, and what is left. `fuel` bounds their number. -/
def takePackets : Nat → List (Nat × BitVec 256) → List Packet × List (Nat × BitVec 256)
  | 0, fs => ([], fs)
  | fuel + 1, fs =>
    match (takePacket 2 fs).orElse (fun _ => (takePacket 3 fs).orElse (fun _ => takePacket 1 fs)) with
    | none => ([], fs)
    | some (p, rest) =>
      let r := takePackets fuel rest
      (p :: r.1, r.2)

/-! ### Routers and routes (R262, R269, R271) -/

/-- Where a packet stands: die, x, y. -/
abbrev Router := Nat × Nat × Nat

/-- The router of an endpoint address. -/
def routerOf (ep : Nat) : Router := (ep / 256 % 16, ep / 32 % 8, ep / 4 % 8)

/-- R269: grid row and column of an E-die or H. -/
def gridOf (die : Nat) : Nat × Nat := nth (0, 0) [(0, 0), (0, 1), (0, 2), (1, 0), (1, 2), (2, 0), (2, 1), (2, 2), (1, 1)] die

/-- The die at a place of the grid. -/
def gridDie (row col : Nat) : Nat := nth 0 [0, 1, 2, 3, 8, 4, 5, 6, 7] (3 * row + col)

/-- R262: the die-link router of a die in a direction (0 north, 1 east, 2 south, 3 west) and the die it faces. On a link
die the row picks the link. -/
def exitOf (die dir row : Nat) : Option (Router × Nat) :=
  let g := gridOf die
  if die < 8 then
    match dir with
    | 0 => if 0 < g.1 then some ((die, 2, 0), gridDie (g.1 - 1) g.2) else none
    | 1 => some ((die, 5, 3), if g.2 < 2 then gridDie g.1 (g.2 + 1) else 10)
    | 2 => if g.1 < 2 then some ((die, 3, 5), gridDie (g.1 + 1) g.2) else none
    | _ => some ((die, 0, 2), if 0 < g.2 then gridDie g.1 (g.2 - 1) else 9)
  else if die = 8 then
    match dir with
    | 0 => some ((8, 1, 0), 1)
    | 1 => some ((8, 3, 2), 4)
    | 2 => some ((8, 2, 3), 6)
    | _ => some ((8, 0, 1), 3)
  else if die = 9 then (if dir = 1 then some ((9, 1, 2 * row), gridDie row 0) else none)
  else if die = 10 then (if dir = 3 then some ((10, 0, 2 * row), gridDie row 2) else none)
  else none

/-- The direction back. -/
def opposite (dir : Nat) : Nat := (dir + 2) % 4

/-- The router of a die at which a packet from another die enters, coming in direction `dir`. -/
def entryOf (src die dir : Nat) : Router :=
  match exitOf die (opposite dir) (gridOf src).1 with
  | some e => e.1
  | none => (die, 0, 0)

/-- One hop in a direction: over the die link of a router that lies in its direction, else within the mesh. -/
def hopFrom (r : Router) (dir : Nat) : Option Router :=
  let inMesh : Option Router :=
    let s := meshSize r.1
    match dir with
    | 0 => if 0 < r.2.2 then some (r.1, r.2.1, r.2.2 - 1) else none
    | 1 => if r.2.1 + 1 < s.1 then some (r.1, r.2.1 + 1, r.2.2) else none
    | 2 => if r.2.2 + 1 < s.2 then some (r.1, r.2.1, r.2.2 + 1) else none
    | _ => if 0 < r.2.1 then some (r.1, r.2.1 - 1, r.2.2) else none
  match exitOf r.1 dir (r.2.2 / 2) with
  | some e => if e.1 = r then some (entryOf r.1 e.2 dir) else inMesh
  | none => inMesh

/-- R269: the row and column that a destination gives a packet on the grid. -/
def targetOf (dst : Router) : Nat × Nat :=
  if dst.1 = 9 then (dst.2.2 / 2, 0) else if dst.1 = 10 then (dst.2.2 / 2, 2) else gridOf dst.1

/-- R269: the direction in which a packet leaves the die it is on. -/
def leaveDir (die : Nat) (dst : Router) : Nat :=
  let t := targetOf dst
  let g := gridOf die
  if die = 9 then 1
  else if die = 10 then 3
  else if g.2 < t.2 then 1
  else if t.2 < g.2 then 3
  else if g.1 < t.1 then 2
  else if t.1 < g.1 then 0
  else if dst.1 = 9 then 3 else 1

/-- Toward a router of the same die: first in x, then in y. -/
def towards (r t : Router) : Option Nat :=
  if r.2.1 < t.2.1 then some 1
  else if t.2.1 < r.2.1 then some 3
  else if r.2.2 < t.2.2 then some 2
  else if t.2.2 < r.2.2 then some 0
  else none

/-- R269: the direction of the default route from a router; none at the destination. -/
def defaultDir (r dst : Router) : Option Nat :=
  if r.1 = dst.1 then towards r dst
  else
    let dir := leaveDir r.1 dst
    match exitOf r.1 dir (targetOf dst).1 with
    | some e => some ((towards r e.1).getD dir)
    | none => none

/-- R269, R271: the hops of a packet from a router on, each with its direction: source-route hops first. -/
def hopsFrom : Nat → Router → Router → Bool → Nat → Nat → List (Router × Nat)
  | 0, _, _, _, _, _ => []
  | fuel + 1, r, dst, sr, hops, route =>
    let src := sr && 0 < hops
    let dir := if src then some (route % 4) else defaultDir r dst
    match dir with
    | none => []
    | some d =>
      match hopFrom r d with
      | none => []
      | some r2 => (r, d) :: hopsFrom fuel r2 dst src (hops - 1) (route / 4)

/-- R269: the routers on a route after its first one. -/
def routersOf (hs : List (Router × Nat)) : List Router := hs.filterMap (fun h => hopFrom h.1 h.2)

/-- R16: the die link between two dies, and the direction in which a crosses to b. -/
def dieEnds (j : Nat) : Nat × Nat :=
  nth (0, 0) [(0, 1), (1, 2), (0, 3), (2, 4), (3, 5), (4, 7), (5, 6), (6, 7), (8, 1), (8, 3), (8, 4), (8, 6),
    (9, 0), (9, 3), (9, 5), (10, 2), (10, 4), (10, 7)] j

def linkBetween (a b : Nat) : Option (Nat × Nat) :=
  (List.range 18).findSome? (fun j => if dieEnds j = (a, b) then some (j, 0) else if dieEnds j = (b, a) then some (j, 1) else none)

/-- The die that receives on a direction of a link, and the one that sends. -/
def dieReceiver (j dir : Nat) : Nat := if dir = 0 then (dieEnds j).2 else (dieEnds j).1
def dieSender (j dir : Nat) : Nat := dieReceiver j (1 - dir)

/-- The router at which a packet enters the receiving die of a link. -/
def linkEntry (j dir : Nat) : Router :=
  let a := dieSender j dir
  let b := dieReceiver j dir
  ((List.range 4).findSome? (fun d => match exitOf a d (gridOf b).1 with
    | some e => if e.2 = b then some (entryOf a b d) else none
    | none => none)).getD (b, 0, 0)

/-- The first die link that hops cross: link, direction, and the source-route hops left behind it. -/
def firstCrossing (hs : List (Router × Nat)) : Option (Nat × Nat × Nat) :=
  hs.zipIdx.findSome? (fun e => match hopFrom e.1.1 e.1.2 with
    | some r2 => if r2.1 = e.1.1.1 then none else (linkBetween e.1.1.1 r2.1).map (fun l => (l.1, l.2, e.2 + 1))
    | none => none)

/-- R263: the router of a bundle. -/
def bundleRouter (b : Nat) : Router := if b < 10 then (9, b % 2, b / 2) else (10, (b - 10) % 2, (b - 10) / 2)

/-- R270: the router that a packet goes to inside this module: its destination's, or that of the bundle it leaves on. -/
def Module.aimOf (m : Module) (p : Packet) : Option Router :=
  let mod := p.dst / 4096
  if mod = m.disc.modnum then some (routerOf p.dst)
  else
    let r := m.reg (rModroute mod)
    if bitOf r 7 then some (bundleRouter (r % 32)) else none

/-- R276: key of an endpoint of this module in the table of dead endpoints. -/
def deadKey (ep : Nat) : Nat := ep % 4096

/-- R276: a router is marked dead. -/
def Module.routerDead (m : Module) (r : Router) : Bool := sget false m.fabric.deadRt (64 * r.1 + 8 * r.2.1 + r.2.2)

/-- R276: the way of a packet from a router on, source-route hops first, runs into a dead router. -/
def Module.wayDead (m : Module) (r : Router) (p : Packet) : Bool :=
  match m.aimOf p with
  | none => false
  | some t => (routersOf (hopsFrom 64 r t p.sr p.hops p.route)).any m.routerDead

/-- R271: the source route that an NI gives a packet at injection. -/
def Module.sourceRoute (p : Packet) (m : Module) : Packet :=
  match m.aimOf p with
  | none => p
  | some t =>
    let base := (p.src % 4096) * 16
    let aim := t.1 * 64 + t.2.1 * 8 + t.2.2
    let match_ := (if p.dst / 4096 = m.disc.modnum then p.dst / 4096 else m.disc.modnum) * 1024 + aim
    let hit := (List.range 16).findSome? (fun i =>
      let e := (sget 0 m.fabric.srcRoute (base + i)).toNat
      if bitOf e 63 && bitsOf e 55 38 == match_ then some e else none)
    match hit with
    | some e => { p with sr := true, hops := bitsOf e 59 56, route := bitsOf e 23 0 }
    | none => p

/-! ### Die-link packet channels (R272, R273) -/

def linkKey (link dir : Nat) : Nat := 2 * link + dir
def Module.dieLink (m : Module) (link dir : Nat) : DieLink := sget DieLink.init m.fabric.dieLinks (linkKey link dir)
def Module.setDieLink (link dir : Nat) (x : DieLink) (m : Module) : Module :=
  { m with fabric := { m.fabric with dieLinks := sset DieLink.init m.fabric.dieLinks (linkKey link dir) x } }

/-- R267: credits held for a VC. -/
def DieLink.credit (x : DieLink) (vc : Nat) : Nat := if vc = 1 then x.haveReq else if vc = 2 then x.haveRsp else x.haveMsg
def DieLink.spend (x : DieLink) (vc : Nat) : DieLink :=
  if vc = 1 then { x with haveReq := x.haveReq - 1 } else if vc = 2 then { x with haveRsp := x.haveRsp - 1 }
  else { x with haveMsg := x.haveMsg - 1 }

/-- R267: the VC that an output serves next: response, message, request, of those that have a flit and a credit. -/
def DieLink.nextVc (x : DieLink) : Option Nat :=
  [2, 3, 1].find? (fun vc => x.credit vc != 0 && x.txq.any (fun f => f.1 == vc))

/-- The flits of request packets, packet by packet. `fuel` bounds their number. -/
def splitRequests : Nat → List (BitVec 256) → List (List (BitVec 256))
  | 0, _ => []
  | _, [] => []
  | fuel + 1, h :: t =>
    let k := dataFlits (bitsOf h.toNat 255 252) (bitsOf h.toNat 247 244)
    (h :: t.take k) :: splitRequests fuel (t.drop k)

/-- R264: PRI of a packet by its header flit. -/
def flitPri (fs : List (BitVec 256)) : Nat := bitsOf (nth 0 fs 0).toNat 251 250

/-- R267: the request packet that an output serves next: the higher PRI first, the oldest among equals. -/
def nextRequest (ps : List (List (BitVec 256))) : List (BitVec 256) :=
  ([3, 2, 1, 0].findSome? (fun pri => ps.find? (fun fs => flitPri fs == pri))).getD []

/-- R267: waiting flits with the request packet that is served next ahead of the others of its VC, and the flits of it that
are to leave; a packet under way, with `left` to come, is not interrupted. -/
def orderRequests (left : Nat) (q : List (Nat × BitVec 256)) : List (Nat × BitVec 256) × Nat :=
  if left ≠ 0 then (q, left)
  else
    let ps := splitRequests q.length ((q.filter (fun f => f.1 == 1)).map (·.2))
    let p := nextRequest ps
    (q.filter (fun f => f.1 != 1) ++ (p ++ (ps.erase p).flatMap id).map (fun f => (1, f)), p.length)

/-- R267: the oldest request packet that waits behind the one under way is served next, whatever its PRI. -/
def ageRequests (left : Nat) (q : List (Nat × BitVec 256)) : List (Nat × BitVec 256) × Nat :=
  let reqs := (q.filter (fun f => f.1 == 1)).map (·.2)
  (q, left + (nth [] (splitRequests q.length (reqs.drop left)) 0).length)

/-- The flits, at most four, that the next frame takes: VC by VC, in order within each, while each has a credit. -/
def DieLink.gather : Nat → DieLink → List (Nat × BitVec 256) × DieLink
  | 0, x => ([], x)
  | n + 1, x => match x.nextVc with
    | none => ([], x)
    | some vc =>
      let o := orderRequests x.reqLeft x.txq
      let y := if vc = 1 then { x with txq := o.1, reqLeft := o.2 } else x
      match y.txq.find? (fun f => f.1 == vc) with
      | none => ([], x)
      | some f =>
        let r := DieLink.gather n ({ y with txq := y.txq.erase f, reqLeft := if vc = 1 then y.reqLeft - 1 else y.reqLeft }.spend vc)
        (f :: r.1, r.2)

/-- R272: the frame of a KIND that the sender of a direction forms: SEQ, flits with their VC, and ACK and credits of what the
same die has received on the other direction. -/
def Module.dieFrameOf (m : Module) (link dir kind seq : Nat) (fs : List (Nat × BitVec 256)) : BitVec 1120 :=
  let back := m.dieLink link (1 - dir)
  dieBits (dieControl kind seq ((back.rxSeq + 255) % 256) (vcmapBits (fs.map (·.1))) (nth 0 back.freed 0) (nth 0 back.freed 1)
    (nth 0 back.freed 2)) (fs.map (·.2))

/-- R273: DATA frames leave while flits wait, credits are held and fewer than 128 frames are unacknowledged. -/
def Module.dieSend (link dir : Nat) : Nat → Module → Module
  | 0, m => m
  | n + 1, m =>
    let x := m.dieLink link dir
    if 128 ≤ x.unacked.length then m
    else
      let r := x.gather 4
      if r.1.isEmpty then m
      else
        let y : DieLink := { r.2 with txSeq := (x.txSeq + 1) % 256, unacked := x.unacked ++ [(x.txSeq, r.1)] }
        Module.dieSend link dir n ((m.setDieLink link dir y).send (.dieFrame link dir x.txSeq (m.dieFrameOf link dir 0 x.txSeq r.1)))

/-- R276: the hops of a way up to the first that would lead into a dead router: the neighbour absorbs what it would send
there. -/
def Module.liveHops (m : Module) (hs : List (Router × Nat)) : List (Router × Nat) :=
  hs.takeWhile (fun h => !(hopFrom h.1 h.2).any m.routerDead)

/-- A packet at a router goes to the first die link of its way, if it has one. -/
def Module.carry (r : Router) (p : Packet) (m : Module) : Module :=
  match m.aimOf p with
  | none => m
  | some t =>
    let hs := m.liveHops (hopsFrom 64 r t p.sr p.hops p.route)
    match firstCrossing hs with
    | none => m
    | some (link, dir, n) =>
      let q := if p.sr then { p with hops := p.hops - n, route := p.route / 4 ^ (min n p.hops), sr := n < p.hops } else p
      let x := m.dieLink link dir
      let fs := packetFlits q
      (m.setDieLink link dir { x with txq := x.txq ++ fs }).dieSend link dir (fs.length + 1)

end Sys2Proof.Machine
end

