-- ==== Sys2Proof/Machine/Net.lean ====
section
/-! DEFINITION. Machine/Net.lean: packets, tags and initiator statistics that several families share (R264, R265, R267,
R274, R278). -/

namespace Sys2Proof.Machine

def opRD : Nat := 0x0
def opWR : Nat := 0x1
def opPWR : Nat := 0x2
def opMSG : Nat := 0x3
def opCPL : Nat := 0x8
def opACK : Nat := 0x9
def opERR : Nat := 0xA

/-- R266 -/
def psOK : Nat := 0
def psUR : Nat := 1
def psAddr : Nat := 2
def psDead : Nat := 3
def psMac : Nat := 4
def psCA : Nat := 5
def psWrite : Nat := 6
def psTimeout : Nat := 7

/-- R264: a request with no route, no data and no immediate. -/
def packetReq (op pri dst src tag addr : Nat) : Packet :=
  { op := op, pri := pri, sr := false, ackreq := false, len := 0, dst := dst, src := src, tag := tag, status := 0, hops := 0,
    route := 0, xhops := 0, addr := addr, idata := 0, data := [] }

/-- R265: the response to a packet: it goes to SRC with the request's TAG and ADDR. -/
def replyTo (p : Packet) (op status : Nat) (idata : Word) (data : List (BitVec 256)) : Packet :=
  { op := op, pri := p.pri, sr := false, ackreq := false, len := data.length, dst := p.src, src := p.dst, tag := p.tag, status := status,
    hops := 0, route := 0, xhops := 0, addr := p.addr, idata := idata, data := data }

/-- R278: data bytes of a request. -/
def reqBytes (p : Packet) : Nat :=
  if p.op = opMSG then 8 + 32 * p.data.length
  else if p.op = opWR ∨ p.op = opPWR then (if p.data.isEmpty then 8 else 32 * p.data.length)
  else 0

/-- R278: add to statistics counter i, which wraps at 48 bits and sets its WRAP bit. -/
def InitStats.add (s : InitStats) (i n : Nat) : InitStats :=
  let v := nth 0 s.c i + n
  { s with c := setNth s.c i (v % 2 ^ 48), wrap := if 2 ^ 48 ≤ v then s.wrap ||| BitVec.ofNat 16 (2 ^ i) else s.wrap }

def Module.stats (m : Module) (ep : Nat) : InitStats := sget InitStats.init m.fabric.stats ep
def Module.setStats (ep : Nat) (s : InitStats) (m : Module) : Module :=
  { m with fabric := { m.fabric with stats := sset InitStats.init m.fabric.stats ep s } }

/-- A packet stands at a router of the module, on its way from there. -/
def Module.startAt (r : Router) (p : Packet) (m : Module) : Module :=
  let starts := if r = routerOf p.src then m.fabric.starts else m.fabric.starts ++ [(p, r)]
  { m with fabric := { m.fabric with net := m.fabric.net ++ [p], starts := starts } }.carry r p

/-- R264, R269, R271, R278: a packet enters the network, a request or message with the source route of its NI, a response by
the default route, and goes to its first die link; a request counts in its initiator. -/
def Module.inject (p0 : Packet) (m : Module) : Module :=
  let p := if p0.op ≤ opMSG then m.sourceRoute p0 else p0
  let m1 := m.startAt (routerOf p.src) p
  if p.op ≤ opMSG then m1.setStats p.src (((m1.stats p.src).add 0 1).add 1 (reqBytes p)) else m1

/-- R278: the histogram counter of a latency. -/
def histOf (ns : Nat) : Nat :=
  ((List.range 7).find? (fun i => ns < 64 * 2 ^ i)).getD 7

/-- R278: n posted requests of an initiator, with the bytes that they carry. -/
def Module.countPosted (ep n bytes : Nat) (m : Module) : Module :=
  if n = 0 then m else m.setStats ep (((m.stats ep).add 0 n).add 1 bytes)

/-- R278: n requests of an initiator that the command which makes them also completes, with the bytes that they and their
completions carry. Reads hold a tag each while they last; which latency they had is a free value. -/
def Module.countDone (ep n bytes : Nat) (read : Bool) (m : Module) : Module :=
  if read && n != 0 then
    let s := ((m.stats ep).add 0 n).add 1 bytes
    let lat := (Config.openWord m.sec.freeCtr).toNat % 2 ^ 32
    let s1 := s.add (2 + histOf lat) n
    (({ m with sec := { m.sec with freeCtr := m.sec.freeCtr + 1 } }).setReg rTagsPeak
      (max (m.reg rTagsPeak) (m.fabric.tags.length + 1))).setStats ep { s1 with maxLat := max s1.maxLat lat }
  else m.countPosted ep n bytes

/-- R274: the lowest free tag of [lo, lo + n). -/
def Module.freeTag (lo n : Nat) (m : Module) : Option Nat :=
  (List.range n).findSome? (fun i => if m.fabric.tags.any (fun t => t.tag == lo + i) then none else some (lo + i))

/-- R274, R278: a tag is taken and the request leaves. -/
def Module.request_ (use tag : Nat) (p : Packet) (m : Module) : Module :=
  let t : TagUse := { tag := tag, src := p.src, dst := p.dst, addr := p.addr, issued := m.stew.up, quarantine := false, use := use }
  let m1 := { m with fabric := { m.fabric with tags := m.fabric.tags ++ [t] } }
  (m1.setReg rTagsPeak (max (m1.reg rTagsPeak) m1.fabric.tags.length)).inject { p with tag := tag }

/-- A sector as two data flits. -/
def sectorFlits (v : BitVec 512) : List (BitVec 256) := [v.extractLsb' 0 256, v.extractLsb' 256 256]

/-- R274: tag ranges. -/
def tagsDie (k : Nat) : Nat × Nat := (384 * k, 384)
def tagsHost : Nat × Nat := (3072, 512)
def tagsCourier (k : Nat) : Nat × Nat := (3584 + 8 * k, 8)
def tagsTxn : Nat × Nat := (3840, 128)
def tagsSteward : Nat × Nat := (3968, 128)

/-- R274: the range of an initiator; the link-die controllers, which the table does not name, draw on the steward's
(DESIGN CHOICE). -/
def tagRange (ep : Nat) : Nat × Nat :=
  let die := ep / 256 % 16
  let low := ep % 256
  if die < 8 then tagsDie die
  else if die = 8 then
    if low = 0x60 then tagsHost
    else if low = 0x61 then tagsTxn
    else if 1 ≤ low / 4 % 8 ∧ low / 4 % 8 ≤ 2 then tagsCourier (16 * (low / 4 % 8 - 1) + 4 * (low / 32) + low % 4)
    else tagsSteward
  else tagsSteward

/-- R274: an initiator whose range is exhausted holds its requests. -/
def Module.tagsOut (m : Module) (ep : Nat) : Bool := (m.freeTag (tagRange ep).1 (tagRange ep).2).isNone

/-- R274, R278, R342: a unit of the module reads sectors within one command, with a tag of its range; its engine checks
them. -/
def Module.readSectors (chk : SectorCheck) (ss : List Nat) (reader : Nat) (m : Module) : Bool × Module :=
  (m.countDone reader ss.length (64 * ss.length) true).checkSectors chk ss reader

/-! ### Memory ports (R89, R159-R165). Port key: gathering * 8 + port. -/

/-- BP address of lane 0 of the gathering of a port. -/
def portBp (k : Nat) : Nat := k / 8 * 64

/-- R162: the NI of a port's quire. -/
def Module.portEp (m : Module) (k : Nat) : Nat := m.epQuire (k / 128)

/-- R162: an access that no longer waits leaves: a read takes a tag of its die, a write carries its sequence number. -/
def Module.sendAcc (a : MemAcc) (m : Module) : Module × MemAcc :=
  if a.write then
    let p : Packet := { packetReq opPWR 2 (m.epHbm a.addr) (m.portEp a.portKey) (a.tag.getD 0) a.addr with
      ackreq := true, idata := a.data }
    (m.inject p, { a with waiting := false })
  else
    let r := tagsDie (a.portKey / 4096)
    match m.freeTag r.1 r.2 with
    | some t => (m.request_ 0 t (packetReq opRD 2 (m.epHbm a.addr) (m.portEp a.portKey) 0 a.addr), { a with waiting := false, tag := some t })
    | none => (m, { a with waiting := true })

/-- Accesses of a port that are outstanding, and under way. -/
def Module.underWay (m : Module) (k : Nat) (write : Bool) : Nat :=
  (m.data.memAccs.filter (fun a => a.portKey == k && a.write == write && !a.waiting)).length

/-- R162, R416: the limits of a port: 16 unacknowledged writes, four outstanding reads. -/
def portLimit (write : Bool) : Nat := if write then 16 else 4

/-- R162, R416: a port has as many accesses of a kind under way as it may. -/
def Module.portFull (m : Module) (k : Nat) (write : Bool) : Bool := decide (portLimit write ≤ m.underWay k write)

/-- R90, R163: an access waits behind one of its port that waits: of its own kind, or to its sector. -/
def behindAcc (a b : MemAcc) : Bool :=
  b.portKey == a.portKey && b.waiting && decide (b.seqNo < a.seqNo) && (b.write == a.write || b.addr / 64 == a.addr / 64)

/-- R265: a write takes the next sequence number of its port. -/
def Module.numberAcc (a : MemAcc) (m : Module) : Module × MemAcc :=
  if a.write then
    let n := sget 0 m.data.portSeq a.portKey
    ({ m with data := { m.data with portSeq := sset 0 m.data.portSeq a.portKey ((n + 1) % 4096) } }, { a with tag := some n })
  else (m, a)

/-- R162: an access is issued at a port; beyond the limit, or behind another that waits, it waits. -/
def Module.issueAcc (a0 : MemAcc) (m0 : Module) : Module :=
  let n := m0.numberAcc a0
  let m := n.1
  let a := n.2
  if m.data.memAccs.any (behindAcc a) ∨ m.portFull a.portKey a.write then
    { m with data := { m.data with memAccs := m.data.memAccs ++ [{ a with waiting := true }] } }
  else
    let r := m.sendAcc a
    { r.1 with data := { r.1.data with memAccs := r.1.data.memAccs ++ [r.2] } }

/-- R162: accesses that wait leave once their port has room, in issue order. -/
def Module.pumpPorts (m : Module) : Module :=
  m.data.memAccs.foldl (fun m a =>
    if a.waiting ∧ !m.portFull a.portKey a.write ∧ !(m.data.memAccs.any (behindAcc a)) then
      let r := m.sendAcc a
      { r.1 with data := { r.1.data with memAccs := r.1.data.memAccs.map (fun b => if b.seqNo = a.seqNo then r.2 else b) } }
    else m) m

end Sys2Proof.Machine
end

