-- ==== Sys2Proof/Machine/Operands.lean ====
section
/-! DEFINITION. Machine/Operands.lean: the operand forms of an instruction word and what each opclass evaluates: catch
sources (R49), truth tables (R44), chain-in (R53), MUX groups (R68) and the outcomes of R416. -/

namespace Sys2Proof.Machine

/-- What a step presents to the BPs beside the data plane's registers: the crossbar receive ports (gathering * 8 + port),
spine input ports (quire * 4 + port) that present a 1, and the I/O cells (gathering * 16 + cell) that sample a 1. -/
structure Present where
  xbar  : List Nat
  spine : List Nat
  cells : List Nat
  deriving DecidableEq, Repr

/-- R44: the truth table. -/
def ttEval (tt : Nat) (a b c d : Bool) : Bool := tt.testBit (b2n d * 8 + b2n c * 4 + b2n b * 2 + b2n a)

/-- R25: what a displacement by built-in tip-ins adds to a stored cell, so that what it left there is free. -/
def Data.builtinBit (d : Data) (key : Nat) : Bool :=
  match d.builtinDm with
  | none => false
  | some n => Config.builtinCell n key

/-- R39: a DM cell of a BP. -/
def Data.cell (d : Data) (bp cell : Nat) : Bool :=
  xor (sget false d.dm (bp * 2048 + cell)) (d.builtinBit (bp * 2048 + cell))

/-- R49, R416: the bit that catch source `code` delivers to a BP; none and the reserved codes deliver 0. -/
def catchBit (d : Data) (p : Present) (bp code : Nat) : Bool :=
  let g := bp / 64
  if code = 0 then false
  else if code ≤ 0x40 then sget false d.bus (g * 64 + (code - 1))
  else if 0x80 ≤ code ∧ code ≤ 0x87 then p.xbar.contains (g * 8 + (code - 0x80))
  else if 0xC0 ≤ code ∧ code ≤ 0xC3 then p.spine.contains (bp / 1024 * 4 + (code - 0xC0))
  else if 0xE0 ≤ code ∧ code ≤ 0xE7 then (sget 0 d.returns (g * 8 + (code - 0xE0))).getLsbD (bp % 64)
  else if 0xF0 ≤ code ∧ code ≤ 0xFF then p.cells.contains (g * 16 + (code - 0xF0))
  else false

/-- R53, R416: operand D: chain-in under CHN = 1 in an opclass that reads D, 0 in lane 4k. -/
def operandD (d : Data) (bp w : Nat) (chain : Bool) : Bool :=
  if iwChn w && opcChain (iwOpc w) then (bp % 4 != 0) && chain else d.cell bp (iwD w)

/-- R65, R68-R74, R77, R80, R81: the value an opclass evaluates: the result of R45, or the value WATCH and HALTPT
compute. Force points are applied by `forcePoint`. -/
def evaluate (d : Data) (p : Present) (bp w : Nat) (chain : Bool) : Bool :=
  let tt := iwTT w
  let a := d.cell bp (iwA w)
  let b := d.cell bp (iwB w)
  let c := d.cell bp (iwC w)
  let x := operandD d bp w chain
  match iwOpc w with
  | 0x1 => ttEval tt a b c x
  | 0x2 => ttEval tt a b (catchBit d p bp (iwCsrc w)) x
  | 0x3 => xor (d.cell bp (iwA w / 8 * 8 + (b2n x * 4 + b2n c * 2 + b2n b))) (tt.testBit 0)
  | 0x4 => catchBit d p bp (tt % 256)
  | 0x8 => ttEval tt a b c (p.cells.contains (bp / 64 * 16 + iwD w % 16))
  | 0xA => ttEval tt a b c false
  | 0xB => ttEval tt a b c false
  | 0xC => ttEval tt a b c x
  | 0xD => ttEval tt a b c x
  | 0xF => ttEval tt a b c x
  | _ => false

/-- R72: FP_VALUE replaces the value of an armed FORCEPT. -/
def forcePoint (d : Data) (bp w : Nat) (v : Bool) : Bool :=
  if iwOpc w = 0xD then
    match sfind d.fpoint bp with
    | some f => if f.armed then f.value else v
    | none => v
  else v

/-- R41, R197: the forced value of a cell. -/
def Data.forced (d : Data) (bp cell : Nat) : Option Bool :=
  ((sget [] d.forces bp).find? (fun f => f.cell == cell)).map (·.value)

/-- R45, R41: the result driven on bus lane and chain-out: 0 without a result, the forced value where W is forced. -/
def result (d : Data) (p : Present) (bp w : Nat) (chain : Bool) : Bool :=
  if opcResult (iwOpc w) then
    (d.forced bp (iwW w)).getD (forcePoint d bp w (evaluate d p bp w chain))
  else false

/-- The DM with a cell set. -/
def Data.putCell (d : Data) (bp cell : Nat) (v : Bool) : Data :=
  { d with dm := sset false d.dm (bp * 2048 + cell) (xor v (d.builtinBit (bp * 2048 + cell))) }

/-- R39, R41: a write port stores a bit, unless the cell is forced. -/
def Data.store (d : Data) (bp cell : Nat) (v : Bool) : Data :=
  if (d.forced bp cell).isSome then d else d.putCell bp cell v

/-- R49, R416: the catch port acts when CSRC is nonzero. -/
def catchPort (d0 : Data) (p : Present) (bp w : Nat) (d : Data) : Data :=
  if iwCsrc w = 0 then d else d.store bp (iwCadr w) (catchBit d0 p bp (iwCsrc w))

/-- R70, R71, R416: the watch latch. -/
def watchPort (bp w : Nat) (v r : Bool) (d : Data) : Data :=
  if iwOpc w = 0xC then { d with watch := sset false d.watch bp v }
  else if iwMrk w then { d with watch := sset false d.watch bp r }
  else d

/-- R82: the address, data word and enable that the lanes of a gathering contribute to a request of width `aw`. -/
def reqAddr (d : Data) (ws : SMap Nat) (g aw : Nat) : Nat :=
  (List.range aw).foldl (fun acc n => acc + b2n (d.cell (g * 64 + n) (iwA (sget 0 ws (g * 64 + n)))) * 2 ^ n) 0

def reqData (d : Data) (ws : SMap Nat) (g : Nat) : Word :=
  BitVec.ofNat 64 ((List.range 64).foldl
    (fun acc n => acc + b2n (d.cell (g * 64 + n) (iwB (sget 0 ws (g * 64 + n)))) * 2 ^ n) 0)

def reqEnable (d : Data) (ws : SMap Nat) (g : Nat) : Bool := d.cell (g * 64) (iwC (sget 0 ws (g * 64)))

end Sys2Proof.Machine
end

