-- ==== Sys2Proof/Machine/StepOps.lean ====
section
/-! DEFINITION. Machine/StepOps.lean: the parts of one executed step: the lanes, the gathering requests, the crossbar, the
spine, the link dies, the pads (R34-R92, R119-R131, R147-R163, R294). -/

namespace Sys2Proof.Machine

/-! ### What a step fetches (R35, R36, R121, R125, R295) -/

/-- R47: the word passes its parity check. -/
def imGood (w : ImWord) : Bool := decide (w.par.toNat = byteParity 12 w.word.toNat)

/-- R123: an entry of n bytes passes its parity check. -/
def schedGood (n : Nat) (w : SchedWord) : Bool := decide (w.par = byteParity n w.bits)

/-- BP, quire and physical bank of an IM key. -/
def imKeyBp (k : Nat) : Nat := k / 2560
/-- Quire and bank of a crossbar or spine key. -/
def schedKeyQuire (k : Nat) : Nat := k / 2560

/-- The nonzero IM words of a step with their keys. -/
def Data.fetchIm (d : Data) (step : Nat) : List (Nat × ImWord) :=
  d.im.filter (fun e => e.1 % 512 == step % 512 && imKeyBank e.1 == bankOf d (imKeyBp e.1 / 1024) (step / 512))

/-- The nonzero crossbar or spine entries of a step with their keys. -/
def fetchSched (d : Data) (t : SMap SchedWord) (step : Nat) : List (Nat × SchedWord) :=
  t.filter (fun e => e.1 % 512 == step % 512 && imKeyBank e.1 == bankOf d (schedKeyQuire e.1) (step / 512))

/-- R55, R123: the words and entries that act at a step: a failing one acts as zero. -/
def Data.wordsAt (d : Data) (step : Nat) : SMap Nat :=
  ((d.fetchIm step).filter (fun e => imGood e.2)).map (fun e => (imKeyBp e.1, e.2.word.toNat))
def entriesAt (d : Data) (n : Nat) (t : SMap SchedWord) (step : Nat) : SMap Nat :=
  ((fetchSched d t step).filter (fun e => schedGood n e.2)).map (fun e => (schedKeyQuire e.1, e.2.bits))
/-- The link-die entry of die 0 or 1. -/
def Data.linkAt (d : Data) (die step : Nat) : Nat :=
  let w := sget { bits := 0, par := 0 } d.link (die * 2048 + step)
  if schedGood linkLen w then w.bits else 0

/-! ### Pads (R76-R79, R131 rows 16 and 17) -/

/-- Probe-bank pin number of a die-local pin. -/
def padOf (die pin : Nat) : Option Nat :=
  let lo := nth 0 [0, 8, 2, 9, 10, 4, 11, 6] die
  if pin < 32 then some (32 * lo + pin)
  else if die = 0 ∨ die = 2 ∨ die = 5 ∨ die = 7 then some (32 * (lo + 1) + pin % 32)
  else none

/-- R76: the pad that an I/O cell (gathering * 16 + cell) connects to. -/
def Data.cellPad (d : Data) (key : Nat) : Option Nat :=
  let e := (sget 0 d.iomap key).toNat
  if bitOf e 6 then padOf (key / 8192) (bitsOf e 5 0) else none

/-- R411: the bank of a pad is powered. -/
def Module.padPowered (m : Module) (pad : Nat) : Bool := m.pins.bankPowered.getLsbD (pad / 32)

/-- R78: a level reaches its pad: it drives only after OUTEN and with its bank powered. -/
def Module.drivePad (m : Module) (t : SMap (Option Bool)) (e : Nat × Nat × Option Bool) : SMap (Option Bool) :=
  sset none t e.2.1 (if m.start.outen && m.padPowered e.2.1 then e.2.2 else none)

/-- Pad drives that are due take effect at the start of a step; the others come one step nearer. -/
def Module.movePads (m : Module) : Module :=
  let due := m.data.padFlight.filter (fun e => e.1 == 0)
  let rest := (m.data.padFlight.filter (fun e => e.1 != 0)).map (fun e => (e.1 - 1, e.2))
  { m with data := { m.data with padOut := due.foldl m.drivePad m.data.padOut, padFlight := rest } }

/-- R77, R79, R411: the pads of powered banks that read high at the start of a step: the level the module drives, else what
the surroundings put. -/
def Module.sampledPads (padsHigh : List Nat) (m : Module) : List Nat :=
  let driven := (m.data.padOut.filter (fun e => e.2 == some true)).map (·.1)
  (driven ++ padsHigh.filter (fun p => (sget none m.data.padOut p).isNone)).filter m.padPowered

/-- R131 row 17: the sample that a step delivers: that of three executed steps before, or the first of the folio. -/
def sampleFor (samples : List (List Nat)) : List Nat := nth [] samples (min 3 (samples.length - 1))

/-- R77: the I/O cells that deliver a 1; an unpowered bank is judged at the step that samples (R411). -/
def Module.cellsHigh (m : Module) (sample : List Nat) : List Nat :=
  (m.data.iomap.filter (fun e => match m.data.cellPad e.1 with
    | some p => sample.contains p
    | none => false)).map (·.1)

/-- R78: IOOUT. -/
def ioOut (bp w : Nat) (a b : Bool) (d : Data) : Data :=
  let key := bp / 64 * 16 + iwD w % 16
  let d1 := { d with ioData := sset false d.ioData key a, ioEn := sset false d.ioEn key b }
  match d.cellPad key with
  | some p => { d1 with padFlight := d1.padFlight ++ [(2, p, if b then some a else none)] }
  | none => d1

/-! ### The lanes -/

/-- What the lanes have done so far in a step, in ascending BP address. -/
structure LaneAcc where
  d     : Data
  last  : Nat
  chain : Bool
  /-- lanes whose result is 1, newest first -/
  bus   : List Nat
  /-- crossbar send ports (gathering * 8 + port) and spine send ports (quire * 4 + port) driven with a 1 -/
  xs    : List Nat
  ss    : List Nat
  halts : List Nat
  deriving DecidableEq, Repr

/-- R416: the word a lane executes: beside a request of its lane 0 that its own word is not, a NOP with the catch. -/
def laneWord (ws : SMap Nat) (bp w : Nat) : Nat :=
  let w0 := sget 0 ws (bp / 64 * 64)
  if isReq (iwOpc w0) && !(iwOpc w == iwOpc w0 && iwTT w == iwTT w0) then w % 2 ^ 92 else w

/-- R63: one instruction of one BP; `d0` is the state at the end of the step before. -/
def laneStep (d0 : Data) (p : Present) (ws : SMap Nat) (acc : LaneAcc) (e : Nat × Nat) : LaneAcc :=
  let bp := e.1
  let w := laneWord ws bp e.2
  let opc := iwOpc w
  let chain := acc.chain && acc.last + 1 == bp
  let v := evaluate d0 p bp w chain
  let r := result d0 p bp w chain
  let d1 := if opcResult opc then acc.d.store bp (iwW w) r else acc.d
  let d2 := watchPort bp w v r (catchPort d0 p bp w d1)
  let d3 := if opc = 9 then ioOut bp w (d0.cell bp (iwA w)) (d0.cell bp (iwB w)) d2 else d2
  { d := d3, last := bp, chain := r, bus := if r then bp :: acc.bus else acc.bus,
    xs := if opc = 0xB ∧ r then (bp / 64 * 8 + iwD w % 8) :: acc.xs else acc.xs,
    ss := if opc = 0xA ∧ r then (bp / 1024 * 4 + iwD w % 4) :: acc.ss else acc.ss,
    halts := if opc = 0xF ∧ v ∧ sget true d0.haltEn bp then acc.halts ++ [bp] else acc.halts }

def runLanes (d0 : Data) (p : Present) (ws : SMap Nat) : LaneAcc :=
  ws.foldl (laneStep d0 p ws) { d := d0, last := 0, chain := false, bus := [], xs := [], ss := [], halts := [] }

/-! ### Design memory blocks and queues (R86-R88, R154, R158) -/

/-- R86, R150: the word a design read returns, and whether its parity passes; a word that is not valid reads zero. -/
def Data.readDmb (d : Data) (addr : Nat) : Word × Bool :=
  if sget false d.dmbValid addr then
    let w := sget 0 d.dmbData addr
    (w, decide ((sget 0 d.dmbPar addr).toNat = byteParity 8 w.toNat))
  else (0, true)

/-- R158: the status word of a queue, from the design view. -/
def queueStatus (desc : Nat) (q : Queue) : Word :=
  let wm (lim : Nat) : Nat := b2n (lim != 0 && decide (lim ≤ q.dvCount))
  BitVec.ofNat 64 (descBind desc * 2 ^ 36 + wm (descWm1 desc) * 2 ^ 35 + wm (descWm0 desc) * 2 ^ 34
    + b2n (decide (1024 ≤ q.dvCount)) * 2 ^ 33 + b2n (decide (q.dvCount = 0)) * 2 ^ 32 + q.dvCount * 2 ^ 20
    + q.dvTail * 2 ^ 10 + q.dvHead)

/-- R154, R157: a pop moves the physical head and the design view's. -/
def Data.popQueue (d : Data) (dmb : Nat) : Data :=
  let d1 := d.dequeue dmb
  let q := d1.queue dmb
  d1.setQueue dmb { q with dvHead := (q.dvHead + 1) % 1024, dvCount := q.dvCount - 1 }

/-- R154, R157: a push appears in the design view. -/
def Data.viewPush (d : Data) (dmb : Nat) : Data :=
  let q := d.queue dmb
  d.setQueue dmb { q with dvTail := (q.dvTail + 1) % 1024, dvCount := q.dvCount + 1 }

/-- R84, R94: a word that will appear on a port in two executed steps. -/
def Module.returnSoon (k : Nat) (w : Word) (m : Module) : Module :=
  { m with data := { m.data with pendRets := m.data.pendRets ++
      [{ portKey := k, left := some 1, vis := none, word := some w, seqNo := m.data.memSeq }],
                                 memSeq := m.data.memSeq + 1 } }

/-- R86, R92: DMB_PARITY freezes; the word is returned all the same. -/
def Module.dmbParity (g dmb addr : Nat) (m : Module) : Module :=
  m.faultWith 0x0420 (g / 512) [(18, g * 64), (12, dmb), (22, addr)]

/-- R417: a counted queue event, logged at its first occurrence after a start, that sets QERR (R234). -/
def Module.queueEvent (reg code g dmb : Nat) (m : Module) : Module :=
  ((m.satReg 32 reg 1).logFirst code (g / 512) [(12, dmb), (18, g * 64)]).happen 52

/-- DMBRD (R86, R88): `d0` is the state at the end of the step before; `free` tells whether the DMB's read port is. -/
def Module.dmbRead (d0 : Data) (ws : SMap Nat) (free : Bool) (g tt : Nat) (m : Module) : Module :=
  let dmb := reqDmbNum g tt
  let dsc := d0.desc dmb
  let k := g * 8 + reqPort tt
  let q := d0.queue dmb
  if reqMode tt = 3 ∨ (reqMode tt ≠ 0 ∧ descBind dsc = 0) then m
  else if !free then m.returnSoon k 0
  else if reqMode tt = 0 then
    let addr := dmb * 1024 + reqAddr d0 ws g 10
    let r := d0.readDmb addr
    let m1 := m.returnSoon k r.1
    if r.2 then m1 else m1.dmbParity g dmb addr
  else if reqMode tt = 2 then m.returnSoon k (queueStatus dsc q)
  else
    let moves := !reqEn tt || reqEnable d0 ws g
    if q.dvCount = 0 then
      let m1 := m.returnSoon k 0
      if moves ∧ descBind dsc = 1 then m1.queueEvent rUnderruns 0x0422 g dmb else m1
    else
      let addr := dmb * 1024 + q.dvHead
      let r := d0.readDmb addr
      let m1 := m.returnSoon k r.1
      let m2 := if moves then { m1 with data := m1.data.popQueue dmb } else m1
      if r.2 then m2 else m2.dmbParity g dmb addr

/-- DMBWR (R87, R88, R154). -/
def Module.dmbWrite (d0 : Data) (ws : SMap Nat) (free : Bool) (g tt : Nat) (m : Module) : Module :=
  let dmb := reqDmbNum g tt
  let dsc := d0.desc dmb
  let w := reqData d0 ws g
  let q := d0.queue dmb
  if 2 ≤ reqMode tt ∨ (reqMode tt = 1 ∧ descBind dsc = 0) ∨ !free ∨ (reqEn tt && !reqEnable d0 ws g) then m
  else if reqMode tt = 0 then { m with data := m.data.writeDmb (dmb * 1024 + reqAddr d0 ws g 10) w }
  else if descBind dsc = 3 then
    let m1 := { m with data := m.data.viewPush dmb }.requestWord (descChan dsc)
    if q.count < 1024 ∧ q.skid.isEmpty then { m1 with data := m1.data.enqueue dmb w }
    else
      let q1 := m1.data.queue dmb
      let m2 := { m1 with data := m1.data.setQueue dmb { q1 with skid := q1.skid ++ [w] } }
      { m2 with seq := { m2.seq with stalls := m2.seq.stalls ++ [{ cause := .courierPush dmb, age := 0 }] } }
  else if q.count < 1024 then { m with data := (m.data.enqueue dmb w).viewPush dmb }
  else m.queueEvent rOverruns 0x0421 g dmb

/-- MEMRQ (R89, R85, R416): `rest` are the steps of the folio still to issue after this one. -/
def Module.memRequest (d0 : Data) (ws : SMap Nat) (s : Nat) (rest : List Nat) (g tt : Nat) (m : Module) : Module :=
  let k := g * 8 + reqPort tt
  let win := (sget 0 d0.windows k).toNat
  let addr := winBase win + 8 * reqAddr d0 ws g (winAw win)
  let on := !reqEn tt || reqEnable d0 ws g
  let n := m.data.memSeq
  let vis := iwW (sget 0 ws (g * 64))
  let m1 := { m with data := { m.data with memSeq := n + 1 } }
  let acc : MemAcc := { portKey := k, seqNo := n, write := reqMode tt == 1, addr := addr % 2 ^ 37, data := reqData d0 ws g,
                        waiting := false, tag := none, issued := m.stew.now }
  if 2 ≤ reqMode tt then m
  else if reqMode tt = 1 then
    if on then
      let m2 := m1.issueAcc acc
      if m1.portFull k true then
        { m2 with seq := { m2.seq with stalls := m2.seq.stalls ++ [{ cause := .memWrite k, age := 0 }] } }
      else m2
    else m
  else
    let ret : PendRet := { portKey := k, left := none, vis := some vis, word := if on then none else some 0, seqNo := n }
    let keep := decide (s < vis) && rest.contains vis
    let m2 := if !on then m1 else if m1.portFull k false then
        let m3 := m1.issueAcc acc
        { m3 with seq := { m3.seq with stalls := m3.seq.stalls ++ [{ cause := .memRead k, age := 0 }] } }
      else m1.issueAcc acc
    if keep then { m2 with data := { m2.data with pendRets := m2.data.pendRets ++ [ret] } } else m2

/-- R82, R88, R416: the requests of a step in ascending gathering order; the lower gathering has a DMB port first. -/
def Module.runRequests (d0 : Data) (ws : SMap Nat) (s : Nat) (rest : List Nat) (m : Module) : Module :=
  let reqs := (ws.filter (fun e => e.1 % 64 == 0 && isReq (iwOpc e.2))).map (fun e => (e.1 / 64, iwOpc e.2, iwTT e.2))
  let wants (r : Nat × Nat × Nat) : Bool :=
    let bind := descBind (d0.desc (reqDmbNum r.1 r.2.2))
    if r.2.1 = 5 then reqMode r.2.2 != 3 && (reqMode r.2.2 == 0 || bind != 0)
    else reqMode r.2.2 < 2 && (reqMode r.2.2 == 0 || bind != 0)
  let free (r : Nat × Nat × Nat) : Bool :=
    !(reqs.any (fun q => q.2.1 == r.2.1 && q.1 < r.1 && reqDmbNum q.1 q.2.2 == reqDmbNum r.1 r.2.2 && wants q))
  reqs.foldl (fun m r =>
    if r.2.1 = 5 then m.dmbRead d0 ws (free r) r.1 r.2.2
    else if r.2.1 = 6 then m.dmbWrite d0 ws (free r) r.1 r.2.2
    else m.memRequest d0 ws s rest r.1 r.2.2) m

/-! ### Return lines (R84) -/

/-- R84: at the start of step s, words whose visibility step has come appear; a later request of the port ends the
earlier's place on the line. A word that is late appears once it has arrived. -/
def Data.showReturns (s : Nat) (d : Data) : Data :=
  let due (r : PendRet) : Bool := match r.left, r.vis with
    | some n, _ => n == 0
    | none, some v => v ≤ s
    | none, none => false
  let dues := d.pendRets.filter due
  let overtaken (r : PendRet) : Bool := dues.any (fun x => x.portKey == r.portKey && r.seqNo < x.seqNo)
  let newest := dues.filter (fun r => !overtaken r)
  let lines := newest.foldl (fun t r => match r.word with
    | some w => sset 0 t r.portKey w
    | none => t) d.returns
  let gone (r : PendRet) : Bool := due r && (overtaken r || r.word.isSome)
  { d with returns := lines,
           pendRets := (d.pendRets.filter (fun r => !gone r)).map (fun r => { r with left := r.left.map (· - 1) }) }

/-! ### Routing (R119-R131, R294) -/

/-- Destinations at which a bit is presented in this step. -/
def Data.arrivals (d : Data) : List FlightDest := (d.flights.filter (fun f => f.left == 0)).map (·.dest)

def arrivedXbar (a : List FlightDest) : List Nat := a.filterMap (fun x => match x with
  | .xbarRecv k => some k
  | _ => none)
def arrivedSpine (a : List FlightDest) : List Nat := a.filterMap (fun x => match x with
  | .spineIn k => some k
  | _ => none)
def arrivedSwitch (a : List FlightDest) : List (Nat × Nat) := a.filterMap (fun x => match x with
  | .switchIn q src => some (q, src)
  | _ => none)
def arrivedLink (a : List FlightDest) : List (Nat × Nat) := a.filterMap (fun x => match x with
  | .linkPort die b => some (die, b)
  | _ => none)

/-- R122: the crossbar of quire q takes bits at this step and delivers them two steps later. -/
def xbarFlights (bus : SMap Bool) (xs : List Nat) (q entry : Nat) : List Flight :=
  xbPorts.filterMap (fun gp =>
    let r := xbRecv entry gp.1 gp.2
    let src := bitsOf r 6 3
    let port := bitsOf r 2 0
    let s := xbSend entry src port
    let bit := if bitOf s 6 then xs.contains ((q * 16 + src) * 8 + port) else sget false bus ((q * 16 + src) * 64 + s % 64)
    if bitOf r 7 && bit then some { left := 1, dest := .xbarRecv ((q * 16 + gp.1) * 8 + gp.2) } else none)

/-- R17, R129: the die link, 0 to 2, of a link die toward an E-die. -/
def linkIndex (die : Nat) : Nat := if die = 0 ∨ die = 2 then 0 else if die = 3 ∨ die = 4 then 1 else 2

/-- R126, R127: where output i of the switch of quire instance q leads, and in how many steps it is there. -/
def switchOut (q i : Nat) : Option Flight :=
  let die := q / 32
  if i < 4 then some { left := 1, dest := .spineIn (q * 4 + i) }
  else if i < 36 then some { left := 0, dest := .switchIn (q - 8) (0x44 + (i - 4)) }
  else if i < 68 then some { left := 0, dest := .switchIn (q + 1) (0x64 + (i - 36)) }
  else if i < 100 then some { left := 0, dest := .switchIn (q + 8) (0x04 + (i - 68)) }
  else if i < 132 then some { left := 0, dest := .switchIn (q - 1) (0x24 + (i - 100)) }
  else
    let j := i - 132
    match portEdge q with
    | none => none
    | some e =>
      match faces die e with
      | none => none
      | some f =>
        if f < 8 then
          let q2 := if e = 0 then f * 32 + 24 + qCol q else if e = 1 then f * 32 + 8 * qRow q
                    else if e = 2 then f * 32 + qCol q else f * 32 + 8 * qRow q + 7
          some { left := 8, dest := .switchIn q2 (0x84 + j) }
        else some { left := 8, dest := .linkPort (f - 9) (1024 * linkIndex die + 256 * qRow q + j) }

/-- R125, R126: the switch of quire q routes the bits that are in its routing at this step. -/
def spineFlights (ins : List (Nat × Nat)) (q entry : Nat) : List Flight :=
  let mine := (ins.filter (fun x => x.1 == q)).map (·.2)
  if mine.isEmpty then []
  else (List.range 388).filterMap (fun i =>
    let x := spElem entry i
    if elemV x && mine.contains (elemSrc x) && hasOutput q i then switchOut q i else none)

/-- R80: the bits presented on spine send ports enter routing two steps later. -/
def sendFlights (ss : List Nat) : List Flight :=
  ss.eraseDups.map (fun k => { left := 1, dest := .switchIn (k / 4) (k % 4) })

/-- R127: the switch that channel bit n of die link j of a link die reaches. -/
def linkSwitch (die j n : Nat) : Nat × Nat :=
  let e := if die = 0 then nth 0 [0, 3, 5] j else nth 2 [2, 4, 7] j
  (e * 32 + n / 256 * 8 + (if die = 0 then 0 else 7), 0x84 + n % 256)

/-- R294: the bits that an entry of a link die puts on local bundle k, in slot order; an entry of zeros puts none. -/
def linkOutBits (arr : List (Nat × Nat)) (die entry k : Nat) : List Bool :=
  if entry = 0 then []
  else (List.range 384).filterMap (fun i =>
    let x := lkOut entry k i
    if elemV x then some (arr.contains (die, 512 * lkOwin entry k (i / 128) + elemSrc x)) else none)

/-- R294: the bits that an entry releases toward the E-dies; `rel` gives the released bits of each local bundle. -/
def linkInFlights (rel : Nat → List Bool) (die entry : Nat) : List Flight :=
  if entry = 0 then []
  else (lkIns entry).filterMap (fun x =>
    let elem := x.2.2
    let k := lkIwin entry x.1 (x.2.1 / 128)
    if elemV elem && k < 10 && nth false (rel k) (elemSrc elem) then
      let t := linkSwitch die x.1 x.2.1
      some { left := 8, dest := .switchIn t.1 t.2 }
    else none)

/-! ### The steps that send on a bundle (R134, R137) -/

/-- R80: the spine send ports that the words of a step present bits on. -/
def sendPorts (ws : SMap Nat) : List Nat :=
  ((ws.filter (fun e => iwOpc (laneWord ws e.1 e.2) == 0xA)).map (fun e => e.1 / 1024 * 4 + iwD (laneWord ws e.1 e.2) % 4)).eraseDups

/-- R126: bits on their way advance through the switches by one executed step, whatever their value. -/
def Data.routeOn (d : Data) (step : Nat) (fs : List Flight) : List Flight :=
  let sw := arrivedSwitch ((fs.filter (fun f => f.left == 0)).map (·.dest))
  (fs.filter (fun f => f.left != 0)).map (fun f => { f with left := f.left - 1 })
    ++ (entriesAt d spineLen d.spine step).flatMap (fun e => spineFlights sw e.1 e.2)

/-- R294: for each bit that an entry places on local bundle k, in slot order, the link-die port it comes from. -/
def linkOutPorts (die entry k : Nat) : List (Nat × Nat) :=
  if entry = 0 then []
  else (List.range 384).filterMap (fun i =>
    let x := lkOut entry k i
    if elemV x then some (die, 512 * lkOwin entry k (i / 128) + elemSrc x) else none)

/-- The link-die ports that bits on their way are at. -/
def atLink (fs : List Flight) : List (Nat × Nat) := arrivedLink ((fs.filter (fun f => f.left == 0)).map (·.dest))

/-- R137: the bits on their way that join the stream of bundle b in the steps to come. -/
def Data.willJoin (d : Data) (b : Nat) : List Nat → List Flight → Nat
  | [], _ => 0
  | t :: rest, fs =>
    if fs.isEmpty then 0
    else ((linkOutPorts (b / 10) (d.linkAt (b / 10) t) (b % 10)).filter (fun p => (atLink fs).contains p)).length
      + d.willJoin b rest (d.routeOn t fs)

/-- R137: how many bits step s sends on bundle b; `steps` are the steps of the folio after it. -/
def Data.sendsOn (d : Data) (b s : Nat) (steps : List Nat) : Nat :=
  let ports := sendPorts (d.wordsAt s)
  if ports.isEmpty then 0 else d.willJoin b steps (sendFlights ports)

/-- R137: what the steps have sent moves on by step s, and what step s sends joins it. -/
def Data.moveSends (d : Data) (s : Nat) : List (Nat × List Flight) :=
  let ports := sendPorts (d.wordsAt s)
  let moved := (d.sends.map (fun e => (e.1, d.routeOn s e.2))).filter (fun (e : Nat × List Flight) => !e.2.isEmpty)
  if ports.isEmpty then moved else moved ++ [(s, sendFlights ports)]

/-- R137: the steps that sent the bits an entry places on a bundle, in slot order; none for a bit that no SPSEND of this
module sent. -/
def Data.joinOf (d : Data) (b s : Nat) : List (Option Nat) :=
  (linkOutPorts (b / 10) (d.linkAt (b / 10) s) (b % 10)).map (fun p => (d.sends.find? (fun e => (atLink e.2).contains p)).map (·.1))

/-! ### Static frames (R290, R294, R297) -/

/-- The payload of bits, bit 0 the earliest, padded with zeros. -/
def payloadOf (bits : List Bool) : BitVec 464 :=
  BitVec.ofNat 464 (bits.zipIdx.foldl (fun a e => a + b2n e.1 * 2 ^ e.2) 0)

/-- R297: a static frame is queued, and kept until 64 later ones have been sent. -/
def Module.sendStatic (b : Nat) (bits : List Bool) (last : Bool) (m : Module) : Module :=
  let x := m.bundle b
  let pl := payloadOf bits
  let y : Bundle := { x with txStatic := (x.txStatic + 1) % 256, keepStatic := (x.txStatic, pl, last) :: x.keepStatic }
  (m.setBundle b y).sendFrame b { rank := 5, seq := x.txStatic, body := .static last pl } (.staticF b x.txStatic last pl)

end Sys2Proof.Machine
end

