-- ==== Sys2Proof/Machine/Repair.lean ====
section
/-! DEFINITION. Machine/Repair.lean: repair sources (R38, R329), the repair of a failing word or entry (R55-R57, R98, R123),
the background walker (R330), and the stall requests a step raises (R91, R109). -/

namespace Sys2Proof.Machine

/-! ### Stall requests (R109) -/

/-- Steps of the folio that the static ports of a bundle's link die still have to serve before the hold. -/
def Module.rcntOf (m : Module) (b step : Nat) : Nat := lkRcnt (m.data.linkAt (b / 10) step) (b % 10)

/-- R135: the bits due on a bundle in the next n executed steps are present. -/
def Module.bitsPresent (m : Module) (b n : Nat) : Bool :=
  decide (((m.seq.steps.take n).map (m.rcntOf b)).foldl (· + ·) 0 ≤ (m.bundle b).store.length)

/-- R135: every bit due on a bundle up to the release of step t is present. -/
def Module.bitsDue (m : Module) (b t : Nat) : Bool := m.bitsPresent b (m.seq.steps.takeWhile (· ≤ t)).length

/-- R91: the lines of a port that a step reads. -/
def readsPort (w port : Nat) : Bool :=
  iwCsrc w == 0xE0 + port || (iwOpc w == 4 && iwTT w % 256 == 0xE0 + port)

/-- R91: a read of the port whose visibility step is at or before step t has not arrived. -/
def Module.lateRead (m : Module) (k t : Nat) : Bool :=
  m.data.pendRets.any (fun r => r.portKey == k && r.word.isNone && (match r.vis with
    | some v => decide (v ≤ t)
    | none => false))

/-- R226, R228: unretired requests of a channel whose reply deadline has started. -/
def Module.dueReplies (m : Module) (c : Nat) : Nat :=
  let begun (f : Nat) : Bool :=
    decide (f < m.seq.folio) || (f == m.seq.folio && m.seq.phase != .issuing && m.seq.phase != .drain)
  let ch := m.chan c
  (ch.entries.filter (fun (e : Nat × Entry) => 1 ≤ e.2.state && e.2.state ≤ 2 && (e.2.reqFolio.map begun).getD false)).length
    + ((ch.requests (cfgReqw (m.chanCfg c))).filter begun).length

/-- R109: the request still stands. -/
def Module.stands (m : Module) (s : Stall) : Bool :=
  match s.cause with
  | .repair _ _ _ => true
  | .lateStatic b t => !m.bitsDue b t
  | .memReturn k t => m.lateRead k t
  | .memRead k => m.portFull k false && m.data.memAccs.any (fun a => a.portKey == k && !a.write && a.waiting)
  | .memWrite k => m.portFull k true && m.data.memAccs.any (fun a => a.portKey == k && a.write && a.waiting)
  | .backPressure b => decide (384 ≤ (m.bundle b).skew.length)
  | .courierPush dmb => !(m.data.queue dmb).skid.isEmpty
  | .traceA => decide (640 ≤ m.trace.fifo.length) && m.trace.state != 0 && bitOf (m.reg rTraceCtrl) 2
  | .deadline c => decide ((m.chan c).deadlines.length < m.dueReplies c)

/-- R109, R110: step advance is held by a request that stands at the end of the step after its own, and in a stall by any
that stands. -/
def stallHolds (inStall : Bool) (l : List Stall) : Bool := l.any (fun s => inStall || decide (2 ≤ s.age))

/-- R88, R162: skid words enter their queues and accesses that wait leave; then requests whose cause has gone are
withdrawn. -/
def Module.settle (m : Module) : Module :=
  let skids := m.data.queues.filter (fun (e : Nat × Queue) => !e.2.skid.isEmpty)
  let m1 := ({ m with data := skids.foldl (fun (d : Data) (e : Nat × Queue) => d.drainSkid e.1) m.data }).pumpPorts
  let left := m1.seq.stalls.filter m1.stands
  { m1 with seq := { m1.seq with stalls := left, inStall := stallHolds m1.seq.inStall left } }

/-- R109: the machine holds. -/
def Module.held (m : Module) : Bool := stallHolds m.seq.inStall m.seq.stalls

/-! ### Repair sources (R38, R329) -/

/-- What a unit's content comes from: the image at a step of the schedule, or a tip-in. -/
inductive RepairSrc where
  | none_
  | image (quarter : Nat)
  | tip (k : Nat)
  deriving DecidableEq, Repr

/-- R203: the resident tip-in of a number: quarter, quires, offset. -/
def Module.tipOf (m : Module) (k : Nat) : Option (Nat × BitVec 256 × Nat) :=
  (m.image.tips.find? (fun t => t.1 == k)).map (·.2)

/-- R38: the content of a bank of a quire: a bank that a tip-in filled has that tip-in's copy as its source. -/
def Module.bankSource (m : Module) (quire bank : Nat) : RepairSrc :=
  match (List.range 4).find? (fun q => bankOf m.data quire q == bank) with
  | some q => match sget 0 m.data.fill (quire * 5 + bank) with
    | 0 => .image q
    | k + 1 => .tip k
  | none => match sget Shadow.empty m.data.shadow quire with
    | .empty => .none_
    | .ready k => .tip k
    | .held q => .image q

/-- Bytes of the staged image: a unit of a section, with the HBM address it is read at. -/
def Module.stagedUnit (m : Module) (ty inst off len : Nat) : Nat × Nat :=
  match findSect m.sects ty inst with
  | some s => (readLe m.hbm.bytes (s.off + off) len, s.off + off)
  | none => (0, 0)

/-- R203: a unit of the slice of a quire in a resident tip-in, with its HBM address. -/
def Module.tipUnit (m : Module) (k quire off len : Nat) : Nat × Nat :=
  match m.tipOf k with
  | some (_, quires, base) =>
    let pos := ((quiresOf quires.toNat).filter (· < quire)).length
    let a := regBaseB m.image.tipin + base + 64 + sliceLen * pos + off
    (readLe m.hbm.bytes a len, a)
  | none => (0, 0)

/-- R175: the initial word of a DMB word, with the HBM address of its record: the last record that names it. -/
def Module.initialWord (m : Module) (addr : Nat) : Nat × Nat :=
  (m.readImage.dmbInit.filter (fun r => bitsOf r.2.2 21 0 == addr)).foldl
    (fun _ r => (bitsOf r.2.2 127 64, (m.stagedUnit 0x0031 r.1 (16 * r.2.1) 16).2)) (0, 0)

/-- R329: the value a repair writes and the HBM address it is read at, for a unit in its table's key. -/
def Module.repairValue (m : Module) (u : RepairUnit) (key : Nat) : Nat × Nat :=
  let inst (quire bank lenT offT lenI ty unit : Nat) : Nat × Nat :=
    match m.bankSource quire bank with
    | .none_ => (0, 0)
    | .image q => m.stagedUnit ty quire (lenI * (unit / 512 * 2048 + q * 512 + unit % 512)) lenI
    | .tip k => m.tipUnit k quire (offT + lenT * unit) lenT
  match u with
  | .imWord => inst (key / 2560 / 1024) (imKeyBank key) 12 0 12 0x0010 (key / 2560 % 1024 * 512 + key % 512)
  | .shadowWord => inst (key / 2560 / 1024) (imKeyBank key) 12 0 12 0x0010 (key / 2560 % 1024 * 512 + key % 512)
  | .xbarEntry => inst (key / 2560) (imKeyBank key) xbarLen 6356992 xbarLen 0x0012 (key % 512)
  | .spineEntry => inst (key / 2560) (imKeyBank key) spineLen 6479872 spineLen 0x0013 (key % 512)
  | .linkEntry => m.stagedUnit 0x0014 (key / 2048) (linkLen * (key % 2048)) linkLen
  | .segWord => m.stagedUnit 0x0020 0 (8 * (key % 256)) 8
  | .dispEntry => m.stagedUnit 0x0020 0 (2048 + key % 260) 1
  | .romDmb => m.initialWord key

/-- The bytes of a unit in its repair source. -/
def unitLen : RepairUnit → Nat
  | .imWord | .shadowWord => 12
  | .xbarEntry => xbarLen
  | .spineEntry => spineLen
  | .linkEntry => linkLen
  | .segWord => 8
  | .dispEntry => 1
  | .romDmb => 16

/-- R329: the repair source is held. A valid word of a ROM DMB that no initial-word record names, which only INSPECT makes,
has no repair source (DEDUCED: R329 writes no value from anywhere else). -/
def Module.sourceHeld (m : Module) (u : RepairUnit) (key : Nat) : Bool :=
  let bank (quire : Nat) : Bool := match m.bankSource quire (imKeyBank key) with
    | .none_ => false
    | .image _ => m.load.staged
    | .tip k => (m.tipOf k).isSome
  match u with
  | .imWord => bank (key / 2560 / 1024)
  | .shadowWord => bank (key / 2560 / 1024)
  | .xbarEntry => bank (key / 2560)
  | .spineEntry => bank (key / 2560)
  | .romDmb => m.load.staged && m.readImage.dmbInit.any (fun r => bitsOf r.2.2 21 0 == key)
  | _ => m.load.staged

/-- Write a repaired unit with generated parity. -/
def Module.putUnit (u : RepairUnit) (key v : Nat) (m : Module) : Module :=
  let zw : SchedWord := { bits := 0, par := 0 }
  match u with
  | .imWord | .shadowWord => { m with data := { m.data with im := sset { word := 0, par := 0 } m.data.im key (imWord v) } }
  | .xbarEntry => { m with data := { m.data with xbar := sset zw m.data.xbar key (schedWord xbarLen v) } }
  | .spineEntry => { m with data := { m.data with spine := sset zw m.data.spine key (schedWord spineLen v) } }
  | .linkEntry => { m with data := { m.data with link := sset zw m.data.link key (schedWord linkLen v) } }
  | .segWord => { m with seq := { m.seq with segs := sset zw m.seq.segs key (schedWord 8 v) } }
  | .dispEntry => { m with seq := { m.seq with disp := sset zw m.seq.disp key (schedWord 1 v) } }
  | .romDmb => { m with data := m.data.writeDmb key (BitVec.ofNat 64 v) }

/-- The unit fails its parity check. -/
def Module.unitBad (m : Module) (u : RepairUnit) (key : Nat) : Bool :=
  let zw : SchedWord := { bits := 0, par := 0 }
  match u with
  | .imWord | .shadowWord => !imGood (sget { word := 0, par := 0 } m.data.im key)
  | .xbarEntry => !schedGood xbarLen (sget zw m.data.xbar key)
  | .spineEntry => !schedGood spineLen (sget zw m.data.spine key)
  | .linkEntry => !schedGood linkLen (sget zw m.data.link key)
  | .segWord => !schedGood 8 (sget zw m.seq.segs key)
  | .dispEntry => !schedGood 1 (sget zw m.seq.disp key)
  | .romDmb => !(m.data.readDmb key).2

/-- R38, R98, R123: the essential mark of a unit. -/
def Module.unitEssential (m : Module) (u : RepairUnit) (key : Nat) : Bool :=
  match u with
  | .imWord | .shadowWord => sget false m.data.imEss key
  | .xbarEntry => sget false m.data.xbarEss key
  | .spineEntry => sget false m.data.spineEss key
  | .linkEntry => sget false m.data.linkEss key
  | _ => true

/-- R421: code of the unit of a repair. -/
def unitCode : RepairUnit → Nat
  | .imWord => 0
  | .shadowWord => 1
  | .xbarEntry => 2
  | .spineEntry => 3
  | .linkEntry => 4
  | .segWord => 5
  | .dispEntry => 6
  | .romDmb => 7

/-- The die that holds a unit; segment words and dispatch entries of sequencer 8 are on H. -/
def unitDie (u : RepairUnit) (key : Nat) : Nat :=
  match u with
  | .imWord | .shadowWord => key / 2560 / 32768
  | .xbarEntry | .spineEntry => key / 2560 / 32
  | .linkEntry => dieL0 + key / 2048
  | .segWord => key / 256
  | .dispEntry => key / 260
  | .romDmb => key / 524288

/-- R330, R346: the reader of a repair source: the die controller, and the steward for H. -/
def Module.repairReader (m : Module) (u : RepairUnit) (key : Nat) : Nat :=
  if unitDie u key = 8 then m.epSteward else m.epDie (unitDie u key)

/-- BP address or quire of a unit, and its word or entry address (R329, R55). A word in a bank that serves a quarter has
its schedule address. -/
def Module.unitPlace (m : Module) (u : RepairUnit) (key : Nat) : Nat × Nat :=
  let step (quire : Nat) : Nat :=
    match (List.range 4).find? (fun q => bankOf m.data quire q == imKeyBank key) with
    | some q => q * 512 + key % 512
    | none => key % 512
  match u with
  | .imWord | .shadowWord => (key / 2560, step (key / 2560 / 1024))
  | .xbarEntry | .spineEntry => (key / 2560, step (key / 2560))
  | .linkEntry => (key / 2048, key % 2048)
  | .segWord => (key / 256, key % 256)
  | .dispEntry => (key / 260, key % 260)
  | .romDmb => (key / 16384, key % 1024)

/-- R329 asks for a BP address or a quire. A link-die entry, a segment word and a dispatch entry have neither: the item
is free for them. -/
def unplaced (u : RepairUnit) : Bool :=
  match u with
  | .linkEntry | .segWord | .dispEntry => true
  | _ => false

/-- R329: UNREPAIRABLE (0x0164). -/
def Module.unrepairable (u : RepairUnit) (key : Nat) (m : Module) : Module :=
  let p := m.unitPlace u key
  if unplaced u then
    let x := (Config.openWord m.sec.freeCtr).toNat % 2 ^ 18
    ({ m with sec := { m.sec with freeCtr := m.sec.freeCtr + 1 } }).faultWith 0x0164 (unitDie u key) [(4, unitCode u), (18, x), (11, p.2)]
  else if u = .romDmb then m.faultWith 0x0164 (unitDie u key) [(4, unitCode u), (18, p.1), (22, key)]
  else m.faultWith 0x0164 (unitDie u key) [(4, unitCode u), (18, p.1), (11, p.2)]

/-- R55, R98, R123: the event of an essential failure; it sets IMREP (R234). -/
def Module.logRepair (u : RepairUnit) (key : Nat) (m : Module) : Module :=
  let p := m.unitPlace u key
  let m1 := match u with
    | .imWord | .shadowWord => m.log 0x0161 (unitDie u key) [(18, p.1), (11, p.2)]
    | .xbarEntry | .spineEntry | .linkEntry => m.log 0x0162 (unitDie u key) []
    | .segWord | .dispEntry => m.log 0x0904 (unitDie u key) []
    | .romDmb => m
  m1.happen 48

/-- R55, R123: the event of a failure that is not essential. -/
def Module.logParity (u : RepairUnit) (key : Nat) (m : Module) : Module :=
  let p := m.unitPlace u key
  match u with
  | .imWord | .shadowWord => m.log 0x0160 (unitDie u key) [(18, p.1), (11, p.2)]
  | .xbarEntry | .spineEntry | .linkEntry => m.log 0x0163 (unitDie u key) []
  | _ => m

/-- A repair stall of the unit stands. -/
def Module.repairing (m : Module) (u : RepairUnit) (key : Nat) : Bool :=
  m.seq.stalls.any (fun s => match s.cause with
    | .repair v k _ => decide (v = u) && k == key
    | _ => false)

/-- R329, R342: the read of a unit's repair source: whether every check is passed, and the value read. -/
def Module.readSource (u : RepairUnit) (key : Nat) (chk : SectorCheck) (m : Module) : Bool × Nat × Module :=
  let r := m.readSectors chk (sectorsIn (m.repairValue u key).2 (unitLen u)) (m.repairReader u key)
  (r.1, (r.2.repairValue u key).1, r.2)

/-- R55, R56, R329: an essential unit fails: the stall and its event, or the freeze where its source is not held. One whose
repair is under way has one repair (R334). -/
def Module.startRepair (u : RepairUnit) (key step : Nat) (m : Module) : Module :=
  if m.repairing u key then m
  else if m.sourceHeld u key then (m.logRepair u key).raiseStall (.repair u key step)
  else m.unrepairable u key

/-- R55, R123: what the fetch of a unit for a step finds. -/
def Module.fetched (u : RepairUnit) (step : Nat) (m : Module) (key : Nat) : Module :=
  if m.unitEssential u key then m.startRepair u key step else m.logParity u key

/-- R55, R123: the fetch and parity check of every word and entry of a step. -/
def Module.fetchCheck (step : Nat) (m : Module) : Module :=
  let d := m.data
  let im := ((d.fetchIm step).filter (fun e => !imGood e.2)).map (·.1)
  let xb := ((fetchSched d d.xbar step).filter (fun e => !schedGood xbarLen e.2)).map (·.1)
  let sp := ((fetchSched d d.spine step).filter (fun e => !schedGood spineLen e.2)).map (·.1)
  let lk := [step, 2048 + step].filter (fun k => m.unitBad .linkEntry k)
  lk.foldl (Module.fetched .linkEntry step) (sp.foldl (Module.fetched .spineEntry step)
    (xb.foldl (Module.fetched .xbarEntry step) (im.foldl (Module.fetched .imWord step) m)))

/-- R91, R135, R137: the presence checks for step t. -/
def Module.presenceCheck (t : Nat) (m : Module) : Module :=
  let ws := m.data.wordsAt t
  let late := ws.flatMap (fun e => ((List.range 8).filter (fun p => readsPort e.2 p && m.lateRead (e.1 / 64 * 8 + p) t)).map
    (fun p => e.1 / 64 * 8 + p))
  let m1 := late.eraseDups.foldl (fun m k => m.raiseStall (.memReturn k t)) m
  let m2 := (List.range 20).foldl (fun m b => if m.bitsDue b t then m else m.raiseStall (.lateStatic b t)) m1
  let later := (m2.seq.steps.dropWhile (· != t)).drop 1
  (List.range 20).foldl (fun m b =>
    if decide (384 ≤ (m.bundle b).skew.length) && decide (0 < m.data.sendsOn b t later) then m.raiseStall (.backPressure b) else m) m2

/-! ### Meanings -/

/-- R327: a discard that waited for the repair is made. -/
def Module.afterRepair (m : Module) : Module :=
  let more := m.seq.stalls.any (fun s => match s.cause with
    | .repair _ _ _ => true
    | _ => false)
  if m.load.discardWait && !more then m.discardStaged 0 else m

/-- REPAIR_COMPLETE (R56, R329): the source is read, checked and written; the stall is withdrawn. A reader without a free
tag holds its request (R274). A discard that waits is made however the repair ends (R327). -/
def Module.repairComplete (u : RepairUnit) (key : Nat) (chk : SectorCheck) (m : Module) : Module :=
  if !m.repairing u key ∨ m.tagsOut (m.repairReader u key) then m
  else
    let r := m.readSource u key chk
    let drop (m : Module) : Module :=
      { m with seq := { m.seq with stalls := m.seq.stalls.filter (fun s => match s.cause with
          | .repair w k _ => !(decide (w = u) && k == key)
          | _ => true) } }
    let scrubbed (m : Module) : Module :=
      if u = .imWord ∧ m.scrub.repairs.contains key then
        ({ m with scrub := { m.scrub with repairs := m.scrub.repairs.erase key } }).satReg 32 rScrubRepairs 1
      else m
    if r.1 then ((scrubbed (drop (r.2.2.putUnit u key r.2.1))).afterRepair)
    else if r.2.2.ctl.mode = .lockdown then r.2.2
    else ((drop r.2.2).unrepairable u key).afterRepair

def execRepairComplete (unit : RepairUnit) (addr : Nat) (chk : SectorCheck) (s : State) : Host.Outcome State Fault Refusal :=
  goOn (Module.repairComplete unit addr chk) s

/-- R330: the modes in which the walker runs; it pauses for preload and repair. -/
def Module.walks (m : Module) : Bool :=
  (match m.ctl.mode with
    | .bringup | .idle | .run | .step | .paced | .frozen | .inspect => true
    | _ => false)
  && m.txn.preload.isNone && !(m.seq.stalls.any (fun s => match s.cause with
      | .repair _ _ _ => true
      | _ => false))

/-- R330: the unit is one the walker reads: DMB words and the words of an EMPTY shadow are not. -/
def Module.walked (m : Module) (u : RepairUnit) (key : Nat) : Bool :=
  match u with
  | .romDmb => false
  | .imWord | .shadowWord => decide (m.bankSource (key / 2560 / 1024) (imKeyBank key) ≠ .none_)
  | _ => true

/-- R57: what the walker's read of a unit brings: a failing essential word starts a repair; another is logged and rewritten
without a stall while its source is held and passes its check. -/
def Module.walkUnit (u : RepairUnit) (key : Nat) (chk : SectorCheck) (m : Module) : Module :=
  if !m.unitBad u key then m
  else
    let m1 := m.satReg 32 rWalkFound 1
    if m1.unitEssential u key then m1.startRepair u key 0
    else
      let m2 := m1.logParity u key
      if m2.sourceHeld u key then
        let r := m2.readSource u key chk
        if r.1 then r.2.2.putUnit u key r.2.1 else r.2.2
      else m2

/-- R330: the last unit of a pass in the order in which the rule lists them: the last dispatch entry of the ninth sequencer. -/
def walkLast (u : RepairUnit) (key : Nat) : Bool := decide (u = .dispEntry) && key == 260 * 9 - 1

/-- R330: a pass of the walker ends and the next begins: WALK_PASSES, and WALK_LAST_US in µs of the step clock (R107). -/
def Module.walkEnd (m : Module) : Module :=
  let m1 := (m.statReg rWalkPasses 1).setReg rWalkLast ((m.seq.cycle - m.start.walkAt) / 1000 % 2 ^ 32)
  { m1 with start := { m1.start with walkAt := m.seq.cycle } }

/-- R348: a walker's read of a repair source that fails its check in the cycle in which LOCKDOWN was entered. -/
def Module.walkerLate (u : RepairUnit) (key : Nat) (chk : SectorCheck) (m : Module) : Module :=
  if m.unitBad u key && !m.unitEssential u key then m.lateFind chk ((m.repairValue u key).2 / 64) (m.repairReader u key) else m

/-- WALKER_READ (R57, R330). A reader without a free tag holds its request (R274). -/
def Module.walkerRead (u : RepairUnit) (key : Nat) (chk : SectorCheck) (m : Module) : Module :=
  if m.ctl.mode = .lockdown then m.walkerLate u key chk
  else if !m.walks ∨ !m.walked u key ∨ m.tagsOut (m.repairReader u key) then m
  else if walkLast u key then (m.walkUnit u key chk).walkEnd
  else m.walkUnit u key chk

def execWalkerRead (unit : RepairUnit) (addr : Nat) (chk : SectorCheck) (s : State) : Host.Outcome State Fault Refusal :=
  goOn (Module.walkerRead unit addr chk) s

end Sys2Proof.Machine
end

