-- ==== Sys2Proof/Machine/StepIssue.lean ====
section
/-! DEFINITION. Machine/StepIssue.lean: meanings of the executed step and of what holds or ends it (R93, R94, R109-R111,
R130, R136, R165). -/

namespace Sys2Proof.Machine

/-- R130: STATIC_PARITY for each failing byte, (link, direction, byte); `pos` is the step index, or the word of the latch
frame on DL8-DL11. -/
def Module.staticParity (bad : List (Nat × Nat × Nat)) (pos : Nat) (m : Module) : Module :=
  bad.foldl (fun m e => m.faultWith 0x0240 (dieReceiver e.1 e.2.1) [(5, e.1), (1, e.2.1), (11, pos), (7, e.2.2)]) m

/-- R107, R16: the links whose static channel runs with the schedule. -/
def scheduled (j : Nat) : Bool := decide (j < 8) || (12 ≤ j && j ≤ 17)

/-- R294: a frame of 464 bits is cut whenever the stream holds as many. A step adds at most 384 bits. -/
def Module.cutFrames (b : Nat) (m : Module) : Module :=
  let x := m.bundle b
  if 464 ≤ x.txStream.length then
    (m.setBundle b { x with txStream := x.txStream.drop 464 }).sendStatic b (x.txStream.take 464) false
  else m

/-- SKEW_PEAK of a bundle (R310). -/
def Module.peakSkew (b : Nat) (m : Module) : Module :=
  m.setReg (rSkewPeak b) (max (m.reg (rSkewPeak b)) (m.bundle b).skew.length)

/-- R137: a bit has joined the stream as its n-th: the entry of the step that sent it has one bit fewer to come. -/
def skewJoin (l : List SkewEntry) (origin : Option Nat) (n : Nat) : List SkewEntry :=
  match origin with
  | some s => l.map (fun e => if e.step = s ∧ 0 < e.due then { e with due := e.due - 1, last := n } else e)
  | none => l

/-- R137: the entry of step s, which sends on bundle b. -/
def Module.skewEntry (s : Nat) (rest : List Nat) (m : Module) (b : Nat) : Module :=
  let n := m.data.sendsOn b s rest
  if n = 0 then m
  else (m.setBundle b { m.bundle b with skew := (m.bundle b).skew ++ [{ step := s, due := n, last := 0 }] }).peakSkew b

/-- R294, R137: the bits a step puts on a bundle; `origins` names the step that sent each. -/
def Module.streamBits (b : Nat) (bits : List Bool) (origins : List (Option Nat)) (m : Module) : Module :=
  if bits.isEmpty then m
  else
    let x := m.bundle b
    let skew := origins.zipIdx.foldl (fun l e => skewJoin l e.1 (x.streamed + e.2 + 1)) x.skew
    let y : Bundle := { x with txStream := x.txStream ++ bits, streamed := x.streamed + bits.length, skew := skew, sentThisFolio := true }
    (m.setBundle b y).cutFrames b

/-- R294: the folio's stream ends with STATIC_LAST. -/
def Module.endStream (m : Module) (b : Nat) : Module :=
  let x := m.bundle b
  if x.sentThisFolio then
    (m.setBundle b { x with txStream := [], sentThisFolio := false }).sendStatic b x.txStream true
  else m

/-- R294: the bits that a bundle releases in a step. -/
def Module.released (m : Module) (b step : Nat) : List Bool := (m.bundle b).store.take (m.rcntOf b step)

/-- R294: the released bits leave the store. -/
def Module.release (step : Nat) (m : Module) (b : Nat) : Module :=
  let n := (m.released b step).length
  if n = 0 then m
  else
    let x := m.bundle b
    m.setBundle b { x with store := x.store.drop n, released := x.released + n }

/-- R231: in cycle 1 of phase 1 the latches that the watch map names are copied. -/
def Module.copyLatches (m : Module) : Module :=
  let named (t : SMap Nat) (bp : Nat) : Bool := t.any (fun e => bitOf e.2 31 && bitsOf e.2 17 0 == bp)
  let i := m.image
  let copies := m.data.watch.filter (fun e => named i.taps e.1 || named i.caps e.1 || named i.masks e.1)
  { m with data := { m.data with latched := copies } }

/-- R22, R231: the last executed step has issued: phase 1 begins. -/
def Module.startBoundary (m : Module) : Module :=
  let m1 := (List.range 20).foldl Module.endStream m
  { m1 with seq := { m1.seq with phase := .drain } }.copyLatches

/-- R22, R110: a folio with no step to issue begins its boundary once no request holds phase 7. -/
def Module.endEmpty (m : Module) : Module :=
  if m.ctl.mode.running ∧ m.seq.phase = .issuing ∧ m.seq.steps = [] ∧ m.seq.stalls = [] then m.startBoundary else m

/-- R111: count one executed step; requests raised in it are one step old. -/
def Module.countStep (rest : List Nat) (m : Module) : Module :=
  let m1 := (m.statReg rExecuted 1).cycles 1
  { m1 with seq := { m1.seq with steps := rest, issued := m1.seq.issued + 1, effE := m1.seq.effE + 1,
                                 stalls := m1.seq.stalls.map (fun s => { s with age := s.age + 1 }) } }

/-- R74, R75: halt requests of a step, in ascending BP address. -/
def Module.haltsAt (s : Nat) (bps : List Nat) (m : Module) : Module :=
  match bps with
  | [] => m
  | bp :: _ => { m with seq := { m.seq with haltCount := min (m.seq.haltCount + bps.length) 0xFFFF,
                                            haltFirst := some (m.seq.haltFirst.getD (s, bp)) } }

/-- R122, R126, R294: the bits that a step puts on their way. -/
def Module.newFlights (s : Nat) (arr : List FlightDest) (acc : LaneAcc) (m : Module) : List Flight :=
  let d := m.data
  let sw := arrivedSwitch arr
  let xb := (entriesAt d xbarLen d.xbar s).flatMap (fun e => xbarFlights d.bus acc.xs e.1 e.2)
  let sp := (entriesAt d spineLen d.spine s).flatMap (fun e => spineFlights sw e.1 e.2)
  let lk := [0, 1].flatMap (fun die =>
    linkInFlights (fun k => m.released (10 * die + k) s) die (d.linkAt die s))
  xb ++ sp ++ sendFlights acc.ss ++ lk

/-- R94: the pipelines advance by one executed step. -/
def moveFlights (fs new : List Flight) : List Flight :=
  (fs.filter (fun f => f.left != 0)).map (fun f => { f with left := f.left - 1 }) ++ new

/-- R77, R79, R84, R93: an executed step s begins: pads drive and are sampled, return lines show their words, and the step
after next is fetched and its presence checked. -/
def Module.beginStep (s : Nat) (rest : List Nat) (padsHigh : List Nat) (m : Module) : Module :=
  let m1 := m.movePads
  let samples := (m1.sampledPads padsHigh :: m1.data.padSamples).take 4
  let m2 := { m1 with data := { m1.data.showReturns s with padSamples := samples } }
  match rest with
  | _ :: t :: _ => (m2.fetchCheck t).presenceCheck t
  | _ => m2

/-- What the step presents to the BPs (R77, R80, R81, R131). -/
def Module.presentAt (m : Module) : Present :=
  { xbar := arrivedXbar m.data.arrivals, spine := arrivedSpine m.data.arrivals, cells := m.cellsHigh (sampleFor m.data.padSamples) }

/-- One executed step s (R93); `rest` are the steps of the folio after it. -/
def Module.issueStep (s : Nat) (rest : List Nat) (padsHigh : List Nat) (bad : List (Nat × Nat × Nat)) (m : Module) : Module :=
  let m3 := m.beginStep s rest padsHigh
  -- the lanes, the requests and the routes, all on the state at the end of the step before
  let d := m3.data
  let arr := d.arrivals
  let ws := d.wordsAt s
  let acc := runLanes d m3.presentAt ws
  let fl := moveFlights d.flights (m3.newFlights s arr acc)
  let link := arrivedLink arr
  let m4 := { m3 with data := { acc.d with bus := (acc.bus.reverse).map (fun bp => (bp, true)), flights := fl, sends := d.moveSends s } }
  let m5 := (m4.runRequests d ws s rest).haltsAt s acc.halts
  let m6 := (List.range 20).foldl (fun m b =>
    m.streamBits b (linkOutBits link (b / 10) (d.linkAt (b / 10) s) (b % 10)) (d.joinOf b s)) ((List.range 20).foldl (Module.skewEntry s rest) m5)
  let m7 := (List.range 20).foldl (Module.release s) m6
  let m8 := (m7.countStep rest).staticParity (bad.filter (fun e => scheduled e.1)) s
  let m9 := if rest.isEmpty && m8.ctl.mode.running then m8.startBoundary else m8
  m9.wake

/-- STEP_ISSUE (R93, R109): a step issues while the machine runs, has a step left and no stall request holds it. -/
def Module.stepIssue (padsHigh : List Nat) (bad : List (Nat × Nat × Nat)) (m : Module) : Module :=
  if m.ctl.mode.running ∧ m.seq.phase = .issuing then
    let m0 := m.settle
    match m0.seq.steps with
    | [] => m0.endEmpty
    | s :: rest => if m0.held then m0 else m0.issueStep s rest padsHigh bad
  else m

def execStepIssue (padsHigh : List Nat) (badChannels : List (Nat × Nat × Nat)) (s : State) : Host.Outcome State Fault Refusal :=
  goOn (Module.stepIssue padsHigh badChannels) s

/-- STALL_RELEASE (R109): requests whose cause has gone are withdrawn; what waited in skids enters. -/
def execStallRelease (s : State) : Host.Outcome State Fault Refusal := goOn (fun m => m.settle.endEmpty.wake) s

/-- MEM_TIMEOUT (R165): an access is outstanding 4 µs after its issue. The mask unit's record read (R249) is named by port
key 32,768, one above the last port, and freezes with the pseudo-channel of its address. -/
def Module.memTimeout (k n : Nat) (m : Module) : Module :=
  if k = 32768 then
    match m.fabric.tags.find? (fun t => t.use == 3 && !t.quarantine) with
    | some t => m.faultWith 0x0425 dieH [(18, 0), (3, 0), (37, t.addr), (6, pcOf t.addr)]
    | none => m
  else match m.data.memAccs.find? (fun a => a.portKey == k && a.seqNo == n) with
    | some a => m.faultWith 0x0425 (k / 4096) [(18, portBp k), (3, k % 8), (37, a.addr), (6, pcOf a.addr)]
    | none => m

def execMemTimeout (portKey seqNo : Nat) (s : State) : Host.Outcome State Fault Refusal :=
  goOn (Module.memTimeout portKey seqNo) s

/-- R135: a starvation request of a bundle stands. -/
def Module.starved (m : Module) (b : Nat) : Bool :=
  m.seq.stalls.any (fun s => match s.cause with
    | .lateStatic c _ => c == b
    | _ => false)

/-- STARVE_TIMEOUT (R136): the starvation stall of a bundle has outlasted the barrier timeout; the budget step is the
first step whose bits are absent. -/
def Module.starveTimeout (b : Nat) (m : Module) : Module :=
  if m.starved b ∧ m.ctl.mode.running then
    let n := (List.range 4).find? (fun i => !m.bitsPresent b i)
    let step := match n with
      | some i => nth 0 m.seq.steps (i - 1)
      | none => 0
    m.faultWith 0x0921 (if b < 10 then dieL0 else dieL1) [(5, b), (11, step)]
  else m

def execStarveTimeout (bundle : Nat) (s : State) : Host.Outcome State Fault Refusal := goOn (Module.starveTimeout bundle) s

end Sys2Proof.Machine
end

