-- ==== Sys2Proof/Machine/Trace.lean ====
section
/-! DEFINITION. Machine/Trace.lean: class A packets of a walk, trace triggers, and the meanings of the trace commands
(R250-R261). -/

namespace Sys2Proof.Machine

/-! ### Class A (R251, R254) -/

/-- What a walk records: an EDGE word's decision, or where a JUMP word continues; `idx` is the word's index. -/
inductive WalkItem where
  | edge (idx : Nat) (taken : Bool)
  | jump (idx target quarter key : Nat)
  deriving DecidableEq, Repr

def WalkItem.idx : WalkItem → Nat
  | .edge i _ => i
  | .jump i _ _ _ => i

/-- R253: a class A BRANCH; FDELTA counts folios since the last class A packet. -/
def Module.branchA (folio : Nat) (bits : List Bool) (idx : Nat) (m : Module) : Module :=
  let m1 := m.traceLead 0 idx folio m.seq.cycle
  let body := bits.length * 2 ^ 88 + (folio - (m1.source 0).lastFolio) % 2 ^ 24 * 2 ^ 64 + bitsNat bits
  let m2 := m1.traceOffer 0 0 body m.seq.cycle
  m2.setSource 0 { m2.source 0 with lastFolio := folio }

/-- R254: the packets of a walk: a BRANCH first, one before every TARGET that holds bits, one at the end. `held` are the
bits held with the index of their first word; `fresh` while no packet of the walk has been emitted. -/
def Module.walkPackets (folio : Nat) : List WalkItem → List Bool → Nat → Bool → Module → Module
  | [], held, idx, _, m => if held.isEmpty then m else m.branchA folio held idx
  | .edge i b :: t, held, idx, fresh, m =>
    let idx1 := if held.isEmpty then i else idx
    let held1 := held ++ [b]
    if held1.length = 64 then Module.walkPackets folio t [] i false (m.branchA folio held1 idx1)
    else Module.walkPackets folio t held1 idx1 fresh m
  | .jump i tgt q key :: t, held, idx, fresh, m =>
    let m1 := if !held.isEmpty then m.branchA folio held idx else if fresh then m.branchA folio [] i else m
    let m2 := m1.traceEmit 0 1 (tgt * 2 ^ 71 + q * 2 ^ 69 + key * 2 ^ 62) i folio m1.seq.cycle
    Module.walkPackets folio t [] i false (m2.setSource 0 { m2.source 0 with lastFolio := folio })

/-- The sources record: trace runs and has not stopped. -/
def Module.tracing (m : Module) : Bool := (m.trace.state == 1 || m.trace.state == 2) && !m.trace.stopReq

/-- R260: the last folio a countdown records. -/
def Module.traceEnd (m : Module) : Nat := m.reg rTraceTrigFolio + m.reg rTraceStopFolios

/-- R251, R260: the walk of a folio is recorded in phase 6. -/
def Module.traceWalk (folio : Nat) (items : List WalkItem) (m : Module) : Module :=
  if m.tracing && bitOf (m.reg rTraceCtrl) 0 && !items.isEmpty && (m.trace.state == 1 || decide (folio ≤ m.traceEnd)) then
    m.walkPackets folio items [] 0 true
  else m

/-- R260, R261: cycle 1 of phase 7 of the boundary before folio F: a host stop and the end of a countdown stop the
sources. -/
def Module.tracePhase7 (f : Nat) (m : Module) : Module :=
  if !m.tracing then m
  else if m.trace.stopReason = 1 then
    let m1 := m.stopSources 1
    { m1 with trace := { m1.trace with lastFolio := if m.trace.state = 2 then min f m.traceEnd else f } }
  else if m.trace.state = 2 ∧ m.traceEnd < f then
    let m1 := m.stopSources 0
    { m1 with trace := { m1.trace with lastFolio := m.traceEnd } }
  else m

/-- R236: the lines with a bit of MC_CFG set. -/
def Module.lineMask (m : Module) (bit : Nat) : BitVec 16 :=
  (List.range 16).foldl (fun a k => if bitOf (m.reg (rMcCfg k)) bit then a ||| BitVec.ofNat 16 (2 ^ k) else a) 0

/-- R260: a release brings lines that act in folio T: TRIGGER, and the first one enters COUNTDOWN. A host stop that waits
governs (R261). -/
def Module.traceLines (act : BitVec 16) (t : Nat) (m : Module) : Module :=
  let lines := act &&& m.lineMask 6
  if !m.tracing ∨ lines = 0 then m
  else
    let m1 := m.tracePut 1 4 (lines.toNat * 2 ^ 79 + t % 2 ^ 64) (m.source 1).last
    if m1.trace.state = 1 ∧ m1.trace.stopReason ≠ 1 then
      (({ m1 with trace := { m1.trace with state := 2 } }).setReg rTraceTrigFolio t).msix 5
    else m1

/-! ### Meanings -/

/-- TRACE_GO = 1 (R259). A source has no packet before its first: its DELTA counts from here (DESIGN CHOICE). -/
def Module.traceStart (m : Module) : Module :=
  let ctrl := m.reg rTraceCtrl
  if m.image.trace % 65536 = 0 ∨ ctrl % 4 = 0 ∨ m.trace.state = 1 ∨ m.trace.state = 2 then m.answer stRefused
  else
    let m1 := m.setRegs [(rTraceWptr, 0), (rTraceTrigFolio, ones64), (rTraceDroppedA, 0), (rTraceDroppedB, 0), (rTracePeak, 0)]
    let fresh : TraceSrc := { TraceSrc.init with last := m.seq.cycle, lastFolio := m.seq.folio }
    let srcs := (0 :: (List.range 32).map (0x20 + ·)).foldl (fun t k => sset TraceSrc.init t k fresh) []
    (({ m1 with trace := { Trace.init with state := 1, sources := srcs } }).msix 5).answer stOK

def execTraceGoStart (s : State) : Host.Outcome State Fault Refusal := goOn (Module.planeControl Module.traceStart) s

/-- TRACE_GO = 2 (R261): stops at the next cycle 1 of phase 7. While OFF or STOPPED there is nothing to stop; the answer is
OK (DESIGN CHOICE, as for TRACE_GO = 3). -/
def Module.traceStop (m : Module) : Module :=
  (if m.tracing then { m with trace := { m.trace with stopReason := 1 } } else m).answer stOK

def execTraceGoStop (s : State) : Host.Outcome State Fault Refusal := goOn (Module.planeControl Module.traceStop) s

/-- TRACE_GO = 3 (R255): every source emits a SYNC ahead of its next packet. -/
def Module.traceSync (m : Module) : Module :=
  let all := m.trace.sources.map (fun e => (e.1, { e.2 with needSync := true }))
  ({ m with trace := { m.trace with sources := all } }).answer stOK

def execTraceGoSync (s : State) : Host.Outcome State Fault Refusal := goOn (Module.planeControl Module.traceSync) s

/-- R256, R267: the funnel writes sectors of four packets over the packet network, at the lowest request priority. -/
def Module.funnelWrite (ps : List (BitVec 128)) (m : Module) : Module :=
  if m.traceSlots = 0 then m
  else ((m.traceSectors ps).foldl (fun (m : Module) e =>
    m.inject { packetReq opPWR 0 (m.epHbm e.1) m.epFunnel 0 e.1 with len := 2, data := sectorFlits e.2 }) m).setReg rTraceWptr
      (m.reg rTraceWptr + ps.length)

/-- R256: the funnel writes one sector of four packets. -/
def Module.funnelDrain (m : Module) : Module :=
  if 4 ≤ m.trace.fifo.length then
    ({ m with trace := { m.trace with fifo := m.trace.fifo.drop 4 } }).funnelWrite (m.trace.fifo.take 4)
  else m

/-- TRACE_STOPPED (R256, R260, R261). -/
def execTraceStopped (s : State) : Host.Outcome State Fault Refusal :=
  goOn (fun m => if m.trace.stopReq then m.traceFinish Module.funnelWrite else m) s

/-- Trace source of a courier core (R250). -/
def coreSource (core : Nat) : Nat := 0x20 + core % 32

/-- TRACE_BRANCH_TIMEOUT (R254). The address a SYNC would carry is free: no command names the core's pc. -/
def execTraceBranchTimeout (core : Nat) (s : State) : Host.Outcome State Fault Refusal :=
  goOn (fun m => if m.tracing then (let r := m.freePc; r.2.endBranch (coreSource core) r.1) else m) s

/-- R259: a source is enabled: class A, or class B and its core. -/
def Module.sourceOn (m : Module) (src : Nat) : Bool :=
  if src = 0 then bitOf (m.reg rTraceCtrl) 0
  else decide (0x20 ≤ src) && decide (src < 0x40) && bitOf (m.reg rTraceCtrl) 1 && bitOf (m.reg rTraceCores) (src - 0x20)

/-- R261: nothing more comes from a core that has halted (R215). -/
def Module.sourceHalted (m : Module) (src : Nat) : Bool :=
  decide (0x20 ≤ src) && m.couriers.started && !m.couriers.run.getLsbD (src - 0x20)

/-- TRACE_DELTA_LIMIT (R254, R255, R257): an enabled source ends its BRANCH, with what is due ahead of it, then emits a SYNC
with DELTA 0xFF_FFFF; one that lost packets emits GAP and SYNC where there is room. Counting restarts unless the FIFO
refuses it. -/
def Module.deltaLimit (src : Nat) (m : Module) : Module :=
  if m.tracing && m.sourceOn src && !m.sourceHalted src && (sfind m.trace.sources src).isSome then
    let t := (m.source src).last + 0xFFFFFF
    if 0 < (m.source src).lost then m.gapOut src t
    else
      let r := m.syncAddr src
      (r.2.endBranch src r.1).syncPut src r.1 m.seq.folio t
  else m

def execTraceDeltaLimit (src : Nat) (s : State) : Host.Outcome State Fault Refusal := goOn (Module.deltaLimit src) s

/-- TRACE_GAP (R257). -/
def execTraceGap (src : Nat) (s : State) : Host.Outcome State Fault Refusal :=
  goOn (fun m => if m.tracing then m.gapOut src m.seq.cycle else m) s

/-- CLASS_B_TRACE (R252, R254): a traced core retires an instruction; `pc` is the address of the next one. -/
def Module.classB (core pc : Nat) (ev : CoreEvent) (m : Module) : Module :=
  let on := m.tracing && m.sourceOn (coreSource core) && m.couriers.run.getLsbD (core % 32)
  if !on then m
  else
    let src := coreSource core
    let x := m.source src
    match ev with
    | .branch taken =>
      let first := if x.bits.isEmpty then m.seq.cycle else x.firstAt
      let m1 := m.setSource src { x with bits := x.bits ++ [taken], firstAt := first, lastAt := m.seq.cycle, atFolio := m.seq.folio }
      if x.bits.length + 1 = 88 then m1.endBranch src pc else m1
    | .transfer xfer addr =>
      let m1 := m.endBranch src pc
      m1.traceEmit src 1 (addr % 2 ^ 18 * 2 ^ 71 + xfer % 4 * 2 ^ 69) pc m.seq.folio m.seq.cycle

def execClassBTrace (core pc : Nat) (ev : CoreEvent) (s : State) : Host.Outcome State Fault Refusal :=
  goOn (Module.classB core pc ev) s

end Sys2Proof.Machine
end

