-- ==== Sys2Proof/Machine/TxnOps.lean ====
section
/-! DEFINITION. Machine/TxnOps.lean: action records, their validation and their apply, pulses, tip-in swaps, forces (R188-
R207), shared by the transaction commands, the release and the launch. -/

namespace Sys2Proof.Machine

/-! ### Action records (R193) -/

def actKind (r : Nat) : Nat := bitsOf r 127 124
def actSub (r : Nat) : Nat := bitsOf r 123 120
def actTarget (r : Nat) : Nat := bitsOf r 95 64
def actData (r : Nat) : Nat := bitsOf r 63 0
/-- TARGET of a DM cell. -/
def actBp (t : Nat) : Nat := bitsOf t 28 11
def actCell (t : Nat) : Nat := bitsOf t 10 0

/-- R194 TXN_KIND: a reserved KIND or SUB, or a nonzero reserved bit. -/
def actReserved (r : Nat) : Bool :=
  let t := actTarget r
  let d := actData r
  bitsOf r 119 96 != 0 ||
  (match actKind r, actSub r with
    | 1, 0 => bitsOf t 31 29 != 0 || 1 < d
    | 1, 1 => false
    | 1, 2 => bitsOf t 31 18 != 0 || 1 < d
    | 2, 0 => bitsOf t 31 29 != 0 || 1 < d
    | 2, 1 => bitsOf t 31 18 != 0 || 1 < d
    | 3, 0 => bitsOf t 31 29 != 0 || d != 0
    | 3, 1 => bitsOf t 31 18 != 0 || d != 0
    | 4, 0 => bitOf t 31 || bitsOf d 63 12 != 0
    | 5, 0 => d != 0
    | 5, 1 => bitsOf t 31 2 != 0 || d != 0
    | 6, 0 => bitsOf d 63 32 != 0
    | 6, 1 => bitsOf d 63 32 != 0
    | 6, 2 => d != 0
    | 7, 0 => t != 0 || bitsOf d 63 16 != 0
    | _, _ => true)

/-- R194 TXN_TARGET: a DMB, generator or tip-in number out of range. -/
def actOutOfRange (r : Nat) : Bool :=
  let t := actTarget r
  match actKind r, actSub r with
  | 1, 1 => decide (2 ^ 22 ≤ t)
  | 5, 0 | 6, 0 | 6, 1 | 6, 2 => decide (64 ≤ t)
  | _, _ => false

/-- The BP an action names, if its target is one. -/
def actBpOf (r : Nat) : Option Nat :=
  match actKind r, actSub r with
  | 1, 0 | 2, 0 | 3, 0 => some (actBp (actTarget r))
  | 1, 2 | 2, 1 | 3, 1 => some (bitsOf (actTarget r) 17 0)
  | _, _ => none

/-! ### Commit folio (R195, R372) -/

/-- R372: the folio that a PTP time converts to; negative before folio 0. -/
def Steward.folioAt (w : Steward) (t : Nat) : Int :=
  let r : Int := if w.prevSec = 0 ∨ w.latchSec ≠ w.prevSec + 1 then 0 else (w.latchFolio : Int) - w.prevFolio
  let x : Int := ((t : Int) - (w.latchSec : Int) * 1000000000) * r
  (w.latchFolio : Int) - (-x) / 1000000000

/-- R195: the earliest commit folio. Phases 5 to 7 are one command, so phase 5 of the present boundary has not begun. -/
def Module.earliest (m : Module) : Nat := if m.seq.opening then 0 else m.seq.folio + 1

/-- R199: D. -/
def Module.lead (m : Module) : Nat := m.reg rTxnLead

/-! ### Tip-ins (R203, R206, R207) -/

/-- The number, quarter and quires of a resident tip-in. -/
def Module.residentTip (m : Module) (k : Nat) : Option (Nat × List Nat) :=
  (m.image.tips.find? (fun t => t.1 == k)).map (fun t => (t.2.1, quiresOf t.2.2.1.toNat))

def Module.shadowOf (m : Module) (q : Nat) : Shadow := sget Shadow.empty m.data.shadow q

/-- What a TIPIN action depends on: its quarter and the quires of its set. -/
def Module.tipTarget (m : Module) (r : Nat) : Option (Nat × List Nat) :=
  if actKind r ≠ 5 then none
  else if actSub r = 0 then m.residentTip (actTarget r)
  else
    let q := actTarget r % 4
    (m.residentTip (nth 0x40 m.seq.dkey q)).map (fun t => (q, t.2))

/-- The records of every slot in PREPARED, COMMITTED or APPLYING but one, with the slot's commit folio. -/
def Module.pendingRecords (m : Module) (except : Nat) : List (Option Nat × Nat) :=
  (List.range 16).flatMap (fun i =>
    let sl := m.slot i
    if i ≠ except ∧ (sl.state = 3 ∨ sl.state = 4 ∨ sl.state = 5) then sl.records.map (fun r => (sl.folio, r.toNat)) else [])

/-- R36, R207: exchange the shadow bank and quarter q of a quire. -/
def Data.swapBank (d : Data) (q quire : Nat) : Data :=
  let v := (sget 0x4688#16 d.bankmap quire).toNat
  let sh := bitsOf v 14 12
  let qb := bitsOf v (3 * q + 2) (3 * q)
  let v1 := putBits (putBits v 14 12 qb) (3 * q + 2) (3 * q) sh
  { d with bankmap := sset 0x4688#16 d.bankmap quire (BitVec.ofNat 16 v1) }

/-- R207: swap in tip-in k, or restore the quarter; `mark` is what the shadows become and `key` the quarter's key. -/
def Module.swapTip (q : Nat) (quires : List Nat) (mark : Shadow) (key : Nat) (m : Module) : Module :=
  let d := quires.foldl (fun (d : Data) i => let e := d.swapBank q i
                                             { e with shadow := sset Shadow.empty e.shadow i mark }) m.data
  { m with data := d, seq := { m.seq with dkey := setNth m.seq.dkey q key } }

/-- R207: every shadow of a set stands as a TIPIN needs it. -/
def Module.shadowsAre (m : Module) (quires : List Nat) (v : Shadow) : Bool := quires.all (fun i => decide (m.shadowOf i = v))

/-- R207: a TIPIN of SUB 0 swaps its tip-in in, of SUB 1 restores its quarter, where DKEY and the shadows stand as R207
requires. -/
def Module.applyTip (r : Nat) (m : Module) : Module :=
  match m.tipTarget r with
  | none => m
  | some (q, qs) =>
    let k := nth 0x40 m.seq.dkey q
    if actSub r = 0 then
      (if k = 0x40 ∧ m.shadowsAre qs (.ready (actTarget r)) then m.swapTip q qs (.held q) (actTarget r) else m)
    else if m.shadowsAre qs (.held q) then m.swapTip q qs (.ready k) 0x40 else m

/-- R194: the dispatch keys and shadows as the TIPIN actions that commit before a folio will leave them, by which a later
TIPIN is judged. -/
def Module.tipView (m : Module) (commit : Option Nat) (others : List (Option Nat × Nat)) : Module :=
  match commit with
  | none => m
  | some c =>
    let due := others.filter (fun x => actKind x.2 == 5 && (match x.1 with
      | some f => decide (f < c)
      | none => false))
    let folios := (due.filterMap (·.1)).mergeSort (· ≤ ·) |>.eraseDups
    folios.foldl (fun m f => (due.filter (fun x => x.1 == some f)).foldl (fun m x => m.applyTip x.2) m) m

/-! ### Validation (R194) -/

/-- R197: FORCE of a cell in slot order: distinct cells of the BP that would be taken. -/
def Module.forceFull (m : Module) (others earlier : List Nat) (r : Nat) : Bool :=
  let bp := actBp (actTarget r)
  let isForce (x : Nat) : Bool := actKind x == 2 && actSub x == 0 && actBp (actTarget x) == bp
  let held := (sget [] m.data.forces bp).map (·.cell)
  let more := ((others ++ earlier ++ [r]).filter isForce).map (fun x => actCell (actTarget x))
  decide (8 < (held ++ more).eraseDups.length)

/-- The reason of the first condition of R194, in the order of its table, that an action meets. `commit` is the folio the
slot would commit at, if known; `earlier` are the slot's actions before this one. -/
def Module.actionFault (m : Module) (slot : Nat) (scope : Bool) (commit : Option Nat) (earlier : List Nat) (r : Nat) : Option Nat :=
  let kind := actKind r
  let sub := actSub r
  let t := actTarget r
  let d := actData r
  let dmbDesc := m.data.desc (bitsOf t 21 10)
  let others := m.pendingRecords slot
  let lost := match actBpOf r with
    | some bp => m.gathLost (bp / 64)
    | none => false
  let sector := bitsOf t 30 0 * 64
  let lo := regBaseB m.image.design
  let view := m.tipView commit others
  let tip := view.tipTarget r
  let resident := kind == 5 && sub == 0 && (m.residentTip t).isNone
  let notReady := match tip with
    | some (q, qs) => kind == 5 && !(view.shadowsAre qs (if sub = 0 then Shadow.ready t else Shadow.held q))
    | none => false
  -- R207: a failed preload of the tip-in, or for a restore of this quarter's image content, reports its check code
  let preFail := bitsOf (m.reg rTipStatus) 1 0 == 3 && bitsOf (m.reg rTipStatus) 8 2 == (if sub = 0 then t else 0x40)
    && (sub == 0 || tip.any (fun e => e.1 == m.txn.tipQuarter))
  let quarter := match tip with
    | some (q, _) => if sub = 0 then nth 0x40 view.seq.dkey q != 0x40 else false
    | none => kind == 5 && sub == 1
  let clash (x : Option Nat × Nat) : Bool := match tip, m.tipTarget x.2 with
    | some a, some b => a.1 == b.1 && (x.1.isNone || commit.isNone || x.1 == commit)
    | _, _ => false
  let conflict := others.any clash || earlier.any (fun x => clash (commit, x))
  let conds : List (Bool × Nat) := [
    (actReserved r, 0x0001),
    (lost || actOutOfRange r || (kind == 4 && decide ((m.slot slot).records.length ≤ d)), 0x0004),
    (kind == 1 && sub == 1 && descRom dmbDesc, 0x0005),
    (kind == 1 && sub == 1 && descBind dmbDesc != 0, 0x0006),
    (kind == 4 && !(lo ≤ sector && sector < lo + regSizeB m.image.design), 0x0007),
    (kind == 2 && sub == 0 && m.forceFull (others.map (·.2)) earlier r, 0x0008),
    (kind == 6 && ((sub == 0 && clkCfgBad d) || (sub == 1 && clkTimeBad d)), 0x0009),
    (kind == 6 && !scope && m.inSystem, 0x000A),
    (resident, 0x000B),
    (notReady, if preFail then bitsOf (m.reg rTipStatus) 31 16 else 0x000C),
    (quarter, 0x000D),
    (conflict, 0x000E),
    (kind == 7 && m.image.modnum != 0, 0x000F)]
  (conds.find? (·.1)).map (·.2)

/-- R194: the first failing action in record order: its reason and index. -/
def Module.firstFault (m : Module) (slot : Nat) (scope : Bool) (commit : Option Nat) : List Nat → List Nat → Nat → Option (Nat × Nat)
  | [], _, _ => none
  | r :: t, earlier, i =>
    match m.actionFault slot scope commit earlier r with
    | some reason => some (reason, i)
    | none => Module.firstFault m slot scope commit t (earlier ++ [r]) (i + 1)

/-! ### Forces (R197) -/

/-- A force entry is placed, or its value replaced; the cell takes the forced value. False when no entry is free. -/
def Data.force (d : Data) (bp cell : Nat) (v : Bool) : Option Data :=
  let es := sget [] d.forces bp
  let kept := es.filter (fun f => f.cell != cell)
  if 8 ≤ kept.length then none
  else some { d.putCell bp cell v with forces := sset [] d.forces bp (kept ++ [{ cell := cell, value := v }]) }

/-- The entry is freed; the cell keeps the forced value until it is next written. -/
def Data.unforce (d : Data) (bp cell : Nat) : Data :=
  { d with forces := sset [] d.forces bp ((sget [] d.forces bp).filter (fun f => f.cell != cell)) }

def Data.setPoint (d : Data) (bp : Nat) (armed v : Bool) : Data :=
  { d with fpoint := sset { armed := false, value := false } d.fpoint bp { armed := armed, value := v } }

/-! ### Apply (R196, R207) -/

/-- R104: a word of a generator comes into force; the dictionary reads it. -/
def Module.setClock (k : Nat) (isTime : Bool) (v : Nat) (m : Module) : Module :=
  if isTime then ({ m with seq := { m.seq with dclkTime := sset 0x10000 m.seq.dclkTime k v } }).setReg (rDclkTime k) v
  else ({ m with seq := { m.seq with dclkCfg := sset 0 m.seq.dclkCfg k v } }).setReg (rDclkCfg k) v

/-- R102, R202: a PULSE gives its generator an edge; one with EN = 0 or SRC = 0 counts in PULSE_DROPPED. -/
def Module.pulse (k : Nat) (m : Module) : Module :=
  let c := sget 0 m.seq.dclkCfg k
  if bitOf c 31 ∧ (bitsOf c 30 29 = 1 ∨ bitsOf c 30 29 = 2) then
    { m with txn := { m.txn with pulsedNow := m.txn.pulsedNow ||| BitVec.ofNat 64 (2 ^ k) } }
  else m.satReg 32 rPulseDropped 1

/-- R196: one action of slot i in phase 5. HBMWR has been written at the hold point. -/
def Module.applyAction (i : Nat) (m : Module) (r : Nat) : Module :=
  let t := actTarget r
  let v := bitOf (actData r) 0
  let bp := actBp t
  let cell := actCell t
  let setD (d : Data) : Module := { m with data := d }
  match actKind r, actSub r with
  | 1, 0 =>
    if (m.data.forced bp cell).isSome then
      let sl := m.slot i
      m.setSlot i { sl with masked := sl.masked + 1 }
    else setD (m.data.store bp cell v)
  | 1, 1 => setD (m.data.writeDmb (bitsOf t 21 0) (BitVec.ofNat 64 (actData r)))
  | 1, 2 => setD { m.data with haltEn := sset true m.data.haltEn (bitsOf t 17 0) v }
  | 2, 0 => (match m.data.force bp cell v with
      | some d => setD d
      | none => m)
  | 2, 1 => setD (m.data.setPoint (bitsOf t 17 0) true v)
  | 3, 0 => setD (m.data.unforce bp cell)
  | 3, 1 => setD (m.data.setPoint (bitsOf t 17 0) false false)
  | 5, 0 => m.applyTip r
  | 5, 1 => m.applyTip r
  | 6, 0 => m.setClock (t % 64) false (actData r)
  | 6, 1 => m.setClock (t % 64) true (actData r)
  | 6, 2 => m.pulse (t % 64)
  | 7, 0 => { m with trig := { m.trig with arm := BitVec.ofNat 16 (actData r) } }
  | _, _ => m

/-- R196: apply slot i; it becomes APPLIED, TXN_APPLIED (0x0501) with the slot and the commit folio, vector 2. -/
def Module.applySlot (folio : Nat) (m : Module) (i : Nat) : Module :=
  let m1 := ((m.slot i).records.map (·.toNat)).foldl (Module.applyAction i) m
  let m2 := m1.setSlot i { m1.slot i with state := 6, preImages := [], hbmwrOut := [] }
  (m2.log 0x0501 dieH ((4, i) :: (if folio = m2.seq.folio then [] else [(24, folio)]))).msix 2

/-- Slots that commit at a folio, in ascending number. -/
def Module.committing (m : Module) (folio : Nat) : List Nat :=
  (List.range 16).filter (fun i => ((m.slot i).state == 4 || (m.slot i).state == 5) && (m.slot i).folio == some folio)

/-! ### Pulses (R103, R202) -/

/-- R103, R202: a release has committed a pulse of generator k, and the phase 5 that applies it has not begun. -/
def Module.pulseDue (m : Module) (k : Nat) : Bool := m.txn.pulseCommit.any (fun e => e.2.getLsbD k)

/-- A pulse request for generator k: one for a generator whose pulse is pending or due merges into it. -/
def Module.requestPulse (k : Nat) (m : Module) : Module :=
  if m.txn.pulses.getLsbD k ∨ m.pulseDue k then m.satReg 32 rClkPulseMerged 1
  else
    let commit := if m.inSystem ∨ m.txn.pulses ≠ 0 then m.txn.pulseCommit else m.txn.pulseCommit ++ [(m.earliest, 0)]
    { m with txn := { m.txn with pulses := m.txn.pulses ||| BitVec.ofNat 64 (2 ^ k), pulseCommit := commit } }

/-- R202: generators that a pulse may give an edge: EN = 1 and SRC = 1 or 2. -/
def Module.pulsable (m : Module) : List Nat :=
  (List.range 64).filter (fun k => let c := sget 0 m.seq.dclkCfg k
                                   bitOf c 31 && (bitsOf c 30 29 == 1 || bitsOf c 30 29 == 2))

/-- R202: the generators whose pulses commit at a folio: in a single module the pending ones, in a system those that the
releases committed. -/
def Module.pulsesAt (m : Module) (folio : Nat) : BitVec 64 :=
  let due := m.txn.pulseCommit.filter (fun e => e.1 == folio)
  if due.isEmpty then 0
  else if m.inSystem then due.foldl (fun a e => a ||| e.2) 0
  else m.txn.pulses

/-- R202: the pulses that commit at a folio are applied in phase 5. -/
def Module.applyPulses (folio : Nat) (m : Module) : Module :=
  let set := m.pulsesAt folio
  let m1 := { m with txn := { m.txn with pulseCommit := m.txn.pulseCommit.filter (fun e => e.1 != folio),
                                         pulses := if m.inSystem then m.txn.pulses else m.txn.pulses &&& ~~~set } }
  ((List.range 64).filter (fun k => set.getLsbD k)).foldl (fun m k => m.pulse k) m1

end Sys2Proof.Machine
end

