-- ==== Sys2Proof/Machine/Capture.lean ====
section
/-! DEFINITION. Machine/Capture.lean: capture records, mask tests, and the meanings of their commands (R241-R249). -/

namespace Sys2Proof.Machine

/-! ### Latch frames (R231, R232) -/

/-- The value that a watch-map entry reads; an entry with V = 0 reads 0. -/
def Module.latch (m : Module) (e : Nat) : Bool := bitOf e 31 && sget false m.data.latched (bitsOf e 17 0)

/-- The slots of a table as a number, slot i at bit i. -/
def Module.slotBits (m : Module) (t : SMap Nat) (n : Nat) : Nat :=
  t.foldl (fun a e => if e.1 < n ∧ m.latch e.2 then a + 2 ^ e.1 else a) 0

/-! ### Capture records (R241-R245) -/

/-- R241: bytes of a record. -/
def Module.capLen (m : Module) : Nat := 64 * (1 + m.image.capSlots / 512)
def Module.capBase (m : Module) : Nat := regBaseB m.image.capture
/-- R242: slots of the stream. -/
def Module.capSlotsNs (m : Module) : Nat := regSizeB m.image.capture / m.capLen
/-- R243: slots of a ring window. -/
def Module.capWinSlots (m : Module) : Nat := m.reg rCapPre + m.reg rCapPost + 1

/-- R242: a ring configuration that exceeds the capture region. -/
def capTooBig (m : Module) (windows pre post : Nat) : Bool :=
  decide (regSizeB m.image.capture < windows * (pre + post + 1) * m.capLen)

/-- R241: the header of a record: KIND 0 DATA, 1 MARK, 2 CLOSE, 3 OVERFLOW. -/
def capHeader (folio kind short window lines count marks oldest : Nat) : BitVec 512 :=
  BitVec.ofNat 512 (folio % 2 ^ 64 + kind * 2 ^ 64 + short * 2 ^ 68 + window % 256 * 2 ^ 72 + lines * 2 ^ 80
    + count % 2 ^ 32 * 2 ^ 96 + marks % 2 ^ 32 * 2 ^ 128 + oldest % 2 ^ 32 * 2 ^ 160)

/-- R242: the run is one of stream mode. -/
def Module.streaming (m : Module) : Bool := m.trig.capStream

/-- WINDOW of a record: 0 in stream mode. -/
def Module.capWin (m : Module) : Nat := if m.streaming then 0 else m.trig.capWindow

/-- The HBM address of a slot of the current window, or of the stream. -/
def Module.capAddr (m : Module) (slot : Nat) : Nat :=
  if m.streaming then m.capBase + slot % (max 1 m.capSlotsNs) * m.capLen
  else m.capBase + (m.trig.capWindow * m.capWinSlots + slot) * m.capLen

/-- R244: the number of the next stream record: those written and those queued. -/
def Module.capNext (m : Module) : Nat := m.reg rCapProd + (m.trig.capQueue.length - m.trig.capOld)

/-- The lines of folio N that trigger capture (R236, R238). -/
def Module.capLinesOf (m : Module) : BitVec 16 := m.trig.act &&& m.lineMask 5

def Module.setTrig (f : Trigger → Trigger) (m : Module) : Module := { m with trig := f m.trig }

/-- R242, R284: CAP_STATE. -/
def Module.capTo (st : Nat) (m : Module) : Module :=
  let m1 := m.setTrig (fun t => { t with capState := st })
  if st = 4 ∨ st = 5 then m1.msix 4 else m1

def Module.capPush (slot : Nat) (header : BitVec 512) (body : Nat) (m : Module) : Module :=
  let a := m.capAddr slot
  m.setTrig (fun t => { t with capQueue := t.capQueue ++ [(a, header, body)] })

/-- R245: the first lost record: CAP_FIRST_LOSS, the OVERFLOW record in the entry kept for it, STOPPED, CAP_OVERFLOW
(0x0604). -/
def Module.capLoss (folio : Nat) (m : Module) : Module :=
  let slot := if m.streaming then m.capNext else m.capWinSlots - 1
  (((m.setReg rCapFirstLoss folio).capPush slot (capHeader folio 3 0 m.capWin 0 0 0 0) 0).capTo 5).log 0x0604 dieH []

/-- R245, R244: a record of a folio is queued, or lost. -/
def Module.capPut (folio slot : Nat) (header : BitVec 512) (body : Nat) (m : Module) : Module :=
  let refused := m.streaming && decide (m.capSlotsNs < m.capNext + 2 - m.reg rCapCons)
  if 63 ≤ m.trig.capQueue.length ∨ refused then m.capLoss folio else m.capPush slot header body

/-- R243: a capture line acts in folio T while ring capture is ARMED: COUNTDOWN. A stop that waits governs (R246). -/
def Module.capTrigger (act : BitVec 16) (t : Nat) (m : Module) : Module :=
  let lines := act &&& m.lineMask 5
  if m.trig.capState ≠ 1 ∨ m.streaming ∨ lines = 0 ∨ m.trig.capStop then m
  else m.setTrig (fun g => { g with capState := 2, capT := t, capLines := lines, capMarks := 0,
                                    capA := if g.capFresh then t else g.capA, capFresh := false })

/-- R243: the window of a COUNTDOWN ends: the CLOSE record, CAP_WINDOW_CLOSED (0x0605), then REARM or DONE. -/
def Module.capClose (m : Module) : Module :=
  let t := m.trig
  let pre := m.reg rCapPre
  let count := min pre (t.capT - t.capA)
  let oldest := if count = 0 then 0 else (t.capT - count - t.capA) % pre
  let h := capHeader t.capT 2 (b2n (decide (count < pre))) t.capWindow t.capLines.toNat count t.capMarks oldest
  let m1 := m.capPut (t.capT + m.reg rCapPost - 1) (m.capWinSlots - 1) h 0
  if m1.trig.capState = 5 then m1
  else
    let m2 := m1.log 0x0605 dieH []
    if t.capWindow + 1 < m.reg rCapWindows then
      (m2.setTrig (fun g => { g with capRearm := 2 })).capTo 3
    else (m2.capTo 4).log 0x0606 dieH []

/-- R243: the last post-trigger folio is folio N or earlier. -/
def Module.capCloseDue (m : Module) (n : Nat) : Bool :=
  m.trig.capState == 2 && !m.streaming && decide (m.trig.capT + m.reg rCapPost ≤ n + 1)

/-- R243: two folios of REARM have passed: ARMED in the next window, whose first folio is `a`. -/
def Module.capRearm (a : Nat) (m : Module) : Module :=
  (m.setTrig (fun g => { g with capWindow := g.capWindow + 1, capA := a, capMarks := 0, capLines := 0 })).capTo 1

/-- R242-R245: phase 2 of the boundary of folio N. A close or a rearm that is overdue comes first. -/
def Module.capRecord (n : Nat) (m : Module) : Module :=
  if m.trig.capStop then (m.setTrig (fun g => { g with capStop := false, capFresh := false })).capTo 0
  else
    let m0 := if 0 < n ∧ m.capCloseDue (n - 1) then m.capClose else m
    let m1 := if m0.trig.capState = 3 ∧ m0.trig.capRearm = 0 then m0.capRearm n else m0
    let lines := m1.capLinesOf
    let body := m1.slotBits m1.image.caps m1.image.capSlots
    let data := capHeader n 0 0 m1.capWin m1.trig.act.toNat 0 0 0
    if m1.trig.capFresh then m1
    else if m1.trig.capState = 3 then
      let m2 := if lines ≠ 0 then m1.satReg 32 rMissedTriggers 1 else m1
      m2.setTrig (fun g => { g with capRearm := g.capRearm - 1 })
    else if m1.trig.capState ≠ 1 ∧ m1.trig.capState ≠ 2 then m1
    else if m1.streaming then
      let m2 := if lines ≠ 0 then m1.capPut n m1.capNext (capHeader n 1 0 0 lines.toNat 0 0 0) 0 else m1
      if m2.trig.capState = 5 then m2 else m2.capPut n m2.capNext data body
    else if m1.trig.capState = 1 then
      let pre := m1.reg rCapPre
      if pre = 0 then m1 else m1.capPut n ((n - m1.trig.capA) % pre) data body
    else
      let m2 := if lines ≠ 0 ∧ m1.trig.capT < n then m1.setTrig (fun g => { g with capMarks := g.capMarks + 1 }) else m1
      m2.capPut n (m2.reg rCapPre + (n - m2.trig.capT)) data body

/-- R245, R267: the oldest queued record leaves for HBM, sector by sector, unless one is on its way. -/
def Module.capDrain (m : Module) : Module :=
  match m.trig.capOut, m.trig.capQueue with
  | none, r :: _ =>
    let ss := m.capSectors r
    ss.foldl (fun (m : Module) e =>
      m.inject { packetReq opPWR 1 (m.epHbm e.1) m.epTrigger 0 e.1 with ackreq := true, len := 2, data := sectorFlits e.2 })
      (m.setTrig (fun g => { g with capOut := some (ss.map (·.1)) }))
  | _, _ => m

/-- R210, R265: the write of a sector of the record has been acknowledged or refused; with the last one the record has been
written. -/
def Module.capAcked (addr : Nat) (m : Module) : Module :=
  match m.trig.capOut with
  | some l =>
    if l.contains addr then
      (if (l.erase addr).isEmpty then m.capWritten else m.setTrig (fun g => { g with capOut := some (l.erase addr) }))
    else m
  | none => m

/-- CAP_GO = 1 (R242). A start with capture off, or in ring mode with a first window that exceeds the region, is
refused. CAP_POST and CAP_WINDOWS that still hold their default 0, outside the ranges they can be given, do not refuse it:
windows 0 count as one, and the post-trigger folios are 0 (DESIGN CHOICE). -/
def Module.capStart (m : Module) : Module :=
  let mode := m.reg rCapMode
  let ringBad := mode == 1 && capTooBig m (max 1 (m.reg rCapWindows)) (m.reg rCapPre) (m.reg rCapPost)
  if mode = 0 ∨ (1 ≤ m.trig.capState ∧ m.trig.capState ≤ 3) ∨ (mode = 2 ∧ m.capSlotsNs < 4) ∨ ringBad then m.answer stRefused
  else
    let m1 := m.setRegs [(rCapProd, 0), (rCapCons, 0), (rMissedTriggers, 0), (rCapFirstLoss, ones64)]
    ((m1.setTrig (fun g => { g with capOld := g.capQueue.length, capStream := mode == 2, capWindow := 0, capFresh := true, capStop := false, capMarks := 0, capLines := 0,
                                    capRearm := 0, capT := 0, capA := 0 })).capTo 1).answer stOK

def execCapGoStart (s : State) : Host.Outcome State Fault Refusal := goOn (Module.planeControl Module.capStart) s

/-- CAP_GO = 2 (R242): a stop takes effect at the next boundary. -/
def Module.capStopReq (m : Module) : Module := (m.setTrig (fun g => { g with capStop := true })).answer stOK

def execCapGoStop (s : State) : Host.Outcome State Fault Refusal := goOn (Module.planeControl Module.capStopReq) s

/-- The drain of the boundary of the present folio has ended. -/
def Module.pastDrain (m : Module) : Bool :=
  match m.seq.phase with
  | .issuing | .drain => false
  | _ => true

def execCapWindowClosed (s : State) : Host.Outcome State Fault Refusal :=
  goOn (fun m => if m.pastDrain && m.capCloseDue m.seq.folio then m.capClose else m) s

def execCapRearmDone (s : State) : Host.Outcome State Fault Refusal :=
  goOn (fun m => if m.pastDrain ∧ m.trig.capState = 3 ∧ m.trig.capRearm = 0 then m.capRearm (m.seq.folio + 1) else m) s

/-! ### Mask tests (R247-R249) -/

def Module.maskEn (m : Module) : Bool := bitOf (m.reg rMaskCtrl) 0
def Module.maskWrap (m : Module) : Bool := bitOf (m.reg rMaskCtrl) 1

/-- R247: bytes of a record. -/
def Module.maskLen (m : Module) : Nat := 64 * ((m.image.maskSlots + 255) / 256)

/-- R247: the record of folio F, if the test has one. -/
def Module.maskIndex (m : Module) (f : Nat) : Option Nat :=
  let start := m.reg rMaskStart
  let count := m.reg rMaskCount
  if f < start then none
  else if m.maskWrap then some ((f - start) % (max 1 count))
  else if f - start < count then some (f - start) else none

/-- R247, R249: the record of folio F must be present before F runs. -/
def Module.maskNeeds (m : Module) (f : Nat) : Bool :=
  m.maskEn && (m.trig.maskState == 1 || m.trig.maskState == 2) && (m.maskIndex f).isSome

/-- R249: the record of folio F is present. -/
def Module.maskHas (m : Module) (f : Nat) : Bool := m.trig.maskRecs.any (fun r => r.1 == f)

/-- R249, R274: the sectors of a record that wait for a tag of the range of the capture and mask units are asked for as long
as it has one. -/
def Module.maskPump (m : Module) : Module :=
  m.trig.maskWait.foldl (fun (m : Module) a =>
    match m.freeTag tagsSteward.1 tagsSteward.2 with
    | some t =>
      (m.setTrig (fun g => { g with maskWait := g.maskWait.erase a })).request_ 3 t
        { packetReq opRD 1 (m.epHbm a) m.epTrigger 0 a with len := 2 }
    | none => m) m

/-- R249: the record for folio F is read, sector by sector. -/
def Module.maskFetch (f : Nat) (m : Module) : Module :=
  let asked : Bool := match m.trig.maskRead with
    | some r => r.1 == f
    | none => false
  match m.maskIndex f with
  | some j =>
    if !m.maskNeeds f ∨ m.maskHas f ∨ asked then m
    else
      let a := m.reg rMaskBase + j * m.maskLen
      let n := m.maskLen / 64
      (m.setTrig (fun g => { g with maskRead := some (f, n), maskBytes := [], maskWait := (List.range n).map (a + 64 * ·) })).maskPump
  | none => m

/-- R249: a sector of the record arrives; with the last one the record is present. -/
def Module.maskArrive (addr : Nat) (bs : List Byte) (m : Module) : Module :=
  match m.trig.maskRead with
  | none => m
  | some (f, n) =>
    let a := m.reg rMaskBase + (m.maskIndex f).getD 0 * m.maskLen
    let m1 := m.setTrig (fun g => { g with maskBytes := writeBytes g.maskBytes (addr - a) bs, maskRead := some (f, n - 1) })
    if n ≤ 1 then
      let half := m.image.maskSlots / 8
      m1.setTrig (fun g => { g with maskRead := none, maskBytes := [],
                                    maskRecs := g.maskRecs ++ [(f, readLe g.maskBytes 0 half, readLe g.maskBytes half half)] })
    else m1

/-- R247: at the launch of folio F the test waits, runs or is done. -/
def Module.maskLaunch (f : Nat) (m : Module) : Module :=
  if m.maskEn ∧ (m.trig.maskState = 1 ∨ m.trig.maskState = 2) ∧ m.reg rMaskStart ≤ f then
    m.setTrig (fun g => { g with maskState := if (m.maskIndex f).isSome then 2 else 3 })
  else m

/-- Ones among the low `n` bits. -/
def popN (n v : Nat) : Nat := ((List.range n).filter (fun i => bitOf v i)).length

/-- R248: slots violated in folio N. -/
def Module.maskViolation (n bits : Nat) (m : Module) : Module :=
  let m1 := m.setRegs [(rMaskFailFolio, n), (rMaskFailCount, popN 1024 bits)]
  let m2 := (m1.setTrig (fun g => { g with maskFailBits := bits })).satReg 32 rMaskViolations 1
  ((m2.log 0x0603 dieH []).happen 42).askFreeze 0x0603

/-- R247: phase 2 of the boundary of folio N: a requested end, then the comparison. -/
def Module.maskCompare (n : Nat) (m : Module) : Module :=
  if m.trig.maskEnd then m.setTrig (fun g => { g with maskEnd := false, maskState := 0, maskRecs := [] })
  else if !m.maskEn ∨ m.trig.maskState ≠ 2 then m
  else
    let last := !m.maskWrap && decide (m.reg rMaskStart + m.reg rMaskCount ≤ n + 1)
    match m.trig.maskRecs.find? (fun r => r.1 == n) with
    | some (_, exp, care) =>
      let bits := care &&& (exp ^^^ m.slotBits m.image.masks m.image.maskSlots)
      let m1 := if bits = 0 then m else m.maskViolation n bits
      m1.setTrig (fun g => { g with maskRecs := g.maskRecs.filter (fun r => n < r.1),
                                    maskState := if last then 3 else g.maskState })
    | none => m

/-- R395: modes in which an RWI entry takes a write. -/
def Module.rwiOpen (m : Module) : Bool :=
  match m.ctl.mode with
  | .idle => true
  | _ => false

/-- MASK_CTRL (R247). A write that clears EN is taken in every state; one that sets it needs a table inside the design
region and mask slots, and may not change WRAP while a test runs. -/
def Module.maskCtrl (v : Nat) (m : Module) : Module :=
  let en := bitOf v 0
  let lo := regBaseB m.image.design
  let base := m.reg rMaskBase
  let runs := m.trig.maskState == 1 || m.trig.maskState == 2
  if !en then
    let m1 := (m.setReg rMaskCtrl (v % 4)).answer stOK
    if runs then m1.setTrig (fun g => { g with maskEnd := true })
    else m1.setTrig (fun g => { g with maskState := 0 })
  else if !m.rwiOpen then m.answer stMode
  else if m.image.maskSlots = 0 ∨ base < lo ∨ lo + regSizeB m.image.design < base + m.reg rMaskCount * m.maskLen
      ∨ (runs ∧ m.maskEn ∧ bitOf v 1 ≠ m.maskWrap) then m.answer stRefused
  else
    let m1 := (m.setReg rMaskCtrl (v % 4)).answer stOK
    if runs ∧ m.maskEn then m1
    else (m1.setTrig (fun g => { g with maskState := 1, maskEnd := false, maskRecs := [], maskRead := none })).maskFetch m1.earliest

def execMaskCtrlWrite (v : Byte) (s : State) : Host.Outcome State Fault Refusal :=
  goOn (Module.planeControl (Module.maskCtrl v.toNat)) s

end Sys2Proof.Machine
end

