-- ==== Sys2Proof/Machine/Couriers.lean ====
section
/-! DEFINITION. Machine/Couriers.lean: meanings of the scheduler commands, the channel commands and the host rings
(R214-R230). -/

namespace Sys2Proof.Machine

/-! ### Scheduler page (R217, R218) -/

/-- The context that runs on a core that has not been stopped. -/
def Module.coreCtx (m : Module) (core : Nat) : Option Nat :=
  if m.couriers.run.getLsbD core then m.running core else none

/-- MODEL: the value a core reads. -/
def Module.coreRead (v : Nat) (m : Module) : Module :=
  { m with couriers := { m.couriers with lastRead := BitVec.ofNat 64 v } }

/-- R217: SCH_ARG as the core wrote it before the command. -/
def Module.setSchArg (core : Nat) (arg : Word) (m : Module) : Module :=
  { m with couriers := { m.couriers with schArg := sset 0 m.couriers.schArg core arg.toNat } }

/-- SCH_WAIT (R218): an object whose condition holds makes no wait; a reserved one makes the context READY at once, which
then reads SCH_FAIL as its own number. -/
def Module.schWait (core obj : Nat) (arg : Word) (m : Module) : Module :=
  match m.coreCtx core with
  | none => m
  | some n =>
    let m1 := m.setSchArg core arg
    let x := m1.ctx n
    if objReserved obj then ((m1.setCtx n { x with failSelf := true }).makeReady n false).schedule core
    else if m1.objReady obj arg.toNat x.pend then m1.setCtx n { x with pend := x.pend && obj / 4096 != 0 }
    else (m1.setCtx n { x with state := 3, waitobj := obj, waitArg := arg.toNat }).schedule core

def execSchWait (core : Nat) (obj : BitVec 16) (arg : Word) (s : State) : Host.Outcome State Fault Refusal :=
  goOn (Module.schWait core obj.toNat arg) s

/-- SCH_SIGNAL (R217). -/
def Module.schSignal (core n : Nat) (m : Module) : Module :=
  match m.coreCtx core with
  | none => m
  | some _ => (m.setCtx (n % 1024) { m.ctx (n % 1024) with pend := true }).wake

def execSchSignal (core ctx : Nat) (s : State) : Host.Outcome State Fault Refusal := goOn (Module.schSignal core ctx) s

/-- R216, R217: a new priority; a READY context joins the list of its new priority at the place its age gives it, and
nothing else of it changes. -/
def Module.reprio (n prio : Nat) (m : Module) : Module :=
  let x := m.ctx n
  if x.prio = prio then m
  else
    let m1 := m.setCtx n { x with prio := prio }
    if x.state = 1 then
      let k := readyKey x.home x.prio
      let place := readyKey x.home prio
      (m1.setReady k ((sget [] m1.couriers.ready k).erase n)).setReady place (m1.byAge n x.readyAt (sget [] m1.couriers.ready place))
    else m1

/-- SCH_SETUP (R217). A PEND that the FREE context holds stays (DESIGN CHOICE: the rule names its PC, its registers and
its state). -/
def Module.schSetup (core v : Nat) (arg : Word) (m : Module) : Module :=
  match m.coreCtx core with
  | none => m
  | some _ =>
    let n := bitsOf v 9 0
    let home := bitsOf v 14 10
    let prio := bitsOf v 20 16
    let m1 := m.setSchArg core arg
    let x := m1.ctx n
    if x.state = 0 then
      let y : Ctx := { Ctx.init n with home := home, prio := prio, pc := arg.toNat, pend := x.pend }
      ((m1.setCtx n y).makeReady n false).schedule home
    else if x.home ≠ core then { m1 with couriers := { m1.couriers with schFail := sset none m1.couriers.schFail core (some n) } }
    else (m1.reprio n prio).schedule x.home

def execSchSetup (core : Nat) (v arg : Word) (s : State) : Host.Outcome State Fault Refusal :=
  goOn (Module.schSetup core v.toNat arg) s

/-- SCH_EXIT (R217). -/
def Module.schExit (core : Nat) (m : Module) : Module :=
  match m.coreCtx core with
  | none => m
  | some n => (m.setCtx n { m.ctx n with state := 0 }).schedule core

def execSchExit (core : Nat) (s : State) : Host.Outcome State Fault Refusal := goOn (Module.schExit core) s

/-- SCH_PULSE (R202, R217). -/
def Module.schPulse (core gen : Nat) (m : Module) : Module :=
  match m.coreCtx core with
  | none => m
  | some _ => m.requestPulse (gen % 64)

def execSchPulse (core gen : Nat) (s : State) : Host.Outcome State Fault Refusal := goOn (Module.schPulse core gen) s

/-- SCH_FAIL (R217, R218): a read clears it to all ones. -/
def Module.schFailRead (core : Nat) (m : Module) : Module :=
  match m.coreCtx core with
  | none => m
  | some n =>
    let x := m.ctx n
    if x.failSelf then (m.setCtx n { x with failSelf := false }).coreRead n
    else
      let v := match sget none m.couriers.schFail core with
        | some k => k
        | none => ones64
      ({ m with couriers := { m.couriers with schFail := sset none m.couriers.schFail core none } }).coreRead v

def execSchFail (core : Nat) (s : State) : Host.Outcome State Fault Refusal := goOn (Module.schFailRead core) s

/-- SCH_PTP_WAIT_EXPIRY (R218 class 0x5): contexts whose time has come become READY. -/
def execSchPtpWaitExpiry (s : State) : Host.Outcome State Fault Refusal := goOn Module.wake s

/-! ### Channel page (R219, R220, R224) -/

/-- Words of a channel's outbound queue, and words of its DONE entries. -/
def Module.outWords (m : Module) (c : Nat) : Nat := match m.outQueue c with
  | some dmb => (m.data.queue dmb).count
  | none => 0
def Module.doneWords (m : Module) (c : Nat) : Nat :=
  (m.chan c).entries.foldl (fun a e => a + (if e.2.state = 2 then e.2.len else 0)) 0

/-- R278: courier traffic is Bilyr packets. The manual gives them no size: each word that a core takes from a queue is a read
of 8 bytes, and each that it sends to one a posted write (DESIGN CHOICE); they complete with the access that makes them. -/
def Module.courierReads (core c : Nat) (f : Module → Module) (m : Module) : Module :=
  let n := m.outWords c - (f m).outWords c
  (f m).countDone (m.epCore core) n (8 * n) true
def Module.courierWrites (core c : Nat) (f : Module → Module) (m : Module) : Module :=
  let n := (f m).doneWords c - m.doneWords c
  (f m).countPosted (m.epCore core) n (8 * n)

/-- R220: a core's access to a page: EN = 0 reads zero and takes no write. -/
def Module.chanPage (core c : Nat) (f : Module → Module) (m : Module) : Module :=
  match m.coreCtx core with
  | none => m
  | some _ => if cfgEn (m.chanCfg c) then f m else m.coreRead 0

/-- The 32 words of an H2C slot. -/
def slotWords (bs : List Byte) : List Word := (List.range 32).map (fun i => BitVec.ofNat 64 (leNat ((bs.drop (8 * i)).take 8)))

/-- R150, R220: a courier pops a word of an outbound queue; a word that fails parity sets ERR[3] and is logged. -/
def Module.courierPop (c dmb : Nat) (m : Module) : Word × Module :=
  let addr := dmb * 1024 + (m.data.queue dmb).head
  let r := m.data.readDmb addr
  let m1 := { m with data := m.data.dequeue dmb }
  if r.2 then (r.1, m1)
  else
    let ch := m1.chan c
    (r.1, (m1.setChan c { ch with err := ch.err ||| 8#4 }).log 0x0429 (dmb / 512) [(22, addr), (8, c)])

/-- n words, oldest first. -/
def Module.courierPops (c dmb : Nat) : Nat → Module → List Word × Module
  | 0, m => ([], m)
  | n + 1, m =>
    let r := m.courierPop c dmb
    let t := Module.courierPops c dmb n r.2
    (r.1 :: t.1, t.2)

/-- R220: the message that TAKE copies, the folio of its request, and the module after it left its source. -/
def Module.takeMessage (c : Nat) (m : Module) : List Word × Option Nat × Module :=
  let v := m.chanCfg c
  if cfgPaired v then
    match m.outQueue c with
    | some dmb =>
      let r := m.courierPops c dmb (cfgReqw v)
      let ch := r.2.chan c
      (r.1, (ch.requests (cfgReqw v)).head?, r.2.setChan c { ch with wordFolios := ch.wordFolios.drop (cfgReqw v), reqMissed := ch.reqMissed - 1 })
    | none => ([], none, m)
  else
    let ch := m.chan c
    match ch.h2c with
    | bs :: rest => (slotWords bs, none, m.setChan c { ch with h2c := rest, freed := (ch.freed + 1) % 2 ^ 32 })
    | [] => ([], none, m)

/-- TAKE (R220). -/
def Module.takeIngress (c : Nat) (m : Module) : Module :=
  if !m.canTake c then m.coreRead 0
  else
    let r := m.takeMessage c
    let m1 := r.2.2
    let ch := m1.chan c
    match ch.freeEntry with
    | none => m.coreRead 0
    | some e =>
      let x : Entry := { state := 1, seq := ch.nextSeq, len := 0, buffer := r.1, reqFolio := r.2.1, missed := 0 < (m.chan c).reqMissed }
      let ch1 := { ch with entries := sset Entry.init ch.entries e x, nextSeq := (ch.nextSeq + 1) % 2 ^ 32 }
      ((m1.setChan c ch1).coreRead (2 ^ 63 + e * 2 ^ 32 + ch.nextSeq)).settle.wake

def execTake (core chan : Nat) (s : State) : Host.Outcome State Fault Refusal :=
  goOn (Module.chanPage core chan (Module.courierReads core chan (Module.takeIngress chan))) s

/-- DONE (R220, R224): v has DROP in [31], LEN in [13:8], the entry in [5:0]; `buffer` is what the entry buffer holds. A
dropped message has no words, so its LEN is not judged. -/
def Module.chanDone (c v : Nat) (buffer : List Word) (m : Module) : Module :=
  let drop := bitOf v 31
  let len := if drop then 0 else bitsOf v 13 8
  let e := bitsOf v 5 0
  let ch := m.chan c
  let x := sget Entry.init ch.entries e
  if x.state ≠ 1 ∨ 32 < len ∨ (len ≠ 0 ∧ (m.inQueue c).isNone) then m.setChan c { ch with err := ch.err ||| 4#4 }
  else m.setChan c { ch with entries := sset Entry.init ch.entries e { x with state := 2, len := len, buffer := buffer.take 32 } }

def execChanDone (core chan : Nat) (v : Word) (buffer : List Word) (s : State) : Host.Outcome State Fault Refusal :=
  goOn (Module.chanPage core chan (Module.courierWrites core chan (Module.chanDone chan v.toNat buffer))) s

/-- POP (R220): a paired channel, or an empty queue, gives zero and sets ERR[0]. -/
def Module.chanPop (c : Nat) (m : Module) : Module :=
  let bad (m : Module) : Module := (m.setChan c { m.chan c with err := (m.chan c).err ||| 1#4 }).coreRead 0
  if cfgPaired (m.chanCfg c) then bad m
  else match m.outQueue c with
    | none => bad m
    | some dmb =>
      if (m.data.queue dmb).count = 0 then bad m
      else
        let r := m.courierPop c dmb
        let ch := r.2.chan c
        ((r.2.setChan c { ch with wordFolios := ch.wordFolios.drop 1 }).coreRead r.1.toNat).settle.wake

def execChanPop (core chan : Nat) (s : State) : Host.Outcome State Fault Refusal :=
  goOn (Module.chanPage core chan (Module.courierReads core chan (Module.chanPop chan))) s

/-- C2H_ALLOC (R223). -/
def Module.c2hAllocRead (c : Nat) (m : Module) : Module :=
  let ch := m.chan c
  if ch.c2hFree = 0 then m.coreRead 0
  else (m.setChan c { ch with c2hAlloc := (ch.c2hAlloc + 1) % 2 ^ 32 }).coreRead (2 ^ 63 + ch.c2hAlloc % 64)

def execC2hAlloc (core chan : Nat) (s : State) : Host.Outcome State Fault Refusal :=
  goOn (Module.chanPage core chan (Module.c2hAllocRead chan)) s

/-- R223: the number of the allocated and unposted slot at a place of the ring. -/
def Channel.allocated (ch : Channel) (slot : Nat) : Option Nat :=
  let n := if ch.c2hProd ≤ ch.c2hAlloc then ch.c2hAlloc - ch.c2hProd else ch.c2hAlloc + 2 ^ 32 - ch.c2hProd
  ((List.range (min n 64)).map (fun k => (ch.c2hProd + k) % 2 ^ 32)).find? (fun k => k % 64 == slot && !ch.c2hPosted.contains k)

/-- R223: C2H_PROD passes every slot posted in order. -/
def Channel.advance : Nat → Channel → Channel
  | 0, ch => ch
  | n + 1, ch =>
    if ch.c2hPosted.contains ch.c2hProd then
      Channel.advance n { ch with c2hPosted := ch.c2hPosted.filter (· != ch.c2hProd), c2hProd := (ch.c2hProd + 1) % 2 ^ 32 }
    else ch

/-- R234: CSIG inputs that watch a channel. -/
def Module.csig (c : Nat) (m : Module) : Module :=
  let v := m.reg rCsigChan
  (List.range 4).foldl (fun m k => if bitsOf v (8 * k + 7) (8 * k) = c then m.happen (44 + k) else m) m

/-- C2H_POST (R223, R284). A slot that is not allocated, or posted already, is refused with ERR[1]. -/
def Module.c2hPost (c slot : Nat) (image : List Byte) (m : Module) : Module :=
  let ch := m.chan c
  let slot := slot % 64
  match ch.allocated slot with
  | none => m.setChan c { ch with err := ch.err ||| 2#4 }
  | some n =>
    let ch1 := Channel.advance (ch.c2hPosted.length + 1) { ch with c2hRing := sset [] ch.c2hRing slot (image.take 256), c2hPosted := ch.c2hPosted ++ [n] }
    let m1 := (m.setChan c ch1).csig c
    if ch1.c2hProd ≠ ch.c2hProd then m1.msix (8 + c) else m1

def execC2hPost (core chan slot : Nat) (image : List Byte) (s : State) : Host.Outcome State Fault Refusal :=
  goOn (Module.chanPage core chan (Module.c2hPost chan slot image)) s

/-- ERR (R220): a read clears it. -/
def Module.chanErr (c : Nat) (m : Module) : Module :=
  let ch := m.chan c
  (m.setChan c { ch with err := 0 }).coreRead ch.err.toNat

def execChanErrRead (core chan : Nat) (s : State) : Host.Outcome State Fault Refusal :=
  goOn (Module.chanPage core chan (Module.chanErr chan)) s

/-- RETIRE (R224): the oldest entry, once DONE and with room, retires; a deadline stall may end (R228). -/
def Module.retire (c : Nat) (m : Module) : Module :=
  match m.retireOne c with
  | some m1 => m1.settle.wake
  | none => m

def execRetire (chan : Nat) (s : State) : Host.Outcome State Fault Refusal := goOn (Module.retire chan) s

/-! ### Host rings (R221-R223) -/

/-- R222: the credit of a push. -/
def Channel.credit (ch : Channel) : Nat := (64 + ch.freed + 2 ^ 32 - ch.accepted) % 2 ^ 32

/-- H2C_PUSH (R222). -/
def Module.h2cPush (c : Nat) (m : Module) : Module :=
  let ch := m.chan c
  if ch.credit = 0 then
    let m1 := (m.satReg 32 (rChanOverrun c) 1).setReg (rChanStatus c) 1
    if m.reg (rChanStatus c) = 0 then m1.log 0x0251 dieH [(8, c)] else m1
  else
    (m.setChan c { ch with h2c := ch.h2c ++ [readBytes ch.stage 0 256], accepted := (ch.accepted + 1) % 2 ^ 32 }).wake

def Module.hostOpen (f : Module → Module) (m : Module) : Module := if m.ctl.mode = .lockdown then m else f m

def execH2cPush (chan : Nat) (s : State) : Host.Outcome State Fault Refusal := goOn (Module.hostOpen (Module.h2cPush chan)) s

/-- C2H_CONS (R223). -/
def Module.c2hConsume (c v : Nat) (m : Module) : Module := (m.setChan c { m.chan c with c2hCons := v }).wake

def execC2hCons (chan : Nat) (v : BitVec 32) (s : State) : Host.Outcome State Fault Refusal :=
  goOn (Module.hostOpen (Module.c2hConsume chan v.toNat)) s

/-! ### Deadlines (R226-R229) -/

/-- The SEQ of the reply whose deadline ends next, for a request of folio F: the oldest unmissed entry's, or the one it
will be given. -/
def Channel.seqOf (ch : Channel) (f : Nat) : Nat :=
  let age (n : Nat) : Nat := (n + 2 ^ 32 - ch.retireSeq) % 2 ^ 32
  let cands := (ch.entries.filter (fun (e : Nat × Entry) =>
    (e.2.state == 1 || e.2.state == 2) && e.2.reqFolio == some f && !e.2.missed)).map (fun (e : Nat × Entry) => e.2.seq)
  match cands with
  | [] => (ch.nextSeq + ch.reqMissed) % 2 ^ 32
  | n :: t => t.foldl (fun b k => if age k < age b then k else b) n

/-- R421: a folio other than the entry's own. -/
def Module.otherFolio (m : Module) (f : Nat) : List (Nat × Nat) := if f = m.seq.folio then [] else [(24, f)]

/-- DEADLINE_MISS (R228): the oldest running deadline of a channel passes. -/
def Module.deadlineMiss (c : Nat) (m : Module) : Module :=
  let ch := m.chan c
  match ch.deadlines with
  | [] => m
  | f :: rest =>
    let seq := ch.seqOf f
    let mark := ch.entries.map (fun e => if e.2.seq = seq ∧ 1 ≤ e.2.state ∧ e.2.state ≤ 2 then (e.1, { e.2 with missed := true }) else e)
    let taken := ch.entries.any (fun (e : Nat × Entry) => (e.2.state == 1 || e.2.state == 2) && e.2.seq == seq)
    let m1 := m.setChan c { ch with deadlines := rest, entries := mark, reqMissed := if taken then ch.reqMissed else ch.reqMissed + 1 }
    let m2 := ((m1.log 0x0252 dieH ([(8, c), (32, seq)] ++ m1.otherFolio f)).satReg 32 (rDeadlineMisses c) 1).happen 51
    if cfgDlstall (m2.chanCfg c) then m2.raiseStall (.deadline c) else m2

def execDeadlineMiss (chan : Nat) (s : State) : Host.Outcome State Fault Refusal := goOn (Module.deadlineMiss chan) s

/-- R226: requests of a FIXED channel whose reply is due at the folio that runs next and not retired. -/
def Module.fixedDue (m : Module) (c : Nat) : Bool :=
  let v := m.chanCfg c
  let due (f : Nat) : Bool := decide (f + cfgLag v ≤ m.earliest)
  let ch := m.chan c
  cfgEn v && cfgFixed v && ((ch.requests (cfgReqw v)).any due
    || ch.entries.any (fun (e : Nat × Entry) => (e.2.state == 1 || e.2.state == 2) && (e.2.reqFolio.map due).getD false))

/-- R226: the module waits at the hold point for a reply. -/
def Module.fixedWait (m : Module) : Bool := m.couriers.channels.any (fun e => m.fixedDue e.1)

/-- REPLY_TIMEOUT (R229): logged with the oldest SEQ of the channel that is not retired. -/
def Module.replyTimeout (c : Nat) (m : Module) : Module :=
  let stall := m.ctl.mode.running && m.seq.stalls.any (fun s => decide (s.cause = .deadline c))
  let wait := m.ctl.mode.running && m.seq.phase == .hold && m.fixedDue c
  if stall ∨ wait then m.faultWith 0x0253 dieH [(8, c), (32, (m.chan c).retireSeq)] else m

def execReplyTimeout (chan : Nat) (s : State) : Host.Outcome State Fault Refusal := goOn (Module.replyTimeout chan) s

/-- R261: a traced core that halts emits its last packets and a TARGET of XFER 1. Where its trap vector lies, which TARGET
names and a SYNC ahead of it, no command says: the address is free. -/
def Module.lastTrace (core : Nat) (m : Module) : Module :=
  if m.tracing && m.sourceOn (coreSource core) then
    let src := coreSource core
    let r := m.freePc
    (r.2.endBranch src r.1).traceEmit src 1 (r.1 * 2 ^ 71 + 1 * 2 ^ 69) r.1 m.seq.folio m.seq.cycle
  else m

/-- COURIER_TRAP (R215): the core halts; PC and cause are registers of 64 bits, so ARG ends with the PC. -/
def Module.courierTrap (core pc cause : Nat) (m : Module) : Module :=
  if m.couriers.run.getLsbD core then
    let m1 := m.lastTrace core
    ({ m1 with couriers := { m1.couriers with run := m1.couriers.run &&& ~~~(BitVec.ofNat 32 (2 ^ core)) } }).log
      0x0250 dieH [(5, core), (64, pc), (64, cause)]
  else m

def execCourierTrap (core pc cause : Nat) (s : State) : Host.Outcome State Fault Refusal := goOn (Module.courierTrap core pc cause) s

end Sys2Proof.Machine
end

