-- ==== Sys2Proof/Machine/CoreMap.lean ====
section
/-! DEFINITION. Machine/CoreMap.lean: what a courier core's loads and stores reach (R214), as compositions of the meanings
of the scheduler and channel commands. The instructions that a core's program executes are outside the block: what the
program does to the module is the accesses it makes, in the order of the commands. -/

namespace Sys2Proof.Machine

/-- R214: what an address of a core's local map names. -/
inductive CoreSpace where
  | memory (addr : Nat)
  | scheduler (off : Nat)
  | channel (c off : Nat)
  | entry (c e off : Nat)
  | slot (c n off : Nat)
  /-- outside the map: an access-fault trap of the core -/
  | fault
  deriving DecidableEq, Repr

/-- R214: the local address map. Of a channel's 64 KiB of entry buffers the 64 entries fill the first 16 KiB; the rest
names no entry below 64. -/
def coreSpace (a : Nat) : CoreSpace :=
  if a < 0x4_0000 then .memory a
  else if 0x0100_0000 ≤ a ∧ a < 0x0100_0100 then .scheduler (a - 0x0100_0000)
  else if 0x0200_0000 ≤ a ∧ a < 0x0204_0000 then .channel ((a - 0x0200_0000) / 0x400) (a % 0x400)
  else if 0x0400_0000 ≤ a ∧ a < 0x0500_0000 then .entry (a / 0x1_0000 % 256) (a / 0x100 % 256) (a % 0x100)
  else if 0x0500_0000 ≤ a ∧ a < 0x0540_0000 then .slot (a / 0x4000 % 256) (a / 0x100 % 64) (a % 0x100)
  else .fault

/-- R217: what a core reads in its scheduler page beside SCH_FAIL; a write-only register reads zero. SCH_PTP is the
module's local time, which is kept to the active domain. -/
def Module.schRead (m : Module) (core off : Nat) : Nat :=
  match off with
  | 0x00 => (match m.running core with
      | some n => n * 2 ^ 32 + (m.ctx n).prio
      | none => 0)
  | 0x10 => sget 0 m.couriers.schArg core
  | 0x30 => m.seq.folio
  | 0x38 => m.stew.now
  | _ => 0

/-- R220: STAT of a channel: physical COUNT of the outbound queue, physical room of the inbound one, free entries, pending
H2C slots, free C2H slots. -/
def Module.chanStat (m : Module) (c : Nat) : Nat :=
  let ch := m.chan c
  let out := match m.outQueue c with
    | some dmb => (m.data.queue dmb).count
    | none => 0
  let free := (List.range 64).countP (fun e => (sget Entry.init ch.entries e).state == 0)
  out * 2 ^ 53 + m.inRoom c * 2 ^ 42 + free * 2 ^ 35 + ch.h2c.length * 2 ^ 28 + ch.c2hFree * 2 ^ 21

/-- R220: a core's read of a channel page. -/
def Module.chanLoad (core c off : Nat) (m : Module) : Module :=
  match off with
  | 0x00 => m.chanPage core c (Module.courierReads core c (Module.takeIngress c))
  | 0x10 => m.chanPage core c (Module.courierReads core c (Module.chanPop c))
  | 0x18 => m.chanPage core c (fun m => m.coreRead (m.chanStat c))
  | 0x20 => m.chanPage core c (Module.c2hAllocRead c)
  | 0x30 => m.chanPage core c (Module.chanErr c)
  | _ => m.coreRead 0

/-- What an access of a core brings: the module goes on, or the core takes an access-fault trap. -/
inductive CoreAccess where
  | done (m : Module)
  | trap
  deriving DecidableEq, Repr

/-- R214: the access of n bytes lies whole in one part of the map. PRESUMED: an access that is not a multiple of its size
traps outside local memory, where no register or buffer spans it. -/
def coreFits (n addr : Nat) : Bool :=
  match coreSpace addr with
  | .memory a => decide (a + n ≤ 0x4_0000)
  | .fault => false
  | _ => addr % n == 0

/-- The bytes at `off` of a value read. -/
def cutBytes (v off n : Nat) : Nat := v / 2 ^ (8 * off) % 2 ^ (8 * n)

/-- R214: a core's load of n bytes (1, 2, 4, 8), into `couriers.lastRead`. A load of a part of a register reads the register
whole. -/
def Module.coreLoad (core n addr : Nat) (m : Module) : CoreAccess :=
  let take (m : Module) : CoreAccess := .done (m.coreRead (cutBytes m.couriers.lastRead.toNat (addr % 8) n))
  if !coreFits n addr then .trap
  else match coreSpace addr with
  | .memory a => .done (m.coreRead (leNat ((List.range n).map (fun i => sget 0 m.couriers.mem (core * 0x4_0000 + a + i)))))
  | .scheduler off => take (if off / 8 * 8 = 0x48 then m.schFailRead core else m.coreRead (m.schRead core (off / 8 * 8)))
  | .channel c off => take (m.chanLoad core c (off / 8 * 8))
  | .entry c e off => take (m.coreRead (nth 0#64 (sget Entry.init (m.chan c).entries e).buffer (off / 8)).toNat)
  | .slot c k off => .done (m.coreRead (leNat (((sget [] (m.chan c).c2hRing k).drop off).take n)))
  | .fault => .trap

/-- Bytes laid into a list at an offset; bytes that it lacks before them are 0. -/
def layBytes (l : List Byte) (off : Nat) (bs : List Byte) : List Byte :=
  (l ++ List.replicate (off - l.length) 0#8).take off ++ bs ++ l.drop (off + bs.length)

/-- R214: a core's store of the low n bytes of v. A store to a read-only register changes nothing; one that does not cover
the low bytes of a write-only register writes nothing. -/
def Module.coreStore (core n addr : Nat) (v : Word) (m : Module) : CoreAccess :=
  let bs := leBytes n v.toNat
  if !coreFits n addr then .trap
  else match coreSpace addr with
  | .memory a =>
    let put (t : SMap Byte) (i : Nat) : SMap Byte := sset 0 t (core * 0x4_0000 + a + i) (nth 0 bs i)
    .done { m with couriers := { m.couriers with mem := (List.range n).foldl put m.couriers.mem } }
  | .scheduler off => .done (match off with
      | 0x08 => m.schWait core (v.toNat % 2 ^ 16) (BitVec.ofNat 64 (sget 0 m.couriers.schArg core))
      | 0x10 => m.setSchArg core v
      | 0x18 => m.schSignal core (v.toNat % 1024)
      | 0x20 => m.schSetup core v.toNat (BitVec.ofNat 64 (sget 0 m.couriers.schArg core))
      | 0x28 => m.schExit core
      | 0x40 => m.schPulse core (v.toNat % 64)
      | _ => m)
  | .channel c off => .done (match off with
      | 0x08 => m.chanPage core c (Module.courierWrites core c (fun m => m.chanDone c v.toNat (sget Entry.init (m.chan c).entries (v.toNat % 64)).buffer))
      | 0x28 => m.chanPage core c (fun m => m.c2hPost c (v.toNat % 64) (sget [] (m.chan c).c2hRing (v.toNat % 64)))
      | _ => m)
  | .entry c e off =>
    let ch := m.chan c
    let x := sget Entry.init ch.entries e
    let old := (nth 0#64 x.buffer (off / 8)).toNat
    let w := BitVec.ofNat 64 (leNat (layBytes (leBytes 8 old) (off % 8) bs))
    let words := (x.buffer ++ List.replicate (32 - x.buffer.length) 0).set (off / 8) w
    .done (m.setChan c { ch with entries := sset Entry.init ch.entries e { x with buffer := words } })
  | .slot c k off =>
    let ch := m.chan c
    .done (m.setChan c { ch with c2hRing := sset [] ch.c2hRing k (layBytes (sget [] ch.c2hRing k) off bs) })
  | .fault => .trap

end Sys2Proof.Machine
end

