-- ==== Sys2Proof/Machine/Txn.lean ====
section
/-! DEFINITION. Machine/Txn.lean: meanings of the transaction commands (R188-R195, R202) and of tip-in preload (R206). -/

namespace Sys2Proof.Machine

/-- R283: in LOCKDOWN the windows of the host port answer nothing. -/
def Module.windowOpen (f : Module → Module) (m : Module) : Module :=
  if m.ctl.mode = .lockdown then m else f m

/-- R191: a command in a state that does not take it: REFUSED alone. -/
def Module.refuseSlot (i : Nat) (m : Module) : Module := m.setSlot i { m.slot i with refused := true }

/-- R192: slot 15 is the pulse slot. -/
def Module.pulseSlot (m : Module) (i : Nat) : Bool := i == 15 && !m.pulsable.isEmpty

/-- TXN_CTRL OPEN (R191, R192). A refused open of the pulse slot shows TXN_PULSE_SLOT, but an ABORTED slot keeps the
reason of its abort (R190). -/
def Module.txnOpen (i : Nat) (scope : Bool) (m : Module) : Module :=
  let sl := m.slot i
  if m.pulseSlot i then
    m.setSlot i { sl with refused := true, reason := if sl.state = 7 then sl.reason else 0x0016#16 }
  else if sl.state = 0 then
    m.setSlot i { sl with state := 1, scope := scope, refused := false, reason := 0 }
  else m.refuseSlot i

def execTxnOpen (slot : Nat) (scope : Bool) (s : State) : Host.Outcome State Fault Refusal :=
  goOn (Module.windowOpen (Module.txnOpen slot scope)) s

/-- R194 TXN_MODE: the modes in which a SUBMIT is taken. -/
def Module.txnMode (m : Module) : Bool :=
  match m.ctl.mode with
  | .idle | .run | .step | .paced => true
  | .frozen => m.ctl.resumable
  | _ => false

/-- R199: the slot's WHEN_MODE and TXN_WHEN decide its timing: a local slot's, and the system head's. -/
def Module.ownTiming (m : Module) (scope : Bool) : Bool := !scope || m.sysHead

/-- R369: the active domain is LOCKED. -/
def Module.ptpLocked (m : Module) : Bool := (nth Domain.init m.stew.domains m.stew.active).state == 2

/-- R194: what SUBMIT gives validation to abort with, of the command and the mode at its instant, in code order. -/
def Module.submitFault (m : Module) (scope : Bool) (whenMode count : Nat) : Option Nat :=
  let own := m.ownTiming scope
  let conds : List (Bool × Nat) := [
    (decide (4096 < count) || (count == 0 && !scope), 0x0002),
    (own && whenMode == 3, 0x0003),
    (!m.txnMode, 0x0010),
    (own && whenMode == 2 && !m.ptpLocked, 0x0017)]
  (conds.find? (·.1)).map (·.2)

/-- TXN_CTRL SUBMIT (R191, R195): records, data blocks and TXN_WHEN are copied, and a PTP time is converted (R372).
WHEN_MODE 4 stands for a PTP time before folio 0, which no boundary meets. -/
def Module.txnSubmit (i whenMode count : Nat) (m : Module) : Module :=
  let sl := m.slot i
  if sl.state ≠ 1 then m.refuseSlot i
  else
    let f := m.stew.folioAt sl.txnWhen
    let taken : Slot := { sl with state := 2, refused := false, reason := 0, early := (m.submitFault sl.scope whenMode count).getD 0,
                                  whenMode := if whenMode = 2 ∧ f < 0 then 4 else whenMode,
                                  when_ := if whenMode = 2 then f.toNat else sl.txnWhen, blocks := sl.winBlocks,
                                  records := (List.range count).map (sget 0 sl.winRecords) }
    m.setSlot i taken

def execTxnSubmit (slot whenMode count : Nat) (s : State) : Host.Outcome State Fault Refusal :=
  goOn (Module.windowOpen (Module.txnSubmit slot whenMode count)) s

/-- TXN_CTRL CANCEL (R191). -/
def Module.txnCancel (i : Nat) (m : Module) : Module :=
  let sl := m.slot i
  if 1 ≤ sl.state ∧ sl.state ≤ 3 then (m.setSlot i { sl with refused := false }).abortSlot i 0x0012 0
  else m.refuseSlot i

def execTxnCancel (slot : Nat) (s : State) : Host.Outcome State Fault Refusal :=
  goOn (Module.windowOpen (Module.txnCancel slot)) s

/-- TXN_CTRL CLOSE (R191): the slot is FREE; its window keeps what the host wrote. -/
def Module.txnClose (i : Nat) (m : Module) : Module :=
  let sl := m.slot i
  if sl.state = 6 ∨ sl.state = 7 then
    m.setSlot i { Slot.init with winRecords := sl.winRecords, winBlocks := sl.winBlocks, txnWhen := sl.txnWhen }
  else m.refuseSlot i

def execTxnClose (slot : Nat) (s : State) : Host.Outcome State Fault Refusal :=
  goOn (Module.windowOpen (Module.txnClose slot)) s

/-- R195: the commit folio of a local slot; none where it can no longer be met. -/
def Module.commitFolio (m : Module) (sl : Slot) : Option Nat :=
  let e := m.earliest
  if sl.whenMode = 1 then some e
  else if sl.whenMode = 4 then none
  else if e ≤ sl.when_ then some sl.when_ else none

/-- TXN_VALIDATED (R191, R194, R195): a failing action aborts the slot; a local slot is COMMITTED with its folio or late;
a system slot is PREPARED. -/
def Module.txnValidated (i : Nat) (m : Module) : Module :=
  let sl := m.slot i
  if sl.state ≠ 2 then m
  else if sl.early ≠ 0 then m.abortSlot i sl.early 0
  else
    let c := if sl.scope then none else m.commitFolio sl
    match m.firstFault i sl.scope c (sl.records.map (·.toNat)) [] 0 with
    | some f => m.abortSlot i f.1 f.2
    | none =>
      if sl.scope then m.setSlot i { sl with state := 3 }
      else match c with
        | some n => m.setSlot i { sl with state := 4, folio := some n }
        | none => m.abortSlot i 0x0011 0

def execTxnValidated (slot : Nat) (s : State) : Host.Outcome State Fault Refusal := goOn (Module.txnValidated slot) s

/-! ### Preload (R206) -/

/-- R206: a TIPIN action of a PREPARED or COMMITTED slot depends on a shadow of the set; one of an APPLYING slot, which the
rule does not name, does so too (DESIGN CHOICE). -/
def Module.tipPending (m : Module) (quires : List Nat) : Bool :=
  (m.pendingRecords 16).any (fun r => match m.tipTarget r.2 with
    | some t => t.2.any (fun q => quires.contains q)
    | none => false)

/-- TIP_PRELOAD_STATUS: KEY and STATE; CHECK stays. -/
def Module.tipStatus (key state : Nat) (m : Module) : Module :=
  m.setReg rTipStatus (bitsOf (m.reg rTipStatus) 31 16 * 65536 + key * 4 + state)

/-- R206: the shadows of a set. -/
def Module.setShadows (quires : List Nat) (v : Shadow) (m : Module) : Module :=
  { m with data := { m.data with shadow := quires.foldl (fun t q => sset Shadow.empty t q v) m.data.shadow } }

/-- R206: a preload of `quires` starts, unless a HELD shadow, a pending TIPIN or a running preload refuses it. -/
def Module.startPreload (key quarter : Nat) (quires : List Nat) (discard : Bool) (m : Module) : Module :=
  let held := quires.any (fun q => match m.shadowOf q with
    | .held _ => true
    | _ => false)
  if (held && !discard) || m.tipPending quires || m.txn.preload.isSome then m.answer stRefused
  else
    let m1 := { m with txn := { m.txn with preload := some { key := key, quarter := quarter, quires := quires }, tipQuarter := quarter } }
    ((m1.setShadows quires .empty).tipStatus key 1).answer stOK

/-- TIP_PRELOAD of tip-in KEY. A number that the image does not carry is refused. -/
def Module.tipPreload (key : Nat) (discard : Bool) (m : Module) : Module :=
  match m.residentTip key with
  | some t => m.startPreload key t.1 t.2 discard
  | none => m.answer stRefused

def execTipPreload (key : Nat) (discard : Bool) (s : State) : Host.Outcome State Fault Refusal :=
  goOn (Module.planeControl (Module.tipPreload key discard)) s

/-- TIP_PRELOAD with KEY 0x40: the set of the tip-in that DKEY[QUARTER] names, from the staged image. -/
def Module.tipPreloadImage (quarter : Nat) (discard : Bool) (m : Module) : Module :=
  match m.residentTip (nth 0x40 m.seq.dkey (quarter % 4)) with
  | some t => if m.load.staged then m.startPreload 0x40 (quarter % 4) t.2 discard else m.answer stRefused
  | none => m.answer stRefused

def execTipPreloadImage (quarter : Nat) (discard : Bool) (s : State) : Host.Outcome State Fault Refusal :=
  goOn (Module.planeControl (Module.tipPreloadImage quarter discard)) s

/-- R203, R206: the bytes of resident tip-in k in the tip-in region: its start, its length. -/
def Module.tipPlace (m : Module) (k : Nat) : Nat × Nat :=
  match m.tipOf k with
  | some (_, quires, off) => (regBaseB m.image.tipin + off, 64 + sliceLen * (quiresOf quires.toNat).length)
  | none => (0, 0)

/-- R203: the resident tip-in k as its region holds it. -/
def Module.tipImage (m : Module) (k : Nat) : TipImg :=
  let p := m.tipPlace k
  readTip k p.2 (cut m.hbm.bytes p.1 p.2)

/-- R206: the words, entries and marks of a quire's slice go to the quire's shadow bank. -/
def loadSlice (t : TipImg) (d : Data) (quire : Nat) : Data :=
  let bank := bankOf d quire 4
  let inBank (k : Nat) : Bool := k / 512 % 5 == bank
  let wipe {α : Type} (x : SMap α) (per : Nat) : SMap α := x.filter (fun e => !(e.1 / 2560 / per == quire && inBank e.1))
  let bpKey (k : Nat) : Nat := (k / 512 * 5 + bank) * 512 + k % 512
  let im := (t.im.filter (fun e => e.1 / 524288 == quire)).map (fun e => (bpKey e.1, imWord e.2))
  let imE := (t.imEss.filter (fun k => k / 524288 == quire)).map (fun k => (bpKey k, true))
  let sch (x : SMap Nat) (n : Nat) : List (Nat × SchedWord) :=
    (x.filter (fun e => e.1 / 512 == quire)).map (fun e => (bpKey e.1, schedWord n e.2))
  let ess (x : List Nat) : List (Nat × Bool) := (x.filter (fun k => k / 512 == quire)).map (fun k => (bpKey k, true))
  let zw : SchedWord := { bits := 0, par := 0 }
  { d with
    fill := sset 0 d.fill (quire * 5 + bank) (tipHdrNumber t.header + 1),
    im := ssetAll { word := 0, par := 0 } (wipe d.im 1024) im,
    imEss := ssetAll false (wipe d.imEss 1024) imE,
    xbar := ssetAll zw (wipe d.xbar 1) (sch t.xbar xbarLen),
    xbarEss := ssetAll false (wipe d.xbarEss 1) (ess t.xbarEss),
    spine := ssetAll zw (wipe d.spine 1) (sch t.spine spineLen),
    spineEss := ssetAll false (wipe d.spineEss 1) (ess t.spineEss) }

/-- R206: a preload fails: the shadows stay EMPTY, the check code is kept, TIP_PRELOAD_FAIL (0x0511). -/
def Module.preloadFail (p : Preload) (check : Nat) (m : Module) : Module :=
  let m1 := ({ m with txn := { m.txn with preload := none } }).setShadows p.quires .empty
  (m1.setReg rTipStatus (check % 65536 * 65536 + p.key * 4 + 3)).log 0x0511 dieH []

/-- R206: a preload ends well: READY(k), or HELD(Q) for image content; TIP_PRELOAD_DONE (0x0510). -/
def Module.preloadOk (p : Preload) (m : Module) : Module :=
  let mark := if p.key = 0x40 then Shadow.held p.quarter else Shadow.ready p.key
  let m1 := ({ m with txn := { m.txn with preload := none } }).setShadows p.quires mark
  (m1.tipStatus p.key 2).log 0x0510 dieH []

/-- R183, R205: the first breach of a preloaded copy, by offset and then code. -/
def firstTipFail (fs : List (Nat × Nat)) : Option Nat :=
  (fs.foldl (fun (best : Option (Nat × Nat)) f => match best with
    | none => some f
    | some b => if f.1 < b.1 ∨ (f.1 = b.1 ∧ f.2 < b.2) then some f else best) none).map (·.2)

/-- R206: the checks of R48, R66 and R128 on image content reloaded for the set of the tip-in in service. -/
def Module.baseFails (img : Img) (p : Preload) : List QFail :=
  let own (quire : Nat) : Bool := p.quires.contains quire
  wordFails (img.env (walksOf img.seg img.disp img.tipKeys))
    { im := img.im.filter (fun e => own (imQuire e.1)), xbar := img.xbar.filter (fun e => own (e.1 / 2048)),
      spine := img.spine.filter (fun e => own (e.1 / 2048)) }

/-- R206: the sectors that a preload reads: the tip-in's copy, or of the staged image the words and entries of a quarter in
each quire of the set. -/
def Module.preloadSectors (m : Module) (p : Preload) : List Nat :=
  if p.key = 0x40 then
    p.quires.flatMap (fun quire =>
      let part (ty len step n : Nat) : List Nat := match findSect m.sects ty quire with
        | some s => (List.range n).flatMap (fun bp => sectorsIn (s.off + len * (bp * step + p.quarter * 512)) (len * 512))
        | none => []
      part 0x0010 12 2048 1024 ++ part 0x0012 xbarLen 0 1 ++ part 0x0013 spineLen 0 1)
  else
    let place := m.tipPlace p.key
    sectorsIn place.1 (max 64 place.2)

/-- TIP_PRELOAD_DONE (R206). The check code of a copy whose sectors fail their check is free. -/
def Module.preloadDone (chk : SectorCheck) (p : Preload) (m : Module) : Module :=
  let r := m.readSectors chk (m.preloadSectors p) m.epEngine
  let m1 := r.2
  if m1.ctl.mode = .lockdown then m1
  else if !r.1 then
    let n := m1.sec.freeCtr
    ({ m1 with sec := { m1.sec with freeCtr := n + 1 } }).preloadFail p (Config.openWord n).toNat
  else
    let img := m1.readImage
    if p.key = 0x40 then
      match firstFail ((Module.baseFails img p).map quireFail) with
      | some f => m1.preloadFail p f.code
      | none =>
        let d := p.quires.foldl (fun d q => rewriteBank img q p.quarter (bankOf d q 4) d) m1.data
        ({ m1 with data := d }).preloadOk p
    else
      let t := m1.tipImage p.key
      match firstTipFail (tipFails (img.env (walksOf img.seg img.disp img.tipKeys)) img m1.lostList t) with
      | some c => m1.preloadFail p c
      | none => ({ m1 with data := p.quires.foldl (loadSlice t) m1.data }).preloadOk p

def execTipPreloadDone (chk : SectorCheck) (s : State) : Host.Outcome State Fault Refusal :=
  goOn (fun m => match m.txn.preload with
    -- R274: without a free tag the preload holds its reads
    | some p => if m.tagsOut m.epEngine then m else m.preloadDone chk p
    | none => m) s

end Sys2Proof.Machine
end

