-- ==== Sys2Proof/Machine/Inspect.lean ====
section
/-! DEFINITION. Machine/Inspect.lean: the inspection command page (R208, R209, R420) and the meanings of its commands. -/

namespace Sys2Proof.Machine

def inspOK : Nat := 0x00
def inspMode : Nat := 0x01
def inspTarget : Nat := 0x02
def inspForced : Nat := 0x03
def inspForceFull : Nat := 0x04
def inspOp : Nat := 0x05
def inspParity : Nat := 0x06
def inspBusy : Nat := 0xFF

/-- R208: a nonzero bit of TARGET or DATA outside the fields that OP uses, or a field outside the table of R420. -/
def inspFieldBad (op t d : Nat) : Bool :=
  match op with
  | 0x01 => bitsOf t 31 29 != 0 || d != 0
  | 0x02 => bitsOf t 31 29 != 0 || decide (1 < d)
  | 0x03 => bitsOf t 31 29 != 0 || d != 0
  | 0x04 => bitsOf t 31 29 != 0 || bitsOf t 10 9 != 0 || d != 0
  | 0x05 => bitsOf t 31 22 != 0 || decide (1 < d)
  | 0x06 => bitsOf t 31 22 != 0
  | 0x07 => bitOf t 30
  | 0x08 =>
    let chunk := bitsOf t 5 0
    bitsOf t 10 6 != 0 || d != 0 || (match bitsOf t 31 30 with
      | 0 => decide (29 < chunk)
      | 1 => false
      | 2 => bitsOf t 29 22 != 0 || decide (288 < bitsOf t 21 11) || chunk != 0
      | _ => true)
  | 0x09 => bitsOf t 31 29 != 0 || decide (1 < d)
  | 0x0A => bitsOf t 31 18 != 0 || decide (1 < d)
  | 0x0B => bitsOf t 31 29 != 0 || d != 0
  | 0x0C => bitsOf t 31 18 != 0 || d != 0
  | 0x0D => bitsOf t 31 18 != 0 || d != 0
  | 0x0E => bitsOf t 31 18 != 0 || decide (1 < d)
  | 0x0F => bitsOf t 31 12 != 0 || d != 0
  | _ => bitsOf t 31 18 != 0 || bitsOf t 5 4 != 0 || d != 0

/-- INSP_RESP (R208). -/
def Module.respond (st value : Nat) (m : Module) : Module :=
  { m with txn := { m.txn with inspStatus := BitVec.ofNat 8 st, inspValue := BitVec.ofNat 120 value } }

/-! ### Reads -/

/-- R208 OP 0x03, 0x04: an IM word with its stored parity; INSP_PARITY where it fails. A built-in tip-in that stands in
the bank reads instead (R25). -/
def Module.inspIm (key : Nat) (m : Module) : Module :=
  let w := match m.data.builtinIm with
    | none => sget { word := 0, par := 0 } m.data.im key
    | some n => imWord (Config.builtinWord n 0 key)
  m.respond (if imGood w then inspOK else inspParity) (w.par.toNat * 2 ^ 96 + w.word.toNat)

/-- R208 OP 0x05, R150: a DMB word, valid or not; `stored` asks for the stored parity. -/
def Module.inspDmb (addr : Nat) (stored : Bool) (m : Module) : Module :=
  let w := sget 0 m.data.dmbData addr
  let par := (sget 0 m.data.dmbPar addr).toNat
  let parity := byteParity 8 w.toNat
  let valid := sget false m.data.dmbValid addr
  let v := if stored then par * 2 ^ 64 + w.toNat else b2n valid * 2 ^ 73 + parity * 2 ^ 65 + w.toNat
  if valid ∧ par ≠ parity then (m.log 0x0426 (addr / 524288) []).respond inspParity v else m.respond inspOK v

/-- R36, R204: the key of schedule entry e of a quire, through its BANKMAP. -/
def Module.bankKey (m : Module) (quire e : Nat) : Nat := (quire * 5 + bankOf m.data quire (e / 512 % 4)) * 512 + e % 512

/-- R420: a 64-bit chunk of a schedule entry, or of the segment program and dispatch table of the master step timer. -/
def Module.schedChunk (m : Module) (t : Nat) : Nat :=
  let q := bitsOf t 29 22
  let e := bitsOf t 21 11
  let c := bitsOf t 5 0
  let zw : SchedWord := { bits := 0, par := 0 }
  let entry (kind : Nat) (t : SMap SchedWord) : Nat := match m.data.builtinIm with
    | none => (sget zw t (m.bankKey q e)).bits
    | some n => Config.builtinWord n kind (m.bankKey q e)
  match bitsOf t 31 30 with
  | 0 => entry 1 m.data.xbar / 2 ^ (64 * c) % 2 ^ 64
  | 1 => entry 2 m.data.spine / 2 ^ (64 * c) % 2 ^ 64
  | _ =>
    if e < 256 then (sget zw m.seq.segs (256 * 8 + e)).bits
    else (List.range 8).foldl (fun a i =>
      let n := 8 * (e - 256) + i
      if n < 260 then a + (sget zw m.seq.disp (260 * 8 + n)).bits * 2 ^ (8 * i) else a) 0

/-- R208 OP 0x0D: the controls of a BP. -/
def Module.bpControls (m : Module) (bp : Nat) : Nat :=
  let f := sget { armed := false, value := false } m.data.fpoint bp
  b2n (sget false m.data.watch bp) + 2 * b2n (sget true m.data.haltEn bp) + 4 * b2n f.armed + 8 * b2n f.value
    + 16 * (sget [] m.data.forces bp).length

/-- R208 OP 0x0F: the status word of R158 from the physical state. -/
def Module.physStatus (m : Module) (dmb : Nat) : Nat :=
  let q := m.data.queue dmb
  (queueStatus (m.data.desc dmb) { q with dvHead := q.head, dvTail := q.tail, dvCount := q.count }).toNat

/-- R420, R411: the pad sample of a cell at this moment: the level driven on its pad, else `ext`, the level brought to it; a
pad of a bank without power reads 0. -/
def Module.padSample (m : Module) (target : Nat) (ext : Bool) : Bool :=
  match m.data.cellPad (bitsOf target 17 6 * 16 + bitsOf target 3 0) with
  | some pad => m.padPowered pad && (sget none m.data.padOut pad).getD ext
  | none => ext

/-- The level brought to a pad, where no command tells it: a free value. -/
def Module.freePad (m : Module) : Bool × Module :=
  ((Config.openWord m.sec.freeCtr).getLsbD 0, { m with sec := { m.sec with freeCtr := m.sec.freeCtr + 1 } })

/-- A read completes now. For OP 0x10 `d` carries the level brought to the pad. -/
def Module.inspRead (op t d : Nat) (m : Module) : Module :=
  match op with
  | 0x01 => m.respond inspOK (b2n (m.data.cell (actBp t) (actCell t)) + 2 * b2n (m.data.forced (actBp t) (actCell t)).isSome)
  | 0x03 => m.inspIm ((actBp t * 5 + bankOf m.data (actBp t / 1024) (actCell t / 512)) * 512 + actCell t % 512)
  | 0x04 => m.inspIm ((actBp t * 5 + bankOf m.data (actBp t / 1024) 4) * 512 + actCell t % 512)
  | 0x05 => m.inspDmb (bitsOf t 21 0) (bitOf d 0)
  | 0x08 => m.respond inspOK (m.schedChunk t)
  | 0x0D => m.respond inspOK (m.bpControls (bitsOf t 17 0))
  | 0x0F => m.respond inspOK (m.physStatus (bitsOf t 11 0))
  | _ =>
    let k := bitsOf t 17 6 * 16 + bitsOf t 3 0
    m.respond inspOK (b2n (sget false m.data.ioData k) + 2 * b2n (sget false m.data.ioEn k) + 4 * b2n (m.padSample t (bitOf d 0)))

/-- R209: a read that waits is served; a pad is sampled at that moment. -/
def Module.inspWaited (m : Module) (op t d : Nat) : Module :=
  if op = 0x10 then
    let r := m.freePad
    r.2.inspRead op t (b2n r.1)
  else m.inspRead op t d

/-- R209: reads that wait are served, at most 256 at a boundary. -/
def Module.inspServe (m : Module) : Module :=
  let now := m.txn.inspWait.take 256
  now.foldl (fun m e => m.inspWaited e.1 e.2.1.toNat e.2.2.toNat)
    { m with txn := { m.txn with inspWait := m.txn.inspWait.drop 256 } }

/-! ### Writes -/

/-- R153: the parity-test access. -/
def Data.parityTest (d : Data) (t : Nat) (w : Word) : Data :=
  let a := bitsOf t 21 0
  if bitOf t 31 then { d with dmbValid := sset false d.dmbValid a false }
  else { d with dmbData := sset 0 d.dmbData a w, dmbPar := sset 0 d.dmbPar a (BitVec.ofNat 8 (bitsOf t 29 22)),
                dmbValid := sset false d.dmbValid a true }

/-- A write in INSPECT takes effect at once. -/
def Module.inspWrite (op t d : Nat) (m : Module) : Module :=
  let v := bitOf d 0
  let bp := actBp t
  let cell := actCell t
  let done (x : Data) : Module := ({ m with data := x }).respond inspOK 0
  match op with
  | 0x02 => if (m.data.forced bp cell).isSome then m.respond inspForced 0 else done (m.data.store bp cell v)
  | 0x06 => done (m.data.writeDmb (bitsOf t 21 0) (BitVec.ofNat 64 d))
  | 0x07 => done (m.data.parityTest t (BitVec.ofNat 64 d))
  | 0x09 => (match m.data.force bp cell v with
      | some x => done x
      | none => m.respond inspForceFull 0)
  | 0x0A => done (m.data.setPoint (bitsOf t 17 0) true v)
  | 0x0B => done (m.data.unforce bp cell)
  | 0x0C => done (m.data.setPoint (bitsOf t 17 0) false false)
  | _ => done { m.data with haltEn := sset true m.data.haltEn (bitsOf t 17 0) v }

/-- R209: KIND and SUB of the action record that matches a write. -/
def inspAction (op : Nat) : Nat × Nat :=
  match op with
  | 0x02 => (1, 0)
  | 0x06 => (1, 1)
  | 0x09 => (2, 0)
  | 0x0A => (2, 1)
  | 0x0B => (3, 0)
  | 0x0C => (3, 1)
  | _ => (1, 2)

/-- R209: outside INSPECT a write appends its action record to the slot of WIN_SLOT, after the last record written there. -/
def Module.inspAppend (op t d : Nat) (m : Module) : Module :=
  let i := m.reg rWinSlot
  let sl := m.slot i
  let n := match sl.winRecords.getLast? with
    | some e => e.1 + 1
    | none => 0
  let a := inspAction op
  let rec_ : BitVec 128 := BitVec.ofNat 128 (a.1 * 2 ^ 124 + a.2 * 2 ^ 120 + t * 2 ^ 64 + d)
  if 15 < i ∨ sl.state ≠ 1 ∨ sl.scope ∨ 4095 < n then m.respond inspMode 0
  else (m.setSlot i { sl with winRecords := sset 0 sl.winRecords n rec_ }).respond inspOK 0

/-! ### The page -/

/-- R208: an INSP_CMD starts, unless one runs. Where a command meets two conditions the manual gives no order: a mode without
commands comes first, then a bad field (INSP_TARGET), then what the OP itself meets, such as INSP_MODE of OP 0x07 outside
INSPECT (DESIGN CHOICE). -/
def Module.inspStart (op : Nat) (rsv : BitVec 24) (target : BitVec 32) (data : Word) (k : Module → Module) (m : Module) : Module :=
  let t := target.toNat
  let d := data.toNat
  let m1 := { m with txn := { m.txn with inspCmd := BitVec.ofNat 128 (op * 2 ^ 120 + rsv.toNat * 2 ^ 96 + t * 2 ^ 64 + d) } }
  -- R414: on gated clocks no command reaches the transaction engine
  if m.pins.gated then m
  else match m.ctl.mode with
  | .lockdown => m
  | .idle | .run | .step | .paced | .frozen | .inspect =>
    if m.txn.inspStatus.toNat = inspBusy then m
    else if rsv ≠ 0 ∨ inspFieldBad op t d then m1.respond inspTarget 0
    else k m1
  | _ => if m.txn.inspStatus.toNat = inspBusy then m else m1.respond inspMode 0

/-- R209: a read is served at once in INSPECT, IDLE and FROZEN; while folios run it waits for the next boundary. `d` is
what the read needs beside its target. -/
def Module.inspReadCmd (op : Nat) (t d : Nat) (m : Module) : Module :=
  if m.ctl.mode.running then
    ({ m with txn := { m.txn with inspWait := m.txn.inspWait ++ [(op, BitVec.ofNat 32 t, BitVec.ofNat 64 d)] } }).respond inspBusy 0
  else m.inspRead op t d

/-- R332: before WREN the path of INSPECT writes is closed: nothing is written. The manual gives no STATUS for that: the page
answers INSP_MODE (DESIGN CHOICE). -/
def Module.inspWriteCmd (op : Nat) (t d : Nat) (m : Module) : Module :=
  if m.ctl.mode = .inspect then (if m.start.wren then m.inspWrite op t d else m.respond inspMode 0)
  else if op = 0x07 then m.respond inspMode 0
  else m.inspAppend op t d

/-- A read command of the page. -/
def Module.inspR (op : Nat) (rsv : BitVec 24) (target : BitVec 32) (data : Word) (m : Module) : Module :=
  m.inspStart op rsv target data (fun m => m.inspReadCmd op target.toNat data.toNat)

/-- A write command of the page. -/
def Module.inspW (op : Nat) (rsv : BitVec 24) (target : BitVec 32) (data : Word) (m : Module) : Module :=
  m.inspStart op rsv target data (fun m => m.inspWriteCmd op target.toNat data.toNat)

/-- A write of byte 15 of INSP_CMD that spells a reserved OP: it completes with INSP_OP, or with INSP_TARGET where a bit of
[119:96], as it stands in the page, is set. -/
def Module.inspReserved (op : Nat) (m : Module) : Module :=
  let cmd := m.txn.inspCmd.toNat % 2 ^ 120 + op * 2 ^ 120
  let m1 := { m with txn := { m.txn with inspCmd := BitVec.ofNat 128 cmd } }
  if m.pins.gated then m
  else match m.ctl.mode with
  | .lockdown => m
  | .idle | .run | .step | .paced | .frozen | .inspect =>
    if m.txn.inspStatus.toNat = inspBusy then m
    else m1.respond (if bitsOf cmd 119 96 ≠ 0 then inspTarget else inspOp) 0
  | _ => if m.txn.inspStatus.toNat = inspBusy then m else m1.respond inspMode 0

def execInspReadDm (rsv : BitVec 24) (target : BitVec 32) (data : Word) (s : State) : Host.Outcome State Fault Refusal :=
  goOn (Module.inspR 0x01 rsv target data) s

def execInspWriteDm (rsv : BitVec 24) (target : BitVec 32) (data : Word) (s : State) : Host.Outcome State Fault Refusal :=
  goOn (Module.inspW 0x02 rsv target data) s

def execInspReadIm (rsv : BitVec 24) (target : BitVec 32) (data : Word) (s : State) : Host.Outcome State Fault Refusal :=
  goOn (Module.inspR 0x03 rsv target data) s

def execInspReadShadow (rsv : BitVec 24) (target : BitVec 32) (data : Word) (s : State) : Host.Outcome State Fault Refusal :=
  goOn (Module.inspR 0x04 rsv target data) s

def execInspReadDmb (rsv : BitVec 24) (target : BitVec 32) (data : Word) (s : State) : Host.Outcome State Fault Refusal :=
  goOn (Module.inspR 0x05 rsv target data) s

def execInspWriteDmb (rsv : BitVec 24) (target : BitVec 32) (data : Word) (s : State) : Host.Outcome State Fault Refusal :=
  goOn (Module.inspW 0x06 rsv target data) s

def execInspParityTest (rsv : BitVec 24) (target : BitVec 32) (data : Word) (s : State) : Host.Outcome State Fault Refusal :=
  goOn (Module.inspW 0x07 rsv target data) s

def execInspReadSchedule (rsv : BitVec 24) (target : BitVec 32) (data : Word) (s : State) : Host.Outcome State Fault Refusal :=
  goOn (Module.inspR 0x08 rsv target data) s

def execInspForceDm (rsv : BitVec 24) (target : BitVec 32) (data : Word) (s : State) : Host.Outcome State Fault Refusal :=
  goOn (Module.inspW 0x09 rsv target data) s

def execInspForcePoint (rsv : BitVec 24) (target : BitVec 32) (data : Word) (s : State) : Host.Outcome State Fault Refusal :=
  goOn (Module.inspW 0x0A rsv target data) s

def execInspReleaseDm (rsv : BitVec 24) (target : BitVec 32) (data : Word) (s : State) : Host.Outcome State Fault Refusal :=
  goOn (Module.inspW 0x0B rsv target data) s

def execInspReleasePoint (rsv : BitVec 24) (target : BitVec 32) (data : Word) (s : State) : Host.Outcome State Fault Refusal :=
  goOn (Module.inspW 0x0C rsv target data) s

def execInspReadBpControls (rsv : BitVec 24) (target : BitVec 32) (data : Word) (s : State) : Host.Outcome State Fault Refusal :=
  goOn (Module.inspR 0x0D rsv target data) s

def execInspWriteHaltEnable (rsv : BitVec 24) (target : BitVec 32) (data : Word) (s : State) : Host.Outcome State Fault Refusal :=
  goOn (Module.inspW 0x0E rsv target data) s

def execInspReadQueue (rsv : BitVec 24) (target : BitVec 32) (data : Word) (s : State) : Host.Outcome State Fault Refusal :=
  goOn (Module.inspR 0x0F rsv target data) s

/-- OP 0x10; `padHigh` is the level brought to the cell's pad. -/
def execInspReadIoCell (rsv : BitVec 24) (target : BitVec 32) (data : Word) (padHigh : Bool) (s : State) : Host.Outcome State Fault Refusal :=
  goOn (Module.inspStart 0x10 rsv target data (fun m => m.inspReadCmd 0x10 target.toNat (b2n padHigh))) s

def execInspOpReserved (op : Byte) (s : State) : Host.Outcome State Fault Refusal := goOn (Module.inspReserved op.toNat) s

end Sys2Proof.Machine
end

