-- ==== Sys2Proof/Machine/Stitch.lean ====
section
/-! DEFINITION. Machine/Stitch.lean: the kettle stitch: what a module puts into a token, how tokens merge, what a release
does (R139-R146, R199-R202, R238), and the writes of HBMWR actions at the hold point (R196, R198). -/

namespace Sys2Proof.Machine

/-- R30, R211: the modes that take part in rounds. -/
def Module.stitches (m : Module) : Bool :=
  match m.ctl.mode with
  | .idle | .run | .step | .paced => true
  | .frozen | .inspect => m.ctl.resumable
  | _ => false

/-- Phase 4, or a round at the hold point. -/
def Module.atStitch (m : Module) : Bool := m.stitches && (m.seq.phase == .stitch || m.seq.phase == .hold)

/-- R108, R195: the folio whose boundary this is, -1 at the opening boundary. -/
def Module.boundary (m : Module) : Int := if m.seq.opening then -1 else m.seq.folio

/-- FOLIO of a token: 64 bits. -/
def Module.tokenFolio (m : Module) : Nat := (m.boundary % (2 ^ 64 : Int)).toNat

def Module.setSeq (f : Seq → Seq) (m : Module) : Module := { m with seq := f m.seq }

/-! ### HBMWR at the hold point (R196, R198, R200) -/

/-- The HBMWR records of a slot: index, sector address, data block. -/
def Slot.hbmwr (sl : Slot) : List (Nat × Nat × Nat) :=
  (sl.records.zipIdx.filter (fun e => actKind e.1.toNat == 4)).map
    (fun e => (e.2, bitsOf (actTarget e.1.toNat) 30 0 * 64, actData e.1.toNat))

/-- R265, R267: the engine posts a sector write. -/
def Module.postSector (a tag : Nat) (v : BitVec 512) (m : Module) : Module :=
  m.inject { packetReq opPWR 3 (m.epHbm a) m.epTxn (tag % 4096) a with ackreq := true, len := 2, data := sectorFlits v }

/-- R198, R274: the engine reads the pre-image of entry k of slot i once it holds a tag; a sector that the slot has asked for
already is read after that. -/
def Module.askPre (i : Nat) (m : Module) (k : Nat) : Module :=
  let sl := m.slot i
  match sl.preOut[k]? with
  | some (a, act, none) =>
    if (sl.preOut.take k).any (fun e => e.1 == a) then m
    else match m.freeTag tagsTxn.1 tagsTxn.2 with
      | some t =>
        (m.setSlot i { sl with preOut := setNth sl.preOut k (a, act, some t) }).request_ 4 t
          { packetReq opRD 3 (m.epHbm a) m.epTxn t a with len := 2 }
      | none => m
  | _ => m

/-- The pre-images that slots wait for are asked for as far as tags reach. -/
def Module.txnPump (m : Module) : Module :=
  (List.range 16).foldl (fun (m : Module) i => (List.range (m.slot i).preOut.length).foldl (Module.askPre i) m) m

/-- Slot i writes its HBMWR actions, each after its pre-image; it is APPLYING from here. -/
def Module.startWrites (m : Module) (i : Nat) : Module :=
  let sl := m.slot i
  (m.setSlot i { sl with state := 5, preOut := sl.hbmwr.map (fun e => (e.2.1, e.1, none)) }).txnPump

/-- R200: local slots of the coming folio whose HBMWR actions have not been written. -/
def Module.localWrites (m : Module) : List Nat :=
  (m.committing m.earliest).filter (fun i => (m.slot i).state == 4 && !(m.slot i).scope && !(m.slot i).hbmwr.isEmpty)

/-- A slot of the coming folio still writes or rolls back. -/
def Module.writing (m : Module) : Bool :=
  (List.range 16).any (fun i => let sl := m.slot i
                                sl.state == 5 && (!sl.hbmwrOut.isEmpty || !sl.preOut.isEmpty || sl.rolling))

/-- R198, R200: once nothing of a slot that rolls back is outstanding: its sectors are rewritten from their pre-images,
newest first; when that is done it aborts: for its own failed write with TXN_WRITE_FAIL, a system slot in the round that
brings its vote, or at once where no round can come (DEDUCED). -/
def Module.rollOn (i : Nat) (m : Module) : Module :=
  let sl := m.slot i
  if !sl.rolling ∨ !sl.hbmwrOut.isEmpty then m
  else if !sl.rewriting ∧ !sl.preImages.isEmpty then
    let out := sl.preImages.zipIdx.map (fun e => (e.1.1, e.2))
    let m1 := m.setSlot i { sl with rewriting := true, hbmwrOut := out }
    sl.preImages.zipIdx.foldl (fun m e => m.postSector e.1.1 e.2 e.1.2) m1
  else
    let m1 := m.setSlot i { sl with rolling := false, rewriting := false, preImages := [], endReason := 0, voteNo := sl.scope }
    if sl.endReason ≠ 0 then
      let m2 := m1.abortSlot i sl.endReason 0
      m2.setSlot i { m2.slot i with voteNo := sl.voteNo }
    else if sl.scope ∧ m.stitches then m1
    else m1.abortSlot i 0x0014 0

/-- R198, R347: the pre-image of an action arrives: it is kept, and the write leaves; one that cannot be read ends the slot
as a failed write does. -/
def Module.preArrived (tag status : Nat) (v : BitVec 512) (m : Module) : Module :=
  let asked (sl : Slot) : Option (Nat × Nat × Option Nat) := sl.preOut.find? (fun e => e.2.2 == some tag)
  match (List.range 16).find? (fun i => (asked (m.slot i)).isSome) with
  | none => m
  | some i =>
    let sl := m.slot i
    match asked sl with
    | none => m
    | some e =>
      if status = psOK then
        let m1 := m.setSlot i { sl with preOut := sl.preOut.erase e, preImages := (e.1, v) :: sl.preImages,
                                        hbmwrOut := sl.hbmwrOut ++ [(e.1, e.2.1)] }
        m1.postSector e.1 e.2.1 (sget 0 sl.blocks (actData (nth 0 sl.records e.2.1).toNat))
      else (m.setSlot i { sl with preOut := [], rolling := true }).rollOn i

/-! ### Votes (R199, R200, R202) -/

/-- R199: TXYES and TXNO of slot i. -/
def Module.vote (m : Module) (i : Nat) : Bool × Bool :=
  let sl := m.slot i
  let c := m.boundary + m.lead
  if m.pulseSlot i then (false, false)
  else if !sl.scope then (false, false)
  else match sl.state with
    | 3 =>
      if !m.sysHead ∨ sl.whenMode = 1 then (true, false)
      else if sl.whenMode = 4 then (true, true)
      else (decide ((sl.when_ : Int) ≤ c), decide ((sl.when_ : Int) < c))
    | 5 =>
      if m.seq.applyRound || !sl.hbmwrOut.isEmpty || !sl.preOut.isEmpty || sl.rolling then (false, false)
      else (!sl.voteNo, sl.voteNo)
    | 7 => (false, sl.voteNo)
    | _ => (false, false)

def Module.votes (m : Module) (f : Bool × Bool → Bool) : BitVec 16 :=
  (List.range 16).foldl (fun a i => if f (m.vote i) then a ||| BitVec.ofNat 16 (2 ^ i) else a) 0

/-- R202: a module of a system that holds a pending pulse sets TXNO[15]. -/
def Module.pulseVote (m : Module) : BitVec 16 := if m.inSystem ∧ m.txn.pulses ≠ 0 then 0x8000 else 0

/-! ### The token (R141, R142) -/

/-- R116: this module counts grants: the pacing master, or a module alone. -/
def Module.paceMaster (m : Module) : Bool := !m.inSystem || bitOf (m.reg rPaceCfg) 9

/-- R142, R200, R226, R249: ready to leave the hold point. -/
def Module.departs (m : Module) : Bool :=
  m.ctl.mode.running && !(m.ctl.mode == .step && m.ctl.stepLeft == 0)
    && !(m.maskNeeds m.earliest && !m.maskHas m.earliest) && !m.fixedWait
    && !m.seq.applyRound && m.localWrites.isEmpty && !m.writing

/-- R196, R226, R249: n cycles at the hold point count for what the module waits for. -/
def Module.holdCycles (n : Nat) (m : Module) : Module :=
  let m1 := if m.maskNeeds m.earliest && !m.maskHas m.earliest then m.statReg rMaskWait n else m
  let m2 := if m1.fixedWait then m1.statReg rStallReply n else m1
  if (List.range 16).any (fun i => (m2.slot i).state == 5 && !((m2.slot i).hbmwrOut.isEmpty && (m2.slot i).preOut.isEmpty)) then
    m2.setSeq (fun s => { s with applyHold := s.applyHold + n })
  else m2

/-- The values this module puts into a lap of a kind. -/
def Module.ownToken (kind : Nat) (m : Module) : Token :=
  { Token.blank m.tokenFolio kind with
    members := BitVec.ofNat 16 (2 ^ (if kind = 0 then m.disc.position else m.disc.ring)),
    trig := m.trig.fired, txno := m.votes (·.2) ||| m.pulseVote, txyes := m.votes (·.1), clkcrc := m.seq.clkCrc,
    haltr := m.ctl.freezeReq, depart := m.departs, reqok := true, masters := b2n (bitOf (m.reg rPaceCfg) 9),
    pacego := m.paceMaster && decide (m.ctl.mode = .paced) && decide (0 < m.seq.grants),
    target := m.ctl.target, stepn := if m.ctl.target = 5 then m.ctl.stepn else 0 }

/-- R141, R142: the values of a later member join a token. -/
def mergeTokens (t r : Token) : Token :=
  { t with members := t.members ||| r.members, trig := t.trig ||| r.trig, txno := t.txno ||| r.txno,
           txyes := t.txyes &&& r.txyes, clkmis := t.clkmis || r.clkmis || t.clkcrc != r.clkcrc,
           haltr := t.haltr || r.haltr, depart := t.depart && r.depart,
           reqok := t.reqok && r.reqok && t.target == r.target && t.stepn == r.stepn,
           masters := min 2 (t.masters + r.masters), pacego := t.pacego || r.pacego }

/-- R374: the modules that a received token shows as merged. -/
def Module.hear (t : Token) (m : Module) : Module :=
  let ring (r : Nat) : BitVec 256 := (List.range 16).foldl (fun a p =>
    if t.members.getLsbD p then a ||| BitVec.ofNat 256 (2 ^ (16 * r + p)) else a) 0
  let heads : BitVec 256 := (List.range 16).foldl (fun a r =>
    if t.members.getLsbD r then (m.disc.adjs.filter (fun e => e.1 / 16 == r)).foldl (fun a e => a ||| BitVec.ofNat 256 (2 ^ e.1)) a else a) 0
  m.setSeq (fun s => { s with heard := s.heard ||| (if t.kind = 0 ∨ t.kind = 3 then ring m.disc.ring else heads) })

/-! ### Rounds (R140) -/

/-- A ring head that holds its ring's result merges it into the head lap and forwards it. -/
def Module.headForward (t r : Token) (m : Module) : Module :=
  (m.setSeq (fun s => { s with ringResult := none, heldToken := none, merged := false })).sendPrio 11 (.token 11 (mergeTokens t { r with members := BitVec.ofNat 16 (2 ^ m.disc.ring) }))

/-- The ring result of a ring of several: the system head starts the head lap; another ring head waits for it. -/
def Module.ringDone (r : Token) (m : Module) : Module :=
  if m.sysHead then
    (m.setSeq (fun s => { s with ringResult := some r })).sendPrio 11 (.token 11 { r with kind := 1, members := 1 })
  else match m.seq.heldToken with
    | some t => m.headForward t r
    | none => m.setSeq (fun s => { s with ringResult := some r })

/-- R140 step 1, R373: a round begins. A ring head sends its token; a module that holds one merges and forwards it. -/
def Module.beginRound (m : Module) : Module :=
  let m0 := m.setSeq (fun s => { s with roundStart := m.stew.up, merged := false, ringResult := none,
                                        heard := BitVec.ofNat 256 (2 ^ m.disc.modnum) })
  -- R374: a token that came early belongs to this round
  let m1 := match m.seq.heldToken with
    | some t => m0.hear t
    | none => m0
  if !m1.inSystem ∨ !m1.stitches then m1
  else if m1.ringHead then
    if m1.disc.ringSize ≤ 1 then m1.ringDone (m1.ownToken 0)
    else (m1.setSeq (fun s => { s with merged := true })).sendPrio 10 (.token 10 (m1.ownToken 0))
  else match m1.seq.heldToken with
    | some t => (m1.setSeq (fun s => { s with merged := true, heldToken := none })).sendPrio 10 (.token 10 (mergeTokens t (m1.ownToken 0)))
    | none => m1

/-! ### A release (R142, R143, R200, R238) -/

/-- R238, R248: a fire line acts: LAST_FIRE_FOLIO, LAST_LINES, TRIGGER_FIRE (0x0601) of the lines with LOG, and of the
FREEZE lines in the system head. -/
def Module.linesAct (act : BitVec 16) (m : Module) : Module :=
  if act = 0 then m
  else
    let t := m.earliest
    let m1 := (m.setTrig (fun g => { g with act := g.act ||| act })).setRegs [(rLastFireFolio, t), (rLastLines, act.toNat)]
    let told := act &&& (m.lineMask 7 ||| (if m.sysHead then m.lineMask 4 else 0))
    let m2 := if told ≠ 0 then m1.log 0x0601 dieH [(16, told.toNat)] else m1
    (m2.traceLines act t).capTrigger act t

/-- R199, R200: a release acts on slot i; `c` is FOLIO + D. -/
def Module.releaseSlot (t : Token) (c : Nat) (m : Module) (i : Nat) : Module :=
  let sl := m.slot i
  let no := t.txno.getLsbD i
  let yes := t.txyes.getLsbD i
  let settled (m : Module) : Module := m.setSlot i { m.slot i with voteNo := false }
  if !sl.scope ∨ m.pulseSlot i then m
  else if 1 ≤ sl.state ∧ sl.state ≤ 3 then
    if no then settled (m.abortSlot i (if (m.vote i).2 then 0x0011 else 0x0013) 0)
    else if yes then m.setSlot i { sl with state := 4, folio := some c }
    else m
  else if sl.state = 5 ∧ no then settled ((m.unwind i (if sl.voteNo ∨ sl.rolling then 0x0014 else 0x0013)).rollOn i)
  else if sl.state = 7 ∧ no then settled m
  else m

/-- R202: a release with TXNO[15] commits a pulse of every generator with EN = 1 and SRC = 1 or 2, and clears the pending
pulses. -/
def Module.releasePulses (t : Token) (c : Nat) (m : Module) : Module :=
  if t.txno.getLsbD 15 ∧ m.inSystem then
    let set : BitVec 64 := m.pulsable.foldl (fun a k => a ||| BitVec.ofNat 64 (2 ^ k)) 0
    { m with txn := { m.txn with pulseCommit := m.txn.pulseCommit ++ [(c, set)], pulses := 0 } }
  else m

/-- R142: the agreed request takes effect. -/
def Module.takeRequest (t : Token) (m : Module) : Module :=
  let clear (m : Module) : Module := { m with ctl := { m.ctl with target := 0, stepn := 0 } }
  match t.target with
  | 3 => if m.ctl.mode.running then clear (m.paceLeft.enter .idle 0) else clear m
  | 4 => if m.ctl.mode = .idle then clear (m.enter .run 0) else clear m
  | 5 =>
    if m.ctl.mode = .idle then
      let m1 := clear (m.enter .step 0)
      { m1 with ctl := { m1.ctl with stepLeft := t.stepn } }
    else clear m
  | 6 =>
    if m.ctl.mode = .idle then (clear (m.enter .paced 0)).setSeq (fun s => { s with grants := 0, lastCad := none, cadK := m.firstCadence })
    else clear m
  | _ => m

/-- R24, R248: what a module that only the token stops can show, whose HALTR does not say why another module asked: a
host request, a halt request or a mask violation there, or, where lines act, a line that is FREEZE in the head. -/
def haltCauses (lines : Bool) : List Nat := if lines then [0x0601, 0x0910, 0x0603, 0] else [0x0910, 0x0603, 0]

/-- R248: CAUSE of a resumable freeze: HALT_POINT, else MASK_VIOLATION, else TRIGGER_FIRE where a FREEZE line of the system
head acts (R236), else the module's own host request; for a module that the token alone stops, which of the causes that
stop another module it shows is free. -/
def Module.haltCause (t : Token) (m : Module) : Nat × Module :=
  let own := m.ctl.freezeCause.toNat
  if m.ctl.freezeReq ∧ own ≠ 0 then (own, m)
  else if m.sysHead ∧ (t.trig &&& m.lineMask 4) ≠ 0 then (0x0601, m)
  else if m.ctl.freezeReq then (own, m)
  else
    let cs := haltCauses (!m.sysHead && t.trig != 0)
    (nth 0 cs ((Config.openWord m.sec.freeCtr).toNat % cs.length), { m with sec := { m.sec with freeCtr := m.sec.freeCtr + 1 } })

/-- R209: a read that waits is served at once when the module stops at the hold point. -/
def Module.stopped (m : Module) : Module := if m.ctl.mode.running then m else m.inspServe

/-- R200: after the release of the first round, APPLYING slots write; a local slot writes once the module runs. -/
def Module.holdWrites (m : Module) : Module :=
  let first := m.seq.applyRound
  let m1 := m.setSeq (fun s => { s with applyRound := false })
  let sys := if first then (List.range 16).filter (fun i => (m1.slot i).state == 5 && (m1.slot i).scope) else []
  let own := if m1.ctl.mode.running && !(m1.ctl.mode == .step && m1.ctl.stepLeft == 0) then m1.localWrites else []
  ((List.range 16).filter (fun i => sys.contains i || own.contains i)).foldl Module.startWrites m1

/-- R143: this launch is late, or waits for STITCH_SLOT. -/
def Module.lateBy (elapsed : Nat) (m : Module) : Bool :=
  m.inSystem && decide ((m.reg rStitchSlot : Int) - elapsed < m.reg rStitchGuard)

/-- R142: what every module does on a release; `elapsed` as R143 computes it. Happenings of the stitch that follows
phase 3 count for no folio (R234); those of the hold point behind it do. -/
def Module.applyRelease (t : Token) (elapsed : Nat) (m : Module) : Module :=
  let firstRound := m.seq.phase == .stitch
  let m0 := m.setSeq (fun s => { s with phase := .hold, happened := if firstRound then 0 else s.happened, effBown := if firstRound then s.effBown + 5 else s.effBown })
  if t.clkmis then m0.faultWith 0x0902 srcSteward []
  else
    let c := (t.folio + m.lead) % 2 ^ 64
    let aborting := (List.range 16).any (fun i => (m0.slot i).state == 5 && (m0.slot i).scope && t.txno.getLsbD i)
    let m1 := (((List.range 16).foldl (Module.releaseSlot t c) m0).releasePulses t c).linesAct t.trig
    let m2 := (m1.setTrig (fun g => { g with fired := 0 })).holdWrites
    if t.haltr then
      let r := m2.haltCause t
      (r.2.resumableFreeze r.1).stopped
    else if t.reqok ∧ t.target = 6 ∧ t.masters ≠ 1 ∧ m.inSystem then
      let m3 := m2.log 0x0905 srcSteward []
      { m3 with ctl := { m3.ctl with target := 0, stepn := 0 } }
    else if t.reqok ∧ t.target ≠ 0 then (m2.takeRequest t).stopped
    else if t.depart ∧ !aborting ∧ (m.ctl.mode = .paced → t.pacego) ∧ m.ctl.mode.running then
      let late := m2.lateBy elapsed
      let m3 := m2.setSeq (fun s => { s with phase := .launching, launchLate := late, waiting := false })
      if late then m3.satReg 32 rLateTokens 1 else m3
    else m2.setSeq (fun s => { s with waiting := decide (m.ctl.mode = .paced) && t.depart && !t.pacego })

/-- A release that brings no launch is followed by the next round (R140). -/
def Module.finishRelease (t : Token) (elapsed : Nat) (m : Module) : Module :=
  let m1 := m.applyRelease t elapsed
  if m1.seq.phase = .hold then m1.beginRound else m1

/-- R238: the system head masks the gathered lines with ARM, disarms one-shot lines, and sets HALTR for FREEZE lines. -/
def Module.decide_ (t : Token) (m : Module) : Token × Module :=
  let act := t.trig &&& m.trig.arm
  let one := act &&& m.lineMask 3
  ({ t with trig := act, haltr := t.haltr || (act &&& m.lineMask 4) != 0, lapns := 0 },
   m.setTrig (fun g => { g with arm := g.arm &&& ~~~one }))

/-- R140 step 3: the system head decides, sends its releases and applies them. -/
def Module.headDecides (t : Token) (m : Module) : Module :=
  let r := m.decide_ t
  let m1 := if 1 < m.disc.rings then r.2.sendPrio 11 (.token 11 { r.1 with kind := 2, members := 1 }) else r.2
  let m2 := if 1 < m.disc.ringSize then m1.sendPrio 10 (.token 10 { r.1 with kind := 3, members := 1 }) else m1
  m2.finishRelease r.1 0

end Sys2Proof.Machine
end

