-- ==== Sys2Proof/Machine/Boundary.lean ====
section
/-! DEFINITION. Machine/Boundary.lean: meanings of the boundary commands: the end of the drain with phases 2 and 3, and the
tokens of the kettle stitch (R22, R90, R106, R130, R139-R145, R231-R239, R248, R374). -/

namespace Sys2Proof.Machine

/-- MODREADY_NET_HIGH (R333, R20): at DONE with the pin released the module enters IDLE with folio count 0; its first
round begins (R140). -/
def Module.netHigh (m : Module) : Module :=
  if m.ctl.mode = .bringup ∧ m.start.startupState = 5 ∧ !m.pins.modreadyLow then
    let m1 := { m with pins := { m.pins with netHigh := true },
                       start := { m.start with startupState := 6, running := false },
                       seq := { m.seq with folio := 0, copies := List.replicate 8 0, opening := true, phase := .hold } }
    (m1.enter .idle 0).beginRound
  else m

def execModreadyNetHigh (s : State) : Host.Outcome State Fault Refusal := goOn Module.netHigh s

/-! ### Trigger evaluation (R234-R237) -/

/-- R235: TRIG_IN pin k stands at its active level. -/
def Module.pinActive (m : Module) (k : Nat) : Bool := m.pins.trigLevel.getLsbD k != bitOf (m.reg (rTrigInCfg k)) 0

/-- R235: the value of pin input k for this folio. -/
def Module.pinInput (m : Module) (k : Nat) : Bool :=
  if bitOf (m.reg (rTrigInCfg k)) 1 then m.pinActive k else m.trig.pinEdges.getLsbD k

/-- R234: the 64 inputs for folio N. -/
def Module.trigInputs (n : Nat) (m : Module) : Nat :=
  let on (k : Nat) (b : Bool) : Nat := if b then 2 ^ k else 0
  let taps := m.slotBits m.image.taps 32
  let pins := (List.range 8).foldl (fun a k => a + on (32 + k) (m.pinInput k)) 0
  let lim := m.reg rStallLimit
  let counted := m.seq.happened.toNat % 2 ^ 50 / 2 ^ 42 * 2 ^ 42 + bitsOf m.seq.happened.toNat 54 51 * 2 ^ 51
  taps + pins + on 40 (n == m.reg rFolioCmp0) + on 41 (decide (m.reg rFolioCmp1 ≤ n)) + counted
    + on 50 (lim != 0 && decide (lim < m.seq.folioStall)) + 2 ^ 55 + m.trig.act.toNat % 256 * 2 ^ 56

/-- R237: a product term over the 80 variables: bits [79:0] TRUE, [159:80] COMP. -/
def termHolds (term vars : Nat) : Bool :=
  let t := bitsOf term 79 0
  let c := bitsOf term 159 80
  t &&& vars == t && c &&& vars == 0

/-- R237: the line of macrocell k. -/
def Module.macroLine (m : Module) (terms : List Bool) (k : Nat) : Bool :=
  let sel := m.reg (rMcSelect k)
  let or_ := terms.zipIdx.any (fun e => e.1 && bitOf sel e.2)
  or_ != bitOf (m.reg (rMcCfg k)) 0

/-- R235, R237: phase 3 of the boundary of folio N. -/
def Module.evalTrigger (n : Nat) (m : Module) : Module :=
  let vars := m.trigInputs n + m.trig.fb.toNat * 2 ^ 64
  let terms := (List.range 128).map (fun t => termHolds (m.reg (rTrigTerm t)) vars)
  let lines := (List.range 16).map (m.macroLine terms)
  let val (keep : Nat → Bool) : BitVec 16 :=
    lines.zipIdx.foldl (fun a e => if e.1 && keep e.2 then a ||| BitVec.ofNat 16 (2 ^ e.2) else a) 0
  let counts := (List.range 8).map (fun k => if m.pinActive k then min 65535 (nth 0 m.trig.pinCount k + 1) else 0)
  let m1 := m.setTrig (fun g => { g with fb := val (fun k => bitOf (m.reg (rMcCfg k)) 1), fired := val (fun _ => true),
                                         pinCount := counts, pinEdges := 0 })
  (m1.setSeq (fun s => { s with happened := 0 }))

/-! ### The end of the drain (R22, R90, R106) -/

/-- R228: the deadlines of the requests of folio N start at the end of phase 1. -/
def Module.startDeadlines (n : Nat) (m : Module) : Module :=
  let chans := (m.couriers.channels.map (·.1)).filter (fun c => m.reg (rChanDeadline c) != 0 && cfgPaired (m.chanCfg c))
  chans.foldl (fun m c =>
    let ch := m.chan c
    let waiting := ((ch.requests (cfgReqw (m.chanCfg c))).filter (· == n)).length
    let taken := (ch.entries.filter (fun (e : Nat × Entry) => 1 ≤ e.2.state && e.2.state ≤ 2 && e.2.reqFolio == some n)).length
    m.setChan c { ch with deadlines := ch.deadlines ++ List.replicate (waiting + taken) n }) m

/-- R74, R248: halt requests of the folio give one HALT_POINT event and a resumable freeze, which governs CAUSE. -/
def Module.haltPoint (m : Module) : Module :=
  if m.seq.haltFirst.isNone then m else (m.logHalt.happen 43).askFreeze 0x0910

/-- R199, R200: a COMMITTED system slot of the coming folio votes in this round. -/
def Module.openApply (m : Module) : Module :=
  let due := (m.committing m.earliest).filter (fun i => (m.slot i).state == 4 && (m.slot i).scope)
  let m1 := due.foldl (fun m i => m.setSlot i { m.slot i with state := 5 }) m
  if due.isEmpty then m1 else m1.setSeq (fun s => { s with applyRound := true })

/-- R110: a stall request holds phase 1. A reply deadline or class A trace that stands since phase 1 began holds phase 7. -/
def Stall.holdsDrain (s : Stall) : Bool :=
  match s.cause with
  | .deadline _ | .traceA => decide (1 ≤ s.age)
  | _ => true

/-- R90, R106: nothing lengthens phase 1 any more: the writes of the folio are acknowledged and no stall request holds. -/
def Module.drained (m : Module) : Bool := !(m.data.memAccs.any (fun a => a.write)) && !(m.seq.stalls.any Stall.holdsDrain)

/-- Phases 1 to 3 take their 9 cycles (R106); they count in B of R186. -/
def Module.boundaryCycles (n : Nat) (m : Module) : Module :=
  ((m.statReg rBoundary n).cycles n).setSeq (fun s => { s with effB := s.effB + n, effBown := s.effBown + n })

/-- DRAIN_COMPLETE: the end of phase 1, phases 2 and 3, and the begin of the stitch. `bad` names the failing bytes of the
latch frames as (link, word, byte); DL8-DL11 carry toward H, their first-named end, direction 1 (R16, R130, R231). -/
def Module.drainComplete (bad : List (Nat × Nat × Nat)) (m : Module) : Module :=
  let m0 := m.settle
  if !(m0.ctl.mode.running ∧ m0.seq.phase = .drain) then m
  else if !m0.drained then m0
  else
    let n := m0.seq.folio
    let frame := (bad.filter (fun e => 8 ≤ e.1 && e.1 ≤ 11)).map (fun e => (e.1, e.2.1, e.2.2))
    let m1 := frame.foldl (fun m e => m.faultWith 0x0240 dieH [(5, e.1), (1, 1), (11, e.2.1), (7, e.2.2)]) (m0.boundaryCycles 9)
    if !m1.ctl.mode.running then m1
    else
      let m2 := ((m1.startDeadlines n).maskCompare n).haltPoint
      let m3 := ((m2.capRecord n).evalTrigger n).openApply
      let m4 := m3.setTrig (fun g => { g with act := 0 })
      (m4.setSeq (fun s => { s with phase := .stitch })).beginRound

def execDrainComplete (badChannels : List (Nat × Nat × Nat)) (s : State) : Host.Outcome State Fault Refusal :=
  goOn (Module.drainComplete badChannels) s

/-- STUCK_INPUT (R235): the consecutive active samples of a pin have reached STUCK_FOLIOS. -/
def Module.stuckInput (pin : Nat) (m : Module) : Module :=
  let k := pin % 8
  let v := m.reg (rTrigInCfg k)
  let lim := bitsOf v 31 16
  if lim ≠ 0 ∧ lim ≤ nth 0 m.trig.pinCount k ∧ !bitOf v 2 then
    (m.setReg (rTrigInCfg k) (v + 4)).log 0x0602 dieH [(3, k)]
  else m

def execStuckInput (pin : Nat) (s : State) : Host.Outcome State Fault Refusal := goOn (Module.stuckInput pin) s

/-! ### Tokens (R140-R145) -/

/-- A gather token that comes early waits until the module can use it; R374: one that comes during a round is heard in it. -/
def Module.holdToken (t : Token) (m : Module) : Module :=
  if m.stitches then (if m.atStitch then m.hear t else m).setSeq (fun s => { s with heldToken := some t }) else m

/-- RING_GATHER (R140 step 1): back at its ring head it is the ring's result; another module merges and forwards it. -/
def Module.ringGather (t : Token) (m : Module) : Module :=
  if !m.inSystem then m
  else if !m.atStitch then (if m.ringHead then m else m.holdToken t)
  else if m.ringHead then
    let m1 := m.hear t
    if m1.disc.rings ≤ 1 ∧ m1.sysHead then m1.headDecides t else m1.ringDone t
  else if m.seq.merged then m.holdToken t
  else ((m.hear t).setSeq (fun s => { s with merged := true })).sendPrio 10 (.token 10 (mergeTokens t (m.ownToken 0)))

/-- HEAD_GATHER (R140 step 2): back at the system head it is decided; another ring head merges its ring's result. -/
def Module.headGather (t : Token) (m : Module) : Module :=
  if !m.inSystem ∨ !m.ringHead then m
  else if !m.atStitch then m.holdToken t
  else if m.sysHead then ((m.hear t).setSeq (fun s => { s with ringResult := none })).headDecides t
  else match m.seq.ringResult with
    | some r => (m.hear t).headForward t r
    | none => m.holdToken t

/-- LAPNS of a release that leaves after `elapsed` ns (R141). -/
def lapOf (elapsed : Nat) : Nat := min elapsed 0xFFFF

/-- HEAD_RELEASE (R140 step 4, R143): a ring head forwards it, releases its ring and applies it; the system head, where it
comes back, has applied it. -/
def Module.headRelease (t : Token) (m : Module) : Module :=
  if !m.inSystem ∨ !m.ringHead ∨ m.sysHead ∨ !m.atStitch then m
  else
    let elapsed := t.lapns + m.disc.hopHead
    let m1 := m.sendPrio 11 (.token 11 { t with lapns := lapOf elapsed })
    let m2 := if 1 < m1.disc.ringSize then m1.sendPrio 10 (.token 10 { t with kind := 3, members := 1, lapns := lapOf elapsed }) else m1
    m2.finishRelease t elapsed

/-- The stitch of a module alone: five cycles inside the module (R106), its own token gathered and released. The cycles
of a round at the hold point count as hold-point cycles. -/
def Module.loneRelease (m : Module) : Module :=
  if !m.atStitch then m
  else
    let first := decide (m.seq.phase = .stitch)
    let m1 := m.cycles 5
    let m2 := if first then (m1.statReg rBoundary 5).setSeq (fun s => { s with effB := s.effB + 5 }) else m1.holdCycles 5
    let r := m2.decide_ (m2.ownToken 0)
    r.2.finishRelease r.1 0

/-- RING_RELEASE (R140 step 5, R142): forwarded and applied; the ring head that sent it drops it. -/
def Module.ringRelease (t : Token) (m : Module) : Module :=
  if !m.inSystem then m.loneRelease
  else if m.ringHead ∨ !m.atStitch ∨ !m.seq.merged then m
  else
    let elapsed := t.lapns + m.disc.hopRing
    (m.sendPrio 10 (.token 10 { t with members := t.members ||| BitVec.ofNat 16 (2 ^ m.disc.position), lapns := lapOf elapsed })).finishRelease t elapsed

/-- STEP_COMPLETE (R24, R112): after its last departure's boundary a module in STEP enters IDLE at the hold point. -/
def Module.stepDone (m : Module) : Module :=
  if m.ctl.mode = .step ∧ m.ctl.stepLeft = 0 ∧ m.seq.phase = .hold then (m.enter .idle 0).stopped else m

def execStepComplete (s : State) : Host.Outcome State Fault Refusal := goOn Module.stepDone s

/-- FREEZE_FLOOD (R145, R26, R29): forwarded once for each origin and code; the module freezes by fault where it stands. -/
def Module.freezeFlood (t : Token) (m : Module) : Module :=
  let code := t.frzcode.toNat
  if m.ctl.mode = .lockdown ∨ m.disc.floods.contains (t.frzorg, code) then m
  else match m.ctl.mode with
    | .frozen | .inspect => (m.sendFlood t.frzorg code).freezeBy id code
    | _ => m.freezeBy (fun m => m.sendFlood t.frzorg code) code

/-- R374, R421: the round kind a module was waiting in: 0 ring gather, 1 head gather, 2 head release, 3 ring release. -/
def Module.roundKind (m : Module) : Nat :=
  if m.ringHead then (if m.seq.ringResult.isSome then 1 else if m.seq.merged then 0 else 2)
  else if m.seq.merged then 3 else 0

/-- R385: the module entered LOCKDOWN in this cycle, and a round was under way. -/
def Module.lockedInRound (m : Module) : Bool :=
  decide (m.ctl.mode = .lockdown) && m.ctl.lockAt == m.seq.cycle && (m.seq.phase == .stitch || m.seq.phase == .hold)
    && (m.ctl.prev == .idle || m.ctl.prev.running)

/-- PARTITION (R373, R374): a round has outlasted the barrier timeout. In FROZEN and INSPECT the mode stays (R27); together
with a failure under the HALT policy it is logged beside it (R385). -/
def Module.partition (m : Module) : Module :=
  if m.inSystem && m.atStitch then
    let m1 := { m with stew := { m.stew with partitioned := true, partHeard := m.seq.heard } }
    match m.ctl.mode with
    | .frozen | .inspect => ((m1.log 0x0923 srcSteward [(4, m.roundKind)]).sendFlood m.disc.modnum 0x0923).freezeBy id 0x0923
    | _ => m1.faultWith 0x0923 srcSteward [(4, m.roundKind)]
  else if m.inSystem && m.lockedInRound then m.log 0x0923 srcSteward [(4, m.roundKind)]
  else m

def execPartition (s : State) : Host.Outcome State Fault Refusal := goOn Module.partition s

/-! ### Cadence (R113-R116) -/

/-- R113: a cadence event adds GRANT grants; grants above 1,023 are lost. -/
def Module.grant (m : Module) : Module :=
  let n := m.seq.grants + m.reg rPaceCfg % 256
  let m1 := m.setSeq (fun s => { s with grants := min n 1023 })
  if n ≤ 1023 then m1
  else
    let m2 := m1.happen 54
    if bitOf (m2.reg rPaceOverrun) 11 then m2 else (m2.setReg rPaceOverrun (m2.reg rPaceOverrun + 2 ^ 11)).log 0x0903 srcSteward []

/-- R113, R116: cadence events count in PACED, in the pacing master. -/
def Module.paces (m : Module) : Bool := decide (m.ctl.mode = .paced) && m.paceMaster

/-- R280: events that merge in a crossing: its bit of XOVERRUN, XMERGED, and XOVERRUN (0x0231) once per setting of the bit. -/
def Module.xmerge (crossing : Nat) (m : Module) : Module :=
  let m1 := m.satReg 32 rXmerged 1
  let v := m.reg rXoverrun
  if bitOf v crossing then m1 else (m1.setReg rXoverrun (v + 2 ^ crossing)).log 0x0231 dieH [(4, crossing)]

/-- R279, R280: an accepted cadence or TRIG_IN event crosses to the step clock on crossing 7 and acts. One that comes less
than two cycles of the step clock after the last one that crossed merges with it; the manual does not say whether it then
acts beside the other: that is free. -/
def Module.crossPtp (act : Module → Module) (m : Module) : Module :=
  let soon := match m.pins.crossed with
    | some t => decide (m.stew.up < t + 2)
    | none => false
  if soon then
    let m1 := ({ m with sec := { m.sec with freeCtr := m.sec.freeCtr + 1 } }).xmerge 7
    if (Config.openWord m.sec.freeCtr).getLsbD 0 then act m1 else m1
  else act { m with pins := { m.pins with crossed := some m.stew.up } }

/-- R114, R280: a cadence event is accepted, and crosses to the step clock. -/
def Module.cadAccept (m : Module) : Module := (m.setSeq (fun s => { s with lastCad := some m.stew.up })).crossPtp Module.grant

/-- CAD_IN_EDGE (R114): an edge less than 40 ns after the last accepted event merges into it. -/
def Module.cadInEdge (m : Module) : Module :=
  if !m.paces ∨ bitOf (m.reg rPaceCfg) 8 then m
  else match m.seq.lastCad with
    | some t => if m.stew.up < t + 40 then m.satReg 32 rCadMerged 1 else m.cadAccept
    | none => m.cadAccept

def execCadInEdge (s : State) : Host.Outcome State Fault Refusal := goOn Module.cadInEdge s

/-- R115: the time START + k * PERIOD of the next event has come. -/
def Module.ptpDue (m : Module) : Bool := decide (m.reg rCadPtpStart + m.seq.cadK * m.reg rCadPtpPeriod ≤ m.stew.now)

/-- PTP_CADENCE_EVENT (R115): taken at its time, once. -/
def Module.ptpCadence (m : Module) : Module :=
  if m.paces && bitOf (m.reg rPaceCfg) 8 && m.ptpDue then (m.setSeq (fun s => { s with cadK := s.cadK + 1 })).cadAccept else m

def execPtpCadenceEvent (s : State) : Host.Outcome State Fault Refusal := goOn Module.ptpCadence s

/-! ### Trigger pins (R103, R235, R237) -/

/-- R103: generators that an edge of a pin pulses. -/
def Module.pinPulses (pin : Nat) (rising : Bool) (m : Module) : Module :=
  let ks := (List.range 64).filter (fun k =>
    let c := sget 0 m.seq.dclkCfg k
    bitsOf c 30 29 == 2 && bitsOf c 26 24 == pin && bitOf c 28 == !rising)
  ks.foldl (fun m k => m.requestPulse k) m

/-- R103, R235: an edge of a pin acts: it counts where it leads into the active level, and pulses generators. -/
def Module.pinEdge (k : Nat) (rising : Bool) (m : Module) : Module :=
  (if m.pinActive k then m.setTrig (fun g => { g with pinEdges := g.pinEdges ||| BitVec.ofNat 8 (2 ^ k) }) else m).pinPulses k rising

/-- TRIG_IN_EDGE (R103, R235, R280): the pin has held its new level for 8 ns; its event crosses to the step clock. -/
def Module.trigInEdge (pin : Nat) (rising : Bool) (m : Module) : Module :=
  let k := pin % 8
  let bit := BitVec.ofNat 8 (2 ^ k)
  let lv := if rising then m.pins.trigLevel ||| bit else m.pins.trigLevel &&& ~~~bit
  ({ m with pins := { m.pins with trigLevel := lv } }).crossPtp (Module.pinEdge k rising)

def execTrigInEdge (pin : Nat) (rising : Bool) (s : State) : Host.Outcome State Fault Refusal :=
  goOn (Module.trigInEdge pin rising) s

/-- TRIG_CLEAR = 1 (R237): taken in IDLE and FROZEN. -/
def Module.trigClear (m : Module) : Module :=
  match m.ctl.mode with
  | .idle | .frozen => (m.setTrig (fun g => { g with fb := 0 })).answer stOK
  | _ => m.answer stRefused

def execTrigClear (s : State) : Host.Outcome State Fault Refusal := goOn (Module.planeControl Module.trigClear) s

/-! ### Efficiency window (R186) -/

/-- R186: floor(1024 x (E + S + B) / E), saturating; 0 when E = 0. -/
def effFactor (e s b : Nat) : Nat := if e = 0 then 0 else min 0xFFFF (1024 * (e + s + b) / e)

/-- EFF_WINDOW: a window of 65,536 folios ends. -/
def Module.effWindow (m : Module) : Module :=
  let q := m.seq
  if q.effFolios < 65536 then m
  else
    let f := effFactor q.effE q.effS q.effB
    let o := effFactor q.effE q.effSown q.effBown
    let m1 := m.setRegs [(rEffFactor, f), (rEffWorst, max f (m.reg rEffWorst)), (rEffOwn, o),
                         (rEffOwnWorst, max o (m.reg rEffOwnWorst))]
    m1.setSeq (fun s => { s with effE := 0, effS := 0, effB := 0, effSown := 0, effBown := 0, effFolios := 0 })

def execEffWindow (s : State) : Host.Outcome State Fault Refusal := goOn Module.effWindow s

end Sys2Proof.Machine
end

