-- ==== Sys2Proof/Machine/BundleOps.lean ====
section
/-! DEFINITION. Machine/BundleOps.lean: packet frames on a bundle: the flits that wait, the credits, and what leaves (R270,
R292, R298). -/

namespace Sys2Proof.Machine

/-- R267: credits held for a VC at the far bundle router. -/
def Bundle.credit (x : Bundle) (vc : Nat) : Nat := if vc = 1 then x.haveReq else if vc = 2 then x.haveRsp else x.haveMsg
def Bundle.spend (x : Bundle) (vc : Nat) : Bundle :=
  if vc = 1 then { x with haveReq := x.haveReq - 1 } else if vc = 2 then { x with haveRsp := x.haveRsp - 1 }
  else { x with haveMsg := x.haveMsg - 1 }

/-- R267: the VC that the bundle's output serves next: response, message, request, of those that have a flit and a credit. -/
def Bundle.nextVc (x : Bundle) : Option Nat :=
  [2, 3, 1].find? (fun vc => x.credit vc != 0 && x.txPktQ.any (fun f => f.1 == vc))

/-- R267, R298: the next packet frame is formed, by VC and PRI, while a credit is held, fewer than 64 are unacknowledged and no
new packet frame waits for its frame period. -/
def Module.pktPump (b : Nat) (m : Module) : Module :=
  let x := m.bundle b
  if !x.carries ∨ 64 ≤ x.keepPkt.length ∨ x.txq.any (fun f => f.rank == 6) then m
  else match x.nextVc with
    | none => m
    | some vc =>
      let o := orderRequests x.reqLeft x.txPktQ
      let x1 := if vc = 1 then { x with txPktQ := o.1, reqLeft := o.2 } else x
      match x1.txPktQ.find? (fun f => f.1 == vc) with
      | none => m
      | some f =>
        let y := ({ x1 with txPktQ := x1.txPktQ.erase f, reqLeft := if vc = 1 then x1.reqLeft - 1 else x1.reqLeft,
                            txPkt := (x.txPkt + 1) % 256, keepPkt := x.keepPkt ++ [(x.txPkt, f)] } : Bundle).spend vc
        (m.setBundle b y).sendFrame b { rank := 6, seq := x.txPkt, body := .packet f.1 f.2 } (.pktFrame b x.txPkt f.1 f.2)

/-- R300, R305: a bundle that is Active again sends what waited. -/
def Module.resume (b : Nat) (m : Module) : Module :=
  if (m.bundle b).carries then m.pktPump b else m

/-- R270, R305: the flits of a packet are queued on the bundle it leaves on; one in Quiet exits. -/
def Module.sendOnBundle (b : Nat) (p : Packet) (m0 : Module) : Module :=
  let m := m0.leaveQuiet b
  (m.setBundle b { m.bundle b with txPktQ := (m.bundle b).txPktQ ++ packetFlits p }).pktPump b

end Sys2Proof.Machine
end

