-- ==== Sys2Proof/Machine/Power.lean ====
section
/-! DEFINITION. Machine/Power.lean: meanings of the commands of supplies, resets and start steps (R403-R405, R117, R280,
R339, R352). -/

namespace Sys2Proof.Machine

/-- R403: a cold start begins once PORST_N is high and every supply stands, in a module that waits for it. -/
def Module.tryCold (m : Module) : Module :=
  if m.pins.porstHigh && m.pins.suppliesGood && decide (m.ctl.mode = .reset) && m.ctl.cold && !m.start.running
  then m.beginCold else m

/-- POWER_ON (R403): any mode enters RESET; the cold start begins unless PORST_N holds it. -/
def Module.powerOn (m : Module) : Module :=
  let m1 := if m.ctl.mode = .reset ∧ m.ctl.cold ∧ !m.start.running then m else m.enterColdReset 0
  ({ m1 with pins := { m1.pins with lowRails := [], suppliesGood := true } }).tryCold

def execPowerOn (s : State) : Host.Outcome State Fault Refusal := goOn Module.powerOn s

/-- R349, R352, R357: power is lost while a header or body of a sector is being written: how far it has come is free. -/
def Module.tearSector (m : Module) (k : Nat) : Module :=
  let s := m.store.sector k
  let n := m.sec.freeCtr
  let far := (Config.openWord n).toNat % 65536
  let body := if s.st = secWriting then s.body.filter (fun e => e.1 < far) else s.body.filter (fun e => far ≤ e.1)
  let hcrc := if (Config.openWord (n + 1)).toNat % 2 = 0 then s.hcrc else (Config.openWord (n + 2)).setWidth 32
  { m with store := { m.store with sectors := sset Sector.init m.store.sectors k { s with body := body, hcrc := hcrc } },
           sec := { m.sec with freeCtr := n + 3 } }

/-- R357, R404: the store loses power, or its journal is not trusted: what was under way stands as it came. -/
def Module.tearStore (m : Module) : Module :=
  let m1 := m.store.journal.foldl Module.tearSector m
  { m1 with store := { m1.store with journal := [] } }

/-- PORST_N (R404, R405): as power-on; the store's journal is not trusted (R357). -/
def Module.porstLow (m : Module) : Module :=
  let m1 := (m.enterColdReset 0).tearStore
  { m1 with pins := { m1.pins with porstHigh := false } }

def execPorstN (s : State) : Host.Outcome State Fault Refusal := goOn Module.porstLow s

/-- PORST_N_HIGH (R403). -/
def Module.porstRise (m : Module) : Module := ({ m with pins := { m.pins with porstHigh := true } }).tryCold

def execPorstNHigh (s : State) : Host.Outcome State Fault Refusal := goOn Module.porstRise s

/-- R414: some die stands at or above 110 °C. -/
def Module.hot (m : Module) : Bool := m.stew.tj.any (fun t => decide (11000 ≤ t))

/-- R28: a fault freeze of an incomplete cold start, inspected or not, which only power-on or PORST_N leaves. -/
def Module.coldStuck (m : Module) : Bool := (decide (m.ctl.mode = .frozen) || decide (m.ctl.mode = .inspect)) && m.ctl.coldOnly

/-- R405, R29, R414: a warm start can be requested by the pin. -/
def Module.warmPinOk (m : Module) : Bool :=
  !(decide (m.ctl.mode = .lockdown)) && m.pins.porstHigh && m.pins.suppliesGood && !m.hot && !m.coldStuck

def execWarmrstN (s : State) : Host.Outcome State Fault Refusal :=
  goOn (fun m => if m.warmPinOk then m.warmStart else m) s

/-- SUPPLY_FAIL (R404): rails 0-11 are the core, lane and memory supplies of R401. -/
def Module.supplyFail (rail : Nat) (m : Module) : Module :=
  if rail ≤ 11 then
    let m1 := (m.log 0x0703 srcSteward [(5, rail)]).enterColdReset 0x0703
    { m1 with pins := { m1.pins with lowRails := rail :: m1.pins.lowRails.filter (· != rail), suppliesGood := false } }
  else m

def execSupplyFail (rail : Nat) (s : State) : Host.Outcome State Fault Refusal := goOn (Module.supplyFail rail) s

/-- VSTBY_LOSS (R358, R403, R404): the island is lost: the steward with its requests, time and log ring, the mode controller,
which stands in RESET, the key unit and the entropy source, and the store's journal. VSTBY is the first supply to rise, so
the module then waits for the others, and its next start is cold and mounts the store in full. -/
def Module.vstbyLoss (m : Module) : Module :=
  let m1 := m.tearStore
  { m1 with ctl := { ModeCtl.init with prev := m.ctl.mode },
            pins := { m1.pins with suppliesGood := false, modreadyLow := true, mgtLink := 0, crossed := none },
            start := { m1.start with running := false, storeMounted := false, bistDone := false, remapLoaded := false },
            store := { m1.store with queue := [], state := 0, removals := [], readData := [], readSeq := 0 },
            sec := { Security.init with freeCtr := m1.sec.freeCtr },
            load := Load.init,
            stew := { Steward.init with chunk := m.stew.chunk } }

def execVstbyLoss (s : State) : Host.Outcome State Fault Refusal := goOn Module.vstbyLoss s

/-- HP_PERST_N (R280): crossing 3 flushes; the host's outstanding reads are discarded without an answer to it. -/
def Module.hostReset (m : Module) : Module :=
  let m1 := m.xreset 3
  { m1 with fabric := { m1.fabric with hostReads := [], tags := m1.fabric.tags.map (fun t =>
      if t.use = 1 then { t with use := 4 } else t) } }

def execHpPerstN (s : State) : Host.Outcome State Fault Refusal := goOn Module.hostReset s

/-! ### Mount (R352) -/

/-- What the mount finds in a sector: 0 kept, 1 cleared and recovered, 2 header written only, 3 body error. -/
def mountFinding (s : Sector) : Nat :=
  if !s.readable then (if s.body.isEmpty then 2 else 1)
  else if s.st = secClearing ∨ s.st = secWriting then 1
  else if s.st = secValid then (if crc32c (s.bodyBytes 0 s.len) = s.bcrc then 0 else 3)
  else 0

/-- The sector after the mount has dealt with its own finding; `w` is the greatest WEAR of a readable sector, `fails` whether
its clear fails its verify twice. -/
def mountSector (w : Nat) (fails : Bool) (s : Sector) : Sector :=
  let s1 := if s.readable then s else { s with wear := w }
  match mountFinding s with
  | 0 => s
  | 2 => Sector.sealed { Sector.init with wear := w }
  | _ => s1.clear fails

/-- R352: of two VALID copies of one record the older is cleared; with equal SEQ the lower-numbered is kept. -/
def olderCopy (t : SMap Sector) (e : Nat × Sector) : Bool :=
  e.2.st == secValid && t.any (fun f => f.1 != e.1 && f.2.st == secValid && f.2.record == e.2.record
    && (seqNewer f.2.seq e.2.seq || (f.2.seq == e.2.seq && decide (f.1 < e.1))))

/-- R365: settings held across a cold start are stored as (key, value) pairs of 4 and 40 little-endian bytes. -/
def settingPairs : Nat → List Byte → List (Nat × Nat)
  | 0, _ => []
  | n + 1, bs => if bs.length < 44 then [] else (leNat (bs.take 4), leNat ((bs.drop 4).take 40)) :: settingPairs n (bs.drop 44)

def settingsBody (kvs : List (Nat × Nat)) : List Byte := kvs.flatMap (fun e => leBytes 4 e.1 ++ leBytes 40 e.2)

/-- The register that holds the wrapped ADMIN key, 320 bits (R362, R365). -/
def rAdminWrap : Nat := ent 0x1100 0x09

/-- R337, R362: unwrap a 40-byte wrap under a key derived from the root key. -/
def unwrapKey (label : String) (context : List Byte) (wrap : Nat) : Option (BitVec 256) :=
  (kwUnwrap (kdf (keyBytes Config.rootKey) label context) (leBytes 40 wrap)).map bytesKey

/-- R346, R365: what the mounted store gives back at a cold start: MEM_POLICY and the saved settings. -/
def Module.loadSettings (m : Module) : Module :=
  let m1 := match m.store.body 0x0020 with
    | some (b :: _) => m.setReg rMemPolicy b.toNat
    | _ => m
  let m2 := (List.range 16).foldl (fun m i => match m.store.body (0x0030 + i) with
    | some bs => m.setRegs (settingPairs bs.length bs)
    | none => m) m1
  let w := m2.reg rAdminWrap
  { m2 with sec := { m2.sec with adminKey := if w = 0 then none else unwrapKey "OND8-A" [] w },
            stew := { m2.stew with active := m2.reg (ent 0x3000 0x02) % 2 } }

/-- R352: the sectors after the mount; `fails` lists those whose clear fails its verify twice. -/
def mountTable (fails : List Nat) (old : SMap Sector) : SMap Sector :=
  let w := (old.filter (fun e => e.2.readable)).foldl (fun a e => max a e.2.wear) 0
  let t1 := old.foldl (fun t e => sset Sector.init t e.1 (mountSector w (fails.contains e.1) e.2)) []
  (t1.filter (olderCopy t1)).foldl (fun t e => sset Sector.init t e.1 (e.2.clear (fails.contains e.1))) t1

/-- STORE_MOUNTED (R352): the mount acts on every sector, logs, and loads what a cold start loads from the store. The log
opens with STORE_MOUNTED, which takes SEQ 0 (R379). -/
def Module.storeMounted (fails : List Nat) (m : Module) : Module :=
  if m.start.running && !m.start.storeMounted then
    let old := m.store.sectors
    let rec1 := old.filter (fun e => mountFinding e.2 != 0)
    let t2 := mountTable fails old
    let m1 := { m with start := { m.start with storeMounted := true },
                       store := { m.store with sectors := t2, journal := [], removals := [], state := 2, recovered := rec1.length }.stated }
    let m2 := (m1.log 0x0801 srcSteward [(16, min rec1.length 0xFFFF)]).logDrain
    let m3 := rec1.foldl (fun m e =>
      let a := if mountFinding e.2 = 3 then m.logDrain.log 0x0805 srcSteward [] else m
      a.logDrain.log 0x0802 srcSteward []) m2
    let m4 := (t2.filter (fun e => e.2.st == secRetired && (sget Sector.init old e.1).st != secRetired)).foldl (fun m e =>
      m.logDrain.log 0x0803 srcSteward [(12, e.1), (32, e.2.wear)]) m3
    let m5 := m4.endZeroise
    if m.ctl.cold then m5.loadSettings.storePump else m5.storePump
  else m

def execStoreMounted (fails : List Nat) (s : State) : Host.Outcome State Fault Refusal := goOn (Module.storeMounted fails) s

/-! ### Built-in test and spare remap load (R59, R117, R398) -/

/-- R59: the 4,096 entries of a stored remap table. -/
def remapEntries : Nat → Nat → List Byte → SMap (BitVec 32)
  | 0, _, _ => []
  | n + 1, g, bs =>
    let e := BitVec.ofNat 32 (leNat (bs.take 4))
    if e = 0 then remapEntries n (g + 1) (bs.drop 4) else (g, e) :: remapEntries n (g + 1) (bs.drop 4)

/-- R59: the CRC-32C after the 16 KiB passes. -/
def remapGood (bs : List Byte) : Bool := (crc32c (bs.take 16384)).toNat == leNat ((bs.drop 16384).take 4)

/-- R59: the primary when its CRC passes, the copy otherwise. -/
def Store.remap (st : Store) : SMap (BitVec 32) :=
  match st.body 0x0001 with
  | some bs => if remapGood bs then remapEntries 4096 0 bs else remapEntries 4096 0 ((st.body 0x0002).getD [])
  | none => remapEntries 4096 0 ((st.body 0x0002).getD [])

/-- BIST_COMPLETE (R117): the built-in test of a cold start ends, and the spare remap load follows. -/
def Module.bistComplete (dies : List BistDie) (m : Module) : Module :=
  if m.start.running && m.ctl.cold && m.start.storeMounted && !m.start.bistDone then
    let t := m.store.remap
    let pass := (dies.zipIdx.filter (fun e => !e.1.outsideSpares)).foldl (fun a e => a ||| BitVec.ofNat 8 (2 ^ e.2)) 0#8
    ({ m with start := { m.start with bistDone := true, remapLoaded := true, remapInForce := t, remapStored := t,
                                      bistRun := true, bistPass := pass,
                                      bistFails := dies.map (fun (d : BistDie) => min d.fails (2 ^ 32 - 1)) },
              stew := { m.stew with remapPending := false } }).recountEligible
  else m

def execBistComplete (dies : List BistDie) (s : State) : Host.Outcome State Fault Refusal := goOn (Module.bistComplete dies) s

/-- PLL_LOCK (R117, R24): the RESET start steps end and the module enters LOAD. -/
def Module.pllLock (m : Module) : Module :=
  if decide (m.ctl.mode = .reset) && m.start.running && m.start.storeMounted && m.start.bistDone && m.start.remapLoaded then
    ({ m with start := { m.start with pllLocked := true } }).enterLoad
  else m

def execPllLock (s : State) : Host.Outcome State Fault Refusal := goOn Module.pllLock s

end Sys2Proof.Machine
end

