-- ==== Sys2Proof/Machine/Load.lean ====
section
/-! DEFINITION. Machine/Load.lean: meanings of stream delivery and of the passes over the staging area (R312-R328). -/

namespace Sys2Proof.Machine

/-- R337: a binding-key slot is occupied: its record is stored or being stored. -/
def Module.keySlot (m : Module) (i : Nat) : Bool :=
  m.store.queue.any (fun q => q.1 == 0x0010 + i)
    || !m.store.removals.contains (0x0010 + i) && m.store.sectors.any (fun e => e.2.record == 0x0010 + i && (e.2.st == secValid || e.2.st == secWriting) && e.2.readable)

/-- R317, R337: unwrap the binding key of a slot. -/
def Module.bindingKey (m : Module) (i : Nat) : Option (BitVec 256) :=
  match m.store.body (0x0010 + i) with
  | some bs => unwrapKey "OND8-W" [BitVec.ofNat 8 i] (leNat bs)
  | none => none

/-- R314: the header check; the code of the first rule broken. -/
def Module.headerCheck (m : Module) (h : Nat) : Option Nat :=
  if hdrMagic h ≠ 0x46593843 ∨ hdrFormat h ≠ 1 ∨ bitsOf h 925 920 ≠ 0 ∨ bitsOf h 607 0 ≠ 0 then some 0x1A01
  else if hdrVendor h ≠ 0x0F2D ∨ hdrPart h ≠ 0xC008 then some 0x1A02
  else if hdrMinStepping h > Config.stepping ∨ hdrMinStepping h > hdrStepping h then some 0x1A03
  else if (if hdrNode h then !(Config.is64S && decide (hdrUid h = Config.uid.toNat)) else hdrUid h != 0) then some 0x1A04
  else if hdrEnc h && (15 < hdrKeyslot h || !m.keySlot (hdrKeyslot h)) then some 0x1A05
  else if !hdrEnc h && (m.reg rLoadPurpose == 0 || hdrKeyslot h != 0 || hdrNonce h != 0) then some 0x1A06
  else if hdrSections h < 1 ∨ 4096 < hdrSections h ∨ hdrStreamLen h % 64 ≠ 0
      ∨ hdrStreamLen h < 128 + 32 * hdrSections h + 64 ∨ 2 ^ 34 < hdrStreamLen h then some 0x1A07
  else none

/-- R183: LOAD_RESULT. -/
def loadResult (code ty inst : Nat) : Nat := code * 2 ^ 48 + ty * 2 ^ 32 + inst * 2 ^ 16

/-- R24, R323: a stream is rejected with a check code, the LOAD to LOAD transition; the module waits for the next stream. -/
def Module.rejectStream (code ty inst off : Nat) (m : Module) : Module :=
  let m1 := ((m.log 0x0101 srcSteward []).enter .load 0x0101).setRegs [(rLoadResult, loadResult code ty inst), (rLoadFailOffset, off)]
  { m1 with load := { m1.load with state := 0, pass := 0, blocks := [], waitEntropy := none, held := [] },
            sec := { m1.sec with engineKey := none } }

/-- The STREAM_LEN of the accepted header. -/
def Module.streamLen (m : Module) : Nat := hdrStreamLen m.load.header.toNat

/-- R320, R341, R342: a block is held and LOAD_OFFSET advances; its bytes are written once no epoch change of STAGE runs. A
block that is sent again lies on sectors that are checked ahead of their write; where a check fails under the ALARM policy
nothing is written and the request is answered REFUSED (DESIGN CHOICE: R347 names no outcome for LOAD_DATA). -/
def Module.holdBlock (off : Nat) (block : List Byte) (m : Module) : Module :=
  let held (m : Module) : Module :=
    ({ m with load := { m.load with blocks := sset 0 m.load.blocks (off / 32768) block.length } }.setReg rLoadOffset
      (off + block.length)).answer stOK
  if m.load.epochStage then held { m with load := { m.load with held := m.load.held ++ [(off, block)] } }
  else
    let r := m.writeChecked off block m.epEngine
    if r.1 then held r.2 else if r.2.ctl.mode = .lockdown then r.2.answer stMode else r.2.answer stRefused

/-- R341: the blocks that waited for the epoch change of STAGE are written. -/
def Module.writeHeld (m : Module) : Module :=
  { m with load := { m.load with held := [] },
           hbm := m.load.held.foldl (fun (h : Hbm) (e : Nat × List Byte) => h.write m.nodeKeys e.1 e.2) m.hbm }

/-- EPOCH_CHANGE_DONE (R341): the engines hold the secret that was drawn at the start of the change; a change that waits for
the entropy pool (R339) has none yet. -/
def Module.epochDone (design : Bool) (m : Module) : Module :=
  match if design then m.sec.newDesign else m.sec.newStage with
  | none => m
  | some k =>
    if design then { m with sec := { m.sec with designSecret := some k, newDesign := none },
                            load := { m.load with epochDesign := false } }
    else { m with sec := { m.sec with stageSecret := some k, newStage := none },
                  load := { m.load with epochStage := false } }.writeHeld

def execEpochChangeDone (design : Bool) (s : State) : Host.Outcome State Fault Refusal := goOn (Module.epochDone design) s

/-- R320, R327, R341: a header is accepted: the staged image is discarded, the STAGE epoch changes, the block is held. -/
def Module.acceptHeader (h : Nat) (block : List Byte) (m : Module) : Module :=
  let m1 := (m.discardStaged 5).beginEpoch false
  let m2 := { m1 with load := { m1.load with state := 1, header := BitVec.ofNat 1024 h, blocks := [], held := [],
                                             comparing := false, waitEntropy := none } }
  let m3 := m2.holdBlock 0 block
  if hdrStepping h ≠ Config.stepping then m3.log 0x0102 srcSteward [] else m3

/-- R320: the block at offset 0 in state 0. -/
def Module.firstBlock (block : List Byte) (m : Module) : Module :=
  let h := leNat (block.take 128)
  let n := block.length
  match m.headerCheck h with
  | some code =>
    if 128 ≤ n ∧ (n = 32768 ∨ n = hdrStreamLen h) then (m.rejectStream code 0 0 0).answer stOK else m.answer stRefused
  | none =>
    if (n = 32768 ∧ n ≤ hdrStreamLen h) ∨ n = hdrStreamLen h then
      if m.sec.trngReady then m.acceptHeader h block
      else ({ m with load := { m.load with waitEntropy := some block } }).answer stPending
    else m.answer stRefused

/-- LOAD_DATA (R319, R320). -/
def Module.loadData (block : List Byte) (m : Module) : Module :=
  let off := m.reg rLoadOffset
  let n := block.length
  if m.ctl.mode ≠ .load ∨ m.load.waitEntropy.isSome then m.answer stRefused
  else if m.load.state = 0 then (if off = 0 then m.firstBlock block else m.answer stRefused)
  else if m.load.state = 1 ∧ off % 32768 = 0 ∧ off < m.streamLen ∧ (off + n = m.streamLen ∨ (n = 32768 ∧ off + n ≤ m.streamLen)) ∧ n ≤ 32768 ∧ 1 ≤ n
  then m.holdBlock off block
  else m.answer stRefused

def execLoadData (block : List Byte) (s : State) : Host.Outcome State Fault Refusal :=
  goOn (Module.planeControl (Module.loadData block)) s

/-- ENTROPY_FILL_DONE (R339): TRNG_READY; the DRBG is seeded, or reseeded after a flush; a header that waits is taken. -/
def Module.entropyFill (m : Module) : Module :=
  let m1 := ((({ m with sec := { m.sec with trngReady := true } }).drbgSeed (decide (m.sec.drbgV = 0))).drawEpoch false).drawEpoch true
  match m1.load.waitEntropy with
  | some block => ({ m1 with load := { m1.load with waitEntropy := none } }).firstBlock block
  | none => m1

/-- LOAD_GO = 1 (R320, R322): the passes start; with ENC = 1 the binding key is unwrapped in the engine (R337). -/
def Module.loadVerify (m : Module) : Module :=
  if m.ctl.mode = .load ∧ m.load.state = 1 then
    let h := m.load.header.toNat
    ({ m with load := { m.load with state := 2, pass := 1 },
              sec := { m.sec with engineKey := if hdrEnc h then m.bindingKey (hdrKeyslot h) else none } }).answer stOK
  else m.answer stRefused

def execLoadGoVerify (s : State) : Host.Outcome State Fault Refusal :=
  goOn (Module.planeControl Module.loadVerify) s

/-- LOAD_GO = 2 (R320): accepted in states 0 and 1; every block held is discarded. -/
def Module.loadAbandon (m : Module) : Module :=
  if m.ctl.mode = .load ∧ m.load.state ≤ 1 then
    ({ m with load := { m.load with state := 0, blocks := [], waitEntropy := none, held := [] } }).answer stOK
  else m.answer stRefused

def execLoadGoAbandon (s : State) : Host.Outcome State Fault Refusal :=
  goOn (Module.planeControl Module.loadAbandon) s

/-- STAGE_DISCARD = 1 (R327): in every mode except LOCKDOWN; after any repair in progress. -/
def Module.stageDiscard (m : Module) : Module :=
  let repairing := m.seq.stalls.any (fun s => match s.cause with
    | .repair _ _ _ => true
    | _ => false)
  if repairing then ({ m with load := { m.load with discardWait := true } }).answer stOK
  else (m.discardStaged 0).answer stOK

def execStageDiscard (s : State) : Host.Outcome State Fault Refusal :=
  goOn (Module.planeControl Module.stageDiscard) s

/-! ### Passes (R322) -/

/-- R323, R182: pass 4 or 5 rejects with a code; IMAGE_REJECTED is logged. An image whose programming had begun is not in
force (R28). -/
def Module.rejectImage (code ty inst off count : Nat) (m : Module) : Module :=
  let m1 := ((m.log 0x0110 srcSteward [(16, code)]).enter .load 0x0110).setRegs
    [(rLoadResult, loadResult code ty inst), (rLoadFailOffset, off % 2 ^ 32), (rLoadFailCount, min count (2 ^ 32 - 1))]
  { m1 with load := { m1.load with state := 0, pass := 0, blocks := [] },
            image := if m.load.pass = 5 then Image.none_ else m1.image }

/-- R274, R323, R341, R347: a pass reads the staging area, once its epoch change has ended and it has a tag; a failed check under ALARM rejects the
stream with ST_CRC. -/
def Module.passRead (chk : SectorCheck) (k : Module → Module) (m : Module) : Module :=
  if m.load.epochStage ∨ m.tagsOut m.epEngine then m
  else
  let r := m.readSectors chk (sectorsIn 0 (max 64 m.streamLen)) m.epEngine
  if r.1 then k r.2
  else if r.2.ctl.mode = .lockdown then r.2
  else if r.2.load.pass ≤ 3 then r.2.rejectStream 0x1A0B 0 0 0
  else r.2.rejectImage 0x1A0B 0 0 0 1

/-- R322: every byte below STREAM_LEN is held. -/
def Module.complete (m : Module) : Bool :=
  let n := m.streamLen
  (List.range ((n + 32767) / 32768)).all (fun i => sget 0 m.load.blocks i == min 32768 (n - 32768 * i))

/-- R318, R12: MAGIC of the colophon of a stream of n bytes differs, a reserved bit is set, or TAG is nonzero with
ENC = 0. -/
def Module.colophonBad (m : Module) (n : Nat) : Bool :=
  readLe m.hbm.bytes (n - 4) 4 != 0x46434F4C || readLe m.hbm.bytes (n - 60) 8 != 0
    || (!hdrEnc m.stagedHeader && readLe m.hbm.bytes (n - 52) 48 != 0)

/-- Pass 1 (R316, R318). -/
def Module.pass1 (m : Module) : Module :=
  let n := m.streamLen
  let pos0 := pad64 (128 + 32 * hdrSections m.stagedHeader)
  if !m.complete then m.rejectStream 0x1A08 0 0 0
  else match tableBad n pos0 0 none m.table with
    | some i => let e := m.tabEntry i
                m.rejectStream 0x1A09 e.ty e.inst i
    | none =>
      if m.colophonBad n then m.rejectStream 0x1A0A 0 0 0
      else { m with load := { m.load with pass := 2 } }

def execCompletenessCheckDone (chk : SectorCheck) (s : State) : Host.Outcome State Fault Refusal :=
  goOn (fun m => if m.load.pass = 1 then m.passRead chk Module.pass1 else m) s

/-- Pass 2 (R318): the CRC, then with ENC = 1 the tag. -/
def Module.pass2 (m : Module) : Module :=
  let n := m.streamLen
  let body := readBytes m.hbm.bytes 0 (n - 64)
  let col := readBytes m.hbm.bytes (n - 64) 64
  let h := readBytes m.hbm.bytes 0 128
  let tagBad := match m.sec.engineKey with
    | some b => decide (hmac384 (kdf (keyBytes b) "OND8-M" h) body ≠ (col.drop 12).take 48)
    | none => true
  if (crc32c (body ++ col.drop 4)).toNat ≠ leNat (col.take 4) then m.rejectStream 0x1A0B 0 0 0
  else if hdrEnc m.stagedHeader && tagBad then m.rejectStream 0x1A0C 0 0 0
  else { m with load := { m.load with state := 3, pass := 3 } }

def execCrcCheckDone (chk : SectorCheck) (s : State) : Host.Outcome State Fault Refusal :=
  goOn (fun m => if m.load.pass = 2 then m.passRead chk Module.pass2 else m) s

/-- R317: the sections in plaintext with their digests, under the rolling key; with ENC = 0 as they are. -/
def decryptSects (mem : SMap Byte) (nonce : List Byte) : Option (List Byte) → List TabEntry → List (Nat × List Byte × List Byte)
  | _, [] => []
  | key, e :: t =>
    let c := readBytes mem e.offset e.len
    let p := match key with
      | some k => ctrSection k nonce c
      | none => c
    let d := sha384 p
    (e.offset, p, d) :: decryptSects mem nonce (key.map (fun k => kdf k "OND8-R" d)) t

/-- R325: STAGE_DIGEST of a staging area in plaintext. -/
def Module.stageDigest (m : Module) (digests : List (List Byte)) : BitVec 384 :=
  let n := 128 + 32 * hdrSections m.stagedHeader
  BitVec.ofNat 384 (beNat (sha384 (readBytes m.hbm.bytes 0 n ++ digests.flatten)))

/-- Pass 3 (R317, R325): the engine's key is erased when it ends (R337). -/
def Module.pass3 (m : Module) : Module :=
  let hb := readBytes m.hbm.bytes 0 128
  let key := m.sec.engineKey.map (fun b => kdf (keyBytes b) "OND8-S" hb)
  let ps : List (Nat × List Byte × List Byte) := decryptSects m.hbm.bytes ((hb.drop 76).take 12) key m.table
  let m1 := { m with hbm := ps.foldl (fun (h : Hbm) (e : Nat × List Byte × List Byte) => h.write m.nodeKeys e.1 e.2.1) m.hbm }
  { m1 with load := { m1.load with state := 4, pass := 4, newDigest := m1.stageDigest (ps.map (·.2.2)) },
            sec := { m1.sec with engineKey := none } }

def execDecryptionDone (chk : SectorCheck) (s : State) : Host.Outcome State Fault Refusal :=
  goOn (fun m => if m.load.pass = 3 then m.passRead chk Module.pass3 else m) s

/-- Pass 4 (R182, R183): the image is rejected whole, or pass 5 starts with a new DESIGN epoch (R322, R341). -/
def Module.pass4 (m : Module) : Module :=
  let fs := m.imageFails m.readImage
  match firstFail fs with
  | some f =>
    m.rejectImage f.code f.ty f.inst f.off fs.length
  | none =>
    let m1 := (m.setRegs [(rLoadResult, 0), (rLoadFailOffset, 0), (rLoadFailCount, 0)]).beginEpoch true
    { m1 with load := { m1.load with state := 5, pass := 5 } }

def execImageChecksDone (chk : SectorCheck) (s : State) : Host.Outcome State Fault Refusal :=
  goOn (fun m => if m.load.pass = 4 then m.passRead chk Module.pass4 else m) s

/-- Pass 5 ends (R322): the image is staged and in force, and the module enters BRINGUP. -/
def Module.pass5 (m : Module) : Module :=
  let m1 := m.programImage
  let m2 := { m1 with load := { m1.load with state := 6, pass := 0, staged := true, digest := m.load.newDigest,
                                             stewardDigest := m.load.newDigest } }
  let m3 := m2.log 0x0103 srcSteward []
  (if m3.image.plain then m3.log 0x0108 srcSteward [] else m3).enterBringup

def execProgrammingDone (chk : SectorCheck) (s : State) : Host.Outcome State Fault Refusal :=
  goOn (fun m => if m.load.pass = 5 ∧ !m.load.epochDesign then m.passRead chk Module.pass5 else m) s

/-! ### Warm start (R328) -/

/-- R213, R215, R25: what a warm start that reuses the image rewrites before BRINGUP: every bank that serves a quarter and
was filled by a tip-in, the couriers' memories, and the built-in tip-ins. -/
def Module.reuseImage (m : Module) : Module :=
  let img := m.readImage
  let serving := m.data.fill.filterMap (fun e =>
    ((List.range 4).find? (fun q => bankOf m.data (e.1 / 5) q == e.1 % 5)).map (fun q => (e.1 / 5, q, e.1 % 5)))
  let d := serving.foldl (fun d e => rewriteBank img e.1 e.2.1 e.2.2 d) m.data
  ({ m with data := { d with shadow := [], fill := [], builtinIm := none }, couriers := { m.couriers with mem := img.courier } }).enterBringup

/-- STAGE_DIGEST_CHECK_DONE (R328). A failed sector check under ALARM counts as a mismatch (R347). -/
def Module.digestCheck (chk : SectorCheck) (m : Module) : Module :=
  let r := m.readSectors chk (sectorsIn 0 (max 64 m.streamLen)) m.epEngine
  let m1 : Module := { r.2 with load := { r.2.load with comparing := false } }
  if m1.ctl.mode = .lockdown then m1
  else
    let ps := decryptSects m1.hbm.bytes [] none m1.table
    if r.1 ∧ m1.stageDigest (ps.map (·.2.2)) = m1.load.stewardDigest then m1.reuseImage
    else (m1.log 0x0104 srcSteward []).discardStaged 3

def execStageDigestCheckDone (chk : SectorCheck) (s : State) : Host.Outcome State Fault Refusal :=
  goOn (fun m => if m.load.comparing ∧ m.ctl.mode = .load ∧ !m.tagsOut m.epEngine then m.digestCheck chk else m) s

end Sys2Proof.Machine
end

