-- ==== Sys2Proof/Machine/Training.lean ====
section
/-! DEFINITION. Machine/Training.lean: meanings of lane training, ring discovery and the start-up sequence (R300-R304,
R331-R333, R185). -/

namespace Sys2Proof.Machine

/-- The lanes of a bundle, eight each. -/
def lanesOf (b : Nat) : List Nat := (List.range 8).map (8 * b + ·)

/-- R310: RATE of a bundle. -/
def Module.bundleRate (m : Module) (b : Nat) : Nat := bitsOf (m.reg (rBundleCfg b)) 11 10

/-- R302: a full training of every lane of a bundle begins at DETECT. -/
def Module.retrain (b : Nat) (m : Module) : Module :=
  let m1 := (lanesOf b).foldl (fun m l => m.setLane l { (m.lane l).train with errAt := [] }) m
  m1.setBundle b { m1.bundle b with pstate := 3, retraining := true }

/-- R302: the training of a bundle ends when none of its lanes trains: Active with a trained lane, UNCABLED and Off when
no lane detected a far end, otherwise down. -/
def Module.bundleTrained (b : Nat) (m : Module) : Module :=
  let ls := (lanesOf b).map m.lane
  if ls.any (fun l => l.phase.isSome) then m
  else
    let x := { m.bundle b with retraining := false }
    let m1 := if ls.any (·.trained) then (m.setBundle b { x with pstate := 0 }).resume b
              else if ls.all (·.noFar) then m.setBundle b { x with state := 2, pstate := 2 }
              else m.setBundle b { x with state := 0, pstate := 0 }
    m1.trainingOver

/-- R302: the phase after a passed one; EQ runs at 64 Gbit/s only. -/
def nextPhase (rate : Nat) : TrainPhase → Option TrainPhase
  | .detect => some .lock
  | .lock => some .align
  | .align => some (if rate = 0 then .eq else .verify)
  | .eq => some .verify
  | .verify => none

/-- R301: PHASE codes of a training symbol. -/
def phaseCode : TrainPhase → Nat
  | .align => 1
  | .eq => 2
  | .verify => 3
  | _ => 0

/-- R302: the 1010 pattern of LOCK, the first bit a one. -/
def lockPattern : BitVec 529 := BitVec.ofNat 529 ((2 ^ 530 - 1) / 3)

/-- R301, R302: a lane repeats from here the 1010 pattern in LOCK, and from ALIGN on the training symbol of its phase, which in
VERIFY the IDLE frames follow. The steps that EQ asks the far transmitter for are measured: free values. MODULE is known once
discovery is done. -/
def Module.sendSymbol (lane : Nat) (p : TrainPhase) (m : Module) : Module :=
  let n := (Config.openWord m.sec.freeCtr).toNat
  let eq := decide (p = .eq)
  let known := if m.disc.state = 2 ∨ !m.inSystem then some m.disc.modnum else none
  let s := symbolOf lane known (phaseCode p) (m.bundleRate (lane / 8)) (if eq then n else 0) (if eq then n / 16 else 0)
  if p = .lock then m.send (.pad lane (.pattern lockPattern))
  else if phaseCode p = 0 then m
  else ({ m with sec := { m.sec with freeCtr := m.sec.freeCtr + b2n eq } }).send (.symbol lane s)

/-- R302: LANE and RATE that the far end reports agree. -/
def Module.farAgrees (m : Module) (lane : Nat) (x : Lane) : Bool :=
  x.farRate == some (m.bundleRate (lane / 8)) && x.farLane % 8 == lane % 8

/-- R288, R300, R302: a lane has passed VERIFY: both scramblers are seeded, the bundle is up, and BUNDLE_UP is logged for the
first lane of a retrain. -/
def Module.laneUp (lane : Nat) (x : Lane) (m : Module) : Module :=
  let b := lane / 8
  let m1 := m.setLane lane { x with phase := none, trained := true, failed := false, good := 0, scr := scrSeed lane, rxScr := scrSeed x.farLane }
  let m2 := m1.setBundle b { m1.bundle b with state := 1, retraining := false, busyAt := m1.seq.cycle }
  (if (m.bundle b).retraining then m2.log 0x0303 (if b < 10 then dieL0 else dieL1) [] else m2).bundleTrained b

/-- TRAINING_PHASE_DONE (R302): in ALIGN the symbol that has come must be whole, and its LANE and RATE must agree. In VERIFY it
is the last of 1,024 good frames, for those that no LANE_IDLE has brought one by one (DEDUCED); the manual seeds the scramblers
after training only, and the frames of VERIFY are scrambled from the same seeds (DESIGN CHOICE). -/
def Module.phaseDone (lane : Nat) (symbol : BitVec 128) (m : Module) : Module :=
  let x := m.lane lane
  match x.phase with
  | none => m
  | some p =>
    let heard := decide (p = .align) && symbolOk symbol
    let x1 : Lane := { x with noFar := x.noFar && p != .detect, farLane := if heard then symbolLane symbol else x.farLane,
                              farRate := if heard then some (symbolRate symbol) else x.farRate }
    if p = .align ∧ !(heard && m.farAgrees lane x1) then m.setLane lane x1
    else match nextPhase (m.bundleRate (lane / 8)) p with
      | some q => (m.setLane lane (if q = .verify then { x1 with phase := some q, scr := scrSeed lane, rxScr := scrSeed x1.farLane }
                                   else { x1 with phase := some q })).sendSymbol lane q
      | none => m.laneUp lane x1

def execTrainingPhaseDone (lane : Nat) (symbol : BitVec 128) (s : State) : Host.Outcome State Fault Refusal :=
  goOn (Module.phaseDone lane symbol) s

/-- R302, R421: reason of LANE_FAILED: 2 MISWIRE or 3 RATE where the far end's symbol says so in ALIGN, else 1 TRAIN. -/
def Module.trainReason (m : Module) (lane : Nat) (x : Lane) : Nat :=
  if x.phase ≠ some .align ∨ x.farRate = none then 1
  else if x.farLane % 8 ≠ lane % 8 then 2
  else if x.farRate ≠ some (m.bundleRate (lane / 8)) then 3
  else 1

/-- TRAINING_LIMIT_EXPIRY (R302): the lane restarts at DETECT; after three attempts it is FAILED. -/
def Module.limitExpiry (lane : Nat) (m : Module) : Module :=
  let x := m.lane lane
  match x.phase with
  | none => m
  | some _ =>
    if x.attempts + 1 < 3 then m.setLane lane { x with phase := some .detect, attempts := x.attempts + 1, good := 0, farRate := none }
    else
      let b := lane / 8
      let m1 := m.setLane lane { x with phase := none, attempts := 3, failed := true, trained := false }
      (m1.log 0x0301 (if b < 10 then dieL0 else dieL1) [(4, m.trainReason lane x)]).bundleTrained b

def execTrainingLimitExpiry (lane : Nat) (s : State) : Host.Outcome State Fault Refusal :=
  goOn (Module.limitExpiry lane) s

/-! ### Discovery (R304) -/

/-- R304: a place in a ring gives the module number. -/
def Module.takePlace (ring pos : Nat) (m : Module) : Module :=
  { m with disc := { m.disc with ring := ring, position := pos, modnum := ring * 16 + pos, state := 1 } }

/-- R185: a mismatch is logged once in a start and holds MODREADY_N. -/
def Module.mismatch (m : Module) : Module :=
  if m.start.sysMismatch then m
  else ({ m with start := { m.start with sysMismatch := true } }).log 0x0111 srcSteward []

/-- R304, R333: discovery fails; MODREADY_N is never released. -/
def Module.discoveryFail (m : Module) : Module :=
  let m1 := { m with disc := { m.disc with state := 3 },
                     start := { m.start with discFail := true } }
  (m1.log 0x0310 srcSteward []).advanceStartup

/-- R303, R309: discovery runs in BRINGUP after lane training, or again in LINKSVC. -/
def Module.discovering (m : Module) : Bool :=
  m.inSystem && (decide (m.ctl.mode = .bringup) && m.start.lanesTrained || decide (m.ctl.mode = .linksvc)) && m.disc.state != 3

/-- R304: this module has sent the RING_DISC of a ring and it has not come back. -/
def Module.ringOpen (m : Module) (ring : Nat) : Bool :=
  m.disc.state == 1 && m.disc.position == 0 && m.disc.ring == ring && m.disc.modnum == ring * 16 && m.disc.ringSize == 0

/-- RING_DISC (R304 steps 1 to 3): back at its originator; at another module whose image has MODNUM 0x00 discovery fails; any
other module takes its place and forwards it. -/
def Module.ringDisc (ring count : Nat) (m : Module) : Module :=
  if !m.discovering then m
  else if m.image.modnum = 0 then (if ring = 0 ∧ m.ringOpen 0 then m.ringBack (count + 1) else m.discoveryFail)
  else if ring ≠ 0 ∧ m.ringOpen ring then m.ringBack (count + 1)
  else ((m.takePlace ring (count + 1)).sendPrio 10 (.disc 10 0 ring (count + 1))).sendIdents

/-- HEAD_DISC (R304 step 3): back at the system head its RING is the number of rings. -/
def Module.headDisc (ring : Nat) (m : Module) : Module :=
  if !m.discovering then m
  else if m.image.modnum = 0 then ({ m with disc := { m.disc with rings := ring } }).sendIdents
  else ((m.takePlace ring 0).openRing ring).sendIdents

/-- The neighbours of a module in the ADJ records held. -/
def Disc.nbrs (d : Disc) (n : Nat) : List Nat := (sget [] d.adjs n).filterMap id

/-- Distances from a set of modules, breadth first. -/
def bfs (d : Disc) : Nat → Nat → List Nat → List (Nat × Nat) → List (Nat × Nat)
  | 0, _, _, acc => acc
  | fuel + 1, dist, frontier, acc =>
    let new := (frontier.flatMap d.nbrs).eraseDups.filter (fun n => !(acc.any (fun e => e.1 == n)))
    if new.isEmpty then acc else bfs d fuel (dist + 1) new (acc ++ new.map (fun n => (n, dist + 1)))

/-- R304: the first bundle of a shortest path to `dst`: by distance, then neighbour number, then bundle. -/
def Module.routeTo (m : Module) (dst : Nat) : Option Nat :=
  let dist := bfs m.disc 256 0 [dst] [(dst, 0)]
  let cands := (List.range 20).filterMap (fun b => match (m.bundle b).nbr with
    | some n => (sfind dist n).map (fun k => (k, n, b))
    | none => none)
  (cands.foldl (fun (best : Option (Nat × Nat × Nat)) c => match best with
    | none => some c
    | some x => if c.1 < x.1 ∨ (c.1 = x.1 ∧ c.2.1 < x.2.1) then some c else best) none).map (fun c => c.2.2)

/-- R304: every module's ADJ is held: each neighbour named is described too. -/
def Disc.adjClosed (d : Disc) : Bool :=
  d.adjs.all (fun e => (e.2.filterMap id).all (fun n => (sfind d.adjs n).isSome))

/-- R146: the stitch is calibrated: the greatest elapsed time is a measurement, a free value here; twice the guard is
added and the sum is rounded up to 8 ns. -/
def Module.calibrate (m : Module) : Module :=
  let e := (Config.openWord m.sec.freeCtr).toNat % 65536
  ({ m with sec := { m.sec with freeCtr := m.sec.freeCtr + 1 } }).setReg rStitchSlot ((e + 2 * m.reg rStitchGuard + 7) / 8 * 8)

/-- R146, R199, R373: what the system head distributes at BRINGUP reaches this module by a way that the manual does not give:
the values of STITCH_SLOT, a multiple of 8 ns, of TXN_LEAD, 2 to 65,535, and of BARRIER_TIMEOUT, 100 to 1,000,000, are free. -/
def Module.distributed (m : Module) : Module :=
  let slot := (Config.openWord m.sec.freeCtr).toNat % 2 ^ 32 / 8 * 8
  let lead := 2 + (Config.openWord (m.sec.freeCtr + 1)).toNat % 65534
  let limit := 100 + (Config.openWord (m.sec.freeCtr + 2)).toNat % 999901
  ({ m with sec := { m.sec with freeCtr := m.sec.freeCtr + 3 } }).setRegs
    [(rStitchSlot, slot), (rTxnLead, lead), (rBarrier, limit)]

/-- R309: in LINKSVC only STITCH_SLOT is set again. -/
def Module.newSlot (m : Module) : Module :=
  let slot := (Config.openWord m.sec.freeCtr).toNat % 2 ^ 32 / 8 * 8
  ({ m with sec := { m.sec with freeCtr := m.sec.freeCtr + 1 } }).setReg rStitchSlot slot

/-- R304, R146: the hops are measured: discovery is done. -/
def Module.discoveryDone (m : Module) : Module :=
  let m1 := { m with disc := { m.disc with state := 2 } }
  (if m1.sysHead then m1.calibrate else if m1.ctl.mode = .linksvc then m1.newSlot else m1.distributed).advanceStartup

/-- R304 step 5, R287: ECHO_REQ on bundle 0 where the ring has another module, and a ring head's on bundle 1 where there is
another ring. -/
def Module.sendEchoes (m : Module) : Module :=
  let bs := (if 1 < m.disc.ringSize then [0] else []) ++ (if m.ringHead ∧ 1 < m.disc.rings then [1] else [])
  let m1 := bs.foldl (fun m b => m.sendPrio b (.echoReq b)) { m with disc := { m.disc with echoOut := bs } }
  if bs.isEmpty then m1.discoveryDone else m1

/-- R304 step 4, R185: once every ADJ is held: MODULES and MODNUM are compared, MODROUTE is written, hops are measured. -/
def Module.adjDone (m : Module) : Module :=
  let mods := m.disc.adjs.map (·.1)
  let rings := (mods.map (· / 16)).foldl max 0 + 1
  let size := (mods.filter (fun n => n / 16 == m.disc.ring)).length
  let m1 := if mods.length ≠ m.image.modules ∨ m.disc.modnum ≠ m.image.modnum then m.mismatch else m
  let m2 := { m1 with disc := { m1.disc with rings := rings, ringSize := size } }
  let m3 := (mods.filter (· != m.disc.modnum)).foldl (fun m n => match m.routeTo n with
    | some b => m.setReg (rModroute n) (0x80 + b)
    | none => m) m2
  m3.sendEchoes

/-- R304: hold an ADJ record and flood it over the up bundles other than the one it came on. -/
def Module.holdAdj (from_ : Option Nat) (module : Nat) (nbr : List (Option Nat)) (m : Module) : Module :=
  if (sfind m.disc.adjs module).isSome then m
  else
    let m1 := { m with disc := { m.disc with adjs := sinsert m.disc.adjs module nbr } }
    let m2 := (m1.upBundles.filter (fun b => some b != from_)).foldl (fun m b => m.sendPrio b (.adj b module nbr)) m1
    if m2.disc.adjClosed && (sfind m2.disc.adjs m2.disc.modnum).isSome then m2.adjDone else m2

/-- IDENT (R185, R304): the neighbour is known; SYSTEM_ID and MODULES are compared. Once every up bundle has its
neighbour the module floods its own ADJ. -/
def Module.ident (bundle sender : Nat) (sysid : Word) (mods : Nat) (m : Module) : Module :=
  if !m.discovering then m
  else
    let m1 := m.setBundle bundle { m.bundle bundle with nbr := some sender }
    let m2 := if sysid ≠ m.image.systemId ∨ mods ≠ m.image.modules then m1.mismatch else m1
    if m2.upBundles.all (fun b => (m2.bundle b).nbr.isSome) then
      m2.holdAdj none m2.disc.modnum ((List.range 20).map (fun b => (m2.bundle b).nbr))
    else m2

/-- ADJ (R304): held once, and flooded. -/
def Module.adj (bundle module : Nat) (nbr : List (Option Nat)) (m : Module) : Module :=
  if m.discovering then m.holdAdj (some bundle) module nbr else m

/-- ECHO_REQ (R304): the answer is due after exactly 16 ns. -/
def Module.echoReq (bundle : Nat) (m : Module) : Module := { m with disc := { m.disc with echoDue := m.disc.echoDue ++ [bundle] } }

def Module.echoDue (bundle : Nat) (m : Module) : Module :=
  if m.disc.echoDue.contains bundle then
    ({ m with disc := { m.disc with echoDue := m.disc.echoDue.erase bundle } }).sendPrio bundle (.echoRsp bundle)
  else m

def execEchoReplyDue (bundle : Nat) (s : State) : Host.Outcome State Fault Refusal := goOn (Module.echoDue bundle) s

/-- ECHO_RSP (R304 step 5): the hop in whole ns, rounded up. When the last hop is measured discovery is done, and the
system head sets STITCH_SLOT (R146). -/
def Module.echoRsp (bundle roundTrip : Nat) (m : Module) : Module :=
  if !m.discovering || !m.disc.echoOut.contains bundle then m
  else
    let hop := (roundTrip - 16 + 1) / 2
    let d : Disc := { m.disc with echoOut := m.disc.echoOut.erase bundle }
    let m1 := { m with disc := if bundle = 0 then { d with hopRing := hop } else { d with hopHead := hop } }
    if m1.disc.echoOut.isEmpty then m1.discoveryDone else m1

def execDiscoveryFail (s : State) : Host.Outcome State Fault Refusal :=
  goOn (fun m => if m.discovering ∧ m.disc.state ≠ 2 then m.discoveryFail else m) s

/-! ### Start-up sequence (R331-R333) -/

/-- STARTUP_LOCK (R332): LOCK ends; the steps after it run and DONE begins. The PLLs may have locked before LOCK begins. -/
def Module.startupLock (m : Module) : Module :=
  if m.ctl.mode = .bringup ∧ m.start.startupState ≤ 4 then
    ({ m with start := { m.start with lockDone := true } }).advanceStartup
  else m

def execStartupLock (s : State) : Host.Outcome State Fault Refusal := goOn Module.startupLock s

/-- PLL_UNLOCK (R332): logged; LOCK goes on waiting. -/
def Module.pllUnlock (m : Module) : Module :=
  if m.startupOn ∧ !m.start.lockDone then m.advanceStartup.log 0x0106 srcSteward [] else m

def execPllUnlock (s : State) : Host.Outcome State Fault Refusal := goOn Module.pllUnlock s

/-- DONE_TIMEOUT (R333): MODREADY_N low again, FROZEN by fault, a freeze flood. -/
def Module.doneTimeout (m : Module) : Module :=
  if m.ctl.mode = .bringup ∧ m.start.startupState = 5 then
    ({ m with pins := { m.pins with modreadyLow := true },
              start := { m.start with startupState := 7 } }).faultWith 0x0107 srcSteward []
  else m

def execDoneTimeout (s : State) : Host.Outcome State Fault Refusal := goOn Module.doneTimeout s

end Sys2Proof.Machine
end

