-- ==== Sys2Proof/Machine/Modes.lean ====
section
/-! DEFINITION. Machine/Modes.lean: meanings of the mode requests (R24-R33, R393) and of the end of a service. -/

namespace Sys2Proof.Machine

/-- R361: a privilege covers another. -/
def Priv.level : Priv → Nat
  | .oper => 0
  | .admin => 1
  | .vendor => 2

def privOk (have_ need : Priv) : Bool := decide (Priv.level need ≤ Priv.level have_)

/-- R361, R393, R33: the checks of a MODE_REQUEST ahead of its transition, in their order; `guaranteed` marks the
requests that R359 answers in LOCKDOWN; `argOk` is the rule of R33 on ARG. -/
def Module.request (have_ need : Priv) (guaranteed argOk : Bool) (k : Module → Module) (m : Module) : Module :=
  if m.ctl.mode = .lockdown ∧ !guaranteed then m.answer stMode
  else if !privOk have_ need then m.answer stPrivilege
  else if !argOk then m.answer stModeRefused
  else k m

/-- MODE_REQUEST TARGET 0 (R24, R28, R29, R414). -/
def Module.reqWarm (m : Module) : Module :=
  if m.ctl.mode = .lockdown ∨ m.coldStuck ∨ m.hot ∨ !m.pins.suppliesGood ∨ !m.pins.porstHigh then m.answer stModeRefused
  else (m.answer stOK).warmStart

def execModeReqWarmStart (priv : Priv) (arg : BitVec 24) (s : State) : Host.Outcome State Fault Refusal :=
  goOn (Module.request priv .admin true (arg == 0) Module.reqWarm) s

/-- R24: at the hold point of a module with no stitch partners, where a round takes effect at once. -/
def Module.parkedAlone (m : Module) : Bool := !m.inSystem && decide (m.seq.phase = .hold)

/-- MODE_REQUEST TARGET 3: stop, resume, or leave a service (R24, R33). -/
def Module.reqStop (m : Module) : Module :=
  match m.ctl.mode with
  | .run | .step | .paced => ({ m with ctl := { m.ctl with target := 3, stepn := 0 } }).answer stOK
  | .frozen => if m.ctl.resumable then (m.enter .idle 0).answer stOK else m.answer stModeRefused
  | .linksvc | .selftest => (m.answer stOK).warmStart
  | _ => m.answer stModeRefused

def execModeReqStopResume (priv : Priv) (arg : BitVec 24) (s : State) : Host.Outcome State Fault Refusal :=
  goOn (Module.request priv .oper false (arg == 0) Module.reqStop) s

/-- A request to run folios from IDLE; it takes effect at the folio the stitch agrees (R24, R112). -/
def Module.reqEntry (target stepn : Nat) (m : Module) : Module :=
  if m.ctl.mode = .idle then ({ m with ctl := { m.ctl with target := target, stepn := stepn } }).answer stOK
  else m.answer stModeRefused

def execModeReqRun (priv : Priv) (arg : BitVec 24) (s : State) : Host.Outcome State Fault Refusal :=
  goOn (Module.request priv .oper false (arg == 0) (Module.reqEntry 4 0)) s

def execModeReqStep (priv : Priv) (arg : BitVec 24) (s : State) : Host.Outcome State Fault Refusal :=
  goOn (Module.request priv .oper false (arg != 0) (Module.reqEntry 5 arg.toNat)) s

def execModeReqPaced (priv : Priv) (arg : BitVec 24) (s : State) : Host.Outcome State Fault Refusal :=
  goOn (Module.request priv .oper false (arg == 0) (Module.reqEntry 6 0)) s

/-- R27, R31: INSPECT keeps what FROZEN knows of the freeze. -/
def Module.enterKept (mode : Mode) (m : Module) : Module :=
  let m1 := m.enter mode 0
  { m1 with ctl := { m1.ctl with resumable := m.ctl.resumable } }

/-- MODE_REQUEST TARGET 7 (R24): a resumable freeze at the hold point, or INSPECT to FROZEN. -/
def Module.reqFreeze (m : Module) : Module :=
  match m.ctl.mode with
  | .idle | .run | .step | .paced =>
    (if m.parkedAlone then (m.resumableFreeze 0).stopped else m.askFreeze 0).answer stOK
  | .inspect => (m.enterKept .frozen).answer stOK
  | _ => m.answer stModeRefused

def execModeReqFreeze (priv : Priv) (arg : BitVec 24) (s : State) : Host.Outcome State Fault Refusal :=
  goOn (Module.request priv .oper false (arg == 0) Module.reqFreeze) s

/-- MODE_REQUEST TARGET 8 (R24). -/
def Module.reqInspect (m : Module) : Module :=
  match m.ctl.mode with
  | .frozen => (m.enterKept .inspect).answer stOK
  | _ => m.answer stModeRefused

def execModeReqInspect (priv : Priv) (arg : BitVec 24) (s : State) : Host.Outcome State Fault Refusal :=
  goOn (Module.request priv .oper false (arg == 0) Module.reqInspect) s

/-- R24, R25, R168, R212, R215: entry to LINKSVC or SELFTEST from IDLE discards work, aborts a scrub, stops the cores and
displaces the design's IM quarters and DM contents. -/
def Module.reqService (mode : Mode) (m : Module) : Module :=
  if m.ctl.mode = .idle then
    let m1 := (m.discardWork false).abortScrub.stopCouriers.displace
    (({ m1 with ctl := { m1.ctl with target := 0, stepn := 0, linksvc := decide (mode = Mode.linksvc) } }).enter mode 0).answer stOK
  else m.answer stModeRefused

def execModeReqLinksvc (priv : Priv) (arg : BitVec 24) (s : State) : Host.Outcome State Fault Refusal :=
  goOn (Module.request priv .admin false (arg == 0) (Module.reqService .linksvc)) s

def execModeReqSelftest (priv : Priv) (arg : BitVec 24) (s : State) : Host.Outcome State Fault Refusal :=
  goOn (Module.request priv .admin false (arg == 0) (Module.reqService .selftest)) s

/-- MODE_REQUEST TARGET 11 (R24, R33): accepted in every mode. -/
def execModeReqLockdown (priv : Priv) (arg : BitVec 24) (s : State) : Host.Outcome State Fault Refusal :=
  goOn (Module.request priv .admin true (arg == 0) (fun m => (m.lockdown 0).answer stOK)) s

/-- MODE_REQUEST TARGET 1, 2, 12-15 (R393): MODE_REFUSED whatever the privilege. -/
def execModeReqReserved (priv : Priv) (_target : Nat) (_arg : BitVec 24) (s : State) : Host.Outcome State Fault Refusal :=
  goOn (Module.request priv .oper false true (Module.answer stModeRefused)) s

/-! ### The end of a service (R24, R25, R61) -/

/-- SERVICE_COMPLETE (R24, R25, R61): the spare rules act on what SELFTEST found, and a warm start follows. -/
def Module.serviceComplete (failed : List Nat) (m : Module) : Module :=
  match m.ctl.mode with
  | .selftest => (failed.foldl (fun m bp => m.bpFailed bp) m).warmStart
  | .linksvc => m.warmStart
  | _ => m

def execServiceComplete (failedBps : List Nat) (s : State) : Host.Outcome State Fault Refusal :=
  goOn (Module.serviceComplete failedBps) s

end Sys2Proof.Machine
end

