-- ==== Sys2Proof/Machine/DictInfo.lean ====
section
/-! DEFINITION. Machine/DictInfo.lean: the entries of the object dictionary: access code, bytes, privilege and where each is
served (R358, R359, R386-R398). -/

namespace Sys2Proof.Machine

/-- R387; an RO entry with a W1C field takes writes (R388) and stands here as `rw`, as does one whose own rule judges the mode. -/
inductive Access where
  | const | ro | rw | wo | rwi
  deriving DecidableEq, Repr

/-- Rows of one index: first subindex, last subindex, access, bytes. -/
abbrev EntryRow := Nat × Nat × Access × Nat

/-- Bytes of an OCTETS entry whose LEN varies (LOAD_DATA: 1 to 32,768, R319). -/
def varBytes : Nat := 0

def rowsLow (index : Nat) : List EntryRow :=
  match index with
  | 0x1000 => [(1, 2, .const, 2), (3, 3, .const, 16), (4, 4, .const, 1), (5, 6, .const, 16), (7, 8, .const, 4), (9, 9, .const, 2),
      (0x0A, 0x0A, .ro, 1), (0x0B, 0x0B, .ro, 8), (0x0C, 0x0C, .ro, 2), (0x10, 0x10, .const, 64)]
  | 0x1100 => [(1, 2, .const, 6), (3, 4, .rw, 4), (5, 6, .rw, 1), (7, 7, .rw, 4), (8, 8, .ro, 1), (9, 9, .wo, 40), (0x0A, 0x0A, .ro, 1),
      (0x10, 0x10, .wo, 1)]
  | 0x2000 => [(1, 1, .ro, 4), (2, 2, .wo, 4)]
  | 0x2100 => [(2, 2, .rwi, 4), (3, 3, .rw, 4), (4, 4, .ro, 4), (6, 6, .rwi, 8), (7, 7, .rwi, 4), (8, 8, .ro, 4), (0x10, 0x1A, .ro, 8),
      (0x1B, 0x1E, .ro, 2), (0x20, 0x20, .rwi, 4), (0x21, 0x21, .rwi, 2), (0x22, 0x22, .ro, 4), (0x23, 0x23, .ro, 2), (0x24, 0x24, .ro, 4),
      (0x25, 0x25, .rwi, 4), (0x26, 0x27, .ro, 4)]
  | 0x2101 | 0x2102 => [(0, 63, .rwi, 4)]
  | 0x2200 => [(1, 2, .rw, 1), (3, 3, .rw, 8), (4, 4, .wo, varBytes), (5, 5, .wo, 1), (6, 6, .ro, 1), (7, 7, .ro, 8), (8, 8, .ro, 1),
      (9, 9, .wo, 1), (0x0A, 0x0A, .ro, 48), (0x0B, 0x0B, .ro, 1), (0x10, 0x10, .ro, 8), (0x11, 0x12, .ro, 4), (0x13, 0x13, .ro, 2),
      (0x20, 0x20, .ro, 8), (0x21, 0x22, .ro, 4)]
  | 0x2300 => [(1, 2, .rwi, 4), (3, 4, .ro, 1)]
  | 0x2400 => [(2, 2, .rwi, 2), (3, 3, .ro, 4), (4, 4, .rw, 1), (5, 5, .ro, 4), (0x10, 0x10, .wo, 4), (0x11, 0x12, .ro, 4), (0x13, 0x13, .ro, 8)]
  | 0x2500 => [(1, 1, .ro, 4)]
  | 0x2501 | 0x2502 => [(0, 255, .rwi, 4)]
  | 0x2503 | 0x2505 => [(0, 255, .ro, 4)]
  | 0x2504 => [(0, 255, .rw, 4)]
  | _ => []

def rowsMid (index : Nat) : List EntryRow :=
  match index with
  | 0x2600 => [(1, 1, .ro, 4), (3, 3, .wo, 1), (4, 5, .rwi, 8), (6, 6, .rwi, 4), (7, 7, .ro, 8), (8, 8, .ro, 2), (9, 9, .rwi, 4)]
  | 0x2601 => [(0, 127, .rwi, 20)]
  | 0x2602 => [(0, 15, .rwi, 16)]
  | 0x2603 => [(0, 15, .rwi, 4)]
  | 0x2604 | 0x2605 => [(0, 7, .rw, 4)]
  | 0x2610 => [(1, 1, .rwi, 1), (2, 3, .rwi, 4), (4, 4, .rwi, 2), (5, 5, .wo, 1), (6, 6, .ro, 1), (7, 7, .ro, 2), (8, 8, .ro, 8), (9, 9, .rw, 8),
      (0x0A, 0x0A, .ro, 4), (0x0B, 0x0B, .ro, 8)]
  | 0x2620 => [(1, 1, .rwi, 8), (2, 2, .rwi, 4), (3, 3, .rwi, 8), (4, 4, .rw, 1), (5, 5, .ro, 1), (6, 6, .ro, 8), (7, 7, .ro, 128), (8, 8, .ro, 2),
      (9, 9, .ro, 4), (0x0A, 0x0A, .ro, 8)]
  | 0x2700 => [(1, 3, .rwi, 4), (4, 4, .wo, 1), (5, 5, .ro, 1), (6, 7, .ro, 8), (8, 9, .ro, 4), (0x0A, 0x0A, .ro, 2)]
  | 0x2800 => [(1, 1, .rw, 4), (2, 2, .wo, 1), (3, 3, .rwi, 4), (0x10, 0x19, .ro, 8), (0x1A, 0x1A, .ro, 4), (0x1B, 0x1B, .rw, 2),
      (0x1C, 0x22, .ro, 4), (0x23, 0x24, .ro, 2), (0x30, 0x30, .rw, 4), (0x31, 0x31, .ro, 4)]
  | 0x2810 => [(0, 255, .rwi, 1)]
  | 0x2900 => [(1, 1, .ro, 1), (2, 3, .ro, 4), (4, 5, .ro, 1), (0x10, 0x10, .wo, 1)]
  | _ => []

def rowsHigh (index : Nat) : List EntryRow :=
  match index with
  | 0x3000 => [(1, 1, .ro, 8), (2, 3, .rw, 1), (4, 4, .ro, 4)]
  | 0x3001 => [(1, 2, .rwi, 1)]
  | 0x3002 => [(1, 2, .rw, 4), (3, 3, .const, 16)]
  | 0x3003 => [(1, 2, .ro, 8), (3, 3, .ro, 1), (4, 5, .ro, 8)]
  | 0x3100 => [(1, 1, .rw, 4), (2, 2, .ro, 4), (3, 3, .rw, 4), (4, 4, .ro, 1024), (5, 6, .ro, 4), (7, 7, .wo, 1), (0x10, 0x10, .ro, 32)]
  | 0x3110 => [(1, 1, .rw, 1), (2, 3, .rw, 8), (4, 4, .wo, 1), (5, 5, .ro, 1), (6, 6, .ro, 8), (7, 9, .ro, 4), (0x0A, 0x0B, .ro, 8)]
  | 0x3200 => [(1, 1, .rw, 4), (2, 2, .ro, 1)]
  | 0x3201 | 0x3202 => [(1, 4, .ro, 8)]
  | 0x3203 | 0x3204 => [(1, 4, .ro, 4)]
  | 0x3300 => [(1, 1, .ro, 1), (2, 3, .ro, 2), (4, 4, .ro, 4), (5, 5, .ro, 2), (6, 6, .rw, 4), (7, 7, .ro, 4096), (8, 8, .ro, 4)]
  | 0x3400 => [(1, 1, .rw, 4), (2, 2, .ro, 32), (3, 3, .ro, 2), (4, 4, .wo, 64), (5, 5, .wo, 1), (6, 6, .wo, 4), (0x10, 0x10, .rwi, 1),
      (0x11, 0x11, .ro, 4), (0x13, 0x13, .ro, 4), (0x14, 0x14, .ro, 8)]
  | 0x3500 => [(1, 1, .ro, 1), (2, 2, .rw, 1), (3, 4, .ro, 4), (5, 5, .ro, 8), (0x10, 0x1A, .ro, 4), (0x20, 0x38, .ro, 2), (0x40, 0x58, .ro, 4),
      (0x60, 0x6B, .rwi, 2)]
  | _ => []

/-- R398: the rows of an index of die d, offset `o` from 0x4000 + 0x80 * d. -/
def rowsDie (d o : Nat) : List EntryRow :=
  let e (r : List EntryRow) : List EntryRow := if d < 8 then r else []
  let hbm (r : List EntryRow) : List EntryRow := if d = 1 ∨ d = 6 then r else []
  if o = 0 then [(1, 1, .ro, 4)] ++ e [(2, 2, .ro, 4)]
  else if o = 0x02 then e [(0, 31, .ro, 2)]
  else if o = 0x03 then e [(1, 1, .ro, 64), (2, 2, .ro, 2)]
  else if 0x10 ≤ o ∧ o ≤ 0x1F then [(0, 255, .rw, 8)]
  else if o = 0x20 then [(1, 1, .ro, 32), (2, 2, .ro, 8), (3, 3, .wo, 2)]
  else if o = 0x22 ∨ o = 0x23 then [(0, 255, .ro, 4)]
  else if o = 0x30 then [(0, 17, .ro, 4)]
  else if o = 0x40 then hbm [(0, 31, .ro, 8)]
  else if o = 0x41 then hbm [(1, 2, .ro, 2)]
  else []

/-- R310: the rows of an index of a bundle, offset `o` from 0x5000 + 0x20 * b. -/
def rowsBundle (o : Nat) : List EntryRow :=
  match o with
  | 0 => [(1, 1, .rwi, 4), (2, 2, .ro, 4), (3, 3, .rw, 4), (4, 5, .ro, 2), (6, 8, .ro, 4)]
  | 1 => [(1, 8, .rw, 4)]
  | 2 => [(1, 8, .rw, 4)]
  | 3 | 4 => [(1, 8, .ro, 4)]
  | 5 => [(1, 8, .ro, 8)]
  | _ => []

def rowsOf (index : Nat) : List EntryRow :=
  if 0x4000 ≤ index ∧ index < 0x4580 then rowsDie ((index - 0x4000) / 128) ((index - 0x4000) % 128)
  else if 0x5000 ≤ index ∧ index < 0x5280 then rowsBundle ((index - 0x5000) % 32)
  else if index < 0x2600 then rowsLow index
  else if index < 0x3000 then rowsMid index
  else rowsHigh index

/-- R394, R398: a per-die subindex that its die lacks: an empty endpoint, or a die link that does not end there. -/
def dieLacks (index sub : Nat) : Bool :=
  let d := (index - 0x4000) / 128
  let o := (index - 0x4000) % 128
  if 0x4000 ≤ index ∧ index < 0x4580 then
    if 0x10 ≤ o ∧ o ≤ 0x1F then !endpointExists d (16 * (o - 0x10) + sub / 16)
    else if o = 0x22 ∨ o = 0x23 then !endpointExists d sub
    else if o = 0x30 then (dieEnds sub).1 != d && (dieEnds sub).2 != d
    else false
  else false

/-- The access code and the bytes of an entry; none where no rule of the manual defines it (R394). -/
def entryInfo (index sub : Nat) : Option (Access × Nat) :=
  if dieLacks index sub then none
  else ((rowsOf index).find? (fun r => r.1 ≤ sub && sub ≤ r.2.1)).map (fun r => (r.2.2.1, r.2.2.2))

/-- R394: manufacturing and service entries. -/
def vendorIndex (index : Nat) : Bool := 0x7F00 ≤ index && index ≤ 0x7FFF

/-- R392: the privilege that a write needs; a MODE_REQUEST judges its own (R393), and the table names none for the identity
entries, which no write reaches. Every read needs OPER. -/
def writePriv (index sub : Nat) : Priv :=
  if index = 0x1000 ∨ index = 0x2000 ∨ (0x2600 ≤ index ∧ index ≤ 0x2620) ∨ index = 0x2700 ∨ index = 0x3100 ∨ index = 0x3110 ∨ index = 0x3300 then .oper
  else if index = 0x2400 ∧ (sub = 0x04 ∨ sub = 0x10) then .oper
  else if index = 0x2800 ∧ (sub = 0x01 ∨ sub = 0x02 ∨ sub = 0x1B) then .oper
  else .admin

/-- R358: the entry is served by the always-on island. -/
def onIsland (index sub : Nat) : Bool :=
  index == 0x1000 || index == 0x1100 || index == 0x2000 || (0x3000 ≤ index && index ≤ 0x3003) || index == 0x3100
    || (0x3200 ≤ index && index ≤ 0x3204) || index == 0x3300 || index == 0x3400 || index == 0x3500 || (index == 0x2100 && sub == 0x25)

/-- R359: the requests that the steward answers in every mode. -/
def guaranteed (write : Bool) (index sub : Nat) (data : List Byte) : Bool :=
  if write then
    (index == 0x2000 && sub == 2 && (let t := leNat data % 16; t == 0 || t == 11))
      || (index == 0x3100 && sub == 3) || (index == 0x3400 && sub == 6) || (index == 0x3300 && sub == 6)
  else
    (index == 0x2000 && sub == 1) || (index == 0x3100 && 1 ≤ sub && sub ≤ 6) || (index == 0x3400 && sub == 1)
      || (index == 0x3000 && (sub == 1 || sub == 4)) || index == 0x3500 || (index == 0x3300 && 1 ≤ sub && sub ≤ 8)

/-- R386: a WRITE of this many bytes fits the entry. -/
def lenFits (bytes n : Nat) : Bool := if bytes = varBytes then 1 ≤ n && n ≤ 32768 else n == bytes

end Sys2Proof.Machine
end

