-- ==== Sys2Proof/Machine/Fabric.lean ====
section
/-! DEFINITION. Machine/Fabric.lean: meanings of the packet commands: arrival at a target, completions and acknowledgements,
failed posted writes, timeouts, tags (R162, R166, R198, R200, R210, R264-R278). -/

namespace Sys2Proof.Machine

/-! ### Arrival, forwarding and absorption (R265, R270, R276, R277) -/

/-- The same packet, whatever its source-route hops and crossings are by now. -/
def samePacket (p q : Packet) : Bool := p.op == q.op && p.src == q.src && p.dst == q.dst && p.tag == q.tag && p.addr == q.addr

/-- The first packet of a list that is the same leaves it. -/
def dropPacket (p : Packet) : List Packet → List Packet
  | [] => []
  | q :: t => if samePacket p q then t else q :: dropPacket p t

def Module.takeNet (p : Packet) (m : Module) : Module :=
  { m with fabric := { m.fabric with net := dropPacket p m.fabric.net,
                                     starts := m.fabric.starts.eraseP (fun e => samePacket p e.1) } }

/-- The router at which the way of a packet through this module starts. -/
def Module.startOf (m : Module) (p : Packet) : Router :=
  match m.fabric.starts.find? (fun e => samePacket p e.1) with
  | some e => e.2
  | none => routerOf p.src

/-- R163, R269: two packets of one source and one destination, which share their way and arrive in the order in which they
left. -/
def sameWay (p q : Packet) : Bool := p.src == q.src && p.dst == q.dst

/-- R163, R269: a packet of that kind that left before a packet has not arrived. -/
def Module.behind (m : Module) (p : Packet) : Bool :=
  m.fabric.net.any (samePacket p) && (m.fabric.net.takeWhile (fun q => !samePacket p q)).any (sameWay p)

/-- R277: a router discards a packet of which a flit failed parity. -/
def Module.nocParity (r : Nat) (m : Module) : Module := (m.satReg 32 rNocParity 1).log 0x0201 (r / 64 % 16) [(18, r)]

/-- R276: a packet whose way starts at router r meets an absorber: its endpoint is dead, or a router on its way through this
module after r. -/
def Module.absorbs (m : Module) (r : Router) (p : Packet) : Bool :=
  (decide (p.dst / 4096 = m.disc.modnum) && sget false m.fabric.deadEp (deadKey p.dst)) || m.wayDead r p

/-- R276: the router that absorbs: the last one on the way from r that no dead router follows, its destination's at the end. -/
def Module.absorberAt (m : Module) (r : Router) (p : Packet) : Router :=
  match m.aimOf p with
  | none => r
  | some t => ((routersOf (m.liveHops (hopsFrom 64 r t p.sr p.hops p.route))).getLast?).getD r

/-- R276, R270: the answer of an absorber, or of a routing refusal, which starts where the packet ended. -/
def Module.deadAnswer (r : Router) (p : Packet) (m : Module) : Module :=
  if p.op = opRD ∨ p.op = opWR then m.startAt (m.absorberAt r p) (replyTo p opCPL psDead 0 [])
  else if p.op = opPWR ∧ p.ackreq then m.startAt (m.absorberAt r p) (replyTo p opERR psDead 0 [])
  else m

/-- R276: an absorber counts a packet. -/
def Module.countAbsorbed (p : Packet) (m : Module) : Module :=
  let k := deadKey p.dst
  if p.op = opRD ∨ p.op = opWR then
    { m with fabric := { m.fabric with absorbedNP := smod 0 m.fabric.absorbedNP k (fun v => satAdd 32 v 1) } }
  else if p.op = opPWR ∨ p.op = opMSG then
    { m with fabric := { m.fabric with absorbedP := smod 0 m.fabric.absorbedP k (fun v => satAdd 32 v 1) } }
  else m

/-- R276: an absorber consumes a packet. -/
def Module.absorb (r : Router) (p : Packet) (m : Module) : Module := (m.countAbsorbed p).deadAnswer r p

/-- R270: a packet received on a bundle for another module has made one more crossing. -/
def Module.received (m : Module) (p : Packet) : Packet :=
  if p.dst / 4096 = m.disc.modnum then p else { p with xhops := min 15 (p.xhops + 1) }

/-- The packet as the network holds it; one that the network does not hold has come from where SRC says. -/
def Module.onWay (m : Module) (p : Packet) : Packet :=
  match m.fabric.net.find? (samePacket p) with
  | some q => q
  | none => if p.src / 4096 = m.disc.modnum then p else m.received p

/-- R270: a packet for another module leaves on its bundle, or is refused where its XHOPS would reach 15 or its table entry is
invalid. -/
def Module.forward (from_ : Router) (p : Packet) (m : Module) : Module :=
  let mod := p.dst / 4096
  let r := m.reg (rModroute mod)
  if !bitOf r 7 ∨ 15 ≤ p.xhops then (m.logFirst 0x0204 (p.dst / 256 % 16) [(8, mod)]).deadAnswer from_ p
  else m.sendOnBundle (r % 32) { p with sr := false, hops := 0, route := 0 }

/-- R263: an HBM controller. -/
def isHbm (ep : Nat) : Bool :=
  let low := ep % 4096
  low == 0x120 || low == 0x180 || low == 0x634 || low == 0x694

/-- R348: the check that a packet's target makes in the cycle in which LOCKDOWN was entered. -/
def Module.lateCheck (p : Packet) (chk : SectorCheck) (m : Module) : Module :=
  m.lateFind chk (p.addr / 64) p.src

/-- A packet arrives: a flit that failed parity discards it (R277), another module's is forwarded (R270), a dead target
absorbs it (R276). A packet does not overtake an earlier one of its source and destination (R269). In LOCKDOWN only the steward
runs (chapter 01); `chk` is the check that the packet's target would have made. While the clocks of the NOC are gated nothing
moves (R414). -/
def Module.arrive (p : Packet) (bad : Option Nat) (chk : SectorCheck) (deliver : Module → Module) (m : Module) : Module :=
  let m1 := m.takeNet p
  let from_ := m.startOf p
  if m.behind p ∨ m.pins.gated then m
  else if m1.ctl.mode = .lockdown then (if isHbm p.dst && bad.isNone then m1.lateCheck p chk else m1)
  else match bad with
    | some r => m1.nocParity r
    | none =>
      if m1.absorbs from_ p then m1.absorb from_ p
      else if p.dst / 4096 ≠ m1.disc.modnum then m1.forward from_ (m.onWay p)
      else deliver m1

/-! ### Targets (R161, R166, R263, R265, R266, R342, R346) -/

/-- Bytes that a request reads or writes. -/
def spanOf (p : Packet) : Nat := if p.len = 0 then 8 else 32 * p.len

/-- R266: the address is aligned, inside what the domains cover (R340), and owned by this controller (R161). -/
def Module.hbmAddrOk (m : Module) (p : Packet) : Bool :=
  let n := spanOf p
  p.addr % (if p.len = 0 then 8 else 32) == 0 && decide (p.addr + n ≤ hbmTop)
    && (sectorsIn p.addr n).all (fun s => m.epHbm (64 * s) == p.dst)

/-- The sectors of a request are read and checked. -/
def Module.hbmCheck (p : Packet) (chk : SectorCheck) (m : Module) : Bool × Module :=
  m.checkSectors chk (sectorsIn p.addr (spanOf p)) p.src

/-- R341, R348: an epoch change of the domain of an address is under way. -/
def Module.epochAt (m : Module) (a : Nat) : Bool := if a < stageTop then m.load.epochStage else m.load.epochDesign

/-- R346, R348: STATUS of an access whose check failed and that the module goes on from. -/
def Module.failStatus (m : Module) (a : Nat) : Nat := if m.epochAt a then psCA else psMac

/-- The flits of read data. -/
def flitsOf (n : Nat) (bs : List Byte) : List (BitVec 256) :=
  (List.range n).map (fun i => BitVec.ofNat 256 (leNat ((bs.drop (32 * i)).take 32)))

/-- The bytes that a write carries. -/
def writeData (p : Packet) : List Byte :=
  if p.len = 0 then leBytes 8 p.idata.toNat else (p.data.take p.len).flatMap (fun f => leBytes 32 f.toNat)

/-- R162, R342: a write merges into its sectors and advances their counters. -/
def Module.hbmStore (p : Packet) (m : Module) : Module :=
  let bs := (writeData p).take (spanOf p)
  { m with hbm := { m.hbm.written m.nodeKeys (sectorsIn p.addr (spanOf p)) with bytes := writeBytes m.hbm.bytes p.addr bs } }

/-- RD at its target (R265). Endpoints other than the HBM controllers publish no address map: UR. -/
def Module.serveRead (p : Packet) (chk : SectorCheck) (m : Module) : Module :=
  if !endpointExists (p.dst / 256 % 16) (p.dst % 256) then m
  else if !isHbm p.dst then m.inject (replyTo p opCPL psUR 0 [])
  else if !m.hbmAddrOk p then m.inject (replyTo p opCPL psAddr 0 [])
  else
    let r := m.hbmCheck p chk
    if r.1 then
      let bs := readBytes r.2.hbm.bytes p.addr (spanOf p)
      let w : Word := if p.len = 0 then BitVec.ofNat 64 (leNat bs) else 0
      r.2.inject (replyTo p opCPL psOK w (if p.len = 0 then [] else flitsOf p.len bs))
    else if r.2.ctl.mode = .lockdown then r.2
    else r.2.inject (replyTo p opCPL (r.2.failStatus p.addr) 0 [])

def execPacketRd (p : Packet) (parityBad : Option Nat) (chk : SectorCheck) (s : State) : Host.Outcome State Fault Refusal :=
  goOn (Module.arrive p parityBad chk (Module.serveRead p chk)) s

/-- A write at its target: the STATUS it is answered with; nothing is written unless it is OK. WRITE_ERR before
WREN (R332) and where the storage fails the write (`stored` false). None in LOCKDOWN. -/
def Module.serveWrite (p : Packet) (chk : SectorCheck) (stored : Bool) (m : Module) : Option Nat × Module :=
  if !isHbm p.dst then (some psUR, m)
  else if !m.hbmAddrOk p then (some psAddr, m)
  else if !m.start.wren then (some psWrite, m)
  else
    let r := m.hbmCheck p chk
    if r.1 then (if stored then (some psOK, r.2.hbmStore p) else (some psWrite, r.2))
    else if r.2.ctl.mode = .lockdown then (none, r.2)
    else (some (r.2.failStatus p.addr), r.2)

/-- WR (R265): answered by CPL. -/
def Module.writeNP (p : Packet) (chk : SectorCheck) (stored : Bool) (m : Module) : Module :=
  if !endpointExists (p.dst / 256 % 16) (p.dst % 256) then m
  else match m.serveWrite p chk stored with
    | (some st, m1) => m1.inject (replyTo p opCPL st 0 [])
    | (none, m1) => m1

def execPacketWr (p : Packet) (parityBad : Option Nat) (chk : SectorCheck) (stored : Bool) (s : State) :
    Host.Outcome State Fault Refusal :=
  goOn (Module.arrive p parityBad chk (Module.writeNP p chk stored)) s

/-- PWR (R265): ACK when asked for, ERRNOTE on failure. -/
def Module.writeP (p : Packet) (chk : SectorCheck) (stored : Bool) (m : Module) : Module :=
  if !endpointExists (p.dst / 256 % 16) (p.dst % 256) then m
  else match m.serveWrite p chk stored with
    | (some st, m1) =>
      if st = psOK then (if p.ackreq then m1.inject (replyTo p opACK psOK 0 []) else m1)
      else m1.inject (replyTo p opERR st 0 [])
    | (none, m1) => m1

def execPacketPwr (p : Packet) (parityBad : Option Nat) (chk : SectorCheck) (stored : Bool) (s : State) :
    Host.Outcome State Fault Refusal :=
  goOn (Module.arrive p parityBad chk (Module.writeP p chk stored)) s

/-- R268: flits held by a message queue. -/
def queueFlits (q : List Packet) : Nat := q.foldl (fun a p => a + 1 + p.data.length) 0

/-- MSG (R268): queued at its endpoint, or discarded. -/
def Module.message (p : Packet) (m : Module) : Module :=
  if !endpointExists (p.dst / 256 % 16) (p.dst % 256) then m
  else
    let q := sget [] m.fabric.msgq p.dst
    if queueFlits (q ++ [p]) ≤ 64 then { m with fabric := { m.fabric with msgq := sset [] m.fabric.msgq p.dst (q ++ [p]) } }
    else (m.satReg 32 rMsgDropped 1).logFirst 0x0205 (p.dst / 256 % 16) []

def execPacketMsg (p : Packet) (parityBad : Option Nat) (s : State) : Host.Outcome State Fault Refusal :=
  goOn (Module.arrive p parityBad .good (Module.message p)) s

/-- R265, R268: every message endpoint drains a message into its consumer, the queue that ADDR names. -/
def Module.drainMessages (m : Module) : Module :=
  m.fabric.msgq.foldl (fun (m : Module) (e : Nat × List Packet) =>
    match e.2 with
    | [] => m
    | p :: rest => ({ m with fabric := { m.fabric with msgq := sset [] m.fabric.msgq e.1 rest } }).send (.message p)) m

/-- BAD_OP (R265, R277): the first router discards the packet and counts it, as a parity failure where a flit failed. -/
def Module.badOp (p : Packet) (bad : Option Nat) (m : Module) : Module :=
  match bad with
  | some r => (m.takeNet p).nocParity r
  | none => (m.takeNet p).satReg 32 rBadOp 1

def execBadOp (p : Packet) (parityBad : Option Nat) (s : State) : Host.Outcome State Fault Refusal :=
  goOn (Module.badOp p parityBad) s

/-! ### Completions (R84, R92, R249, R274, R275, R276, R278, R283) -/

/-- R278: a completion in its initiator's counters. -/
def Module.countCpl (t : TagUse) (p : Packet) (m : Module) : Module :=
  let lat := m.stew.up - t.issued
  let bytes := if p.status ≠ psOK then 0 else if p.data.isEmpty then 8 else 32 * p.data.length
  let s := (((m.stats t.src).add (2 + histOf lat) 1).add 1 bytes)
  let s1 : InitStats := { s with maxLat := max s.maxLat (min lat 0xFFFFFFFF),
                                 errCpl := if p.status = psOK then s.errCpl else satAdd 32 s.errCpl 1 }
  m.setStats t.src s1

/-- R274: a tag is free. -/
def Module.dropTag (tag : Nat) (m : Module) : Module :=
  { m with fabric := { m.fabric with tags := m.fabric.tags.filter (fun t => t.tag != tag) } }

/-- R84, R92: the word of a memory-port read, or the freeze of a failed one. -/
def Module.portArrive (tag status : Nat) (w : Word) (m : Module) : Module :=
  match m.data.memAccs.find? (fun a => a.tag == some tag && !a.write) with
  | none => m
  | some a =>
    let fill (r : PendRet) : PendRet := if r.seqNo = a.seqNo ∧ r.portKey = a.portKey then { r with word := some w } else r
    let m1 := { m with data := { m.data with memAccs := m.data.memAccs.filter (fun b => b.seqNo != a.seqNo) } }
    if status = psOK then { m1 with data := { m1.data with pendRets := m1.data.pendRets.map fill } }
    else if status = psMac then m1.faultFreeze 0x0401
    else m1.faultWith 0x0424 (a.portKey / 4096) []

/-- R283: what has come for a host read; it completes once every packet of it has. -/
def Module.hostArrive (tag addr status : Nat) (bs : List Byte) (m : Module) : Module :=
  match m.fabric.hostReads.find? (fun h => h.tags.contains tag) with
  | none => m
  | some h =>
    let h1 : HostRead := { h with tags := h.tags.erase tag, got := writeBytes h.got addr bs, bad := h.bad || status != psOK }
    let others := m.fabric.hostReads.filter (fun x => !x.tags.contains tag)
    if h1.tags.isEmpty then
      let m1 := { m with fabric := { m.fabric with hostReads := others } }
      if h1.bad then m1.send (.hostCpl false []) else m1.hostAnswer (readBytes h1.got h1.addr h1.len)
    else { m with fabric := { m.fabric with hostReads := others ++ [h1] } }

/-- R281, R283: the sectors of a host read, each of which takes one RD and one tag. -/
def HostRead.sectors (h : HostRead) : List Nat := if h.span = 0 then [] else sectorsIn h.addr h.span

/-- Free tags of the host endpoint (R274). -/
def Module.hostTags (m : Module) : List Nat :=
  ((List.range tagsHost.2).map (tagsHost.1 + ·)).filter (fun t => !m.fabric.tags.any (fun u => u.tag == t))

/-- R274, R283: the RDs of a host read leave when the range has a tag for each; `h` is no longer listed. -/
def Module.hostIssue (h : HostRead) (m : Module) : Module :=
  let ss := h.sectors
  let tags := m.hostTags.take ss.length
  if tags.length < ss.length then { m with fabric := { m.fabric with hostReads := m.fabric.hostReads ++ [h] } }
  else
    let m1 := { m with fabric := { m.fabric with hostReads := m.fabric.hostReads ++ [{ h with tags := tags }] } }
    (ss.zip tags).foldl (fun m e =>
      m.request_ 1 e.2 { packetReq opRD 1 (m.epHbm (64 * e.1)) m.epHost e.2 (64 * e.1) with len := 2 }) m1

/-- R274: the host reads that hold their requests try again, oldest first. -/
def Module.hostPump (m : Module) : Module :=
  let waits (h : HostRead) : Bool := h.tags.isEmpty && h.page.isNone
  let held := m.fabric.hostReads.filter waits
  if held.isEmpty then m
  else held.foldl (fun m h => m.hostIssue h)
    { m with fabric := { m.fabric with hostReads := m.fabric.hostReads.filter (fun h => !waits h) } }

/-- What a completion does at its initiator. -/
def Module.deliverCpl (t : TagUse) (p : Packet) (m : Module) : Module :=
  let bs := if p.data.isEmpty then leBytes 8 p.idata.toNat else p.data.flatMap (fun f => leBytes 32 f.toNat)
  if t.use = 0 then m.portArrive t.tag p.status p.idata
  else if t.use = 1 then m.hostArrive t.tag t.addr p.status (if p.status = psOK then bs else [])
  else if t.use = 4 then m.preArrived t.tag p.status (BitVec.ofNat 512 (leNat bs))
  else if t.use = 3 then (if p.status = psOK then m.maskArrive t.addr bs else m.faultWith 0x0424 dieH [])
  else m

/-- CPL (R265, R274, R275): a tag in quarantine or free discards it. -/
def Module.completion (p : Packet) (m : Module) : Module :=
  match m.fabric.tags.find? (fun t => t.tag == p.tag) with
  | some t =>
    if t.quarantine then m.setStats p.dst { m.stats p.dst with lateCpl := satAdd 32 (m.stats p.dst).lateCpl 1 }
    else
      let m1 := (m.countCpl t p).dropTag t.tag
      let m2 := if p.status = psOK then { m1 with fabric := { m1.fabric with timeouts := serase m1.fabric.timeouts p.src } } else m1
      (m2.deliverCpl t p).hostPump.maskPump.txnPump.settle.wake
  | none => m.setStats p.dst { m.stats p.dst with lateCpl := satAdd 32 (m.stats p.dst).lateCpl 1 }

def execPacketCpl (p : Packet) (parityBad : Option Nat) (s : State) : Host.Outcome State Fault Refusal :=
  goOn (Module.arrive p parityBad .good (Module.completion p)) s

/-! ### Acknowledgements and failed posted writes (R162, R198, R200, R210) -/

/-- The slot that has an HBMWR write of an address and tag under way. -/
def Module.writerSlot (m : Module) (addr tag : Nat) : Option Nat :=
  (List.range 16).find? (fun i => (m.slot i).hbmwrOut.contains (addr, tag))

/-- ACK (R265): a port's write, or an HBMWR of a slot, is acknowledged. -/
def Module.acked (p : Packet) (m : Module) : Module :=
  if p.dst = m.epTxn then
    match m.writerSlot p.addr p.tag with
    | some i =>
      let sl := m.slot i
      (m.setSlot i { sl with hbmwrOut := sl.hbmwrOut.erase (p.addr, p.tag) }).rollOn i
    | none => m
  else if p.dst = m.epTrigger then m.capAcked p.addr
  else
    match m.data.memAccs.find? (fun a => a.write && !a.waiting && a.tag == some p.tag && a.addr == p.addr
        && m.portEp a.portKey == p.dst) with
    | some a => { m with data := { m.data with memAccs := m.data.memAccs.filter (fun b => b.seqNo != a.seqNo) } }.settle
    | none => m

def execPacketAck (p : Packet) (parityBad : Option Nat) (s : State) : Host.Outcome State Fault Refusal :=
  goOn (Module.arrive p parityBad .good (Module.acked p)) s

/-- R198: an HBMWR write of slot i was refused: its sector is unchanged and the slot rolls back. Each refused rewrite is
logged with its sector and freezes the module, which discards the slot (R212) as the others go on. -/
def Module.writeFailed (i addr tag : Nat) (m : Module) : Module :=
  let sl := m.slot i
  let out := sl.hbmwrOut.erase (addr, tag)
  let kept := match sl.preImages.findIdx? (fun e => e.1 == addr) with
    | some k => sl.preImages.eraseIdx k
    | none => sl.preImages
  if sl.rewriting then
    (((m.log 0x0503 dieH [(37, addr)]).setSlot i { sl with hbmwrOut := out }).faultFreeze 0x0503).rollOn i
  else
    (m.setSlot i { sl with hbmwrOut := out, preImages := kept, preOut := [], rolling := true }).rollOn i

/-- ERRNOTE (R210, R92, R198); after a failed check capture or trace enters STOPPED (R347). -/
def Module.errNoted (p : Packet) (m : Module) : Module :=
  let s := m.stats p.dst
  let m1 := (m.setStats p.dst { s with errnotes := satAdd 32 s.errnotes 1 }).log 0x0210 (p.dst / 256 % 16)
    [(20, p.dst), (12, p.tag), (64, p.addr), (4, p.status)]
  if p.dst = m1.epTxn then
    match m1.writerSlot p.addr p.tag with
    | some i => m1.writeFailed i p.addr p.tag
    | none => m1
  else if p.dst = m1.epTrigger then (if p.status = psMac then m1.stopCapture else m1).capAcked p.addr
  else if p.dst = m1.epFunnel then (if p.status = psMac then m1.stopTrace else m1)
  else
    match m1.data.memAccs.find? (fun a => a.write && !a.waiting && a.tag == some p.tag && a.addr == p.addr
        && m1.portEp a.portKey == p.dst) with
    | some a =>
      let m2 := { m1 with data := { m1.data with memAccs := m1.data.memAccs.filter (fun b => b.seqNo != a.seqNo) } }
      if p.status = psMac then m2.faultFreeze 0x0401 else m2.faultWith 0x0423 (a.portKey / 4096) []
    | none => m1

def execErrnote (p : Packet) (parityBad : Option Nat) (s : State) : Host.Outcome State Fault Refusal :=
  goOn (Module.arrive p parityBad .good (Module.errNoted p)) s

/-! ### Timeouts (R275, R276) -/

/-- R276: the steward counts a timeout of an endpoint; at the third in a row it is dead. -/
def Module.reportTimeout (ep : Nat) (m : Module) : Module :=
  let n := sget 0 m.fabric.timeouts ep + 1
  let m1 := { m with fabric := { m.fabric with timeouts := sset 0 m.fabric.timeouts ep n } }
  if n ≠ 3 then m1
  else
    let m2 := if ep / 4096 = m1.disc.modnum then
        { m1 with fabric := { m1.fabric with deadEp := sset false m1.fabric.deadEp (deadKey ep) true } } else m1
    m2.log 0x0203 srcSteward [(20, ep)]

/-- NP_TIMEOUT (R275): memory-port and mask reads are not timed by it. -/
def Module.npTimeout (tag : Nat) (m : Module) : Module :=
  match m.fabric.tags.find? (fun t => t.tag == tag && !t.quarantine && t.use != 0 && t.use != 3) with
  | none => m
  | some t =>
    let tags := m.fabric.tags.map (fun x => if x.tag = tag then { x with quarantine := true } else x)
    let s := m.stats t.src
    let m1 := (({ m with fabric := { m.fabric with tags := tags } }).setStats t.src { s with timeouts := satAdd 32 s.timeouts 1 }).log
      0x0202 (t.src / 256 % 16) [(20, t.src), (20, t.dst), (64, t.addr)]
    let m2 := m1.reportTimeout t.dst
    if t.use = 1 then m2.hostArrive tag t.addr psTimeout []
    else if t.use = 4 then m2.preArrived tag psTimeout 0
    else m2

def execNpTimeout (tag : Nat) (s : State) : Host.Outcome State Fault Refusal := goOn (Module.npTimeout tag) s

/-- TAG_QUARANTINE_END (R275): the tag is free; a request that waits for one may leave. -/
def Module.quarantineEnd (tag : Nat) (m : Module) : Module :=
  if m.fabric.tags.any (fun t => t.tag == tag && t.quarantine) then (m.dropTag tag).hostPump.maskPump.txnPump.settle else m

def execTagQuarantineEnd (tag : Nat) (s : State) : Host.Outcome State Fault Refusal := goOn (Module.quarantineEnd tag) s

/-- An output of a router as a number: die, router, direction 0-3 or 4 + port of an endpoint. -/
def outputCode (r : Router) (d : Nat) : Nat := ((r.1 * 64 + r.2.1 * 8 + r.2.2) * 8) + d

/-- A packet leaves a router by this output on its way. -/
def Module.crosses (m : Module) (output : Nat) (p : Packet) : Bool :=
  let port := if p.dst / 4096 = m.disc.modnum then p.dst % 4 else 0
  match m.aimOf p with
  | none => false
  | some t => (hopsFrom 64 (m.startOf p) t p.sr p.hops p.route).any (fun h => outputCode h.1 h.2 == output)
      || outputCode t (4 + port) == output

/-- The output through which a direction of a die link sends. -/
def linkOutput (link dir : Nat) : Nat :=
  let a := dieSender link dir
  let b := dieReceiver link dir
  ((List.range 4).findSome? (fun d => match exitOf a d (gridOf (if a < 9 then a else b)).1 with
    | some e => if e.2 = b then some (outputCode e.1 d) else none
    | none => none)).getD 0

/-- R267: the oldest request that waits at a die link goes next. -/
def DieLink.age (x : DieLink) : DieLink := { x with reqLeft := (ageRequests x.reqLeft x.txq).2 }

/-- R267: the oldest request that waits at a bundle goes next. -/
def Bundle.age (x : Bundle) : Bundle := { x with reqLeft := (ageRequests x.reqLeft x.txPktQ).2 }

/-- REQUEST_AGE_LIMIT (R267): the oldest request that waits at the output is served next, whatever its PRI; the network's
list is in the order of service, and a die link or a bundle has its own queue. -/
def Module.ageLimit (output : Nat) (m : Module) : Module :=
  match (List.range 36).find? (fun k => linkOutput (k / 2) (k % 2) == output),
      (List.range 20).find? (fun b => outputCode (bundleRouter b) 4 == output) with
  | some k, _ => m.setDieLink (k / 2) (k % 2) (m.dieLink (k / 2) (k % 2)).age
  | none, some b => m.setBundle b (m.bundle b).age
  | none, none =>
    match m.fabric.net.find? (fun p => p.op < opMSG && m.crosses output p) with
    | none => m
    | some p => { m with fabric := { m.fabric with net := p :: dropPacket p m.fabric.net } }

def execRequestAgeLimit (output : Nat) (s : State) : Host.Outcome State Fault Refusal := goOn (Module.ageLimit output) s

/-! ### Die-link frames (R272, R273) -/

/-- R272: credits by the difference from the last count accepted. -/
def gained (new last : Nat) : Nat := (new + 256 - last % 256) % 256

/-- R273: ACK covers the frames sent up to its SEQ. -/
def ackDrop (ack : Nat) (fs : List (Nat × List (Nat × BitVec 256))) : List (Nat × List (Nat × BitVec 256)) :=
  match fs.findIdx? (fun f => f.1 == ack) with
  | some k => fs.drop (k + 1)
  | none => fs

/-- R272, R273: the sender of a direction takes ACK and credits from a frame that came back; what waits may leave. -/
def Module.takeControl (link dir : Nat) (f : DieFrame) (m : Module) : Module :=
  let x := m.dieLink link dir
  let left := ackDrop f.ack x.unacked
  let y : DieLink := { x with unacked := left, passes := if left.length = x.unacked.length then x.passes else 0,
                              crReq := f.crReq, crRsp := f.crRsp, crMsg := f.crMsg, haveReq := x.haveReq + gained f.crReq x.crReq,
                              haveRsp := x.haveRsp + gained f.crRsp x.crRsp, haveMsg := x.haveMsg + gained f.crMsg x.crMsg }
  (m.setDieLink link dir y).dieSend link dir (y.txq.length + 1)

/-- R273: one NAK until the expected frame comes. -/
def Module.dieNak (link dir : Nat) (m : Module) : Module :=
  let x := m.dieLink link dir
  if x.nakSent then m
  else (m.setDieLink link dir { x with nakSent := true }).send
    (.dieNak link (1 - dir) ((x.rxSeq + 255) % 256) (m.dieFrameOf link (1 - dir) 2 0 []))

/-- R267: flits freed by VC. -/
def countFreed (freed : List Nat) (fs : List (Nat × BitVec 256)) : List Nat :=
  [1, 2, 3].map (fun vc => (nth 0 freed (vc - 1) + (fs.filter (fun f => f.1 == vc)).length) % 256)

/-- R273: an accepted frame: its flits are routed on, whole packets by their way. -/
def Module.dieAccept (link dir : Nat) (f : DieFrame) (m : Module) : Module :=
  let x := m.dieLink link dir
  let fs := (f.flits.zip f.vcmap).filterMap (fun e => if e.2 = 0 then none else some (e.2, e.1))
  let r := takePackets 16 (x.rxq ++ fs)
  let y : DieLink := { x with rxSeq := (x.rxSeq + 1) % 256, nakSent := false, rxq := r.2, freed := countFreed x.freed fs }
  r.1.foldl (fun m p => m.carry (linkEntry link dir) p) (m.setDieLink link dir y)

/-- A frame on a direction of a link; one whose CRC fails is discarded and NAKed (R273). -/
def Module.dieFrame (link dir : Nat) (f : DieFrame) (body : Module → Module) (m : Module) : Module :=
  if !f.crcOk then m.dieNak link dir else body (m.takeControl link (1 - dir) f)

def Module.dieData (link dir : Nat) (f : DieFrame) (m : Module) : Module :=
  if f.seq = (m.dieLink link dir).rxSeq then m.dieAccept link dir f else m.dieNak link dir

def execDlinkDataFrame (link dir : Nat) (f : DieFrame) (s : State) : Host.Outcome State Fault Refusal :=
  goOn (Module.dieFrame link dir f (Module.dieData link dir f)) s

def execDlinkIdleFrame (link dir : Nat) (f : DieFrame) (s : State) : Host.Outcome State Fault Refusal :=
  goOn (Module.dieFrame link dir f id) s

/-- R273: a resend pass of a direction; eight in a row of one oldest frame: DLINK_DOWN (0x0221). R285: a NAK and a replay
timeout in one cycle give one pass. -/
def Module.resendPass (link dir : Nat) (nak : Bool) (m : Module) : Module :=
  let x := m.dieLink link dir
  if x.unacked.isEmpty ∨ x.passAt = some (m.seq.cycle, !nak) then m
  else
    let m1 := x.unacked.foldl (fun m f => m.send (.dieFrame link dir f.1 (m.dieFrameOf link dir 0 f.1 f.2)))
      (m.setDieLink link dir { x with passes := x.passes + 1, passAt := some (m.seq.cycle, nak) })
    let m2 := { m1 with fabric := { m1.fabric with dlReplays := smod 0 m1.fabric.dlReplays (linkKey link dir) (fun v => satAdd 32 v 1) } }
    if x.passes + 1 = 8 then m2.faultWith 0x0221 (dieSender link dir) [(5, link), (1, dir)] else m2

def execDlinkNak (link dir : Nat) (f : DieFrame) (s : State) : Host.Outcome State Fault Refusal :=
  goOn (Module.dieFrame link dir f (Module.resendPass link (1 - dir) true)) s

def execDlinkReplayTimeout (link dir : Nat) (s : State) : Host.Outcome State Fault Refusal :=
  goOn (Module.resendPass link dir false) s

/-- R273: an IDLE frame of a direction, where its ACK and credits say something new. -/
def Module.dieIdle (m : Module) (key : Nat) : Module :=
  let link := key / 2
  let dir := key % 2
  let back := m.dieLink link (1 - dir)
  let now := dieControl 1 0 ((back.rxSeq + 255) % 256) 0 (nth 0 back.freed 0) (nth 0 back.freed 1) (nth 0 back.freed 2)
  let x := m.dieLink link dir
  if x.told = now then m
  else (m.setDieLink link dir { x with told := now }).send (.dieIdle link dir (m.dieFrameOf link dir 1 0 []))

/-- R273: the 36 directions of the die links send IDLE frames where no flit waits. -/
def Module.dieIdles (m : Module) : Module :=
  if m.fabric.dieLinks.isEmpty then m else (List.range 36).foldl Module.dieIdle m

/-! ### Statistics (R278) -/

/-- R278: the initiator that INIT_SEL names. -/
def Module.selected (m : Module) : Nat := m.reg rInitSel % 2 ^ 20

/-- INIT_SEL: a snapshot of the initiator's counters is latched. -/
def Module.initSel (ep : Nat) (m : Module) : Module :=
  let m1 := m.setReg rInitSel (ep % 2 ^ 20)
  ({ m1 with fabric := { m1.fabric with snapshot := m1.stats (ep % 2 ^ 20) } }).answer stOK

def execInitSel (ep : Nat) (s : State) : Host.Outcome State Fault Refusal := goOn (Module.planeControl (Module.initSel ep)) s

def execStatsClearOne (s : State) : Host.Outcome State Fault Refusal :=
  goOn (Module.planeControl (fun m => (m.setStats m.selected InitStats.init).answer stOK)) s

def execStatsClearAll (s : State) : Host.Outcome State Fault Refusal :=
  goOn (Module.planeControl (fun m => ({ m with fabric := { m.fabric with stats := [] } }).answer stOK)) s

end Sys2Proof.Machine
end

