-- ==== Sys2Proof/Machine/Lanes.lean ====
section
/-! DEFINITION. Machine/Lanes.lean: meanings of the lane commands: control blocks, static and packet frames, replay, lane
health, power states, LINKSVC and PRBS (R286-R311). -/

namespace Sys2Proof.Machine

/-- Die code of the link die of a bundle. -/
def bundleDie (b : Nat) : Nat := if b < 10 then dieL0 else dieL1

/-- Distance from SEQ a to SEQ b, mod 256. -/
def seqDist (a b : Nat) : Nat := (b + 256 - a % 256) % 256

/-! ### Control blocks (R292, R297, R298, R137) -/

/-- R292: the control block that a bundle sends. -/
def Bundle.control (x : Bundle) (op ncls nseq nlane : Nat) : CtlBlock :=
  { op := op, nclass := ncls, nseq := nseq, nlane := nlane, lsStatic := x.lsStatic, lsPrio := x.lsPrio,
    lsPkt := x.lsPkt, ackPkt := (x.rxPkt + 255) % 256, crReq := nth 0 x.freed 0, crRsp := nth 0 x.freed 1,
    crMsg := nth 0 x.freed 2, skewcr := x.released % 65536, vc := 0 }

/-- An LCTL frame: OP 1 NAK, 2 QUIET_REQ, 3 QUIET_ACK, 4 QUIET_REFUSE, 5 LANE_DROP (R292). -/
def Module.lctl (b op ncls nseq nlane : Nat) (m : Module) : Module :=
  m.sendFrame b { rank := 1, seq := 0, body := .lctl op ncls nseq nlane } (.lctl b ((m.bundle b).control op ncls nseq nlane))

/-- R297: frame classes: 1 static, 2 packet, 3 priority. The gaps that stand, the SEQ expected next, a SEQ held out of order. -/
def Bundle.gaps (x : Bundle) (cls : Nat) : List Nat :=
  if cls = 1 then x.gapStatic else if cls = 2 then x.gapPkt else x.gapPrio
def Bundle.setGaps (x : Bundle) (cls : Nat) (g : List Nat) : Bundle :=
  if cls = 1 then { x with gapStatic := g } else if cls = 2 then { x with gapPkt := g } else { x with gapPrio := g }
def Bundle.expected (x : Bundle) (cls : Nat) : Nat := if cls = 1 then x.rxStatic else if cls = 2 then x.rxPkt else x.rxPrio
def Bundle.holds (x : Bundle) (cls seq : Nat) : Bool :=
  if cls = 1 then x.oooStatic.any (fun f => f.1 == seq)
  else if cls = 2 then x.oooPkt.any (fun f => f.1 == seq)
  else x.oooPrio.any (fun f => f.1 == seq)

/-- R297: of the n SEQs expected next, those that are not held and stand in no gap yet. -/
def Bundle.missing (x : Bundle) (cls n : Nat) : List Nat :=
  ((List.range n).map (fun i => (x.expected cls + i) % 256)).filter (fun q => !x.holds cls q && !(x.gaps cls).contains q)

/-- R297: the next n SEQs of a class are found to have been sent: each that is missing is a gap, and a NAK names it. -/
def Module.findGap (b cls n : Nat) (m : Module) : Module :=
  let x := m.bundle b
  let new := x.missing cls n
  if new.isEmpty then m
  else new.foldl (fun m e => m.lctl b 1 cls e 0) (m.setBundle b (x.setGaps cls (x.gaps cls ++ new)))

/-- R297: a gap whose frame has come stands no longer. -/
def Bundle.closeGaps (x : Bundle) (cls : Nat) : Bundle :=
  x.setGaps cls ((x.gaps cls).filter (fun q => decide (seqDist (x.expected cls) q < 128) && !x.holds cls q))

/-- R297: a control block whose LS shows a SEQ not yet held. -/
def Module.judgeLs (b cls ls : Nat) (m : Module) : Module :=
  let d := seqDist ((m.bundle b).expected cls) ls
  if d < 128 then m.findGap b cls (d + 1) else m

/-- R298: ACK_PKT covers the packet frames kept up to its SEQ. -/
def pktAcked (ack : Nat) (fs : List (Nat × Nat × BitVec 256)) : List (Nat × Nat × BitVec 256) :=
  match fs.findIdx? (fun f => f.1 == ack) with
  | some k => fs.drop (k + 1)
  | none => fs

/-- R292: how far a cumulative count mod n has moved on; a block that was sent before the last one taken moves nothing. -/
def movedOn (n last new : Nat) : Nat :=
  let d := (new + n - last % n) % n
  if 2 * d ≤ n then d else 0

/-- R137, R267, R292, R298: what a received control block tells the transmitter and the receiver. -/
def Module.takeBlock (b : Nat) (cb : CtlBlock) (m : Module) : Module :=
  let x := m.bundle b
  let keep := pktAcked cb.ackPkt x.keepPkt
  let skewAck := x.skewAck + movedOn 65536 x.skewAck cb.skewcr
  let y : Bundle := { x with
    keepPkt := keep, pktResends := if x.resent.any (fun r => keep.any (fun f => f.1 == r.2.1)) then x.pktResends else 0,
    skewAck := skewAck, skew := x.skew.filter (fun e => decide (0 < e.due) || decide (skewAck < e.last)),
    crReq := (x.crReq + movedOn 256 x.crReq cb.crReq) % 256, crRsp := (x.crRsp + movedOn 256 x.crRsp cb.crRsp) % 256,
    crMsg := (x.crMsg + movedOn 256 x.crMsg cb.crMsg) % 256, haveReq := x.haveReq + movedOn 256 x.crReq cb.crReq,
    haveRsp := x.haveRsp + movedOn 256 x.crRsp cb.crRsp, haveMsg := x.haveMsg + movedOn 256 x.crMsg cb.crMsg }
  let m1 := (((m.setBundle b y).judgeLs b 1 cb.lsStatic).judgeLs b 2 cb.lsPkt).judgeLs b 3 cb.lsPrio
  (m1.pktPump b).settle

/-- A frame can arrive: the bundle is up. -/
def Module.bundleUp (b : Nat) (f : Module → Module) (m : Module) : Module := if (m.bundle b).state = 1 then f m else m

/-- The module lane number of a lane of a bundle. -/
def laneNo (b i : Nat) : Nat := 8 * b + i % 8

/-- R302: 1,024 good frames in a row pass VERIFY. -/
def verifyGood : Nat := 1024

/-- R302: a good IDLE frame on a lane in VERIFY. -/
def Module.goodIdle (l : Nat) (m : Module) : Module :=
  let x := m.lane l
  let y : Lane := { x with good := x.good + 1 }
  if x.phase ≠ some .verify then m
  else if verifyGood ≤ y.good then m.laneUp l y
  else m.setLane l y

/-- LANE_IDLE (R292, R302). -/
def execLaneIdle (bundle lane : Nat) (cb : CtlBlock) (s : State) : Host.Outcome State Fault Refusal :=
  goOn (fun m => (m.bundleUp bundle (Module.takeBlock bundle cb)).goodIdle (laneNo bundle lane)) s

/-! ### Replay (R297, R298, R300) -/

/-- R300: no lane pair is healthy, or eight resends in a row: every lane retrains in full. -/
def Module.bundleDown (b : Nat) (m : Module) : Module :=
  ((m.setBundle b { m.bundle b with state := 0, quietPending := false, pktResends := 0 }).log 0x0302 (bundleDie b) []).retrain b

/-- R298: a packet frame is resent; the eighth resend in a row of one frame takes the bundle down. R311: a NAK and
a resend timeout of one frame in one frame period give one resend. -/
def Module.resendPkt (b seq vc : Nat) (flit : BitVec 256) (nak : Bool) (m : Module) : Module :=
  let x := m.bundle b
  if x.resent = some (x.period, seq, !nak) then m
  else
    let n := if x.resent.any (fun r => r.2.1 == seq) then x.pktResends + 1 else 1
    let m1 := ((m.setBundle b { x with pktResends := n, resent := some (x.period, seq, nak) }).sendFrame b
      { rank := 4, seq := seq, body := .packet vc flit } (.pktFrame b seq vc flit)).satReg 32 (rReplaysP b) 1
    if 8 ≤ n then m1.bundleDown b else m1

/-- R297: FRAME_LOST with the bundle, the class and the SEQ. -/
def Module.frameLost (b cls seq : Nat) (m : Module) : Module :=
  m.faultWith 0x0304 (bundleDie b) [(5, b), (2, cls), (8, seq)]

/-- R297, R298: the frame that a NAK names is resent, or is no longer held. -/
def Module.replay (b cls seq : Nat) (m : Module) : Module :=
  let x := m.bundle b
  match cls with
  | 1 => (match x.keepStatic.find? (fun f => f.1 == seq) with
      | some f => (m.sendFrame b { rank := 3, seq := seq, body := .static f.2.2 f.2.1 } (.staticF b seq f.2.2 f.2.1)).satReg 32 (rReplaysS b) 1
      | none => m.frameLost b 1 seq)
  | 2 => (match x.keepPkt.find? (fun f => f.1 == seq) with
      | some f => m.resendPkt b seq f.2.1 f.2.2 true
      | none => m.frameLost b 2 seq)
  | 3 => (match x.keepPrio.find? (fun f => f.1 == seq) with
      | some f => (m.sendFrame b { rank := 2, seq := seq, body := f.2.2 } f.2.1).satReg 32 (rReplaysPrio b) 1
      | none => m.frameLost b 3 seq)
  | _ => m

/-- LANE_NAK (R297). -/
def execLaneNak (bundle : Nat) (cb : CtlBlock) (s : State) : Host.Outcome State Fault Refusal :=
  goOn (Module.bundleUp bundle (fun m => (m.takeBlock bundle cb).replay bundle cb.nclass cb.nseq)) s

/-- NAK_REPEAT (R297): the gaps of a class still stand after 16 ns. -/
def Module.nakRepeat (b cls : Nat) (m : Module) : Module :=
  ((m.bundle b).gaps cls).foldl (fun m seq => m.lctl b 1 cls seq 0) m

def execNakRepeat (bundle cls : Nat) (s : State) : Host.Outcome State Fault Refusal := goOn (Module.nakRepeat bundle cls) s

/-- LANE_PACKET_RESEND_TIMEOUT (R298). -/
def Module.resendOldest (b : Nat) (m : Module) : Module :=
  match (m.bundle b).keepPkt with
  | f :: _ => m.resendPkt b f.1 f.2.1 f.2.2 false
  | [] => m

def execLanePacketResendTimeout (bundle : Nat) (s : State) : Host.Outcome State Fault Refusal :=
  goOn (Module.bundleUp bundle (Module.resendOldest bundle)) s

/-! ### Static and packet frames (R293, R294, R298) -/

/-- R294: the bits of a frame join the stream of their folio; STATIC_LAST ends that folio's stream. Between the last step of a
folio without a bit on the bundle and the next one's launch they open the next folio's. -/
def Bundle.addStatic (x0 : Bundle) (between : Bool) (payload : BitVec 464) (last : Bool) : Bundle :=
  let bits := (List.range 464).map (fun i => payload.getLsbD i)
  let x : Bundle := if between ∧ !x0.gotBits ∧ x0.storeNext = [] then { x0 with storeNext := [[]] } else x0
  let y : Bundle := match x.storeNext.reverse with
    | [] => { x with store := x.store ++ bits, gotBits := true }
    | l :: rest => { x with storeNext := (((l ++ bits) :: rest).reverse) }
  if last then { y with storeNext := y.storeNext ++ [[]] } else y

/-- R293: frames held out of order follow in SEQ order. -/
def Bundle.drainStatic (between : Bool) : Nat → Bundle → Bundle
  | 0, x => x
  | n + 1, x => match x.oooStatic.find? (fun f => f.1 == x.rxStatic) with
    | some f => Bundle.drainStatic between n ({ x with oooStatic := x.oooStatic.filter (fun g => g.1 != f.1), rxStatic := (x.rxStatic + 1) % 256 }.addStatic between f.2.1 f.2.2)
    | none => x

/-- A static frame (R293, R294, R297): in order it enters the inbound store; a later one is held, and the gap NAKed; one
seen before is discarded. -/
def Module.staticIn (b seq : Nat) (payload : BitVec 464) (last : Bool) (m : Module) : Module :=
  let x := m.bundle b
  let d := seqDist x.rxStatic seq
  if d = 0 then
    let between := m.seq.phase != .issuing
    let y := Bundle.drainStatic between 64 ({ x with rxStatic := (x.rxStatic + 1) % 256 }.addStatic between payload last)
    (m.setBundle b (y.closeGaps 1)).settle
  else if d < 128 ∧ x.oooStatic.length < 64 ∧ !x.holds 1 seq then
    (m.setBundle b ({ x with oooStatic := x.oooStatic ++ [(seq, payload, last)] }.closeGaps 1)).findGap b 1 d
  else if d < 128 then m.findGap b 1 d
  else m

def execStaticFrame (bundle seq : Nat) (payload : BitVec 464) (s : State) : Host.Outcome State Fault Refusal :=
  goOn (Module.bundleUp bundle (Module.staticIn bundle (seq % 256) payload false)) s

def execStaticLast (bundle seq : Nat) (payload : BitVec 464) (s : State) : Host.Outcome State Fault Refusal :=
  goOn (Module.bundleUp bundle (Module.staticIn bundle (seq % 256) payload true)) s

/-- R293, R298: packet frames held out of order follow in SEQ order. -/
def Bundle.drainPkt : Nat → Bundle → Bundle
  | 0, x => x
  | n + 1, x => match x.oooPkt.find? (fun f => f.1 == x.rxPkt) with
    | some f => Bundle.drainPkt n { x with oooPkt := x.oooPkt.filter (fun g => g.1 != f.1), rxPkt := (x.rxPkt + 1) % 256,
                                           rxq := x.rxq ++ [f.2] }
    | none => x

/-- R265: an OP that is no reserved code. -/
def opKnown (op : Nat) : Bool := decide (op ≤ opMSG) || op == opCPL || op == opACK || op == opERR

/-- R265, R270, R276: a packet that came on a bundle enters the network at the bundle's router: one with a reserved OP is
discarded there and counted, one whose router is dead is absorbed; one for another module has made one more crossing. -/
def Module.enterNet (b : Nat) (m : Module) (p0 : Packet) : Module :=
  let p := m.received p0
  let r := bundleRouter b
  if !opKnown p.op then m.satReg 32 rBadOp 1
  else if m.routerDead r then m.absorb r p
  else m.startAt r p

/-- The flits received in order are routed on once their packet is whole. -/
def Module.routeIn (b old : Nat) (m : Module) : Module :=
  let x := m.bundle b
  let new := x.rxq.drop old
  let r := takePackets 64 x.rxq
  let m1 := m.setBundle b { x with rxq := r.2, freed := countFreed x.freed new }
  r.1.foldl (Module.enterNet b) m1

/-- LANE_PACKET (R293, R298): its control block is taken and its flit received in order, or held, or seen before. -/
def Module.packetIn (b seq : Nat) (flit : BitVec 256) (cb : CtlBlock) (m : Module) : Module :=
  let m0 := m.takeBlock b cb
  let x := m0.bundle b
  let d := seqDist x.rxPkt seq
  if d = 0 then
    let y := Bundle.drainPkt 64 { x with rxPkt := (x.rxPkt + 1) % 256, rxq := x.rxq ++ [(cb.vc, flit)] }
    (m0.setBundle b (y.closeGaps 2)).routeIn b x.rxq.length
  else if d < 128 ∧ x.oooPkt.length < 64 ∧ !x.holds 2 seq then
    (m0.setBundle b ({ x with oooPkt := x.oooPkt ++ [(seq, cb.vc, flit)] }.closeGaps 2)).findGap b 2 d
  else if d < 128 then m0.findGap b 2 d
  else m0

def execLanePacket (bundle seq : Nat) (flit : BitVec 256) (cb : CtlBlock) (s : State) : Host.Outcome State Fault Refusal :=
  goOn (Module.bundleUp bundle (Module.packetIn bundle (seq % 256) flit cb)) s

/-! ### Lane health (R291, R300) -/

/-- R300: the lane pair carries frames. -/
def Lane.healthy (x : Lane) : Bool := x.trained && !x.failed

/-- R300: the CRC failures of a lane in the last 65,536 frame periods of its bundle. -/
def Module.windowErrs (m : Module) (l : Nat) : Nat :=
  ((m.lane l).errAt.filter (fun p => decide ((m.bundle (l / 8)).period < p + 65536))).length

/-- LANE_FRAME_BAD (R291, R300): a CRC failure of the lane that carried the frame; R297: it finds the gap of the class whose
frame was lost, where there is one. -/
def Module.frameBad (b l cls : Nat) (m : Module) : Module :=
  let x := m.lane l
  let now := (m.bundle b).period
  let m1 := m.setLane l { x with crcErrs := satAdd 32 x.crcErrs 1, errAt := (now :: x.errAt.filter (fun p => decide (now < p + 65536))) }
  if 1 ≤ cls ∧ cls ≤ 3 then m1.findGap b cls 1 else m1

/-- R302: a bad frame on a lane in VERIFY ends its run of good ones. -/
def Module.badVerify (l : Nat) (m : Module) : Module :=
  if (m.lane l).phase = some .verify then m.setLane l { m.lane l with good := 0 } else m

def execLaneFrameBad (bundle lane cls : Nat) (s : State) : Host.Outcome State Fault Refusal :=
  goOn (fun m => (m.bundleUp bundle (Module.frameBad bundle (laneNo bundle lane) cls)).badVerify (laneNo bundle lane)) s

/-- R300: both ends exclude a lane pair; without a healthy one the bundle goes down. -/
def Module.exclude (b l : Nat) (m : Module) : Module :=
  let m1 := m.setLane l { m.lane l with failed := true }
  if (lanesOf b).any (fun k => (m1.lane k).healthy) then m1 else m1.bundleDown b

/-- LANE_FAILED (R300): the CRC failures of the window have reached ERR_LIMIT. -/
def Module.laneFailed (b l : Nat) (m : Module) : Module :=
  let x := m.lane l
  if x.healthy ∧ m.reg (rBundleCfg b) % 256 ≤ m.windowErrs l then
    ((m.log 0x0301 (bundleDie b) [(4, 0)]).lctl b 5 0 0 (l % 8)).exclude b l
  else m

def execLaneFailed (bundle lane : Nat) (s : State) : Host.Outcome State Fault Refusal :=
  goOn (Module.bundleUp bundle (Module.laneFailed bundle (laneNo bundle lane))) s

/-- LANE_DROP (R292, R300): its control block is taken, and the far end asks to exclude the pair. -/
def Module.laneDrop (b l : Nat) (cb : CtlBlock) (m : Module) : Module :=
  let m1 := m.takeBlock b cb
  if (m1.lane l).healthy then m1.exclude b l else m1

def execLaneDrop (bundle lane : Nat) (cb : CtlBlock) (s : State) : Host.Outcome State Fault Refusal :=
  goOn (Module.bundleUp bundle (Module.laneDrop bundle (laneNo bundle lane) cb)) s

/-! ### Power states (R305, R306) -/

/-- R305: POWER of a bundle. -/
def Module.bundlePower (m : Module) (b : Nat) : Nat := bitsOf (m.reg (rBundleCfg b)) 9 8

/-- R305, R311: the bundle may go from Active to Quiet: this end has sent only IDLE frames for QUIET_IDLE ns, nothing waits and
no lane trains; a stitch bundle of a module in a system may not. -/
def Module.mayQuiet (m : Module) (b : Nat) : Bool :=
  let x := m.bundle b
  x.carries && decide (x.busyAt + m.reg (rQuietIdle b) ≤ m.seq.cycle) && !x.retraining
    && (lanesOf b).all (fun l => (m.lane l).phase.isNone)
    && x.gapStatic.isEmpty && x.gapPkt.isEmpty && x.gapPrio.isEmpty && x.keepPkt.isEmpty && x.txPktQ.isEmpty && x.txq.isEmpty
    && m.bundlePower b == 0 && !(m.inSystem && (b == 0 || b == 1 || b == 10 || b == 11))

/-- R305: a bundle in Quiet exits and sends what waits. -/
def Module.exitQuiet (b : Nat) (m : Module) : Module :=
  if (m.bundle b).state = 1 ∧ (m.bundle b).pstate = 1 then (m.leaveQuiet b).resume b else m

/-- R306: the bundle is Quiet; a frame that waits starts the exit at once. -/
def Module.enterQuiet (b : Nat) (m : Module) : Module :=
  let m1 := m.setBundle b { m.bundle b with pstate := 1, quietPending := false, quietAt := m.seq.cycle }
  if (m1.bundle b).txPktQ.isEmpty ∧ (m1.bundle b).txq.isEmpty then m1 else m1.exitQuiet b

/-- QUIET_IDLE_EXPIRY (R305, R306). -/
def Module.quietIdle (b : Nat) (m : Module) : Module :=
  if m.mayQuiet b ∧ !(m.bundle b).quietPending then
    (m.setBundle b { m.bundle b with quietPending := true }).lctl b 2 0 0 0
  else m

def execQuietIdleExpiry (bundle : Nat) (s : State) : Host.Outcome State Fault Refusal := goOn (Module.quietIdle bundle) s

/-- QUIET_REQ (R306, R311): when both ends ask, the lower module number governs; a bundle that retrains refuses. The
answer QUIET_ACK is queued; the bundle enters Quiet in the frame period that sends it (Periods.lean). -/
def Module.quietReq (b : Nat) (m : Module) : Module :=
  let x := m.bundle b
  let governs : Bool := x.quietPending && (match x.nbr with
    | some n => decide (m.disc.modnum < n)
    | none => false)
  if governs then m
  else if m.mayQuiet b then m.lctl b 3 0 0 0
  else (m.setBundle b { x with quietPending := false }).lctl b 4 0 0 0

def execQuietReq (bundle : Nat) (cb : CtlBlock) (s : State) : Host.Outcome State Fault Refusal :=
  goOn (Module.bundleUp bundle (fun m => (m.takeBlock bundle cb).quietReq bundle)) s

/-- QUIET_ACK (R306). -/
def Module.quietAcked (b : Nat) (m : Module) : Module :=
  if (m.bundle b).quietPending ∧ (m.bundle b).carries then m.enterQuiet b else m

def execQuietAck (bundle : Nat) (cb : CtlBlock) (s : State) : Host.Outcome State Fault Refusal :=
  goOn (Module.bundleUp bundle (fun m => (m.takeBlock bundle cb).quietAcked bundle)) s

/-- QUIET_REFUSE (R306): this end waits QUIET_IDLE again. -/
def Module.quietRefused (b : Nat) (m : Module) : Module :=
  m.setBundle b { m.bundle b with quietPending := false, busyAt := m.seq.cycle }

def execQuietRefuse (bundle : Nat) (cb : CtlBlock) (s : State) : Host.Outcome State Fault Refusal :=
  goOn (Module.bundleUp bundle (fun m => (m.takeBlock bundle cb).quietRefused bundle)) s

/-- QUIET_EXIT (R305): the training burst is sent and frames resume. -/
def execQuietExit (bundle : Nat) (s : State) : Host.Outcome State Fault Refusal := goOn (Module.exitQuiet bundle) s

/-- TRAINING_BURST (R305): the far end resumes frames. -/
def Module.burstIn (b : Nat) (m : Module) : Module :=
  let x := m.bundle b
  if x.state = 1 ∧ x.pstate = 1 then (m.setBundle b { x with pstate := 0, busyAt := m.seq.cycle }).resume b else m

def execTrainingBurst (bundle : Nat) (s : State) : Host.Outcome State Fault Refusal := goOn (Module.burstIn bundle) s

/-- OFF_ENTRY (R305): with POWER = 2. -/
def execOffEntry (bundle : Nat) (s : State) : Host.Outcome State Fault Refusal :=
  goOn (fun m => if m.bundlePower bundle = 2 ∧ (m.bundle bundle).state ≠ 2 then
    m.setBundle bundle { m.bundle bundle with pstate := 2, quietPending := false } else m) s

/-! ### LINKSVC (R308, R309, R310) -/

/-- R309: acts only in LINKSVC. -/
def Module.inService (f : Module → Module) (m : Module) : Module :=
  if m.ctl.mode = .linksvc then (f m).answer stOK else m.answer stRefused

def execLinksvcCmdRetrain (s : State) : Host.Outcome State Fault Refusal :=
  goOn (Module.planeControl (Module.inService (fun m => (List.range 20).foldl (fun m b => m.retrain b) m))) s

def execLinksvcCmdRecalibrate (s : State) : Host.Outcome State Fault Refusal :=
  goOn (Module.planeControl (Module.inService (fun m => if m.inSystem then m.sendEchoes else m))) s

/-- LINKSVC_CMD = 3: discovery runs again from step 1. -/
def Module.rediscover (m : Module) : Module :=
  if !m.inSystem then m
  else
    let m1 := { m with disc := { m.disc with adjs := [], echoDue := [], echoOut := [], ringSize := 0, rings := 0, hopRing := 0, hopHead := 0 },
                       bundles := m.bundles.map (fun (e : Nat × Bundle) => (e.1, { e.2 with nbr := none })) }
    m1.beginDiscovery

def execLinksvcCmdRediscover (s : State) : Host.Outcome State Fault Refusal :=
  goOn (Module.planeControl (Module.inService Module.rediscover)) s

/-- LANE_CTL RETRAIN (R310): one lane pair trains in full. -/
def Module.retrainLane (l : Nat) (m : Module) : Module :=
  (m.setLane l { (m.lane l).train with errAt := [] }).setBundle (l / 8) { m.bundle (l / 8) with retraining := true }

def execLaneCtlRetrain (bundle lane : Nat) (s : State) : Host.Outcome State Fault Refusal :=
  goOn (Module.planeControl (Module.inService (Module.retrainLane (laneNo bundle lane)))) s

/-- LANE_CTL CLR (R308, R309): taken in every mode. -/
def Module.clrPrbs (l : Nat) (m : Module) : Module := m.setLane l { m.lane l with prbsErrs := 0, prbsBits := 0 }

def execLaneCtlClr (bundle lane : Nat) (s : State) : Host.Outcome State Fault Refusal :=
  goOn (Module.planeControl (fun m => (m.clrPrbs (laneNo bundle lane)).answer stOK)) s

/-- PRBS_LOCK (R308): a checker that is on locks and counts from here. -/
def Module.lockPrbs (l : Nat) (m : Module) : Module :=
  let x := m.lane l
  if m.ctl.mode = .linksvc ∧ bitOf x.ctl 6 then m.setLane l { x with prbsLock := true } else m

def execPrbsLock (bundle lane : Nat) (s : State) : Host.Outcome State Fault Refusal :=
  goOn (Module.lockPrbs (laneNo bundle lane)) s

/-- PRBS_LOCK_LOSS (R308): the checker reseeds itself; the counters stay. -/
def Module.losePrbs (l : Nat) (m : Module) : Module :=
  let x := m.lane l
  if x.prbsLock then m.setLane l { x with prbsLock := false } else m

def execPrbsLockLoss (bundle lane : Nat) (s : State) : Host.Outcome State Fault Refusal :=
  goOn (Module.losePrbs (laneNo bundle lane)) s

/-- R308: bits that a lane receives in 1 ns. -/
def bitsPerNs (rate : Nat) : Nat := if rate = 0 then 64 else if rate = 1 then 32 else 16

/-- R307, R308: a near-end loop brings a lane its own pattern, in which no bit is mismatched. -/
def Lane.ownPattern (x : Lane) : Bool := (x.ctl % 8 == 1 || x.ctl % 8 == 2) && bitOf x.ctl 5

/-- R308: 1 ns of a locked checker: it counts every bit, in a counter of 48 bits that wraps and sets its flag, and every
mismatched bit, which are those that the far end and the line bring: a free value. -/
def Module.checkPrbs (m : Module) (l : Nat) : Module :=
  let x := m.lane l
  if !x.prbsLock then m
  else
    let bits := bitsPerNs (m.bundleRate (l / 8))
    let n := x.prbsBits + bits
    let bad := if x.ownPattern then 0 else (Config.openWord m.sec.freeCtr).toNat % (bits + 1)
    ({ m with sec := { m.sec with freeCtr := m.sec.freeCtr + b2n (!x.ownPattern) } }).setLane l
      { x with prbsBits := n % 2 ^ 48, bitsWrap := x.bitsWrap || decide (2 ^ 48 ≤ n), prbsErrs := satAdd 32 x.prbsErrs bad }

/-- 1 ns of the checkers. -/
def Module.countPrbs (m : Module) : Module := (m.lanes.map (·.1)).foldl Module.checkPrbs m

end Sys2Proof.Machine
end

