-- ==== Sys2Proof/Machine/StoreOps.lean ====
section
/-! DEFINITION. Machine/StoreOps.lean: the persistent store at work: writes and clears that end, removals, and reads of a
record (R350-R357). -/

namespace Sys2Proof.Machine

/-- R351: step 1 of a clear: CLEARING, with WEAR one up; the sector joins the journal. -/
def Store.beginClear (st : Store) (k : Nat) : Store :=
  let s := st.sector k
  { st.put k { s with st := secClearing, wear := s.wear + 1, fails := 0 } with journal := k :: st.journal.filter (· != k) }

/-- The sectors of a record in a state. -/
def Store.sectorsOf (st : Store) (record state : Nat) : List Nat :=
  (st.sectors.filter (fun e => e.2.st == state && e.2.record == record && e.2.readable)).map (·.1)

/-- R337, R338, R357: a record is removed: its VALID copies are cleared, a write that waits is dropped, and one under way is
cleared once it completes. -/
def Store.removeRecord (st : Store) (record : Nat) : Store :=
  let st1 := (st.sectorsOf record secValid).foldl Store.beginClear st
  { st1 with queue := st1.queue.filter (fun q => q.1 != record),
             removals := if (st1.sectorsOf record secWriting).isEmpty then st1.removals else record :: st1.removals.filter (· != record) }

/-- The steward goes on after a write or clear: the next write begins, STORE_STATE follows. -/
def Module.storeNext (m : Module) : Module :=
  let m1 := m.endZeroise.storePump
  { m1 with store := m1.store.stated }

/-- R346: MEM_POLICY is stored: the value is in force and its write is answered. -/
def Module.policyStored (body : List Byte) (m : Module) : Module :=
  (m.setReg rMemPolicy ((body.headD 0#8).toNat % 2)).answer stOK

/-- R379: a log record has been stored: it holds the newest chunk, and belongs to this cold-start epoch. -/
def Store.noteChunk (st : Store) (record : Nat) : Store :=
  if 0x0100 ≤ record ∧ record < 0x0200 then
    { st with newest := some (record - 0x0100), chunks := (record - 0x0100) :: st.chunks.filter (· != record - 0x0100) }
  else st

/-- STORE_WRITE_DONE (R350, R351): VALID, and the older copy is cleared; a failed verify clears the sector, and with it ends a
removal that waited for the write. -/
def Module.writeDone (k : Nat) (ok : Bool) (m : Module) : Module :=
  let s := m.store.sector k
  if !(m.store.journal.contains k && s.st == secWriting) then m
  else if !ok then
    let st := m.store.beginClear k
    let m1 := { m with store := { st with removals := st.removals.filter (· != s.record) } }
    (if s.record = 0x0020 then m1.answer stRefused else m1).storeNext
  else
    let old := (m.store.current s.record).map (·.1)
    let st1 : Store := { m.store.put k { s with st := secValid } with journal := m.store.journal.filter (· != k) }
    let st2 := match old with
      | some j => st1.beginClear j
      | none => st1
    let st3 := if st2.removals.contains s.record then
        { st2.beginClear k with removals := st2.removals.filter (· != s.record) } else st2
    let m1 := { m with store := st3.noteChunk s.record }
    (if s.record = 0x0020 then m1.policyStored (s.bodyBytes 0 s.len) else m1).storeNext

/-- STORE_CLEAR_DONE (R350, R351, R354): ERASED, or RETIRED at the endurance or after two failed verifies. -/
def Module.clearDone (k : Nat) (ok : Bool) (m : Module) : Module :=
  let s := m.store.sector k
  if !(m.store.journal.contains k && s.st == secClearing) then m
  else if !ok ∧ s.fails = 0 then { m with store := m.store.put k { s with fails := 1 } }
  else
    let done : Sector := if ok then s.cleared else s.retired
    let m1 := { m with store := { m.store.put k done with journal := m.store.journal.filter (· != k) } }
    (if done.st = secRetired then m1.log 0x0803 srcSteward [(12, k), (32, done.wear)] else m1).storeNext

/-- STORE_READ_DATA (R356): the selected chunk of the current copy of the selected record; served in every mode (R359). -/
def Module.storeRead (m : Module) : Module :=
  let sel := m.reg rStoreReadSel
  match m.store.current (sel / 65536) with
  | some (_, s) =>
    let bs := s.bodyBytes (4096 * (sel % 65536)) 4096
    ({ m with store := { m.store with readData := bs, readSeq := s.seq },
              stew := { m.stew with lastRead := bs } }).answer stOK
  | none => ({ m with stew := { m.stew with lastRead := [] } }).answer stNoRecord

def execStoreReadData (s : State) : Host.Outcome State Fault Refusal := goOn Module.storeRead s

end Sys2Proof.Machine
end

