-- ==== Sys2Proof/Machine/Keys.lean ====
section
/-! DEFINITION. Machine/Keys.lean: binding keys, zeroisation, entropy, the memory policy and the ADMIN key (R337-R339, R346,
R362). -/

namespace Sys2Proof.Machine

/-- R337: the modes in which binding keys change: IDLE, and LOAD with LOAD_STATE 0. -/
def Module.keyMode (m : Module) : Bool :=
  decide (m.ctl.mode = .idle) || (decide (m.ctl.mode = .load) && m.load.state == 0)

/-- KEY_INSTALL (R337). With no ERASED sector and no write before it the record write fails at once (R351): the write is
refused (DESIGN CHOICE; R337 does not name the case). -/
def Module.keyInstall (v : Nat) (m : Module) : Module :=
  let slot := bitsOf v 507 504
  let wrap := bitsOf v 319 0
  if !m.keyMode ∨ m.keySlot slot ∨ bitsOf v 511 508 ≠ 0 ∨ bitsOf v 503 320 ≠ 0 then m.answer stRefused
  else match unwrapKey "OND8-W" [BitVec.ofNat 8 slot] wrap with
    | none => (m.log 0x0412 srcSteward []).answer stRefused
    | some _ =>
      if m.store.erased = 0 then (m.storeFull (0x0010 + slot)).answer stRefused
      else ((m.queueRecord (0x0010 + slot) (leBytes 40 wrap)).log 0x0411 srcSteward []).answer stOK

def execKeyInstall (v : BitVec 512) (s : State) : Host.Outcome State Fault Refusal :=
  goOn (Module.control (Module.keyInstall v.toNat)) s

/-- KEY_REMOVE (R337). -/
def Module.keyRemove (slot : Nat) (m : Module) : Module :=
  if !m.keyMode ∨ 15 < slot then m.answer stRefused
  else ({ m with store := m.store.removeRecord (0x0010 + slot) }).storeNext.answer stOK

def execKeyRemove (slot : Byte) (s : State) : Host.Outcome State Fault Refusal :=
  goOn (Module.control (Module.keyRemove slot.toNat)) s

/-- ZEROISE (R338): LOCKDOWN erases the epoch secrets, keys and roots and the key unwrapped in the engine; then every
binding-key record is cleared. It is served in every mode (R359). -/
def Module.zeroise (v : Nat) (m : Module) : Module :=
  if v ≠ 0x5A45524F then m.answer stRefused
  else
    let m1 := m.lockdown 0
    let m2 := { m1 with sec := { m1.sec with stageSecret := none, designSecret := none, engineKey := none, zeroising := true },
                        hbm := { bytes := [], ctr := [], trees := [] },
                        store := (List.range 16).foldl (fun st i => st.removeRecord (0x0010 + i)) m1.store }
    m2.storeNext.answer stOK

def execZeroise (v : BitVec 32) (s : State) : Host.Outcome State Fault Refusal := goOn (Module.zeroise v.toNat) s

/-- RANDOM (R339): 32 bytes of the DRBG, or RETRY. -/
def Module.randomRead (m : Module) : Module :=
  if m.sec.trngReady then
    let r := m.drbgDraw
    ({ r.2 with sec := { r.2.sec with lastRandom := r.1 }, stew := { r.2.stew with lastRead := r.1 } }).answer stOK
  else m.answer stRetry

def execRandom (s : State) : Host.Outcome State Fault Refusal := goOn (Module.control Module.randomRead) s

/-- MEM_POLICY (R346): the value is stored as record 0x0020 before the write is answered; a store that cannot complete it
answers REFUSED and changes nothing. Bits [7:1] are RO (R388). -/
def Module.policyWrite (v : Nat) (m : Module) : Module :=
  if m.ctl.mode ≠ .idle then m.answer stMode
  else (m.answer stPending).queueRecord 0x0020 [BitVec.ofNat 8 (v % 2)]

def execMemPolicyWrite (v : Byte) (s : State) : Host.Outcome State Fault Refusal :=
  goOn (Module.control (Module.policyWrite v.toNat)) s

/-- R362: the unwrapped ADMIN key is installed; a wrap that does not unwrap is refused. -/
def Module.installAdmin (wrap : Nat) (key : Option (BitVec 256)) (m : Module) : Module :=
  match key with
  | none => m.answer stRefused
  | some k => (({ m with sec := { m.sec with adminKey := some k } }).setReg rAdminWrap wrap).answer stOK

/-- ADMIN_KEY (R362, R365): installed in IDLE. -/
def Module.adminKey (wrap : Nat) (m : Module) : Module :=
  if m.ctl.mode ≠ .idle then m.answer stRefused else m.installAdmin wrap (unwrapKey "OND8-A" [] wrap)

def execAdminKey (wrap : BitVec 320) (s : State) : Host.Outcome State Fault Refusal :=
  goOn (Module.control (Module.adminKey wrap.toNat)) s

/-- TRNG_FAIL (R339): the pool is flushed and refills. -/
def Module.trngFailed (m : Module) : Module :=
  ({ m with sec := { m.sec with trngFail := true, trngReady := false } }).log 0x0410 srcSteward []

def execTrngFail (s : State) : Host.Outcome State Fault Refusal := goOn Module.trngFailed s

/-- DRBG_RESEED (R339): a reseed waits for a full pool. -/
def execDrbgReseed (s : State) : Host.Outcome State Fault Refusal :=
  goOn (fun m => if m.sec.trngReady then m.drbgSeed false else m) s

end Sys2Proof.Machine
end

