-- ==== Sys2Proof/Machine/Time.lean ====
section
/-! DEFINITION. Machine/Time.lean: PTP domains, the local time and the folio latches (R366-R371), the links of the management
ports (R365). A message's `domain` is the domain number it carries; ptpHoldover's is the index of the domain, 0 or 1. -/

namespace Sys2Proof.Machine

/-- R367: ingress latency subtracted and egress latency added, by port. -/
def ingressNs (port : Nat) : Int := if port = 0 then 96 else 104
def egressNs (port : Nat) : Int := if port = 0 then 44 else 52

/-- Two's-complement value of the low 32 bits (R386). -/
def int32 (v : Nat) : Int := if v % 2 ^ 32 < 2 ^ 31 then (v % 2 ^ 32 : Nat) else (v % 2 ^ 32 : Nat) - (2 ^ 32 : Nat)

/-- R367: the delay asymmetry of a port. -/
def Module.asym (m : Module) (port : Nat) : Int := int32 (m.reg (rPortAsym port))

/-- R370: the tracked domain of a domain number. -/
def Module.domainOf (m : Module) (number : Nat) : Option Nat :=
  [0, 1].find? (fun d => m.reg (rDomnum d) == number)

def Module.domain (m : Module) (d : Nat) : Domain := nth Domain.init m.stew.domains d
def Module.setDomain (d : Nat) (x : Domain) (m : Module) : Module :=
  { m with stew := { m.stew with domains := setNth m.stew.domains d x } }

/-- R366, R369: the local time moves, in its resolution of 2 ns; durations that run do not (they are measured by the step
clock, DESIGN CHOICE). -/
def Module.moveTime (delta : Int) (m : Module) : Module := { m with stew := m.stew.move delta }

/-- R369, R371: the one step of the local time after a start: PTP_SET (0x0A01); both latches are cleared. A PTP cadence goes
on with the first event that is not past (R115). -/
def Module.setTime (m : Module) : Module :=
  let m1 := m.moveTime m.stew.lead
  let m2 := { m1 with stew := { m1.stew with timeSet := true, slewing := false, latchSec := 0, latchFolio := 0, latchPhase := 0,
                                             prevSec := 0, prevFolio := 0 },
                      seq := { m1.seq with cadK := m1.firstCadence } }
  (m2.log 0x0A01 srcSteward []).wake

/-- R369: the local time comes to follow the active domain, which is LOCKED: by the one step, or by a slew until it lies
within 2 ns. -/
def Module.follow (m : Module) : Module :=
  if !m.stew.timeSet then m.setTime
  else { m with stew := { m.stew with slewing := decide (2 < m.stew.lead.natAbs) } }

/-- R369: a change of the active domain: PTP_SWITCH (0x0A04). -/
def Module.activate (d : Nat) (m : Module) : Module :=
  (({ m with stew := { m.stew with active := d } }).log 0x0A04 srcSteward []).follow

/-- R369: a LOCKED domain enters HOLDOVER: PTP_HOLDOVER (0x0A03), and the switch to the other domain. -/
def Module.holdover (d : Nat) (m : Module) : Module :=
  let x := m.domain d
  if x.state ≠ 2 then m
  else
    let m1 := (m.setDomain d { x with state := 3, good := 0 }).log 0x0A03 srcSteward []
    let other := 1 - d
    if d = m1.stew.active ∧ m1.reg rAutoswitch = 1 ∧ (m1.domain other).state = 2 then m1.activate other else m1

/-- R369: the 16th consecutive Sync within 100 ns: LOCKED, PTP_LOCK (0x0A02). -/
def Module.lockDomain (d : Nat) (m : Module) : Module :=
  let m1 := (m.setDomain d { m.domain d with state := 2 }).log 0x0A02 srcSteward []
  if d = m1.stew.active then m1.follow else m1

/-- R369: the offset of a domain is measured: `lead` is how far the master is ahead of the local time. The domain's clock
takes it; the local time follows the active LOCKED domain. -/
def Module.measure (d : Nat) (lead : Int) (m : Module) : Module :=
  let x := m.domain d
  let offset : Int := if x.state = 0 then 0 else x.ahead - lead
  let near := x.state != 0 && decide (offset.natAbs ≤ 100)
  let y : Domain := { x with offset := offset, ahead := lead, good := if near then min (x.good + 1) 16 else 0,
                             state := if x.state = 0 then 1 else x.state, pendRx := none }
  let m1 := m.setDomain d y
  if y.state = 2 then
    if 1000 < offset.natAbs then m1.holdover d
    else if d = m1.stew.active ∧ !m1.stew.slewing then m1.moveTime lead else m1
  else if y.good = 16 then m1.lockDomain d
  else m1

/-- R366, R367: what a Sync says: master time at its reception less the local time then; the asymmetry adds to its
correction. -/
def Module.syncLead (m : Module) (d : Nat) (rx origin correction : Int) : Int := origin + correction + (m.domain d).delay - rx

/-- R366: the delay request-response mechanism: a slave that has measured a Sync asks for the path delay, one request at a
time. When it asks is the profile's, not the manual's (PRESUMED). -/
def Module.askDelay (port number d : Nat) (m : Module) : Module :=
  let x := m.domain d
  (m.setDomain d { x with reqSeq := (x.reqSeq + 1) % 65536, reqOut := true }).send (.delayReq port number x.reqSeq)

/-- PTP_SYNC (R366, R367, R369); a two-step Sync waits for its Follow_Up. -/
def Module.ptpSync (port number : Nat) (twoStep : Bool) (rxStamp origin correction : Int) (m : Module) : Module :=
  match m.domainOf number with
  | none => m
  | some d =>
    let rx := rxStamp - ingressNs port
    let c := correction + m.asym port
    if twoStep then m.setDomain d { m.domain d with pendRx := some (rx - c) }
    else (m.measure d (m.syncLead d rx origin c)).askDelay port number d

def execPtpSync (port domain : Nat) (twoStep : Bool) (rxStamp originStamp correction : Int) (s : State) :
    Host.Outcome State Fault Refusal :=
  goOn (Module.ptpSync port domain twoStep rxStamp originStamp correction) s

/-- PTP_FOLLOW_UP (R366, R368). -/
def Module.ptpFollowUp (port number : Nat) (origin correction : Int) (m : Module) : Module :=
  match m.domainOf number with
  | none => m
  | some d => match (m.domain d).pendRx with
    | some rx => (m.measure d (m.syncLead d rx origin correction)).askDelay port number d
    | none => m

def execPtpFollowUp (port domain : Nat) (originStamp correction : Int) (s : State) : Host.Outcome State Fault Refusal :=
  goOn (Module.ptpFollowUp port domain originStamp correction) s

/-- PTP_DELAY_RESP (R366, R367): the mean path delay, from the last Sync and the answer to the Delay_Req that waits. `txStamp` is the Delay_Req's
egress stamp on the local time scale, `rxStamp` its reception at the master. -/
def Module.ptpDelayResp (port number : Nat) (txStamp rxStamp correction : Int) (m : Module) : Module :=
  match m.domainOf number with
  | none => m
  | some d =>
    let x := m.domain d
    if x.state = 0 ∨ !x.reqOut then m
    else
      let masterToSlave := x.delay - x.ahead
      let slaveToMaster := rxStamp - (txStamp + egressNs port) - correction
      let delay := (masterToSlave + slaveToMaster) / 2
      m.setDomain d { x with delay := delay, ahead := x.ahead + (delay - x.delay), reqOut := false }

def execPtpDelayResp (port domain : Nat) (txStamp rxStamp correction : Int) (s : State) : Host.Outcome State Fault Refusal :=
  goOn (Module.ptpDelayResp port domain txStamp rxStamp correction) s

def execPtpHoldover (domain : Nat) (s : State) : Host.Outcome State Fault Refusal :=
  goOn (fun m => if domain < 2 then m.holdover domain else m) s

/-- TIME_ACTIVE (R369, R370). -/
def Module.timeActive (v : Nat) (m : Module) : Module :=
  if 1 < v ∨ (m.domain v).state ≠ 2 then m.answer stRefused
  else (if v = m.stew.active then m else m.activate v).answer stOK

def execTimeActiveWrite (v : Byte) (s : State) : Host.Outcome State Fault Refusal :=
  goOn (Module.control (Module.timeActive v.toNat)) s

/-- SLEWING_DONE (R369): the local time, which the passing cycles slew (`Steward.pass`), lies within 2 ns of the active
domain. -/
def Module.slewDone (m : Module) : Module :=
  if m.stew.slewing ∧ m.stew.lead.natAbs ≤ 2 then { m with stew := { m.stew with slewing := false } } else m

def execSlewingDone (s : State) : Host.Outcome State Fault Refusal := goOn Module.slewDone s

/-- R371: where the machine stands: 0 issuing steps, 1 in boundary phases 1 to 7, 2 at the hold point or with no folio. -/
def Module.latchPhase (m : Module) : Nat :=
  if !m.ctl.mode.running then 2
  else match m.seq.phase with
    | .issuing => 0
    | .hold => 2
    | _ => 1

/-- SECOND_PULSE (R371): the folio count is latched at a whole second. -/
def Module.secondPulse (m : Module) : Module :=
  let w := m.stew
  { m with stew := { w with prevSec := w.latchSec, prevFolio := w.latchFolio, latchSec := w.now / 1000000000,
                            latchFolio := m.seq.folio, latchPhase := m.latchPhase } }

def execSecondPulse (s : State) : Host.Outcome State Fault Refusal := goOn Module.secondPulse s

/-- MGT_LINK_CHANGE (R365). -/
def Module.mgtLinkChange (port : Nat) (up : Bool) (m : Module) : Module :=
  if port < 2 then
    let b := BitVec.ofNat 2 (2 ^ port)
    { m with pins := { m.pins with mgtLink := if up then m.pins.mgtLink ||| b else m.pins.mgtLink &&& ~~~b } }
  else m

def execMgtLinkChange (port : Nat) (up : Bool) (s : State) : Host.Outcome State Fault Refusal :=
  goOn (Module.mgtLinkChange port up) s

/-- R368: an 8-byte big-endian field of a frame grows by an amount. -/
def addBe8 (frame : List Byte) (off : Nat) (n : Nat) : List Byte :=
  frame.take off ++ beBytes 8 ((beNat ((frame.drop off).take 8) + n) % 2 ^ 64) ++ frame.drop (off + 8)

/-- The big-endian number of n bytes of a frame. -/
def frameField (frame : List Byte) (off n : Nat) : Nat := beNat ((frame.drop off).take n)

/-- R366, R368: where a frame holds a PTP message, and the offset of its UDP checksum: over IEEE 802.3 (EtherType 0x88F7)
behind the Ethernet header, over UDP/IPv4 (ports 319 and 320) behind the UDP header. IEEE 1588-2019 gives these (PRESUMED). -/
def ptpAt (frame : List Byte) : Option (Nat × Option Nat) :=
  if frameField frame 12 2 = 0x88F7 then some (14, none)
  else
    let ip := 4 * (frameField frame 14 1 % 16)
    let port := frameField frame (14 + ip + 2) 2
    if frameField frame 12 2 = 0x0800 ∧ frameField frame 23 1 = 17 ∧ (port = 319 ∨ port = 320) then some (22 + ip, some (20 + ip))
    else none

/-- What ties a Follow_Up to its Sync (IEEE 1588-2019, PRESUMED): domain, source port identity and sequence number. -/
def ptpIdentity (frame : List Byte) (at_ : Nat) : Nat :=
  (frameField frame (at_ + 4) 1 * 2 ^ 80 + frameField frame (at_ + 20) 10) * 2 ^ 16 + frameField frame (at_ + 30) 2

/-- A UDP checksum that no longer holds is sent as zero, none (PRESUMED). -/
def noChecksum (frame : List Byte) (at_ : Option Nat) : List Byte :=
  match at_ with
  | some off => frame.take off ++ [0#8, 0#8] ++ frame.drop (off + 2)
  | none => frame

/-- R368: the residence time, in ns, joins the correctionField, which counts ns in units of 2^-16. -/
def addResidence (frame : List Byte) (at_ : Nat) (sum : Option Nat) (residence : Nat) : List Byte :=
  noChecksum (addBe8 frame (at_ + 8) (residence * 65536)) sum

/-- R368: the frame as it leaves: a Sync (type 0, two-step by bit 1 of its first flag octet), a Delay_Req (type 1), a
Follow_Up (type 8). The residence of a two-step Sync waits for its Follow_Up. -/
def Module.transparent (frame : List Byte) (residence : Nat) (m : Module) : List Byte × Module :=
  match ptpAt frame with
  | none => (frame, m)
  | some (at_, sum) =>
    let kind := frameField frame at_ 1 % 16
    let key := ptpIdentity frame at_
    let held (t : SMap Nat) : Module := { m with stew := { m.stew with residence := t } }
    if kind = 0 ∧ bitOf (frameField frame (at_ + 6) 1) 1 then (frame, held (sset 0 m.stew.residence key residence))
    else if kind = 0 ∨ kind = 1 then (addResidence frame at_ sum residence, m)
    else if kind = 8 then (addResidence frame at_ sum (sget 0 m.stew.residence key), held (sset 0 m.stew.residence key 0))
    else (frame, m)

/-- MGT_FRAME_FORWARD (R365, R368): a frame that is not addressed to this module's MAC, by its destination address, leaves on
the other port. -/
def Module.forwardFrame (port : Nat) (frame : List Byte) (residence : Nat) (m : Module) : Module :=
  let dst := frameField frame 0 6
  if dst = (Config.mac 0).toNat ∨ dst = (Config.mac 1).toNat then m
  else
    let r := m.transparent frame residence
    r.2.send (.mgtFrame (1 - port) r.1)

def execMgtFrameForward (port : Nat) (frame : List Byte) (residence : Nat) (s : State) : Host.Outcome State Fault Refusal :=
  goOn (Module.forwardFrame port frame residence) s

end Sys2Proof.Machine
end

