-- ==== Sys2Proof/Machine/Health.lean ====
section
/-! DEFINITION. Machine/Health.lean: thermal sensing (R408, R414), probe banks (R410, R411), the collator (R381-R384), the
imbalance of pseudo-channels (R166), the event log's moves and flushes (R379), and saved settings (R365). -/

namespace Sys2Proof.Machine

/-! ### Thermal -/

/-- R414: 110 °C in units of 0.01 °C. -/
def overTj : Int := 11000

/-- R414: the step, courier and NOC clocks of the E-dies and H are gated, until the warm start that resumes operation. In
RESET that is held none of them runs. -/
def Module.gate (m : Module) : Module := if m.resetHeld then m else { m with pins := { m.pins with gated := true } }

/-- R414: a die at 110 °C: FROZEN by fault with OVERTEMP (0x0702), and the gating; where the mode cannot change it is logged
once per crossing (R27), and the clocks are gated all the same (DEDUCED). -/
def Module.overtempAt (die : Nat) (old : Int) (m : Module) : Module :=
  let m1 := { m with stew := { m.stew with overtemp := true } }
  match m.ctl.mode with
  | .frozen | .inspect | .lockdown => if old < overTj then (m1.faultWith 0x0702 die []).gate else m1.gate
  | _ => (m1.faultWith 0x0702 die []).gate

/-- THERMAL_READING (R408, R414): THERM_WARN (0x0701) once per crossing; THERM_N is released 2 °C below the level. -/
def Module.thermalReading (die : Nat) (t : Int) (m : Module) : Module :=
  if 10 < die then m
  else
    let old := nth 0 m.stew.tj die
    let tj := setNth m.stew.tj die t
    let warn : Int := 100 * (m.reg rThermWarn : Int)
    let above := decide (warn ≤ t)
    let wasHot := m.stew.hotDies.contains die
    let m1 := { m with
      stew := { m.stew with tj := tj, hotDies := if above then die :: m.stew.hotDies.filter (· != die) else m.stew.hotDies.filter (· != die) },
      pins := { m.pins with thermN := tj.any (fun x => decide (warn ≤ x)) || (m.pins.thermN && tj.any (fun x => decide (warn - 200 < x))) } }
    let m2 := if above && !wasHot then m1.log 0x0701 die [] else m1
    if overTj ≤ t then m2.overtempAt die old else m2

def execThermalReading (die : Nat) (centiC : Int) (s : State) : Host.Outcome State Fault Refusal :=
  goOn (Module.thermalReading die centiC) s

/-! ### Probe banks. A pad's number is 32 * bank + pin (R407). -/

def bankBit (b : Nat) : BitVec 12 := BitVec.ofNat 12 (2 ^ b)

/-- R411: an unpowered bank holds every pin at high impedance; the registers of its cells keep their value (R78). -/
def Module.unpower (b : Nat) (m : Module) : Module :=
  { m with pins := { m.pins with bankPowered := m.pins.bankPowered &&& ~~~(bankBit b) },
           data := { m.data with padOut := m.data.padOut.filter (fun e => e.1 / 32 != b) } }

/-- VIO_CHANGE (R411): BANK_VOLTAGE (0x0704) where the voltage is other than the declared one. -/
def Module.vioChange (b : Nat) (wrong : Bool) (m : Module) : Module :=
  if 11 < b then m
  else
    let m1 := m.unpower b
    if wrong then m1.log 0x0704 srcSteward [] else m1

def execVioChange (bank : Nat) (wrongVoltage : Bool) (s : State) : Host.Outcome State Fault Refusal :=
  goOn (Module.vioChange bank wrongVoltage) s

/-- BANK_POWERED (R411): a bank with VOLT ≠ 0; its pins drive what their registers hold (R78). -/
def Module.bankUp (b : Nat) (m : Module) : Module :=
  if 11 < b ∨ m.reg (rBankCfg b) % 8 = 0 then m
  else
    let m1 := { m with pins := { m.pins with bankPowered := m.pins.bankPowered ||| bankBit b } }
    let drives := (m.data.ioEn.filter (fun e => e.2)).filterMap (fun e => match m.data.cellPad e.1 with
      | some p => if p / 32 = b then some (0, p, some (sget false m.data.ioData e.1)) else none
      | none => none)
    { m1 with data := { m1.data with padOut := drives.foldl m1.drivePad m1.data.padOut } }

def execBankPowered (bank : Nat) (s : State) : Host.Outcome State Fault Refusal := goOn (Module.bankUp bank) s

/-! ### Collator -/

/-- R23, R381: collator time. A wait at the hold point, where a resumable freeze stands too, counts once it has lasted 1 µs,
which the command asserts. -/
def Module.collTime (m : Module) : Bool :=
  match m.ctl.mode with
  | .idle => true
  | .frozen => m.ctl.resumable && !m.pins.gated
  | .run | .step | .paced => decide (m.seq.phase = .hold)
  | _ => false

def activityNo : CollActivity → Nat
  | .spares => 0
  | .imSched => 1
  | .dmbs => 2
  | .lanes => 3

/-- R382, R421: a unit of activity 1: its kind (0 IM word, 1 crossbar entry, 2 spine entry, 3 shadow word, 4 and 5 the crossbar
and spine entries of a shadow, 6 link-die entry), its BP address, quire or link die, and its word or entry. The IM words have
their IM address (R167); the numbers of the others, above those, are the model's. -/
def schedUnit (unit : Nat) : Option (Nat × Nat × Nat) :=
  let sched := 2 ^ 29
  let words := sched + 2 * 2 ^ 19
  let entries := words + 2 ^ 27
  if unit < sched then some (0, unit / 2048, unit % 2048)
  else if unit < words then some (1 + (unit - sched) / 2 ^ 19, (unit - sched) % 2 ^ 19 / 2048, unit % 2048)
  else if unit < entries then some (3, (unit - words) / 512, unit % 512)
  else if unit < entries + 2 * 2 ^ 17 then some (4 + (unit - entries) / 2 ^ 17, (unit - entries) % 2 ^ 17 / 512, unit % 512)
  else if unit < entries + 2 * 2 ^ 17 + 4096 then some (6, (unit - entries - 2 * 2 ^ 17) / 2048, unit % 2048)
  else none

/-- R421: the unit as COLLATOR_FAIL names it: a schedule entry by the IM address of its quire's first BP; an entry of a link
die, which has no quire, by the die's number and the entry (DESIGN CHOICE). -/
def collAddress (a : CollActivity) (unit : Nat) : Nat :=
  match a with
  | .imSched => match schedUnit unit with
    | some (0, bp, w) | some (3, bp, w) => bp * 2048 + w
    | some (6, die, e) => die * 2048 + e
    | some (_, quire, e) => quire * 2097152 + e
    | none => unit
  | .spares | .dmbs | .lanes => unit

/-- R382: a unit is eligible. -/
def Module.collEligible (m : Module) (a : CollActivity) (unit : Nat) : Bool :=
  match a with
  | .spares => decide (unit < 2 ^ 18) && m.spareFree (unit / 64) (unit % 64 / 32)
  | .imSched =>
    let d := m.data
    let entry {α : Type} (ess : SMap Bool) (t : SMap α) (quire bank e : Nat) : Bool :=
      let k := (quire * 5 + bank) * 512 + e % 512
      !sget false ess k && (sfind t k).isNone
    match schedUnit unit with
    | some (0, bp, step) => entry d.imEss d.im bp (bankOf d (bp / 1024) (step / 512)) step
    | some (1, quire, step) => entry d.xbarEss d.xbar quire (bankOf d quire (step / 512)) step
    | some (2, quire, step) => entry d.spineEss d.spine quire (bankOf d quire (step / 512)) step
    | some (3, bp, _) => decide (sget Shadow.empty d.shadow (bp / 1024) = .empty)
    | some (6, die, e) => !sget false d.linkEss (die * 2048 + e) && (sfind d.link (die * 2048 + e)).isNone
    | some (_, quire, _) => decide (sget Shadow.empty d.shadow quire = .empty)
    | none => false
  | .dmbs => m.dmbFree (unit / 1024)
  | .lanes => m.longQuiet unit

/-- R61, R300, R382: what a failing unit brings. Which lane of a bundle met the error is a free value. -/
def Module.collFinding (a : CollActivity) (unit : Nat) (m : Module) : Module :=
  match a with
  | .spares => m.spareFailed (unit / 64) (unit % 64 / 32)
  | .lanes =>
    let n := (Config.openWord m.sec.freeCtr).toNat % 8
    ({ m with sec := { m.sec with freeCtr := m.sec.freeCtr + 1 } }).frameBad unit (laneNo unit n) 0
  | _ => m

/-- R43, R382: the all-zero word is restored in a word or entry of an EMPTY shadow. -/
def Module.zeroShadow (unit : Nat) (m : Module) : Module :=
  let d := m.data
  let key (quire e : Nat) : Nat := (quire * 5 + bankOf d quire 4) * 512 + e
  match schedUnit unit with
  | some (3, bp, w) => { m with data := { d with im := serase d.im ((bp * 5 + bankOf d (bp / 1024) 4) * 512 + w) } }
  | some (4, quire, e) => { m with data := { d with xbar := serase d.xbar (key quire e) } }
  | some (5, quire, e) => { m with data := { d with spine := serase d.spine (key quire e) } }
  | _ => m

/-- R43, R153, R382: what a test leaves behind: an IM word or a schedule entry its all-zero word; a DMB word keeps the vendor
pattern and parity of the test, which the manual does not give, with its valid bit cleared; a Quiet bundle has left Quiet and
asks to return to it by the handshake. -/
def Module.collTrace (a : CollActivity) (unit : Nat) (m : Module) : Module :=
  match a with
  | .dmbs =>
    let n := m.sec.freeCtr
    let par := BitVec.ofNat 8 (Config.openWord (n + 1)).toNat
    { m with sec := { m.sec with freeCtr := n + 2 },
             data := { m.data with dmbData := sset 0 m.data.dmbData unit (Config.openWord n),
                                   dmbPar := sset 0 m.data.dmbPar unit par,
                                   dmbValid := sset false m.data.dmbValid unit false } }
  | .lanes =>
    let m1 := m.leaveQuiet unit
    (m1.setBundle unit { m1.bundle unit with quietPending := true }).lctl unit 2 0 0 0
  | .imSched => m.zeroShadow unit
  | .spares => m

/-- COLLATOR_UNIT (R381-R384): a unit of an enabled activity is tested; a failure counts, sets COLL_FAIL and logs
COLLATOR_FAIL (0x0A30). A pass ends when every eligible unit has been tested. -/
def Module.collatorUnit (a : CollActivity) (unit : Nat) (pass : Bool) (m : Module) : Module :=
  let n := activityNo a
  if !m.collTime ∨ !bitOf (m.reg rCollCtrl) n ∨ !m.collEligible a unit then m
  else
    let m1 := m.collTrace a unit
    let m2 := if pass then m1
      else ((m1.satReg 32 (rCollFails n) 1).setReg rHealthSticky (m1.reg rHealthSticky ||| 0x40)).log 0x0A30 srcSteward [(2, n), (29, collAddress a unit)]
    let m3 := if pass then m2 else m2.collFinding a unit
    let t := m3.reg (rCollTested n) + 1
    if m3.reg (rCollEligible n) ≤ t then (m3.setReg (rCollTested n) 0).setReg (rCollPasses n) ((m3.reg (rCollPasses n) + 1) % 2 ^ 32)
    else m3.setReg (rCollTested n) t

def execCollatorUnit (act : CollActivity) (unit : Nat) (pass : Bool) (s : State) : Host.Outcome State Fault Refusal :=
  goOn (Module.collatorUnit act unit pass) s

def execCollStoreHourly (s : State) : Host.Outcome State Fault Refusal := goOn Module.storeCollator s

/-! ### Pseudo-channels -/

/-- CHAN_IMBALANCE (R166): the busiest pseudo-channel over the mean of the 32, times 256, over 65,536 requests. -/
def Module.imbalance (die : Nat) (m : Module) : Module :=
  let lo := if die = 1 then 0 else 32
  let mine := srange m.fabric.pcWindow lo (lo + 32)
  let total := mine.foldl (fun a e => a + e.2) 0
  if (die ≠ 1 ∧ die ≠ 6) ∨ total < 65536 then m
  else
    let v := min 0xFFFF (mine.foldl (fun a e => max a e.2) 0 * 32 * 256 / total)
    { m with fabric := { m.fabric with
        pcWindow := sclear m.fabric.pcWindow lo (lo + 32),
        chanImb := sset 0 m.fabric.chanImb die v,
        chanImbPeak := sset 0 m.fabric.chanImbPeak die (max v (sget 0 m.fabric.chanImbPeak die)) } }

def execChanImbalance (die : Nat) (s : State) : Host.Outcome State Fault Refusal := goOn (Module.imbalance die) s

/-! ### Event log -/

def execLogEntryMove (s : State) : Host.Outcome State Fault Refusal := goOn Module.logMove s

/-- LOG_FLUSH (R379, R380): 1 flushes; other values are refused. -/
def Module.logFlush (v : Nat) (m : Module) : Module := if v = 1 then m.flushLog.answer stOK else m.answer stRefused

def execLogFlush (v : Byte) (s : State) : Host.Outcome State Fault Refusal := goOn (Module.control (Module.logFlush v.toNat)) s

/-- LOG_FLUSH_AUTO (R379): when 2,047 entries wait, at most once every 10 s. -/
def Module.autoFlush (m : Module) : Module :=
  let waiting := (m.stew.ring.filter (fun e => m.stew.flushed ≤ e.seq)).length
  if 2047 ≤ waiting ∧ (m.stew.flushed = 0 ∨ m.stew.lastFlush + 10000000000 ≤ m.stew.up) then m.flushLog else m

def execLogFlushAuto (s : State) : Host.Outcome State Fault Refusal := goOn Module.autoFlush s

/-! ### Settings -/

/-- R370: the register in which the active domain is saved. -/
def rTimeActive : Nat := ent 0x3000 0x02

/-- R365: the entries that SETTINGS_SAVE stores, with the wrapped ADMIN key. -/
def savedKeys : List Nat :=
  [ent 0x1100 3, ent 0x1100 4, ent 0x1100 5, ent 0x1100 6, ent 0x1100 7, rAutoswitch, rDomnum 0, rDomnum 1, rPortAsym 0, rPortAsym 1,
   rCollCtrl, rBarrier, rAdminWrap]

/-- SETTINGS_SAVE (R365). -/
def Module.settingsSave (v : Nat) (m : Module) : Module :=
  if v ≠ 1 then m.answer stRefused
  else
    let kvs := (rTimeActive, m.stew.active) :: savedKeys.map (fun k => (k, m.reg k))
    (m.queueRecord 0x0030 (settingsBody kvs)).answer stOK

def execSettingsSave (v : Byte) (s : State) : Host.Outcome State Fault Refusal :=
  goOn (Module.control (Module.settingsSave v.toNat)) s

end Sys2Proof.Machine
end

