-- ==== Sys2Proof/Machine/DictRead.lean ====
section
/-! DEFINITION. Machine/DictRead.lean: what a read of each dictionary entry returns (R31, R36, R62, R116, R146, R207, R238, R278,
R310, R319, R331, R356, R370, R376, R380, R396-R398). Entries not named here are registers. -/

namespace Sys2Proof.Machine

/-! ### Identity (R1, R396, R397) -/

/-- R386: a STRING of n bytes. -/
def stringBytes (n : Nat) (s : String) : List Byte := (ascii s ++ List.replicate n 0#8).take n

def Module.readIdentity (m : Module) (sub : Nat) : Nat :=
  match sub with
  | 0x01 => 0x0F2D
  | 0x02 => 0xC008
  | 0x03 => leNat (stringBytes 16 (if Config.is64S then "OND-C8M-64S" else "OND-C8M-64"))
  | 0x04 => Config.stepping
  | 0x05 => uidNum
  | 0x06 => leNat serialBytes
  | 0x07 => pciIds
  | 0x08 => Config.firmware.toNat
  | 0x09 => 1
  | 0x0A => m.disc.modnum
  | 0x0B => m.image.systemId.toNat
  | 0x0C => m.image.modules
  | _ => leNat identityRecord

/-! ### Management ports, mode, pacing, stitch -/

/-- The mode numbers of the table of chapter 01. -/
def Mode.number : Mode → Nat
  | .reset => 0
  | .load => 1
  | .bringup => 2
  | .idle => 3
  | .run => 4
  | .step => 5
  | .paced => 6
  | .frozen => 7
  | .inspect => 8
  | .linksvc => 9
  | .selftest => 10
  | .lockdown => 11

/-- R31 MODE_STATUS. -/
def Module.modeStatus (m : Module) : Nat :=
  m.ctl.cause.toNat * 2 ^ 16 + b2n m.ctl.cold * 2 ^ 9 + b2n (decide (m.ctl.mode = .frozen) && m.ctl.resumable) * 2 ^ 8 + m.ctl.prev.number * 16 + m.ctl.mode.number

def Module.readMgt (m : Module) (sub : Nat) : Nat :=
  match sub with
  | 0x01 => (Config.mac 0).toNat
  | 0x02 => (Config.mac 1).toNat
  | 0x08 => m.pins.mgtLink.toNat
  | 0x0A => b2n m.sec.adminKey.isSome
  | n => m.reg (ent 0x1100 n)

/-- R144: late tokens among the last 1,024 launches. -/
def Module.lateCount (m : Module) : Nat := (m.seq.lateHist.filter id).length

def Module.readPace (m : Module) (sub : Nat) : Nat :=
  match sub with
  | 0x03 => m.reg rPaceOverrun / 2 ^ 11 % 2 * 2 ^ 11 + b2n m.seq.waiting * 2 ^ 10 + m.seq.grants % 1024
  | 0x23 => m.lateCount
  | n => m.reg (ent 0x2100 n)

/-! ### Load, start-up, transactions -/

def Module.readLoad (m : Module) (sub : Nat) : Nat :=
  match sub with
  | 0x06 => m.load.state
  | 0x07 => m.load.blocks.foldl (fun a e => a + e.2) 0
  | 0x08 => b2n m.load.staged
  | 0x0A => if m.load.staged then leNat (beBytes 48 m.load.digest.toNat) else 0
  | 0x0B => b2n m.image.plain
  | n => m.reg (ent 0x2200 n)

def Module.readStartup (m : Module) (sub : Nat) : Nat :=
  match sub with
  | 0x03 => m.start.startupState
  | 0x04 => b2n (!m.pins.modreadyLow) + 2 * b2n m.pins.netHigh
  | n => m.reg (ent 0x2300 n)

def Module.readTxn (m : Module) (sub : Nat) : Nat :=
  match sub with
  | 0x12 => (List.range 4).foldl (fun a q => a + nth 0x40 m.seq.dkey q % 128 * 2 ^ (8 * q)) 0
  | 0x13 => m.image.tips.foldl (fun a t => a ||| 2 ^ (t.1 % 64)) 0
  | n => m.reg (ent 0x2400 n)

/-! ### Trigger, capture, trace, fabric -/

/-- R238 TRIG_ARM: read in the system head only. -/
def Module.trigArm (m : Module) : Nat := if m.sysHead then m.trig.arm.toNat + (m.lineMask 3).toNat * 2 ^ 16 else 0

def Module.readTrig (m : Module) (index sub : Nat) : Nat :=
  if index = 0x2600 ∧ sub = 1 then m.trigArm
  else if index = 0x2610 ∧ sub = 6 then m.trig.capState
  else if index = 0x2610 ∧ sub = 7 then m.trig.capWindow
  else if index = 0x2620 ∧ sub = 5 then m.trig.maskState
  else if index = 0x2620 ∧ sub = 7 then m.trig.maskFailBits
  else if index = 0x2700 ∧ sub = 5 then m.trace.state
  else m.reg (ent index sub)

/-- R278: the latched snapshot. -/
def Module.readFabric (m : Module) (sub : Nat) : Nat :=
  let s := m.fabric.snapshot
  match sub with
  | 0x1A => s.maxLat
  | 0x1B => s.wrap.toNat
  | 0x1C => s.timeouts
  | 0x1D => s.errCpl
  | 0x1E => s.lateCpl
  | 0x1F => s.errnotes
  | 0x23 => m.fabric.tags.length
  | n => if 0x10 ≤ n ∧ n ≤ 0x19 then nth 0 s.c (n - 0x10) else m.reg (ent 0x2800 n)

/-- R304, R310: discovery; the four results read zero until it completes, and 1, 1, 0, 0 where MODULES = 1. -/
def Module.readDisc (m : Module) (sub : Nat) : Nat :=
  let one := m.image.modules == 1
  let done := m.disc.state == 2
  match sub with
  | 0x01 => m.disc.state
  | 0x02 => if done && !one then m.disc.hopRing else 0
  | 0x03 => if done && !one then m.disc.hopHead else 0
  | 0x04 => if one then 1 else if done then m.disc.rings else 0
  | _ => if one then 1 else if done then m.disc.ringSize else 0

/-! ### Time, health, log -/

/-- R370 TIME_STATUS. -/
def Module.timeStatus (m : Module) : Nat :=
  b2n m.stew.slewing * 2 ^ 9 + m.stew.active % 2 * 2 ^ 8 + (m.domain 1).state % 4 * 2 ^ 4 + (m.domain 0).state % 4

/-- R367: the four constants of the ports, in table order. -/
def portConst : Nat := 96 + 44 * 2 ^ 32 + 104 * 2 ^ 64 + 52 * 2 ^ 96

def Module.readTime (m : Module) (index sub : Nat) : Nat :=
  match index, sub with
  | 0x3000, 0x01 => m.stew.now % 2 ^ 64
  | 0x3000, 0x02 => m.stew.active
  | 0x3000, 0x04 => m.timeStatus
  | 0x3002, 0x03 => portConst
  | 0x3003, 0x01 => m.stew.latchSec
  | 0x3003, 0x02 => m.stew.latchFolio
  | 0x3003, 0x03 => m.stew.latchPhase
  | 0x3003, 0x04 => m.stew.prevSec
  | 0x3003, 0x05 => m.stew.prevFolio
  | i, n => m.reg (ent i n)

/-- R376 HEALTH_STATUS. -/
def Module.healthStatus (m : Module) : Nat :=
  m.reg rHealthSticky &&& 0xC0 ||| (b2n m.ptpLocked * 2 ^ 5 + b2n m.sec.alarm * 2 ^ 4 + b2n m.stew.partitioned * 2 ^ 3
    + b2n (decide (16 < m.lateCount)) * 2 ^ 2 + b2n (!m.lostList.isEmpty) * 2 + b2n m.stew.remapPending)

/-- R380: a log entry of this epoch among the records stored since its cold start, the newest record first. -/
def Module.storedEntry (m : Module) (seq : Nat) : Option (List Byte) :=
  m.store.chunks.findSome? (fun c =>
    match m.store.body (0x0100 + c) with
    | some bs => (List.range (bs.length / 32)).findSome? (fun k =>
        let e := (bs.drop (32 * k)).take 32
        if leNat ((e.drop 24).take 4) = seq % 2 ^ 32 then some e else none)
    | none => none)

/-- R378, R380: one entry of LOG_READ, by its 32-bit SEQ: from the ring, else from a record, else zero. -/
def Module.logRead (m : Module) (seq : Nat) : List Byte :=
  match m.stew.ring.find? (fun e => e.seq % 2 ^ 32 == seq % 2 ^ 32) with
  | some e => e.bytes
  | none => (m.storedEntry seq).getD (List.replicate 32 0#8)

def Module.readHealth (m : Module) (sub : Nat) : Nat :=
  match sub with
  | 0x01 => m.healthStatus
  | 0x02 => (m.stew.logNext - 1) % 2 ^ 32
  | 0x04 => leNat ((List.range 32).flatMap (fun i => m.logRead (m.reg rLogReadSeq + i)))
  | 0x10 => m.stew.partHeard.toNat
  | n => m.reg (ent 0x3100 n)

/-- R384: the collator's state and counts. -/
def Module.readColl (m : Module) (index sub : Nat) : Nat :=
  if index = 0x3200 ∧ sub = 2 then
    (if m.reg rCollCtrl % 16 = 0 then 0 else if m.collTime then 2 else 1)
  else m.reg (ent index sub)

/-! ### Store, security, power -/

/-- R356: the copy that STORE_READ_SEL selects. -/
def Module.selectedCopy (m : Module) : Option (Nat × Sector) := m.store.current (m.reg rStoreReadSel / 65536)

def Module.readStore (m : Module) (sub : Nat) : Nat :=
  match sub with
  | 0x01 => m.store.state
  | 0x02 => m.store.erased
  | 0x03 => (m.store.sectors.filter (fun e => e.2.st == secRetired)).length
  | 0x04 => m.store.sectors.foldl (fun a e => max a e.2.wear) 0
  | 0x05 => m.store.recovered
  | 0x08 => match m.selectedCopy with
    | some c => c.2.seq
    | none => 0
  | n => m.reg (ent 0x3300 n)

/-- R339 SEC_STATUS. -/
def Module.secStatus (m : Module) : Nat :=
  b2n m.sec.alarm * 2 ^ 7 + b2n m.sec.trngFail * 2 ^ 6 + m.reg rMemPolicy % 4 * 2 ^ 4 + b2n m.sec.trngReady

def Module.readSec (m : Module) (sub : Nat) : Nat :=
  match sub with
  | 0x01 => m.secStatus
  | 0x03 => (List.range 16).foldl (fun a i => a + b2n (m.keySlot i) * 2 ^ i) 0
  | n => m.reg (ent 0x3400 n)

/-- Two's complement of 32 bits (R386). -/
def toI32 (v : Int) : Nat := (v % (2 ^ 32 : Int)).toNat

/-- R414, chapter 18: a measured value, as the sensor gives it at this instant: a free value for every read. -/
def Module.measured (m : Module) (sub : Nat) : Nat := (Config.reading m.sec.freeCtr (ent 0x3500 sub)).toNat

/-- POWER_PEAK: the greatest POWER_NOW that a read has seen since the start. -/
def Module.raisePeak (m : Module) : Module := m.setReg rPowerPeak (max (m.reg rPowerPeak) (m.measured 3 % 2 ^ 32))

/-- ENERGY (R391): what has been used since the last read adds to the 48-bit counter. -/
def Module.countEnergy (m : Module) : Module := m.statReg rEnergy (m.measured 5 % 2 ^ 48)

def Module.readPower (m : Module) (sub : Nat) : Nat :=
  if sub = 1 then b2n m.pins.thermN + 2 * b2n m.stew.overtemp
  else if sub = 2 ∨ sub = 4 ∨ sub = 5 ∨ 0x60 ≤ sub then m.reg (ent 0x3500 sub)
  else if 0x10 ≤ sub ∧ sub ≤ 0x1A then toI32 (nth 0 m.stew.tj (sub - 0x10))
  else m.measured sub

/-! ### Per-die and per-bundle objects (R398, R310) -/

/-- One bit for each i < n for which `f` holds. -/
def bitmap (n : Nat) (f : Nat → Bool) : Nat := (List.range n).foldl (fun a i => a + b2n (f i) * 2 ^ i) 0

def Module.dieStatus (m : Module) (d : Nat) : Nat :=
  let up := m.pins.suppliesGood && m.start.pllLocked
  b2n up + (if d < 8 then 2 * b2n (m.start.bistPass.getLsbD d) + 4 * b2n m.start.bistRun else 0)

/-- R59: a gathering with a spare in use. -/
def spareUsed (e : Nat) : Bool := bitOf e 7 || bitOf e 15

def Module.readDie (m : Module) (d o sub : Nat) : Nat :=
  if o = 0 then (if sub = 1 then m.dieStatus d else nth 0 m.start.bistFails d)
  else if o = 0x02 then (sget 0x4688#16 m.data.bankmap (32 * d + sub)).toNat
  else if o = 0x03 ∧ sub = 1 then bitmap 512 (fun i => m.gathLost (512 * d + i))
  else if o = 0x03 then ((srange m.start.remapInForce (512 * d) (512 * d + 512)).filter (fun e => spareUsed e.2.toNat)).length
  else if 0x10 ≤ o ∧ o ≤ 0x1F then (sget 0 m.fabric.srcRoute ((256 * d + 16 * (o - 0x10) + sub / 16) * 16 + sub % 16)).toNat
  else if o = 0x20 ∧ sub = 1 then bitmap 256 (fun i => sget false m.fabric.deadEp (256 * d + i))
  else if o = 0x20 then bitmap 64 (fun i => sget false m.fabric.deadRt (64 * d + i))
  else if o = 0x22 then sget 0 m.fabric.absorbedP (256 * d + sub)
  else if o = 0x23 then sget 0 m.fabric.absorbedNP (256 * d + sub)
  else if o = 0x30 then sget 0 m.fabric.dlReplays (linkKey sub (if dieSender sub 0 = d then 0 else 1))
  else if o = 0x40 then sget 0 m.fabric.pcReqs (32 * b2n (d == 6) + sub)
  else if sub = 1 then sget 0 m.fabric.chanImb d
  else sget 0 m.fabric.chanImbPeak d

/-- R310 BUNDLE_STATUS. -/
def Module.bundleStatus (m : Module) (b : Nat) : Nat :=
  let x := m.bundle b
  let nbr := match x.nbr with
    | some n => 2 ^ 31 + n % 256 * 2 ^ 23
    | none => 0
  nbr + bitmap 8 (fun i => (m.lane (laneNo b i)).healthy) * 2 ^ 15 + x.pstate % 4 * 2 ^ 13 + x.state % 4 * 2 ^ 11

/-- R310 LANE_STATUS. -/
def Module.laneStatus (m : Module) (l : Nat) : Nat :=
  let x := m.lane l
  min 0xFFFF (m.windowErrs l) * 2 ^ 16 + b2n x.bitsWrap * 2 ^ 11 + b2n x.loopRefused * 2 ^ 10 + b2n x.prbsLock * 2 ^ 9 + b2n x.failed * 2 ^ 8
    + x.farLane % 256

def Module.readBundle (m : Module) (b o sub : Nat) : Nat :=
  let l := laneNo b (sub - 1)
  match o with
  | 0 => if sub = 2 then m.bundleStatus b else if sub = 4 then (m.bundle b).skew.length else m.reg (ent (0x5000 + 0x20 * b) sub)
  | 1 => (m.lane l).ctl
  | 2 => m.laneStatus l
  | 3 => (m.lane l).crcErrs
  | 4 => (m.lane l).prbsErrs
  | _ => (m.lane l).prbsBits

/-! ### All entries -/

/-- The value of an entry, as a number of its bytes. -/
def Module.readValue (m : Module) (index sub : Nat) : Nat :=
  if 0x4000 ≤ index ∧ index < 0x4580 then m.readDie ((index - 0x4000) / 128) ((index - 0x4000) % 128) sub
  else if 0x5000 ≤ index ∧ index < 0x5280 then m.readBundle ((index - 0x5000) / 32) ((index - 0x5000) % 32) sub
  else if 0x2600 ≤ index ∧ index ≤ 0x2700 then m.readTrig index sub
  else if 0x3000 ≤ index ∧ index ≤ 0x3003 then m.readTime index sub
  else if 0x3200 ≤ index ∧ index ≤ 0x3204 then m.readColl index sub
  else match index with
    | 0x1000 => m.readIdentity sub
    | 0x1100 => m.readMgt sub
    | 0x2000 => m.modeStatus
    | 0x2100 => m.readPace sub
    | 0x2200 => m.readLoad sub
    | 0x2300 => m.readStartup sub
    | 0x2400 => m.readTxn sub
    | 0x2500 => m.couriers.run.toNat
    | 0x2800 => m.readFabric sub
    | 0x2900 => m.readDisc sub
    | 0x3100 => m.readHealth sub
    | 0x3300 => m.readStore sub
    | 0x3400 => m.readSec sub
    | 0x3500 => m.readPower sub
    | _ => m.reg (ent index sub)

/-- R386, R389: a READ of an entry of `n` bytes. RANDOM and STORE_READ_DATA answer by their own rules (R339, R356). -/
def Module.dictRead (index sub n : Nat) (m : Module) : Module :=
  if index = 0x3400 ∧ sub = 2 then m.randomRead
  else if index = 0x3300 ∧ sub = 7 then m.storeRead
  else
    let m1 := if index = 0x3500 ∧ (sub = 3 ∨ sub = 4) then m.raisePeak else if index = 0x3500 ∧ sub = 5 then m.countEnergy else m
    let m2 := ({ m1 with stew := { m1.stew with lastRead := leBytes n (m1.readValue index sub) } }).answer stOK
    if index = 0x3500 then { m2 with sec := { m2.sec with freeCtr := m2.sec.freeCtr + 1 } } else m2

end Sys2Proof.Machine
end

