-- ==== Sys2Proof/Machine/Marks.lean ====
section
/-! DEFINITION. Machine/Marks.lean: dictionary writes of generator words (R102, R104), dead marks (R276, R399) and source
routes (R271). -/

namespace Sys2Proof.Machine

/-- DCLK_CFG and DCLK_TIME (R101, R102, R104): taken in IDLE, held until phase 5 of the next launch; a read returns it from
now on. -/
def Module.dclkWrite (gen : Nat) (isTime : Bool) (v : Nat) (m : Module) : Module :=
  if 63 < gen then m.answer stNoEntry
  else if m.ctl.mode ≠ .idle then m.answer stMode
  else if (if isTime then clkTimeBad v else clkCfgBad v) then m.answer stRefused
  else
    let m1 := m.setReg (if isTime then rDclkTime gen else rDclkCfg gen) v
    (m1.setSeq (fun q => { q with dclkHeld := q.dclkHeld ++ [(gen, isTime, v)] })).answer stOK

def execDclkWrite (gen : Nat) (isTime : Bool) (v : BitVec 32) (s : State) : Host.Outcome State Fault Refusal :=
  goOn (Module.planeControl (Module.dclkWrite gen isTime v.toNat)) s

/-! ### Dead marks -/

/-- R399: the steward refuses a write of DEAD_MARK. -/
def Module.deadRefused (m : Module) (die : Nat) (router : Bool) (target : Nat) : Bool :=
  m.ctl.mode.running
    || (if router then target % 4 != 0 || !routerExists die (target / 4) else !endpointExists die target)

/-- DEAD_MARK (R276, R398, R399): a mark is set or cleared; clearing an endpoint's zeroes its count of timeouts. -/
def Module.deadMark (set_ : Bool) (die : Nat) (router : Bool) (target0 : Nat) (m : Module) : Module :=
  let target := target0 % 256
  if 10 < die then m.answer stNoEntry
  else if m.deadRefused die router target then m.answer stRefused
  else if router then
    ({ m with fabric := { m.fabric with deadRt := sset false m.fabric.deadRt (64 * die + target / 4) set_ } }).answer stOK
  else
    let t := if set_ then m.fabric.timeouts else serase m.fabric.timeouts (4096 * m.disc.modnum + 256 * die + target)
    ({ m with fabric := { m.fabric with deadEp := sset false m.fabric.deadEp (256 * die + target) set_, timeouts := t } }).answer stOK

def execDeadMarkSet (die : Nat) (router : Bool) (target : Nat) (s : State) : Host.Outcome State Fault Refusal :=
  goOn (Module.planeControl (Module.deadMark true die router target)) s

def execDeadMarkClear (die : Nat) (router : Bool) (target : Nat) (s : State) : Host.Outcome State Fault Refusal :=
  goOn (Module.planeControl (Module.deadMark false die router target)) s

/-! ### Source routes: the cycle check. A channel is a router and the direction in which packets leave it. -/

def chanNo (c : Router × Nat) : Nat := (c.1.1 * 64 + c.1.2.1 * 8 + c.1.2.2) * 4 + c.2

/-- R263, R270: packets start and end at a router: it serves an endpoint or a bundle. -/
def hostsNi (r : Router) : Bool :=
  (List.range 4).any (fun p => endpointExists r.1 (32 * r.2.1 + 4 * r.2.2 + p)) || (List.range 20).any (fun b => bundleRouter b == r)

/-- Every router that a default route can end at. -/
def niRouters : List Router :=
  ((List.range 11).flatMap (fun d => (List.range 64).map (fun i => ((d, i / 8, i % 8) : Router)))).filter
    (fun r => routerExists r.1 (r.2.1 * 8 + r.2.2) && hostsNi r)

/-- R269: some default route toward `dst` passes router r. `fuel` bounds its length. -/
def onDefault : Nat → Router → Router → Bool
  | 0, _, _ => false
  | fuel + 1, r, dst =>
    hostsNi r || (List.range 4).any (fun d => match hopFrom r d with
      | some q => (match defaultDir q dst with
          | some d2 => hopFrom q d2 == some r && onDefault fuel q dst
          | none => false)
      | none => false)

/-- The channels that a default route takes next after channel c. -/
def defaultNext (c : Router × Nat) : List (Router × Nat) :=
  match hopFrom c.1 c.2 with
  | none => []
  | some r2 =>
    (List.range 4).filterMap (fun d2 =>
      if niRouters.any (fun dst => defaultDir c.1 dst == some c.2 && defaultDir r2 dst == some d2 && onDefault 32 c.1 dst)
      then some (r2, d2) else none)

/-- R271: the channels of a source route in order, the default route behind its hops included; none where its entry can match
no packet of this module. -/
def routeChans (modnum key e : Nat) : List (Router × Nat) :=
  let n := key / 16
  let dst : Router := (bitsOf e 47 44, bitsOf e 43 41, bitsOf e 40 38)
  if bitsOf e 55 48 = modnum ∧ routerExists dst.1 (dst.2.1 * 8 + dst.2.2) then
    hopsFrom 64 (routerOf n) dst true (bitsOf e 59 56) (bitsOf e 23 0)
  else []

/-- The dependencies of a route: each channel and the one it takes next. -/
def routeEdges : List (Router × Nat) → List ((Router × Nat) × (Router × Nat))
  | a :: b :: t => (a, b) :: routeEdges (b :: t)
  | _ => []

/-- Channel `goal` can be reached from the channels of a list; `fuel` bounds the channels looked at. -/
def reaches (edges : List ((Router × Nat) × (Router × Nat))) (goal : Nat) : Nat → List (Router × Nat) → List Nat → Bool
  | 0, _, _ => false
  | _, [], _ => false
  | fuel + 1, c :: todo, seen =>
    if chanNo c = goal then true
    else if seen.contains (chanNo c) then reaches edges goal fuel todo seen
    else
      let next := defaultNext c ++ (edges.filter (fun e => e.1 == c)).map (·.2)
      reaches edges goal fuel (next ++ todo) (chanNo c :: seen)

/-- R271: the entry closes a cycle with every other valid entry and the default routes. -/
def Module.routeCycle (m : Module) (key e : Nat) : Bool :=
  let valid := m.fabric.srcRoute.filter (fun x => bitOf x.2.toNat 63 && x.1 != key)
  let own := routeEdges (routeChans m.disc.modnum key e)
  let edges := own ++ valid.flatMap (fun x => routeEdges (routeChans m.disc.modnum x.1 x.2.toNat))
  bitOf e 63 && own.any (fun d => reaches edges (chanNo d.1) 8192 [d.2] [])

/-- R271: a hop of an entry leaves a mesh where there is no die link, or enters a router marked dead. -/
def Module.badHops (m : Module) : Nat → Router → Nat → Bool
  | 0, _, _ => false
  | n + 1, r, hops =>
    match hopFrom r (hops % 4) with
    | none => true
    | some r2 => sget false m.fabric.deadRt (64 * r2.1 + 8 * r2.2.1 + r2.2.2) || Module.badHops m n r2 (hops / 4)

/-- R271: the modes in which a source-route table may change. -/
def Mode.routesOpen : Mode → Bool
  | .idle | .frozen | .inspect | .linksvc | .selftest => true
  | _ => false

/-- R271: a write of a source-route entry is refused. -/
def Module.routeRefused (m : Module) (key e : Nat) : Bool :=
  let n := bitsOf e 59 56
  !m.ctl.mode.routesOpen || n == 0 || decide (12 < n) || bitsOf e 62 60 != 0 || bitsOf e 37 24 != 0
    || bitsOf e 23 0 / 2 ^ (2 * n) != 0 || m.badHops n (routerOf (key / 16)) (bitsOf e 23 0) || m.routeCycle key e

/-- SRC_ROUTE (R271, R398): entry `i` of the table of the NI at bits [7:0] = n of a die. -/
def Module.srcRouteWrite (die n i e : Nat) (m : Module) : Module :=
  let key := (256 * die + n) * 16 + i
  if 255 < n ∨ 15 < i ∨ !endpointExists die n then m.answer stNoEntry
  else if m.routeRefused key e then m.answer stRefused
  else ({ m with fabric := { m.fabric with srcRoute := sset 0 m.fabric.srcRoute key (BitVec.ofNat 64 e) } }).answer stOK

def execSrcRouteWrite (die ni entry : Nat) (v : Word) (s : State) : Host.Outcome State Fault Refusal :=
  goOn (Module.planeControl (Module.srcRouteWrite die ni entry v.toNat)) s

end Sys2Proof.Machine
end

