-- ==== Sys2Proof/Machine/Scrub.lean ====
section
/-! DEFINITION. Machine/Scrub.lean: the scrubber (R167-R169). An IM or DMB pass checks one word in each idle cycle and the
rest of its range at SCRUB_DONE; the sectors of an HBM pass are read at SCRUB_DONE, which carries what their checks found. -/

namespace Sys2Proof.Machine

/-- R15, R176: 96 GiB of HBM. -/
def hbmBytes : Nat := 0x1800000000

/-- R167: the unit of a target's addresses and the size of its space. -/
def scrubUnit (target : Nat) : Nat := if target = 2 then 64 else 1
def scrubSpace (target : Nat) : Nat := if target = 0 then 2 ^ 29 else if target = 1 then 2 ^ 22 else hbmBytes

/-- R168: the modes in which a pass cannot start. -/
def Mode.noScrub : Mode → Bool
  | .reset | .load | .bringup | .linksvc | .selftest | .lockdown => true
  | _ => false

/-- R168: a start of a pass is refused. -/
def Module.scrubRefused (m : Module) : Bool :=
  let t := m.reg rScrubTarget
  let lo := m.reg rScrubFirst
  let hi := m.reg rScrubLast
  m.scrub.running || decide (2 < t) || decide (hi < lo) || decide (scrubSpace t ≤ hi)
    || lo % scrubUnit t != 0 || hi % scrubUnit t != 0 || m.ctl.mode.noScrub

/-- SCRUB_GO = 1 (R168). -/
def Module.scrubStart (m : Module) : Module :=
  if m.scrubRefused then ((m.setReg rScrubState 4).msix 6).answer stRefused
  else
    let m1 := m.setRegs [(rScrubWords, 0), (rScrubErrors, 0), (rScrubEssential, 0), (rScrubRepairs, 0),
      (rScrubFirstFail, ones64), (rScrubLastFail, ones64), (rScrubState, 1)]
    ({ m1 with scrub := { repairs := [], running := true, target := m1.reg rScrubTarget, last := m1.reg rScrubLast, next := m1.reg rScrubFirst } }).answer stOK

def execScrubGoStart (s : State) : Host.Outcome State Fault Refusal := goOn (Module.planeControl Module.scrubStart) s

/-- SCRUB_GO = 2 (R168). -/
def execScrubGoAbort (s : State) : Host.Outcome State Fault Refusal :=
  goOn (Module.planeControl (fun m => m.abortScrub.answer stOK)) s

/-- R167-R169: a failing word or sector in the summary. -/
def Module.scrubCount (addr : Nat) (essential repaired : Bool) (m : Module) : Module :=
  let m1 := ((m.satReg 32 rScrubErrors 1).satReg 32 rScrubEssential (b2n essential)).satReg 32 rScrubRepairs (b2n repaired)
  let m2 := if m1.reg rScrubFirstFail = ones64 then m1.setReg rScrubFirstFail addr else m1
  m2.setReg rScrubLastFail addr

/-- R169: failing IM words of [lo, hi], as (address, key of the word), through each quire's BANKMAP. -/
def Module.scrubIm (m : Module) (lo hi : Nat) : List (Nat × Nat) :=
  let bad := m.data.im.filter (fun (e : Nat × ImWord) => !imGood e.2)
  (bad.filterMap (fun (e : Nat × ImWord) =>
    match (List.range 4).find? (fun q => bankOf m.data (e.1 / 2560 / 1024) q == imKeyBank e.1) with
    | some q =>
      let a := e.1 / 2560 * 2048 + q * 512 + e.1 % 512
      if lo ≤ a ∧ a ≤ hi then some (a, e.1) else none
    | none => none)).mergeSort (fun a b => decide (a.1 ≤ b.1))

/-- R169: failing DMB words of [lo, hi], whether valid or not. -/
def Module.scrubDmb (m : Module) (lo hi : Nat) : List Nat :=
  let bad (a : Nat) : Bool := sget 0 m.data.dmbPar a != BitVec.ofNat 8 (byteParity 8 (sget 0 m.data.dmbData a).toNat)
  let ds := ((srange m.data.dmbData lo (hi + 1)).map (·.1)).filter bad
  let ps := ((srange m.data.dmbPar lo (hi + 1)).map (·.1)).filter (fun a => bad a && !ds.contains a)
  (ds ++ ps).mergeSort (fun a b => decide (a ≤ b))

/-- R169, R329: what the check of a source sector finds, from the checks that a command carries by sector address. -/
def checkFor (checks : List (Nat × SectorCheck)) (a : Nat) : SectorCheck :=
  match checks.find? (fun c => c.1 == a / 64 * 64) with
  | some c => c.2
  | none => .good

/-- R169, R329: a failing word is rewritten from its source, where that is held and its sector passes its check; then it
counts in SCRUB_REPAIRS. -/
def Module.scrubRewrite (checks : List (Nat × SectorCheck)) (u : RepairUnit) (key : Nat) (m : Module) : Module :=
  if !m.sourceHeld u key then m
  else
    let r := m.readSource u key (checkFor checks (m.repairValue u key).2)
    if r.1 then (r.2.2.putUnit u key r.2.1).satReg 32 rScrubRepairs 1 else r.2.2

/-- R169, R38, R56, R57: a failing IM word: an essential one is repaired by the stall, and counts when that is done; another
is rewritten at once. -/
def Module.scrubImWord (checks : List (Nat × SectorCheck)) (m : Module) (e : Nat × Nat) : Module :=
  let ess := m.unitEssential .imWord e.2
  let m1 := m.scrubCount e.1 ess false
  if !ess then m1.scrubRewrite checks .imWord e.2
  else if !m1.sourceHeld .imWord e.2 then m1
  else ({ m1 with scrub := { m1.scrub with repairs := m1.scrub.repairs ++ [e.2] } }).startRepair .imWord e.2 0

/-- R150, R152, R169: a failing DMB word: a valid word of a ROM DMB is rewritten. -/
def Module.scrubDmbWord (checks : List (Nat × SectorCheck)) (m : Module) (a : Nat) : Module :=
  let valid := sget false m.data.dmbValid a
  let m1 := (m.scrubCount a valid false).log 0x0427 (unitDie .romDmb a) []
  if valid && descRom (m.data.desc (a / 1024)) then m1.scrubRewrite checks .romDmb a else m1

/-- R168, R169: the words of an IM or DMB pass from its next address to `hi` are checked. One whose source fails its check
under the HALT policy ends the pass: the summary covers the words up to it. -/
def Module.scrubTo (hi : Nat) (checks : List (Nat × SectorCheck)) (m : Module) : Module :=
  let lo := m.scrub.next
  let words := m.reg rScrubWords
  let upTo (a : Nat) (m : Module) : Module :=
    ({ m with scrub := { m.scrub with next := max lo (a + 1) } }).setReg rScrubWords (words + (a + 1 - lo))
  let step (a : Nat) (f : Module → Module) (m : Module) : Module :=
    if m.ctl.mode = .lockdown then m
    else
      let m1 := f m
      if m1.ctl.mode = .lockdown then upTo a m1 else m1
  if m.scrub.target = 0 then (m.scrubIm lo hi).foldl (fun m e => step e.1 (fun m => m.scrubImWord checks e) m) (upTo hi m)
  else (m.scrubDmb lo hi).foldl (fun m a => step a (fun m => m.scrubDmbWord checks a) m) (upTo hi m)

/-- R169: the next word of an IM or DMB pass fails: SCRUB_DONE tells what its source's check finds. -/
def Module.scrubMeetsBad (m : Module) : Bool :=
  let a := m.scrub.next
  if m.scrub.target = 0 then !(m.scrubIm a a).isEmpty else !(m.scrubDmb a a).isEmpty

/-- R169: a sector whose failure is essential: the design region, the staging area or a resident tip-in. -/
def Module.sectorEssential (m : Module) (a : Nat) : Bool :=
  let within (lo n : Nat) : Bool := decide (lo ≤ a) && decide (a < lo + n)
  decide (a < stageTop) || within (regBaseB m.image.design) (regSizeB m.image.design)
    || m.image.tips.any (fun t => within (regBaseB m.image.tipin + t.2.2.2) (64 + sliceLen * (quiresOf t.2.2.1.toNat).length))

/-- R169, R343, R346: what the check of a sector found: a corrected sector is written back; a failed one is counted before
the policy acts. Neither the tag nor the check code of a sector never written is checked (R342), the tree over its counter
is; the sectors of the counter region are checked whatever they hold. -/
def Module.scrubSector (m : Module) (e : Nat × SectorCheck) : Module :=
  let written : Bool := sget 0 m.hbm.ctr (e.1 / 64) != 0 || decide (hbmTop ≤ e.1) || (match e.2 with
    | .failed 2 => true
    | _ => false)
  if !m.scrub.running || !written then m
  else
    let r := m.outcome e.2 (e.1 / 64)
    match r.1 with
    | .corrected =>
      let m1 := (r.2.scrubCount e.1 (m.sectorEssential e.1) true).memCorrected e.1
      if e.1 < hbmTop then { m1 with hbm := m1.hbm.written m1.nodeKeys [e.1 / 64] } else m1
    | .failed kind =>
      let m1 := (r.2.scrubCount e.1 (m.sectorEssential e.1) false).setReg rScrubWords ((e.1 - m.scrub.next) / 64 + 1)
      m1.macFail e.1 m1.epSteward kind
    | _ => r.2

/-- R169: the sectors of an HBM pass. -/
def Module.scrubHbm (checks : List (Nat × SectorCheck)) (m : Module) : Module :=
  let lo := m.scrub.next
  let hi := m.scrub.last
  let due := (checks.filter (fun e => e.1 % 64 == 0 && decide (lo ≤ e.1) && decide (e.1 ≤ hi))).mergeSort (fun a b => decide (a.1 ≤ b.1))
  let n := (hi - lo) / 64 + 1
  -- R166, R345: every sector is one request; the path of each below the counter region is reached
  let read := (sectorsIn lo (64 * n)).foldl Module.countPc (m.countDone m.epSteward n (64 * n) true)
  let m1 := due.foldl Module.scrubSector (read.treeRead (sectorsIn lo (min hbmTop (lo + 64 * n) - lo)) false).2.2
  if m1.scrub.running then m1.setReg rScrubWords ((hi - lo) / 64 + 1) else m1

/-- SCRUB_DONE (R168): the pass has checked its range. Without a free tag the scrubber holds its reads (R274). A read that
fails its check in the cycle in which LOCKDOWN was entered is logged beside the other (R348). -/
def Module.scrubDone (checks : List (Nat × SectorCheck)) (m : Module) : Module :=
  if m.ctl.mode = .lockdown ∧ m.scrub.target = 2 then checks.foldl (fun m e => m.lateFind e.2 (e.1 / 64) m.epSteward) m
  else if !m.scrub.running ∨ m.tagsOut m.epSteward then m
  else
    let m1 := if m.scrub.target = 2 then m.scrubHbm checks else m.scrubTo m.scrub.last checks
    if m1.scrub.running then
      ((({ m1 with scrub := { m1.scrub with running := false } }).setReg rScrubState 2).log 0x0428 srcSteward []).msix 6
    else m1

def execScrubDone (hbmChecks : List (Nat × SectorCheck)) (s : State) : Host.Outcome State Fault Refusal :=
  goOn (Module.scrubDone hbmChecks) s

/-- One cycle of an IM or DMB pass: one good word; at a failing one the pass waits for SCRUB_DONE. -/
def Module.scrubCycle (m : Module) : Module :=
  if m.scrub.running && decide (m.scrub.target < 2) && decide (m.scrub.next ≤ m.scrub.last) && !m.scrubMeetsBad then m.scrubTo m.scrub.next [] else m

end Sys2Proof.Machine
end

