-- ==== Sys2Proof/Machine/DictWrite.lean ====
section
/-! DEFINITION. Machine/DictWrite.lean: what a write of each dictionary entry does, by its own rule (R388 and the rule of the
entry). The checks of R361 that come first are in Machine/Dict.lean. Reserved fields and RO fields ignore the written value. -/

namespace Sys2Proof.Machine

/-- A write that a condition refuses, or that stores a value. -/
def Module.keep (ok : Bool) (key v : Nat) (m : Module) : Module :=
  if ok then (m.setReg key v).answer stOK else m.answer stRefused

/-- A change of the module, answered OK. -/
def Module.take (f : Module → Module) (m : Module) : Module := (f m).answer stOK

/-- A write of an entry that takes listed values only. -/
def Module.oneOf (v : Nat) (acts : List (Nat × (Module → Module))) (m : Module) : Module :=
  match acts.find? (fun a => a.1 == v) with
  | some a => a.2 m
  | none => m.answer stRefused

/-! ### Management, mode, pacing, stitch -/

def Module.writeMgt (sub v : Nat) (m : Module) : Module :=
  match sub with
  | 0x05 | 0x06 => m.keep (v ≤ 32) (ent 0x1100 sub) v
  | 0x09 => m.adminKey v
  | 0x10 => m.settingsSave v
  | _ => m.keep true (ent 0x1100 sub) v

/-- MODE_REQUEST (R32, R33, R393). -/
def Module.modeRequest (priv : Priv) (v : Nat) (m : Module) : Module :=
  let arg := v / 256 % 2 ^ 24
  let zero := arg == 0
  match v % 16 with
  | 0 => m.request priv .admin true zero Module.reqWarm
  | 3 => m.request priv .oper false zero Module.reqStop
  | 4 => m.request priv .oper false zero (Module.reqEntry 4 0)
  | 5 => m.request priv .oper false (!zero) (Module.reqEntry 5 arg)
  | 6 => m.request priv .oper false zero (Module.reqEntry 6 0)
  | 7 => m.request priv .oper false zero Module.reqFreeze
  | 8 => m.request priv .oper false zero Module.reqInspect
  | 9 => m.request priv .admin false zero (Module.reqService .linksvc)
  | 10 => m.request priv .admin false zero (Module.reqService .selftest)
  | 11 => m.request priv .admin true zero (fun m => (m.lockdown 0).answer stOK)
  | _ => m.request priv .oper false true (Module.answer stModeRefused)

def Module.writePace (sub v : Nat) (m : Module) : Module :=
  match sub with
  | 0x02 => m.keep (v % 256 != 0) rPaceCfg (v % 1024)
  | 0x03 => if bitOf v 11 then m.keep true rPaceOverrun 0 else m.answer stOK
  | 0x07 => m.keep (1000 ≤ v) rCadPtpPeriod v
  | 0x25 => m.keep (100 ≤ v && v ≤ 1000000) rBarrier v
  | _ => m.keep true (ent 0x2100 sub) v

/-! ### Load and start-up (R319, R331) -/

def Module.writeLoad (sub : Nat) (data : List Byte) (m : Module) : Module :=
  let v := leNat data
  let inLoad := decide (m.ctl.mode = .load)
  match sub with
  | 0x01 => m.keep (inLoad && v ≤ 3) rLoadPurpose v
  | 0x02 => m.keep (v ≤ 1) rReload v
  | 0x03 => m.keep inLoad rLoadOffset v
  | 0x04 => m.loadData data
  | 0x05 => m.oneOf v [(1, Module.loadVerify), (2, Module.loadAbandon)]
  | _ => m.oneOf v [(1, Module.stageDiscard)]

/-- R331: the four fields are the codes 1 to 4 once each, and WREN does not come before GSR. -/
def seqGood (v : Nat) : Bool :=
  let fs := (List.range 4).map (fun i => bitsOf v (4 * i + 3) (4 * i))
  [1, 2, 3, 4].all (fun c => fs.contains c) && (fs.findIdx (· == 3) < fs.findIdx (· == 4))

def Module.writeStartup (sub v : Nat) (m : Module) : Module :=
  if sub = 1 then m.keep (seqGood v) rStartupSeq (v % 65536) else m.keep (10 ≤ v && v ≤ 600000) rDoneTimeout v

/-! ### Transactions and channels (R199, R206, R209, R219, R222, R228) -/

/-- TIP_PRELOAD (R206): no KEY above 0x40 names content. -/
def Module.writePreload (v : Nat) (m : Module) : Module :=
  let key := v % 128
  if key < 0x40 then m.tipPreload key (bitOf v 9)
  else if key = 0x40 then m.tipPreloadImage (bitsOf v 8 7) (bitOf v 9)
  else m.answer stRefused

def Module.writeTxn (sub v : Nat) (m : Module) : Module :=
  match sub with
  | 0x02 => m.keep (2 ≤ v) rTxnLead v
  | 0x04 => m.keep (v ≤ 15) rWinSlot v
  | _ => m.writePreload v

/-- R219: a CHAN_CFG that the steward refuses. -/
def Module.chanCfgBad (m : Module) (c v : Nat) : Bool :=
  let inq := (m.inQueue c).isSome
  let outq := (m.outQueue c).isSome
  (cfgEn v && !inq && !outq) || (cfgPaired v && !(inq && outq)) || (cfgFixed v && !cfgPaired v)
    || (if cfgFixed v then cfgLag v == 0 else cfgLag v != 0)
    || (if cfgPaired v then cfgReqw v == 0 || decide (32 < cfgReqw v) else cfgReqw v != 0)

def Module.writeChan (index c v : Nat) (m : Module) : Module :=
  if index = 0x2501 then
    (if m.chanCfgBad c v then m.answer stRefused else (m.setReg (rChanCfg c) (v &&& 0xF0FF3F00)).wake.answer stOK)
  else if index = 0x2502 then m.keep (v == 0 || (100 ≤ v && v ≤ 1000000)) (rChanDeadline c) v
  else if bitOf v 0 then m.keep true (rChanStatus c) 0
  else m.answer stOK

/-! ### Trigger array (R235-R240) -/

/-- R237: a write of the array clears the feedback registers. -/
def Module.writeArray (ok : Bool) (key v : Nat) (m : Module) : Module :=
  if ok then ((m.setReg key v).setTrig (fun g => { g with fb := 0 })).answer stOK else m.answer stRefused

/-- TRIG_OUT_CFG (R239): a pin with EN = 0 is deasserted. -/
def Module.writeTrigOut (k v : Nat) (m : Module) : Module :=
  let m1 := m.setReg (rTrigOutCfg k) (v &&& 0xCF)
  (if bitOf v 7 then m1 else { m1 with pins := { m1.pins with trigOut := m1.pins.trigOut &&& ~~~(BitVec.ofNat 8 (2 ^ k)) } }).answer stOK

def Module.writeTrig (index sub v : Nat) (m : Module) : Module :=
  match index with
  | 0x2600 => if sub = 3 then m.oneOf v [(1, Module.trigClear)] else m.keep true (ent 0x2600 sub) v
  | 0x2601 => m.writeArray true (rTrigTerm sub) v
  | 0x2602 => m.writeArray (popN 128 v ≤ 16) (rMcSelect sub) v
  | 0x2603 => m.writeArray true (rMcCfg sub) (v &&& 0xFB)
  | 0x2604 =>
    let stuck := if bitOf v 2 then 0 else m.reg (rTrigInCfg sub) &&& 4
    m.keep true (rTrigInCfg sub) ((v &&& 0xFFFF0003) + stuck)
  | _ => m.writeTrigOut sub v

/-! ### Capture and mask tests (R242, R247) -/

/-- R242: the settings of a ring after a write. -/
def Module.ringFits (m : Module) (sub v : Nat) : Bool :=
  let at_ (i : Nat) : Nat := if sub = i then v else m.reg (ent 0x2610 i)
  at_ 1 != 1 || !capTooBig m (at_ 4) (at_ 2) (at_ 3)

def Module.writeCap (sub v : Nat) (m : Module) : Module :=
  let free := !(1 ≤ m.trig.capState && m.trig.capState ≤ 3) && m.ringFits sub v
  match sub with
  | 0x01 => m.keep (free && v ≤ 2) rCapMode v
  | 0x02 => m.keep (free && v < 2 ^ 24) rCapPre v
  | 0x03 => m.keep (free && 1 ≤ v && v < 2 ^ 24) rCapPost v
  | 0x04 => m.keep (free && 1 ≤ v && v ≤ 256) rCapWindows v
  | 0x05 => m.oneOf v [(1, Module.capStart), (2, Module.capStopReq)]
  | _ => m.keep true rCapCons v

def Module.writeMask (sub v : Nat) (m : Module) : Module :=
  let free := !(m.trig.maskState == 1 || m.trig.maskState == 2)
  let lo := regBaseB m.image.design
  match sub with
  | 0x01 => m.keep (free && v % 64 == 0 && lo ≤ v && v < lo + regSizeB m.image.design) rMaskBase v
  | 0x02 => m.keep (free && 1 ≤ v && v < 2 ^ 24) rMaskCount v
  | 0x03 => m.keep free rMaskStart v
  | _ => m.maskCtrl v

/-! ### Trace and fabric (R259, R270, R275, R278, R280, R309) -/

def Module.writeTrace (sub v : Nat) (m : Module) : Module :=
  match sub with
  | 0x01 => (m.keep true rTraceCtrl (v % 8)).traceStall
  | 0x04 => m.oneOf v [(1, Module.traceStart), (2, Module.traceStop), (3, Module.traceSync)]
  | _ => m.keep true (ent 0x2700 sub) v

/-- WRAP (R278): W1C on the live counters of the selected initiator. -/
def Module.clearWrap (v : Nat) (m : Module) : Module :=
  let s := m.stats m.selected
  m.setStats m.selected { s with wrap := s.wrap &&& ~~~(BitVec.ofNat 16 v) }

def Module.writeFabric (sub v : Nat) (m : Module) : Module :=
  match sub with
  | 0x01 => m.initSel v
  | 0x02 => m.oneOf v [(1, Module.take (fun m => m.setStats m.selected InitStats.init)),
      (2, Module.take (fun m => { m with fabric := { m.fabric with stats := [] } }))]
  | 0x03 => m.keep (1000 ≤ v && v ≤ 1000000) rNpTimeout v
  | 0x1B => m.take (Module.clearWrap v)
  | _ => m.keep true rXoverrun (m.reg rXoverrun - (m.reg rXoverrun &&& v))

/-- MODROUTE (R270). -/
def Module.writeModroute (n v : Nat) (m : Module) : Module :=
  m.keep (if bitOf v 7 then v % 32 ≤ 19 else v % 32 == 0) (rModroute n) (v &&& 0x9F)

/-- LINKSVC_CMD (R309). -/
def Module.writeLinksvc (v : Nat) (m : Module) : Module :=
  m.oneOf v [(1, Module.inService (fun m => (List.range 20).foldl (fun m b => m.retrain b) m)),
    (2, Module.inService (fun m => if m.inSystem then m.sendEchoes else m)), (3, Module.inService Module.rediscover)]

/-! ### Time, health, scrubber, collator (R167, R370, R376, R380, R384) -/

/-- DOMNUM (R370): the other domain's number is refused; a changed number leaves nothing of the old domain. -/
def Module.writeDomnum (d v : Nat) (m : Module) : Module :=
  if v = m.reg (rDomnum (1 - d)) then m.answer stRefused
  else if v = m.reg (rDomnum d) then m.answer stOK
  else ((m.setReg (rDomnum d) v).setDomain d Domain.init).answer stOK

def Module.writeTime (index sub v : Nat) (m : Module) : Module :=
  if index = 0x3001 then m.writeDomnum (sub - 1) v
  else if index = 0x3002 then
    m.keep (-10000 ≤ int32 v && int32 v ≤ 10000) (rPortAsym (sub - 1)) v
  else if sub = 2 then m.timeActive v
  else m.keep (v ≤ 1) rAutoswitch v

def Module.writeHealth (sub v : Nat) (m : Module) : Module :=
  match sub with
  | 0x01 => m.keep true rHealthSticky (m.reg rHealthSticky - (m.reg rHealthSticky &&& v))
  | 0x07 => m.logFlush v
  | _ => m.keep true rLogReadSeq v

def Module.writeScrub (sub v : Nat) (m : Module) : Module :=
  match sub with
  | 0x01 => m.keep (v ≤ 2) rScrubTarget v
  | 0x04 => m.oneOf v [(1, Module.scrubStart), (2, Module.take Module.abortScrub)]
  | _ => m.keep true (ent 0x3110 sub) v

/-! ### Security, power (R339, R346, R410, R414) -/

/-- SEC_STATUS (R339): ALARM and TRNG_FAIL are W1C. -/
def Module.clearSec (v : Nat) (m : Module) : Module :=
  { m with sec := { m.sec with alarm := m.sec.alarm && !bitOf v 7, trngFail := m.sec.trngFail && !bitOf v 6 } }

def Module.writeSec (sub v : Nat) (m : Module) : Module :=
  match sub with
  | 0x01 => m.take (Module.clearSec v)
  | 0x04 => m.keyInstall v
  | 0x05 => m.keyRemove v
  | 0x06 => m.zeroise v
  | _ => m.policyWrite v

/-- BANK_CFG (R410, R411): a bank whose declared voltage changes is unpowered until its supply has stood at it. -/
def Module.writeBank (b v : Nat) (m : Module) : Module :=
  if 5 < v % 8 ∨ bitsOf v 6 5 = 3 then m.answer stRefused
  else
    let m1 := if v % 8 = m.reg (rBankCfg b) % 8 then m else m.unpower b
    (m1.setReg (rBankCfg b) (v &&& 0x1E7)).answer stOK

def Module.writePower (sub v : Nat) (m : Module) : Module :=
  if sub = 2 then m.keep (70 ≤ v && v ≤ 105) rThermWarn v else m.writeBank (sub - 0x60) v

/-! ### Per-die and per-bundle objects (R305, R309, R310, R398) -/

def Module.writeDie (d o sub v : Nat) (m : Module) : Module :=
  if o = 0x20 then m.deadMark (bitOf v 15) d (bitOf v 8) (v % 256)
  else m.srcRouteWrite d (16 * (o - 0x10) + sub / 16) (sub % 16) v

/-- BUNDLE_CFG (R305, R310): a bundle leaves Off when POWER is written otherwise, and Quiet with Active only. -/
def Module.writeBundleCfg (b v : Nat) (m : Module) : Module :=
  let power := bitsOf v 9 8
  if bitsOf v 11 10 = 3 ∨ power = 3 ∨ v % 256 = 0 then m.answer stRefused
  else
    let m1 := m.setReg (rBundleCfg b) (v % 4096)
    (if power ≠ 2 ∧ (m.bundle b).pstate = 2 then m1.retrain b
     else if power = 1 then m1.exitQuiet b else m1).answer stOK

/-- R308: the manual gives no start value of a generator's register: a free one that is not zero. -/
def prbsStart (n : Nat) : BitVec 31 := BitVec.ofNat 31 (2 * (Config.openWord n).toNat + 1)

/-- LANE_CTL (R309, R310). Whether the far end refuses a far-end loop is free. -/
def Module.writeLaneCtl (l v : Nat) (m : Module) : Module :=
  let tests := v &&& 0x17F
  if 4 ≤ v % 8 ∨ (tests ≠ 0 ∧ m.ctl.mode ≠ .linksvc) then m.answer stRefused
  else
    let m1 := if bitOf v 7 then m.clrPrbs l else m
    let n := m1.sec.freeCtr
    let far := v % 8 == 3
    let starts := bitOf v 5 && !bitOf (m1.lane l).ctl 5
    let m2 := if far || starts then { m1 with sec := { m1.sec with freeCtr := n + 1 } } else m1
    let x := m2.lane l
    let m3 := m2.setLane l { x with ctl := v &&& 0x7F, prbsLock := x.prbsLock && bitOf v 6,
                                    gen := if starts then prbsStart n else x.gen,
                                    loopRefused := far && (Config.openWord n).toNat % 2 == 1 }
    (if bitOf v 8 then m3.retrainLane l else m3).answer stOK

/-- LANE_STATUS (R310): BITS_WRAP is W1C. -/
def Module.clearBitsWrap (l v : Nat) (m : Module) : Module :=
  if bitOf v 11 then m.setLane l { m.lane l with bitsWrap := false } else m

def Module.writeBundle (b o sub v : Nat) (m : Module) : Module :=
  let l := laneNo b (sub - 1)
  match o with
  | 0 => if sub = 1 then m.writeBundleCfg b v else m.keep (100 ≤ v && v ≤ 1000000) (rQuietIdle b) v
  | 1 => m.writeLaneCtl l v
  | _ => m.take (Module.clearBitsWrap l v)

/-! ### All entries -/

/-- A WRITE that has passed the checks of R361 up to the entry's own rule. -/
def Module.dictWrite (priv : Priv) (index sub : Nat) (data : List Byte) (m : Module) : Module :=
  let v := leNat data
  if 0x4000 ≤ index ∧ index < 0x4580 then m.writeDie ((index - 0x4000) / 128) ((index - 0x4000) % 128) sub v
  else if 0x5000 ≤ index ∧ index < 0x5280 then m.writeBundle ((index - 0x5000) / 32) ((index - 0x5000) % 32) sub v
  else if 0x2501 ≤ index ∧ index ≤ 0x2504 then m.writeChan index sub v
  else if 0x2600 ≤ index ∧ index ≤ 0x2605 then m.writeTrig index sub v
  else if 0x3000 ≤ index ∧ index ≤ 0x3002 then m.writeTime index sub v
  else match index with
    | 0x1100 => m.writeMgt sub v
    | 0x2000 => m.modeRequest priv v
    | 0x2100 => m.writePace sub v
    | 0x2101 => m.dclkWrite sub false v
    | 0x2102 => m.dclkWrite sub true v
    | 0x2200 => m.writeLoad sub data
    | 0x2300 => m.writeStartup sub v
    | 0x2400 => m.writeTxn sub v
    | 0x2610 => m.writeCap sub v
    | 0x2620 => m.writeMask sub v
    | 0x2700 => m.writeTrace sub v
    | 0x2800 => m.writeFabric sub v
    | 0x2810 => m.writeModroute sub v
    | 0x2900 => m.writeLinksvc v
    | 0x3100 => m.writeHealth sub v
    | 0x3110 => m.writeScrub sub v
    | 0x3200 => m.keep true rCollCtrl (v % 16)
    | 0x3300 => m.keep true rStoreReadSel v
    | 0x3400 => m.writeSec sub v
    | 0x3500 => m.writePower sub v
    | _ => m.answer stAccess

end Sys2Proof.Machine
end

