-- ==== Sys2Proof/Machine/Dict.lean ====
section
/-! DEFINITION. Machine/Dict.lean: dictionary requests: the order of checks (R361), frames, tags and nonces (R360, R362), the
mailbox and the management ports (R363-R365), requests that wait (R339, R346, R359). Paths: 0 mailbox, 1 MGT0, 2 MGT1. -/

namespace Sys2Proof.Machine

/-! ### The order of checks (R361) -/

/-- R361, steps 4 to 11. `noKey`: an ADMIN request on a management port while no ADMIN key is installed (R362). -/
def Module.dictAccess (write noKey : Bool) (priv : Priv) (index sub len : Nat) (data : List Byte) (m0 : Module) : Module :=
  let m := { m0 with stew := { m0.stew with lastRead := [] } }
  if m.ctl.mode = .lockdown ∧ !guaranteed write index sub data then m.answer stMode
  else match entryInfo index sub with
    | none => m.answer stNoEntry
    | some (acc, n) =>
      if noKey ∨ (write ∧ !privOk priv (writePriv index sub)) then m.answer stPrivilege
      else if (if write then acc = .const ∨ acc = .ro else acc = .wo) then m.answer stAccess
      else if (if write then !(lenFits n data.length && len == data.length) else len != 0) then m.answer stBadFrame
      else if !m.pins.suppliesGood ∧ !onIsland index sub then m.answer stRetry
      else if write ∧ acc = .rwi ∧ m.ctl.mode ≠ .idle then m.answer stMode
      else if write then m.dictWrite priv index sub data
      else m.dictRead index sub n

/-- REGISTER_WRITE (R388): a write of an entry, its privilege known; what VENDOR writes in 0x7F00-0x7FFF the manual does not
describe (R394). -/
def execRegisterWrite (priv : Priv) (index sub : Nat) (data : List Byte) (s : State) : Host.Outcome State Fault Refusal :=
  if priv = .vendor ∧ vendorIndex index ∧ s.mod.ctl.mode ≠ .lockdown then .refused (.vendorEntry index sub)
  else goOn (Module.dictAccess true false priv index sub data.length data) s

/-! ### Frames (R360) -/

def frameData (frame : List Byte) : List Byte := (frame.drop 32).take (hLen (frameHead frame))

/-- R361: a reserved VER, OP or PRIV, a reserved bit of the header, or a STATUS in a request. -/
def headBad (h : Nat) : Bool :=
  bitsOf h 255 248 != 1 || (hOp h != 1 && hOp h != 2) || hPriv h == 3 || bitsOf h 237 232 != 0 || bitsOf h 207 192 != 0
    || bitsOf h 79 0 != 0

def privOf (n : Nat) : Priv := if n = 0 then .oper else if n = 1 then .admin else .vendor

def nonceKey (path priv : Nat) : Nat := path * 3 + priv

/-- R362: AUTH. A privilege that has no key yet is not checked. -/
def Module.authBad (m : Module) (path : Nat) (frame : List Byte) : Bool :=
  let h := frameHead frame
  let n := hNonce h
  match m.tagKey (hPriv h) with
  | none => false
  | some key =>
    (frame.drop (32 + hLen h)).take 16 != tagOf key (frame.take (32 + hLen h))
      || decide (n < sget 0 m.sec.nonces (nonceKey path (hPriv h)))
      || (m.ptpLocked && decide (10000000000 < ((n : Int) - (m.stew.now : Int)).natAbs))

/-- R362: an accepted NONCE; the table holds the least one that is accepted next. -/
def Module.acceptNonce (path h : Nat) (m : Module) : Module :=
  if (m.tagKey (hPriv h)).isSome then
    { m with sec := { m.sec with nonces := sset 0 m.sec.nonces (nonceKey path (hPriv h)) (hNonce h + 1) } }
  else m

/-- R362: DICT_AUTH_FAIL (0x0A10) at the first refusal on each path after each start. -/
def Module.authFailed (path : Nat) (m : Module) : Module :=
  let key := 0x0A10 + 0x10000 * (path + 1)
  if m.start.firstLogged.contains key then m
  else ({ m with start := { m.start with firstLogged := key :: m.start.firstLogged } }).log 0x0A10 srcSteward []

/-- R364: a kept response, not older than 1 s. -/
def Module.keptFor (m : Module) (path source h : Nat) : Option Kept :=
  m.stew.kept.find? (fun x => x.path == path && x.source == source && x.seq == hSeq h && x.nonce == hNonce h
    && decide (m.stew.up < x.at_ + 1000000000))

/-- R361, R362, R364: one request is served; one whose answer has to wait stays with the steward. -/
def Module.serveFrame (path source : Nat) (frame : List Byte) (m : Module) : Module :=
  let h := frameHead frame
  match m.keptFor path source h with
  | some x => m.deliver path source x.frame
  | none =>
    if headBad h then m.reply path source h stBadFrame
    else if m.authBad path frame then (m.authFailed path).reply path source h stAuth
    else
      let noKey := hPriv h == 1 && m.sec.adminKey.isNone && path != 0
      let m1 := (m.acceptNonce path h).dictAccess (hOp h == 2) noKey (privOf (hPriv h)) (hIndex h) (hSub h) (hLen h) (frameData frame)
      if m1.stew.lastStatus.toNat = stPending then { m1 with stew := { m1.stew with waitingReq := some (path, source, frame) } }
      else m1.reply path source h m1.stew.lastStatus.toNat

/-- R364: the requests that wait are served in order of arrival, until one has to wait itself. -/
def Module.serveQueue : Nat → Module → Module
  | 0, m => m
  | n + 1, m =>
    if m.stew.waitingReq.isSome then m
    else match m.stew.reqQ with
      | [] => m
      | (path, source, frame) :: rest =>
        Module.serveQueue n (({ m with stew := { m.stew with reqQ := rest } }).serveFrame path source frame)

/-- R29, R359, R361, R364: a request arrives: one that the steward guarantees, or that LOCKDOWN answers MODE, is served at once,
another behind those that wait; with 64 queued it is answered BUSY. -/
def Module.arriveFrame (path source : Nat) (frame : List Byte) (m : Module) : Module :=
  let h := frameHead frame
  if m.stew.waitingReq.isNone ∨ m.ctl.mode = .lockdown ∨ guaranteed (hOp h == 2) (hIndex h) (hSub h) (frameData frame) then m.serveFrame path source frame
  else if 64 ≤ m.stew.reqQ.length then m.reply path source h stBusy
  else { m with stew := { m.stew with reqQ := m.stew.reqQ ++ [(path, source, frame)] } }

/-- R394: a request at VENDOR privilege that its checks let through to an entry that the manual does not describe. -/
def Module.vendorFrame (m : Module) (path source : Nat) (frame : List Byte) : Bool :=
  let h := frameHead frame
  hPriv h == 2 && vendorIndex (hIndex h) && !headBad h && (m.keptFor path source h).isNone && !m.authBad path frame
    && m.ctl.mode != .lockdown

/-- A frame reaches the steward. -/
def onFrame (path source : Nat) (frame : List Byte) (f : Module → Module) (s : State) : Host.Outcome State Fault Refusal :=
  if s.mod.vendorFrame path source frame then .refused (.vendorEntry (hIndex (frameHead frame)) (hSub (frameHead frame)))
  else goOn f s

/-! ### Mailbox (R363) -/

/-- The frame in the request area: header, data and tag. -/
def Module.mailFrame (m : Module) : List Byte :=
  let h := frameHead (readBytes m.stew.reqArea 0 32)
  readBytes m.stew.reqArea 0 (min 33024 (32 + hLen h + (if hPriv h = 0 then 0 else 16)))

/-- R363: a doorbell: the request area is submitted; ignored while BUSY. -/
def ringDoorbell (s : State) : Host.Outcome State Fault Refusal :=
  if s.mod.stew.mbBusy then goOn id s
  else onFrame 0 0 s.mod.mailFrame
    (fun m => ({ m with stew := { m.stew with mbBusy := true } }).arriveFrame 0 0 m.mailFrame) s

/-- MB_DOORBELL. -/
def execMbDoorbell (s : State) : Host.Outcome State Fault Refusal := ringDoorbell s

/-- The byte of the response area at an offset. -/
def Module.responseByte (m : Module) (i : Nat) : Byte := nth 0#8 m.stew.rspArea i

/-- R363: a read of the response area clears REPLY. -/
def Module.mbRead (offset len : Nat) (m : Module) : Module :=
  ({ m with stew := { m.stew with mbReply := false } }).hostAnswer ((List.range len).map (fun i => m.responseByte (offset + i)))

def execMbResponseRead (offset len : Nat) (s : State) : Host.Outcome State Fault Refusal := goOn (Module.mbRead offset len) s

/-! ### Management ports (R360, R365) -/

/-- R360: the UDP port of dictionary frames, and the longest payload. -/
def dictPort : Nat := 50417
def longestFrame : Nat := 33024

/-- R360, R365: a port takes the datagrams sent to its address; one with no address is closed. -/
def Module.portTakes (m : Module) (port : Nat) (f : Fragment) : Bool :=
  port < 2 && m.reg (ent 0x1100 (3 + port)) != 0 && f.dst == m.reg (ent 0x1100 (3 + port))

/-- The bytes [pos, total) that pieces hold; none while one is missing. -/
def gatherPieces (ps : List (Nat × List Byte)) (total : Nat) : Nat → Nat → Option (List Byte)
  | 0, pos => if total ≤ pos then some [] else none
  | n + 1, pos =>
    if total ≤ pos then some []
    else match ps.find? (fun p => p.1 ≤ pos && pos < p.1 + p.2.length) with
      | none => none
      | some p => (gatherPieces ps total n (p.1 + p.2.length)).map (fun rest => p.2.drop (pos - p.1) ++ rest)

/-- A datagram under reassembly takes one more piece. -/
def Reassembly.add (r : Reassembly) (f : Fragment) : Reassembly :=
  { r with pieces := (f.offset, f.bytes) :: r.pieces, total := if f.more then r.total else some (f.offset + f.bytes.length) }

/-- What the pieces of a datagram give once they are all there. -/
def Reassembly.whole (r : Reassembly) : Option (List Byte) :=
  match r.total with
  | some n => (gatherPieces r.pieces n r.pieces.length 0).map (·.take n)
  | none => none

/-- R360: a fragment joins the others of its datagram, which is given up when it grows beyond the longest payload and its UDP
header. How many datagrams are reassembled at a time is not stated: eight, the newest (DESIGN CHOICE). -/
def Module.reassemble (port : Nat) (f : Fragment) (m : Module) : Option (List Byte) × Module :=
  let mine (r : Reassembly) : Bool := r.port == port && r.src == f.src && r.ident == f.ident
  let others := m.stew.parts.filter (fun r => !mine r)
  let old := (m.stew.parts.find? mine).getD { port := port, src := f.src, ident := f.ident, pieces := [], total := none }
  let r := old.add f
  let keep (ps : List Reassembly) : Module := { m with stew := { m.stew with parts := ps } }
  if longestFrame + 8 < f.offset + f.bytes.length then (none, keep others)
  else match r.whole with
    | some bs => (some bs, keep others)
    | none => (none, keep ((r :: others).take 8))

/-- R360: the source port and the payload of a UDP datagram to port 50417 that holds a header. -/
def udpFrame (bs : List Byte) : Option (Nat × List Byte) :=
  let len := beNat ((bs.drop 4).take 2)
  let payload := (bs.drop 8).take (len - 8)
  if beNat ((bs.drop 2).take 2) = dictPort ∧ 8 ≤ len ∧ len ≤ bs.length ∧ 32 ≤ payload.length ∧ payload.length ≤ longestFrame then
    some (beNat (bs.take 2), payload)
  else none

/-- MGT_DICT_FRAME (R360, R364): a fragment of a datagram, or a whole one, arrives on a port; the frame it completes is a
request, whose source is IP address and UDP port. -/
def execMgtDictFrame (port : Nat) (f : Fragment) (s : State) : Host.Outcome State Fault Refusal :=
  if s.mod.portTakes port f then
    let r := s.mod.reassemble port f
    match r.1.bind udpFrame with
    | some (udp, frame) =>
      onFrame (1 + port) (f.src * 65536 + udp) frame (Module.arriveFrame (1 + port) (f.src * 65536 + udp) frame) (s.withMod r.2)
    | none => .next (s.withMod r.2)
  else goOn id s

/-! ### Requests that wait -/

/-- The waiting request is answered, and those behind it are served. -/
def Module.finish (status : Nat) (m : Module) : Module :=
  match m.stew.waitingReq with
  | none => m
  | some (path, source, frame) =>
    Module.serveQueue 65 (({ m with stew := { m.stew with waitingReq := none } }).reply path source (frameHead frame) status)

/-- An event that can answer the waiting request for an entry. -/
def Module.onWait (index sub : Nat) (f : Module → Module) (m : Module) : Module :=
  match m.stew.waitingReq with
  | some (_, _, frame) =>
    if hIndex (frameHead frame) = index ∧ hSub (frameHead frame) = sub then
      let m1 := f (m.answer stPending)
      if m1.stew.lastStatus.toNat = stPending then m1 else m1.finish m1.stew.lastStatus.toNat
    else f m
  | none => f m

/-- STORE_WRITE_DONE (R350, R351); it may answer a write of MEM_POLICY (R346). -/
def execStoreWriteDone (sector : Nat) (verifyOk : Bool) (s : State) : Host.Outcome State Fault Refusal :=
  goOn (Module.onWait 0x3400 0x10 (Module.writeDone sector verifyOk)) s

/-- STORE_CLEAR_DONE (R350, R351, R354). -/
def execStoreClearDone (sector : Nat) (verifyOk : Bool) (s : State) : Host.Outcome State Fault Refusal :=
  goOn (Module.onWait 0x3400 0x10 (Module.clearDone sector verifyOk)) s

/-- ENTROPY_FILL_DONE (R339); it may answer the LOAD_DATA of a header. -/
def execEntropyFillDone (s : State) : Host.Outcome State Fault Refusal :=
  goOn (Module.onWait 0x2200 0x04 (fun m => if m.sec.trngReady then m else m.entropyFill)) s

/-- DICT_RETRY_TIMEOUT (R359): the request that waits is answered RETRY; a header that waits for entropy is dropped. -/
def Module.retryTimeout (m : Module) : Module :=
  let dropped := { m with load := { m.load with waitEntropy := none } }
  if m.stew.waitingReq.isSome then (dropped.answer stRetry).finish stRetry
  else if m.stew.lastStatus.toNat = stPending then dropped.answer stRetry
  else m

def execDictRetryTimeout (s : State) : Host.Outcome State Fault Refusal := goOn Module.retryTimeout s

end Sys2Proof.Machine
end

