-- ==== Sys2Proof/Machine/HostPort.lean ====
section
/-! DEFINITION. Machine/HostPort.lean: the host port: BAR0, BAR2 and BAR4 (R188-R190, R208, R221, R281-R284, R363). -/

namespace Sys2Proof.Machine

/-! ### Bytes of registers -/

/-- Byte i of a little-endian register. -/
def byteOf (v i : Nat) : Byte := BitVec.ofNat 8 (v / 2 ^ (8 * i))

/-- The bytes written to a field of n bytes at `lo`, laid over its old value. -/
def overlay (old lo n offset : Nat) (bytes : List Byte) : Nat :=
  leNat ((List.range n).map (fun i => if offset ≤ lo + i ∧ lo + i < offset + bytes.length then nth 0#8 bytes (lo + i - offset) else byteOf old i))

/-- A write touches a byte of [lo, lo + n). -/
def touches (lo n offset : Nat) (bytes : List Byte) : Bool := decide (offset < lo + n) && decide (lo < offset + bytes.length)

/-- The part of a write that lies in [lo, lo + n): its first address and its bytes. -/
def part (lo n offset : Nat) (bytes : List Byte) : Nat × List Byte :=
  let a := max lo offset
  (a, (bytes.drop (a - offset)).take (lo + n - a))

/-! ### Transaction staging window (R188, R189, R190) -/

def slotBase : Nat := 0x800000
def slotSpan : Nat := 0x51000

/-- TXN_STATUS (R190). -/
def Slot.status (sl : Slot) : Nat :=
  sl.reason.toNat * 2 ^ 48 + sl.at_ % 2 ^ 13 * 2 ^ 35 + sl.masked % 2 ^ 13 * 2 ^ 22 + b2n sl.refused * 2 ^ 8 + sl.state % 16

def Slot.folioReg (sl : Slot) : Nat := match sl.folio with
  | some n => n
  | none => ones64

/-- A byte of a slot's window. TXN_CTRL is written only. -/
def Slot.byte (sl : Slot) (o : Nat) : Byte :=
  if 0x08 ≤ o ∧ o < 0x10 then byteOf sl.txnWhen (o - 0x08)
  else if 0x10 ≤ o ∧ o < 0x18 then byteOf sl.status (o - 0x10)
  else if 0x18 ≤ o ∧ o < 0x20 then byteOf sl.folioReg (o - 0x18)
  else if 0x1000 ≤ o ∧ o < 0x11000 then byteOf (sget 0 sl.winRecords ((o - 0x1000) / 16)).toNat (o % 16)
  else if 0x11000 ≤ o ∧ o < slotSpan then byteOf (sget 0 sl.winBlocks ((o - 0x11000) / 64)).toNat (o % 64)
  else 0

/-- R188, R191: one byte of a record, a block or TXN_WHEN, taken while the slot is OPEN. -/
def Slot.put (sl : Slot) (o : Nat) (b : Byte) : Slot :=
  let putAt (v i : Nat) : Nat := putBits v (8 * i + 7) (8 * i) b.toNat
  if 0x08 ≤ o ∧ o < 0x10 then { sl with txnWhen := putAt sl.txnWhen (o - 0x08) }
  else if 0x1000 ≤ o ∧ o < 0x11000 then
    let k := (o - 0x1000) / 16
    { sl with winRecords := sset 0 sl.winRecords k (BitVec.ofNat 128 (putAt (sget 0 sl.winRecords k).toNat (o % 16))) }
  else if 0x11000 ≤ o ∧ o < slotSpan then
    let k := (o - 0x11000) / 64
    { sl with winBlocks := sset 0 sl.winBlocks k (BitVec.ofNat 512 (putAt (sget 0 sl.winBlocks k).toNat (o % 64))) }
  else sl

/-- TXN_CTRL (R189): a reserved CMD is no command. -/
def Module.txnCtrl (i v : Nat) (m : Module) : Module :=
  match v % 16 with
  | 1 => m.txnOpen i (bitOf v 35)
  | 2 => m.txnSubmit i (bitsOf v 33 32) (bitsOf v 28 16)
  | 3 => m.txnCancel i
  | 4 => m.txnClose i
  | _ => m

/-- A write into slot i: the window first, then a command where TXN_CTRL is written whole. -/
def Module.writeSlot (i o : Nat) (bytes : List Byte) (m : Module) : Module :=
  let sl := m.slot i
  let m1 := if sl.state = 1 then m.setSlot i (bytes.zipIdx.foldl (fun sl e => sl.put (o + e.2) e.1) sl) else m
  if touches 0 8 o bytes then m1.txnCtrl i (overlay 0 0 8 o bytes) else m1

/-! ### Channel rings (R221) -/

def chanBase : Nat := 0x1000000

/-- A byte of a channel page. -/
def Module.chanByte (m : Module) (c o : Nat) : Byte :=
  let ch := m.chan c
  if 0x108 ≤ o ∧ o < 0x110 then byteOf (ch.accepted % 2 ^ 32) (o - 0x108)
  else if 0x110 ≤ o ∧ o < 0x118 then byteOf ((64 + ch.freed) % 2 ^ 32) (o - 0x110)
  else if 0x118 ≤ o ∧ o < 0x120 then byteOf ch.c2hProd (o - 0x118)
  else if 0x120 ≤ o ∧ o < 0x128 then byteOf ch.c2hCons (o - 0x120)
  else if 0x4000 ≤ o ∧ o < 0x8000 then nth 0#8 (sget [] ch.c2hRing ((o - 0x4000) / 256)) (o % 256)
  else 0

/-- A write into a channel page: the staged slot image, a push, C2H_CONS. -/
def Module.writeChanPage (c o : Nat) (bytes : List Byte) (m : Module) : Module :=
  let p := part 0 256 o bytes
  let m1 := if touches 0 256 o bytes then m.setChan c { m.chan c with stage := writeBytes (m.chan c).stage p.1 p.2 } else m
  let m2 := if touches 0x100 8 o bytes then m1.h2cPush c else m1
  if touches 0x120 4 o bytes then m2.c2hConsume c (overlay (m2.chan c).c2hCons 0x120 4 o bytes) else m2

/-! ### BAR0 -/

/-- R282: the mailbox of BAR0. -/
def inMailbox (offset : Nat) : Bool := decide (offset < 0x10000)

/-- R281, R282: the 272 entries of 16 bytes of the MSI-X table, and the pending-bit array over them. -/
def inMsixTable (o : Nat) : Bool := decide (0x10000 ≤ o) && decide (o < 0x11100)
def inMsix (o : Nat) : Bool := inMsixTable o || (decide (0x18000 ≤ o) && decide (o < 0x18028))

/-- R263, R282: the endpoint that serves an access of BAR0 or of the command page; the host endpoint keeps the MSI-X table
itself. PRESUMED: the manual names the units, the steward for the mailbox and the transaction engine for the window and the
page; a channel's ring is taken to be with the courier core of the channel's number modulo 32. -/
def Module.pageTarget (m : Module) (bar o : Nat) : Option Nat :=
  if bar = 2 then some m.epTxn
  else if o < 0x10000 then some m.epSteward
  else if o < 0x20000 then none
  else if o < chanBase then some m.epTxn
  else some (m.epCore ((o - chanBase) / 65536 % 32))

/-- R278, R283: the packets that the host endpoint turns an access of BAR0 or of the command page into, at most 256 bytes
each, are sent and counted; reads hold tags of its range while they last. -/
def Module.hostPackets (bar o n : Nat) (read : Bool) (m : Module) : Module :=
  match m.pageTarget bar o with
  | none => m
  | some _ => m.countDone m.epHost ((n + 255) / 256) n read

/-- R276: the packet of such an access meets an absorber. -/
def Module.pageDead (bar o : Nat) (read : Bool) (m : Module) : Option Packet :=
  match m.pageTarget bar o with
  | none => none
  | some ep =>
    let p := packetReq (if read then opRD else opPWR) 1 ep m.epHost 0 o
    if m.absorbs (routerOf p.src) p then some p else none

/-- A byte of BAR0. Reserved offsets read zero. -/
def Module.bar0Byte (m : Module) (o : Nat) : Byte :=
  if o < 0x8100 then sget 0 m.stew.reqArea o
  else if 0x8400 ≤ o ∧ o < 0x9440 then m.responseByte (o - 0x8400)
  else if o = 0xFF08 then BitVec.ofNat 8 (b2n m.stew.mbBusy + 2 * b2n m.stew.mbReply)
  else if inMsix o then sget 0 m.fabric.msix (o - 0x10000)
  else if slotBase ≤ o ∧ o < slotBase + 16 * slotSpan then (m.slot ((o - slotBase) / slotSpan)).byte ((o - slotBase) % slotSpan)
  else if chanBase ≤ o ∧ o < chanBase + 0x1000000 then m.chanByte ((o - chanBase) / 65536) (o % 65536)
  else 0

/-- R363: a read of the response area clears REPLY. -/
def Module.bar0Read (o len : Nat) (m : Module) : Module :=
  let bs := (List.range len).map (fun i => m.bar0Byte (o + i))
  let hit := decide (o < 0x9440) && decide (0x8400 < o + len)
  ((if hit then { m with stew := { m.stew with mbReply := false } } else m).hostPackets 0 o len true).hostAnswer bs

/-- A write to BAR0 that is no doorbell. The pending bits of MSI-X at 0x1_8000 are not written. -/
def Module.bar0Write (o : Nat) (bytes : List Byte) (m0 : Module) : Module :=
  let m := m0.hostPackets 0 o bytes.length false
  if o < 0x8100 then
    let p := part 0 0x8100 o bytes
    { m with stew := { m.stew with reqArea := writeBytes m.stew.reqArea p.1 p.2 } }
  else if inMsixTable o then
    let p := part 0x10000 0x1100 o bytes
    { m with fabric := { m.fabric with msix := writeBytes m.fabric.msix (p.1 - 0x10000) p.2 } }
  else if slotBase ≤ o ∧ o < slotBase + 16 * slotSpan then m.writeSlot ((o - slotBase) / slotSpan) ((o - slotBase) % slotSpan) bytes
  else if chanBase ≤ o ∧ o < chanBase + 0x1000000 then m.writeChanPage ((o - chanBase) / 65536) (o % 65536) bytes
  else m

/-! ### BAR2: the command page and the design region (R208, R282, R283) -/

/-- A byte of the command page: INSP_RESP at 0x010. -/
def Module.pageByte (m : Module) (o : Nat) : Byte :=
  if 0x10 ≤ o ∧ o < 0x20 then byteOf (m.txn.inspStatus.toNat * 2 ^ 120 + m.txn.inspValue.toNat) (o - 0x10) else 0

/-- OP 0x10 through INSP_CMD: the level brought to the pad is free. -/
def Module.inspIo (rsv : BitVec 24) (t : BitVec 32) (d : BitVec 64) (m : Module) : Module :=
  let r := m.freePad
  r.2.inspStart 0x10 rsv t d (fun m => m.inspReadCmd 0x10 t.toNat (b2n r.1))

/-- R208, R420: the command that INSP_CMD spells starts. -/
def Module.inspCommand (cmd : Nat) (m : Module) : Module :=
  let op := bitsOf cmd 127 120
  let rsv := BitVec.ofNat 24 (bitsOf cmd 119 96)
  let t := BitVec.ofNat 32 (bitsOf cmd 95 64)
  let d := BitVec.ofNat 64 (bitsOf cmd 63 0)
  if [1, 3, 4, 5, 8, 0x0D, 0x0F].contains op then m.inspR op rsv t d
  else if [2, 6, 7, 9, 0x0A, 0x0B, 0x0C, 0x0E].contains op then m.inspW op rsv t d
  else if op = 0x10 then m.inspIo rsv t d
  else m.inspReserved op

/-- R208: a write of INSP_CMD; the one that carries byte 15 starts the command. One written while STATUS reads 0xFF is
ignored. -/
def Module.pageWrite (o : Nat) (bytes : List Byte) (m : Module) : Module :=
  if m.txn.inspStatus.toNat = inspBusy ∨ !touches 0 16 o bytes then m
  else
    let cmd := overlay m.txn.inspCmd.toNat 0 16 o bytes
    let m1 := { m with txn := { m.txn with inspCmd := BitVec.ofNat 128 cmd } }
    if touches 15 1 o bytes then m1.inspCommand cmd else m1

/-- Offset of the design region in BAR2. -/
def designAt : Nat := 0x04000000
/-- Offset of the trace region in BAR4. -/
def traceAt : Nat := 0x1000000000

/-- R283: a read of a region of HBM by packets; bytes beyond the region are reserved and read zero. -/
def Module.regionRead (region r len : Nat) (m : Module) : Module :=
  let n := min len (regSizeB region - r)
  if n = 0 then m.hostAnswer (List.replicate len 0#8)
  else m.hostIssue { addr := regBaseB region + r, len := len, span := n, tags := [], got := [], bad := false, page := none }

/-- R265: one posted write of the host: a whole sector in two flits, or eight aligned bytes. -/
def Module.hostPost (a : Nat) (bs : List Byte) (m : Module) : Module :=
  let p := packetReq opPWR 1 (m.epHbm a) m.epHost 0 a
  if bs.length = 64 then m.inject { p with len := 2, data := flitsOf 2 bs }
  else m.inject { p with idata := BitVec.ofNat 64 (leNat bs) }

/-- The pieces of a write of n bytes at a: whole sectors, and eight-byte words of a sector that it covers in part; a word
covered in part carries the bytes that stand beside it. `fuel` bounds their number. -/
def Module.hostPieces (m : Module) (lo : Nat) (bytes : List Byte) : Nat → Nat → List (Nat × List Byte)
  | 0, _ => []
  | fuel + 1, a =>
    let hi := lo + bytes.length
    let at_ (n : Nat) : List Byte := (List.range n).map (fun i =>
      if lo ≤ a + i ∧ a + i < hi then nth 0#8 bytes (a + i - lo) else sget 0 m.hbm.bytes (a + i))
    if hi ≤ a then []
    else if a % 64 = 0 ∧ lo ≤ a ∧ a + 64 ≤ hi then (a, at_ 64) :: m.hostPieces lo bytes fuel (a + 64)
    else (a, at_ 8) :: m.hostPieces lo bytes fuel (a + 8)

/-- R283: a write of the design region, in INSPECT. -/
def Module.designWrite (r : Nat) (bytes : List Byte) (m : Module) : Module :=
  let bs := bytes.take (regSizeB m.image.design - r)
  let lo := regBaseB m.image.design + r
  (m.hostPieces lo bs (bs.length + 2) (lo / 8 * 8)).foldl (fun m e => m.hostPost e.1 e.2) m

/-! ### Accesses (R283) -/

/-- R283: completer-abort. -/
def Module.hostAbort (m : Module) : Module := m.send (.hostCpl false [])

/-- R283: an access of BAR0 or of the command page is served. -/
def Module.pageRead (bar o len : Nat) (m : Module) : Module :=
  if bar = 0 then m.bar0Read o len
  else (m.hostPackets 2 o len true).hostAnswer ((List.range len).map (fun i => m.pageByte (o + i)))

/-- R414: an access of a page whose endpoint stands on a gated clock; the mailbox answers in every mode (R359). -/
def Module.pageGated (m : Module) (bar o : Nat) : Bool :=
  m.pins.gated && (match m.pageTarget bar o with
    | some ep => ep != m.epSteward
    | none => false)

/-- R274, R414: an access of a page is held: no tag of the host's range is free, or its endpoint's clock is gated. -/
def Module.pageHeld (m : Module) (bar o : Nat) : Bool :=
  m.pageGated bar o || ((m.pageTarget bar o).isSome && m.hostTags.isEmpty)

/-- R274, R276, R283: the RD of such an access is held while the range has no free tag; an absorber answers it with
DEAD_TARGET, which the host gets as completer-abort. -/
def Module.pageAccess (bar o len : Nat) (m : Module) : Module :=
  match m.pageDead bar o true with
  | some p => (m.countAbsorbed p).hostAbort
  | none =>
    if m.pageHeld bar o then
      { m with fabric := { m.fabric with hostReads := m.fabric.hostReads ++
          [{ addr := 0, len := len, span := 0, tags := [], got := [], bad := false, page := some (bar, o) }] } }
    else m.pageRead bar o len

/-- A waiting access of a page that nothing holds any more. -/
def Module.pageFree (m : Module) (h : HostRead) : Bool := match h.page with
  | some (bar, o) => !m.pageHeld bar o
  | none => false

/-- R274: the oldest access of a page that nothing holds any more is served. -/
def Module.pageServe (m : Module) : Module :=
  match m.fabric.hostReads.find? m.pageFree with
  | none => m
  | some h => match h.page with
    | some (bar, o) => ({ m with fabric := { m.fabric with hostReads := m.fabric.hostReads.erase h } }).pageRead bar o h.len
    | none => m

/-- HOST_READ (R283). The manual names no outcome of a read of the trace region while trace runs: it is served as in OFF
and STOPPED (DESIGN CHOICE). -/
def Module.hostRead (bar o len : Nat) (m : Module) : Module :=
  if m.ctl.mode = .lockdown ∧ !(bar == 0 && inMailbox o) then m.hostAbort
  else if bar = 0 then m.pageAccess 0 o len
  else if bar = 2 then
    if o < 4096 then m.pageAccess 2 o len
    else if designAt ≤ o then
      -- R282: offsets past the design region are reserved
      if m.ctl.mode = .inspect ∨ regSizeB m.image.design ≤ o - designAt then m.regionRead m.image.design (o - designAt) len
      else m.hostAbort
    else m.hostAnswer (List.replicate len 0#8)
  else if bar = 4 then
    if o < traceAt then m.regionRead m.image.capture o len else m.regionRead m.image.trace (o - traceAt) len
  else m.hostAbort

def execHostRead (bar offset len : Nat) (s : State) : Host.Outcome State Fault Refusal := goOn (Module.hostRead bar offset len) s

/-- R281: the maximum payload: a longer write is malformed and is discarded (PRESUMED: as PCI Express has it). -/
def maxPayload : Nat := 512

def Module.hostWrite (bar o : Nat) (bytes : List Byte) (m : Module) : Module :=
  if maxPayload < bytes.length then m
  else if m.ctl.mode = .lockdown ∧ !(bar == 0 && inMailbox o) then m
  else if bar = 0 then
    match m.pageDead 0 o false with
    | some p => m.countAbsorbed p
    -- R414: a write to an endpoint whose clock is gated waits and is dropped by the start that ends the gating (R285)
    | none => if m.pageGated 0 o then m else m.bar0Write o bytes
  else if bar = 2 then
    if o < 4096 then
      match m.pageDead 2 o false with
      | some p => m.countAbsorbed p
      | none => if m.pageGated 2 o then m else (m.hostPackets 2 o bytes.length false).pageWrite o bytes
    else if designAt ≤ o ∧ m.ctl.mode = .inspect then m.designWrite (o - designAt) bytes
    else m
  else m

/-- HOST_WRITE; one that writes MB_DOORBELL submits the request area (R363). -/
def execHostWrite (bar offset : Nat) (bytes : List Byte) (s : State) : Host.Outcome State Fault Refusal :=
  if bar = 0 ∧ offset < 0x10000 ∧ bytes.length ≤ maxPayload ∧ touches 0xFF00 8 offset bytes then
    ringDoorbell (s.withMod (s.mod.hostPackets 0 offset bytes.length false))
  else goOn (Module.hostWrite bar offset bytes) s

/-- HOST_READ_TIMEOUT (R283): the read that holds the tag, or one that still waits for a tag, completes with
completer-abort. -/
def Module.hostTimeout (tag : Nat) (m : Module) : Module :=
  let named (h : HostRead) : Bool := h.tags.contains tag
  let held := !m.fabric.hostReads.any named
  match m.fabric.hostReads.find? (fun h => if held then h.tags.isEmpty else named h) with
  | none => m
  | some h => ({ m with fabric := { m.fabric with hostReads := m.fabric.hostReads.erase h } }).hostAbort

def execHostReadTimeout (tag : Nat) (s : State) : Host.Outcome State Fault Refusal := goOn (Module.hostTimeout tag) s

end Sys2Proof.Machine
end

