-- ==== Sys2Proof/Machine/Launch.lean ====
section
/-! DEFINITION. Machine/Launch.lean: the meaning of LAUNCH: phases 5 to 7 of a boundary (R95-R108, R110, R143, R144, R157,
R196, R225, R239, R418). -/

namespace Sys2Proof.Machine

/-! ### Phase 5 (R104, R196, R202, R215, R225) -/

/-- R104: dictionary writes of generator words that wait come into force. -/
def Module.applyHeld (m : Module) : Module :=
  (m.seq.dclkHeld.foldl (fun m e => m.setClock e.1 e.2.1 e.2.2) m).setSeq (fun s => { s with dclkHeld := [] })

/-- R225: the entry with the oldest SEQ not published is RETIRED and due at the folio that launches. -/
def Channel.dueEntry (ch : Channel) (cfg folio : Nat) : Option (Nat × Entry) :=
  ch.entries.find? (fun (e : Nat × Entry) => e.2.state == 3 && e.2.seq == ch.pubSeq
    && (!cfgFixed cfg || (match e.2.reqFolio with
      | some f => decide (f + cfgLag cfg ≤ folio)
      | none => true)))

/-- R157, R225: one message is published: the inbound queue's design view gains its words, the entry is FREE. -/
def Module.publishOne (c folio : Nat) (m : Module) : Module :=
  let ch := m.chan c
  match ch.dueEntry (m.chanCfg c) folio with
  | none => m
  | some (k, e) =>
    let m1 := m.setChan c { ch with entries := sset Entry.init ch.entries k Entry.init, pubSeq := (ch.pubSeq + 1) % 2 ^ 32 }
    match m1.inQueue c with
    | none => m1
    | some dmb =>
      let q := m1.data.queue dmb
      { m1 with data := m1.data.setQueue dmb { q with dvTail := (q.dvTail + e.len) % 1024, dvCount := q.dvCount + e.len } }

/-- R225: every due message of a channel, in SEQ order; the buffer holds 64. -/
def Module.publish (folio : Nat) (m : Module) (c : Nat) : Module :=
  (List.range 64).foldl (fun m _ => m.publishOne c folio) m

/-- R157: HEAD and COUNT of a courier-outbound queue become the physical ones. -/
def Data.publishOut (d : Data) (dmb : Nat) : Data :=
  let q := d.queue dmb
  d.setQueue dmb { q with dvHead := q.head, dvTail := q.tail, dvCount := q.count }

/-- R157: every courier-outbound queue is published. -/
def Module.publishOuts (m : Module) : Module :=
  let outs := (m.data.dmbDesc.filter (fun e => descBind e.2.toNat == 3)).map (·.1)
  { m with data := outs.foldl Data.publishOut m.data }

/-- R215: at the first departure after DONE every core starts at address 0 as context 32 k. -/
def Module.startCores (m : Module) : Module :=
  if m.couriers.started then m
  else
    let boot (k : Nat) : Ctx := { Ctx.init (32 * k) with state := 2 }
    let cs := (List.range 32).foldl (fun t k => sset (Ctx.init (32 * k)) t (32 * k) (boot k)) m.couriers.contexts
    { m with couriers := { m.couriers with started := true, run := BitVec.allOnes 32, contexts := cs } }

/-- Phase 5 of the boundary before folio F. -/
def Module.phase5 (f : Nat) (m : Module) : Module :=
  let m1 := m.applyHeld
  let m2 := (m1.committing f).foldl (Module.applySlot f) m1
  let m3 := (m2.applyPulses f).publishOuts
  let m4 := (m3.couriers.channels.map (·.1)).foldl (Module.publish f) m3
  m4.startCores.inspServe

/-! ### Phase 6 (R96, R98, R102, R105, R418) -/

/-- R102: design clock k has an edge in folio F. -/
def Module.edge (m : Module) (k f : Nat) : Bool :=
  let c := sget 0 m.seq.dclkCfg k
  let t := sget 0x10000 m.seq.dclkTime k
  bitOf c 31 && (if bitsOf c 30 29 = 0 then f % (max 1 (bitsOf t 31 16)) == bitsOf t 15 0
                 else m.txn.pulsedNow.getLsbD k)

/-- R102: the 64 edges of folio F. -/
def Module.edgesOf (m : Module) (f : Nat) : BitVec 64 :=
  (List.range 64).foldl (fun a k => if m.edge k f then a ||| BitVec.ofNat 64 (2 ^ k) else a) 0

/-- R105: the CRC-32C over the edge vector and the 128 words that decided it. -/
def Module.clockCrc (m : Module) (edges : BitVec 64) : BitVec 32 :=
  crc32c (leBytes 8 edges.toNat ++ (List.range 64).flatMap (fun k =>
    leBytes 4 (sget 0 m.seq.dclkCfg k) ++ leBytes 4 (sget 0x10000 m.seq.dclkTime k)))

/-- R98: a word that fails its check as phase 6 reads it is reloaded from the staged image. -/
def Module.reload (u : RepairUnit) (chk : SectorCheck) (key : Nat) (m : Module) : Module :=
  if !m.unitBad u key then m
  else if !m.load.staged then m.unrepairable u key
  else
    let r := (m.logRepair u key).readSource u key chk
    if r.1 then r.2.2.putUnit u key r.2.1
    else if r.2.2.ctl.mode = .lockdown then r.2.2
    else r.2.2.unrepairable u key

/-- What a sequencer's walk found: the words executed with their ranges, what class A trace records, and the index of a
fault of R418. -/
structure SeqWalk where
  ranges : List (Nat × Nat × Nat)
  items  : List WalkItem
  fault  : Option Nat
  deriving DecidableEq, Repr

/-- R96, R418: the walk of sequencer s from word i on. `last` is the last step appended. -/
def Module.walkFrom (s : Nat) (edges : BitVec 64) (chk : SectorCheck) : Nat → Nat → Option Nat → SeqWalk → Module → SeqWalk × Module
  | 0, _, _, acc, m => (acc, m)
  | n + 1, i, last, acc, m =>
    let m1 := m.reload .segWord chk (256 * s + i)
    let w := (sget { bits := 0, par := 0 } m1.seq.segs (256 * s + i)).bits
    let next (m : Module) (acc : SeqWalk) (last : Option Nat) (nxt : Nat) : SeqWalk × Module :=
      if segEnd w || 255 < nxt then (acc, m)
      else if nxt ≤ i then ({ acc with fault := some i }, m)
      else Module.walkFrom s edges chk n nxt last acc m
    if !m1.ctl.mode.running then (acc, m1)
    else if segCond w = 3 then ({ acc with fault := some i }, m1)
    else if segCond w = 2 then
      let q := segQuarter w
      let key := nth 0x40 m1.seq.dkey q
      let m2 := m1.reload .dispEntry chk (260 * s + 65 * q + key)
      let t := (sget { bits := 0, par := 0 } m2.seq.disp (260 * s + 65 * q + key)).bits
      let nxt := if t = 0 then i + 1 else t
      if !m2.ctl.mode.running then (acc, m2)
      else next m2 { acc with items := acc.items ++ [.jump i nxt q key] } last nxt
    else
      let runs := segCond w = 0 ∨ edges.getLsbD (segSel w)
      let items := if segCond w = 1 then acc.items ++ [.edge i (decide runs)] else acc.items
      if runs then
        let above := match last with
          | some l => decide (l < segFirst w)
          | none => true
        if segLast w < segFirst w ∨ !above then ({ acc with fault := some i, items := items }, m1)
        else next m1 { acc with ranges := acc.ranges ++ [(i, segFirst w, segLast w)], items := items } (some (segLast w))
              (if segNext w = 0 then i + 1 else segNext w)
      else next m1 { acc with items := items } last (i + 1)

/-- R418: SEQ_WALK_FAULT with the sequencer, the folio and the segment index. -/
def Module.walkFault (s f idx : Nat) (m : Module) : Module :=
  let die := s
  m.faultWith 0x0906 die ((4, die) :: m.otherFolio f ++ [(11, idx)])

/-- R418: what an E-die's walk reports differs from the master's. No word is at fault by itself: the index is free. -/
def Module.reportFault (s f : Nat) (m : Module) : Module :=
  let idx := (Config.openWord m.sec.freeCtr).toNat % 256
  ({ m with sec := { m.sec with freeCtr := m.sec.freeCtr + 1 } }).walkFault s f idx

/-- R96, R418: the walk of one sequencer; a fault freezes. -/
def Module.oneWalk (f : Nat) (edges : BitVec 64) (chk : SectorCheck) (s : Nat) (m : Module) : SeqWalk × Module :=
  let r := m.walkFrom s edges chk 256 0 none { ranges := [], items := [], fault := none }
  match r.1.fault with
  | some i => (r.1, r.2.walkFault s f i)
  | none => r

/-- Phase 6 of the boundary before folio F: the edges, the nine walks, their comparison; what the master's walk fixed. -/
def Module.phase6 (f : Nat) (chk : SectorCheck) (m : Module) : SeqWalk × Module :=
  let edges := m.edgesOf f
  let m1 := (m.setSeq (fun s => { s with edges := edges, clkCrc := m.clockCrc edges }))
  let m2 := { m1 with txn := { m1.txn with pulsedNow := 0 } }
  let r := m2.oneWalk f edges chk 8
  let walked := (List.range 8).foldl (fun (acc : List (Nat × SeqWalk) × Module) s =>
    let w := acc.2.oneWalk f edges chk s
    (acc.1 ++ [(s, w.1)], w.2)) ([], r.2)
  let bad := walked.1.filter (fun w => w.2.fault.isNone && r.1.fault.isNone && w.2.ranges != r.1.ranges)
  let m3 := if walked.2.ctl.mode.running then bad.foldl (fun m w => m.reportFault w.1 f) walked.2 else walked.2
  (r.1, m3)

/-! ### Phase 7 (R20, R107, R110, R138, R144, R239, R243, R249) -/

/-- R138: an entry not credited, or bits left other than the zeros that pad a STATIC_LAST frame. -/
def Module.skewLeft (m : Module) : Bool :=
  m.bundles.any (fun e => !e.2.skew.isEmpty || (e.2.storeNext.isEmpty && !e.2.store.isEmpty) || decide (464 < e.2.store.length)
    || e.2.store.any id)

/-- R294: the streams of the next folio open. -/
def Module.openStreams (m : Module) : Module :=
  { m with bundles := m.bundles.map (fun e => (e.1, { e.2 with store := e.2.storeNext.headD [], storeNext := e.2.storeNext.drop 1,
                                                                 gotBits := !(e.2.storeNext.headD []).isEmpty })) }

/-- R239: enabled pins take the value for the folio that launches; a pin with EN = 0 is deasserted. -/
def Module.drivePins (m : Module) : Module :=
  let on (k : Nat) : Bool := let c := m.reg (rTrigOutCfg k)
                             bitOf c 7 && m.trig.act.getLsbD (c % 16)
  { m with pins := { m.pins with trigOut := (List.range 8).foldl (fun a k =>
      if on k then a ||| BitVec.ofNat 8 (2 ^ k) else a) 0 } }

/-- R144: the late tokens among the 1,024 most recent launches; DRIFT (0x0920) when they exceed 16. -/
def Module.judgeDrift (m : Module) : Module :=
  let hist := (m.seq.launchLate :: m.seq.lateHist).take 1024
  let n := (hist.filter id).length
  let m1 := m.setSeq (fun s => { s with lateHist := hist, launchLate := false, driftLogged := decide (16 < n) })
  if 16 < n ∧ !m.seq.driftLogged then m1.log 0x0920 srcSteward [] else m1

/-- R20, R107: cycle 1 of phase 7: every copy takes the folio's number and is compared; what must not cross a boundary is
cleared. A copy differs only where it did not take its value, which no command does. -/
def Module.newFolio (f : Nat) (m : Module) : Module :=
  let q := m.seq
  let d := m.data
  let m1 := { m with
    seq := { q with folio := f, copies := q.copies.map (fun _ => f), opening := false, issued := 0, haltCount := 0,
                    haltFirst := none, folioStall := 0, merged := false, heard := 0 },
    data := { d with bus := [], flights := [], sends := [], returns := [], pendRets := [], padSamples := [] } }
  if m1.seq.copies.any (· != f) then m1.faultWith 0x0901 srcSteward [] else m1

/-- R112, R113, R116: a departure consumes a grant of the pacing master, or a folio of STEP. -/
def Module.depart (m : Module) : Module :=
  let m1 := match m.ctl.mode with
    | .step => { m with ctl := { m.ctl with stepLeft := m.ctl.stepLeft - 1 } }
    | _ => m
  if m.ctl.mode = .paced ∧ m.paceMaster then m1.setSeq (fun s => { s with grants := s.grants - 1 }) else m1

/-- R243, R249, R260: capture, mask and trace as folio F launches. -/
def Module.launchUnits (f : Nat) (m : Module) : Module :=
  let m1 := m.tracePhase7 f
  let m2 := if m1.trig.capFresh then m1.setTrig (fun g => { g with capFresh := false, capA := f }) else m1
  let m3 := (m2.capTrigger m2.trig.act f).maskLaunch f
  let m4 := m3.maskFetch (f + 1)
  if m.seq.launchLate then m4.happen 53 else m4

/-- R107, R110: cycles 2 and 3: the fetch and the presence checks of the first two executed steps; a request raised here,
or standing from before, holds phase 7 after its cycle 3. -/
def Module.firstFetch (m : Module) : Module :=
  let m1 := (m.seq.steps.take 2).foldl (fun (m : Module) t => (m.fetchCheck t).presenceCheck t) m.traceStall
  m1.setSeq (fun s => { s with stalls := s.stalls.map (fun x => { x with age := 2 }) })

/-- Phase 7 with the steps of folio F. -/
def Module.phase7 (f : Nat) (w : SeqWalk) (m : Module) : Module :=
  let steps := w.ranges.flatMap (fun r => (List.range (r.2.2 + 1 - r.2.1)).map (r.2.1 + ·))
  let m1 := (m.newFolio f).setSeq (fun s => { s with steps := steps })
  if !m1.ctl.mode.running then m1
  else if m1.skewLeft then m1.faultWith 0x0922 srcSteward []
  else
    let m2 := m1.openStreams.depart.drivePins
    let m3 := (m2.launchUnits f).judgeDrift
    let m4 := (m3.setSeq (fun s => { s with phase := .issuing, effFolios := s.effFolios + 1 })).firstFetch
    m4.endEmpty

/-- R146: LAST_ROUND runs from the first ring gather send. A module that does not send it cannot see that moment: its
value is free. -/
def Module.lastRound (m : Module) : Nat × Module :=
  if !m.inSystem ∨ (m.ringHead ∧ m.disc.rings ≤ 1) then (m.stew.up - m.seq.roundStart, m)
  else ((Config.openWord m.sec.freeCtr).toNat % 2 ^ 32, { m with sec := { m.sec with freeCtr := m.sec.freeCtr + 1 } })

/-- R146, R196: LAST_ROUND, and the apply hold that ends. -/
def Module.leaveHold (m : Module) : Module :=
  let r := m.lastRound
  let m1 := r.2.setRegs [(rLastRound, r.1), (rApplyHoldMax, max (m.reg rApplyHoldMax) (min m.seq.applyHold 0xFFFFFFFF))]
  m1.setSeq (fun s => { s with applyHold := 0 })

/-- LAUNCH (R143): the wait after the release is over; phases 5 to 7 run, in 10 cycles. HBMWR actions of a slot that
committed to this boundary after its release are written first (R196). What phases 5 and 7 free or number can end a wait
of a courier context (R218). -/
def Module.launch (chk : SectorCheck) (m : Module) : Module :=
  if m.ctl.mode.running ∧ m.seq.phase = .launching ∧ m.localWrites ≠ [] then m.localWrites.foldl Module.startWrites m
  else if m.ctl.mode.running ∧ m.seq.phase = .launching ∧ !m.writing then
    let f := m.earliest
    let m0 := (if 65536 ≤ m.seq.effFolios then m.effWindow else m).leaveHold
    let m1 := (m0.boundaryCycles 10).phase5 f
    let r := m1.phase6 f chk
    -- R234: what happens in phases 5 and 6 counts for no folio
    let m2 := r.2.setSeq (fun s => { s with happened := m.seq.happened })
    if !m2.ctl.mode.running then m2.wake
    else ((m2.traceWalk f r.1.items).phase7 f r.1).wake
  else m

def execLaunch (chk : SectorCheck) (s : State) : Host.Outcome State Fault Refusal := goOn (Module.launch chk) s

end Sys2Proof.Machine
end

