-- ==== Sys2Proof/Machine/Priority.lean ====
section
/-! DEFINITION. Machine/Priority.lean: meanings of the commands that arrive in priority frames, stitch tokens and discovery
records: they take effect in the order of their SEQ (R290, R293, R297). -/

namespace Sys2Proof.Machine

/-- R303: a discovery record received while lanes of this module still train waits for the end of the training. -/
def Module.discEarly (m : Module) (c : Instr) : Bool :=
  decide (m.ctl.mode = .bringup) && m.inSystem && !m.start.lanesTrained
    && (match c with
      | .ringDisc _ _ _ | .headDisc _ _ | .ident _ _ _ _ _ _ | .adj _ _ _ _ | .echoReq _ _ | .echoRsp _ _ _ => true
      | _ => false)

/-- R141, R303: what a token or a discovery record does once it is received in order; other commands do not come in priority
frames. -/
def Module.prioEffect (c : Instr) (m : Module) : Module :=
  if m.discEarly c then { m with disc := { m.disc with waiting := m.disc.waiting ++ [c] } }
  else match c with
  | .ringGather _ t => m.ringGather t
  | .headGather _ t => m.headGather t
  | .headRelease _ t => m.headRelease t
  | .ringRelease _ t => m.ringRelease t
  | .freezeFlood _ _ t => m.freezeFlood t
  | .ringDisc _ ring count => m.ringDisc ring count
  | .headDisc _ ring => m.headDisc ring
  | .ident bundle _ sender sysid mods _ => m.ident bundle sender sysid mods
  | .adj bundle _ module nbr => m.adj bundle module nbr
  | .echoReq bundle _ => m.echoReq bundle
  | .echoRsp bundle _ roundTrip => m.echoRsp bundle roundTrip
  | _ => m

/-- R303: once no lane trains the discovery records that waited take effect. -/
def Module.discPump (m : Module) : Module :=
  if m.start.lanesTrained ∧ m.disc.waiting ≠ [] then
    m.disc.waiting.foldl (fun m c => m.prioEffect c) { m with disc := { m.disc with waiting := [] } }
  else m

/-- R297: the next priority frame of a bundle is received; the gap that it leaves is closed. -/
def Module.prioNext (b : Nat) (m : Module) : Module :=
  let x := m.bundle b
  m.setBundle b ({ x with rxPrio := (x.rxPrio + 1) % 256, oooPrio := x.oooPrio.filter (fun f => f.1 != x.rxPrio) }.closeGaps 3)

/-- R293: priority frames held out of order follow in SEQ order. -/
def Module.prioDrain (b : Nat) : Nat → Module → Module
  | 0, m => m
  | n + 1, m =>
    match (m.bundle b).oooPrio.find? (fun f => f.1 == (m.bundle b).rxPrio) with
    | some f => Module.prioDrain b n ((m.prioNext b).prioEffect f.2)
    | none => m

/-- R293, R297: a priority frame: in order it takes effect, and those held behind it; a later one is held, at most 64, and the
gap NAKed; one seen before is discarded. -/
def Module.prioFrame (b seq : Nat) (c : Instr) (m : Module) : Module :=
  let x := m.bundle b
  let d := seqDist x.rxPrio seq
  if d = 0 then
    ((m.prioNext b).prioEffect c).prioDrain b 64
  else if d < 128 ∧ x.oooPrio.length < 64 ∧ !x.holds 3 seq then
    (m.setBundle b ({ x with oooPrio := x.oooPrio ++ [(seq, c)] }.closeGaps 3)).findGap b 3 d
  else if d < 128 then m.findGap b 3 d
  else m

def execRingGather (seq : Nat) (t : Token) (s : State) : Host.Outcome State Fault Refusal :=
  goOn (Module.prioFrame 0 seq (.ringGather seq t)) s

def execHeadGather (seq : Nat) (t : Token) (s : State) : Host.Outcome State Fault Refusal :=
  goOn (Module.prioFrame 1 seq (.headGather seq t)) s

def execHeadRelease (seq : Nat) (t : Token) (s : State) : Host.Outcome State Fault Refusal :=
  goOn (Module.prioFrame 1 seq (.headRelease seq t)) s

/-- RING_RELEASE (R140, R106): in a module alone it is the release of the stitch inside the module. -/
def execRingRelease (seq : Nat) (t : Token) (s : State) : Host.Outcome State Fault Refusal :=
  goOn (fun m => if m.inSystem then m.prioFrame 0 seq (.ringRelease seq t) else m.loneRelease) s

def execFreezeFlood (bundle seq : Nat) (t : Token) (s : State) : Host.Outcome State Fault Refusal :=
  goOn (Module.prioFrame bundle seq (.freezeFlood bundle seq t)) s

def execRingDisc (seq ring count : Nat) (s : State) : Host.Outcome State Fault Refusal :=
  goOn (Module.prioFrame 0 seq (.ringDisc seq ring count)) s

def execHeadDisc (seq ring : Nat) (s : State) : Host.Outcome State Fault Refusal :=
  goOn (Module.prioFrame 1 seq (.headDisc seq ring)) s

def execIdent (bundle seq sender : Nat) (sysid : Word) (mods imgnum : Nat) (s : State) : Host.Outcome State Fault Refusal :=
  goOn (Module.prioFrame bundle seq (.ident bundle seq sender sysid mods imgnum)) s

def execAdj (bundle seq module : Nat) (nbr : List (Option Nat)) (s : State) : Host.Outcome State Fault Refusal :=
  goOn (Module.prioFrame bundle seq (.adj bundle seq module nbr)) s

def execEchoReq (bundle seq : Nat) (s : State) : Host.Outcome State Fault Refusal :=
  goOn (Module.prioFrame bundle seq (.echoReq bundle seq)) s

def execEchoRsp (bundle seq roundTrip : Nat) (s : State) : Host.Outcome State Fault Refusal :=
  goOn (Module.prioFrame bundle seq (.echoRsp bundle seq roundTrip)) s

end Sys2Proof.Machine
end

