-- ==== Sys2Proof/Machine/Dispatch.lean ====
section
/-! DEFINITION. Machine/Dispatch.lean: one arm per command of Instr, each a direct call of its meaning. -/

namespace Sys2Proof.Machine

/-- The effect of a command on everything but the queue of waiting commands. -/
def exec (i : Instr) (s : State) : Host.Outcome State Fault Refusal :=
  match i with
  -- power, pins and start steps
  | .powerOn => Sys2Proof.Machine.execPowerOn s
  | .porstN => Sys2Proof.Machine.execPorstN s
  | .warmrstN => Sys2Proof.Machine.execWarmrstN s
  | .supplyFail rail => Sys2Proof.Machine.execSupplyFail rail s
  | .vstbyLoss => Sys2Proof.Machine.execVstbyLoss s
  | .hpPerstN => Sys2Proof.Machine.execHpPerstN s
  | .storeMounted fails => Sys2Proof.Machine.execStoreMounted fails s
  | .bistComplete dies => Sys2Proof.Machine.execBistComplete dies s
  | .entropyFillDone => Sys2Proof.Machine.execEntropyFillDone s
  | .pllLock => Sys2Proof.Machine.execPllLock s
  | .epochChangeDone design => Sys2Proof.Machine.execEpochChangeDone design s
  -- stream delivery and verification
  | .loadData block => Sys2Proof.Machine.execLoadData block s
  | .loadGoVerify => Sys2Proof.Machine.execLoadGoVerify s
  | .loadGoAbandon => Sys2Proof.Machine.execLoadGoAbandon s
  | .stageDiscard => Sys2Proof.Machine.execStageDiscard s
  | .completenessCheckDone chk => Sys2Proof.Machine.execCompletenessCheckDone chk s
  | .crcCheckDone chk => Sys2Proof.Machine.execCrcCheckDone chk s
  | .decryptionDone chk => Sys2Proof.Machine.execDecryptionDone chk s
  | .imageChecksDone chk => Sys2Proof.Machine.execImageChecksDone chk s
  | .programmingDone chk => Sys2Proof.Machine.execProgrammingDone chk s
  | .stageDigestCheckDone chk => Sys2Proof.Machine.execStageDigestCheckDone chk s
  -- lane training and discovery
  | .trainingPhaseDone lane symbol => Sys2Proof.Machine.execTrainingPhaseDone lane symbol s
  | .trainingLimitExpiry lane => Sys2Proof.Machine.execTrainingLimitExpiry lane s
  | .ringDisc seq ring count => Sys2Proof.Machine.execRingDisc seq ring count s
  | .headDisc seq ring => Sys2Proof.Machine.execHeadDisc seq ring s
  | .ident bundle seq sender sysid mods imgnum => Sys2Proof.Machine.execIdent bundle seq sender sysid mods imgnum s
  | .adj bundle seq module nbr => Sys2Proof.Machine.execAdj bundle seq module nbr s
  | .echoReq bundle seq => Sys2Proof.Machine.execEchoReq bundle seq s
  | .echoReplyDue bundle => Sys2Proof.Machine.execEchoReplyDue bundle s
  | .echoRsp bundle seq roundTrip => Sys2Proof.Machine.execEchoRsp bundle seq roundTrip s
  | .discoveryFail => Sys2Proof.Machine.execDiscoveryFail s
  -- start-up sequence
  | .startupLock => Sys2Proof.Machine.execStartupLock s
  | .pllUnlock => Sys2Proof.Machine.execPllUnlock s
  | .modreadyNetHigh => Sys2Proof.Machine.execModreadyNetHigh s
  | .doneTimeout => Sys2Proof.Machine.execDoneTimeout s
  -- mode requests
  | .modeReqWarmStart priv arg => Sys2Proof.Machine.execModeReqWarmStart priv arg s
  | .modeReqStopResume priv arg => Sys2Proof.Machine.execModeReqStopResume priv arg s
  | .modeReqRun priv arg => Sys2Proof.Machine.execModeReqRun priv arg s
  | .modeReqStep priv arg => Sys2Proof.Machine.execModeReqStep priv arg s
  | .modeReqPaced priv arg => Sys2Proof.Machine.execModeReqPaced priv arg s
  | .modeReqFreeze priv arg => Sys2Proof.Machine.execModeReqFreeze priv arg s
  | .modeReqInspect priv arg => Sys2Proof.Machine.execModeReqInspect priv arg s
  | .modeReqLinksvc priv arg => Sys2Proof.Machine.execModeReqLinksvc priv arg s
  | .modeReqSelftest priv arg => Sys2Proof.Machine.execModeReqSelftest priv arg s
  | .modeReqLockdown priv arg => Sys2Proof.Machine.execModeReqLockdown priv arg s
  | .modeReqReserved priv target arg => Sys2Proof.Machine.execModeReqReserved priv target arg s
  | .serviceComplete failedBps => Sys2Proof.Machine.execServiceComplete failedBps s
  -- steps, stalls and repair
  | .stepIssue padsHigh badChannels => Sys2Proof.Machine.execStepIssue padsHigh badChannels s
  | .repairComplete unit addr chk => Sys2Proof.Machine.execRepairComplete unit addr chk s
  | .stallRelease => Sys2Proof.Machine.execStallRelease s
  | .memTimeout portKey seqNo => Sys2Proof.Machine.execMemTimeout portKey seqNo s
  | .starveTimeout bundle => Sys2Proof.Machine.execStarveTimeout bundle s
  | .walkerRead unit addr chk => Sys2Proof.Machine.execWalkerRead unit addr chk s
  -- boundary, stitch, launch
  | .drainComplete badChannels => Sys2Proof.Machine.execDrainComplete badChannels s
  | .stuckInput pin => Sys2Proof.Machine.execStuckInput pin s
  | .ringGather seq t => Sys2Proof.Machine.execRingGather seq t s
  | .headGather seq t => Sys2Proof.Machine.execHeadGather seq t s
  | .headRelease seq t => Sys2Proof.Machine.execHeadRelease seq t s
  | .ringRelease seq t => Sys2Proof.Machine.execRingRelease seq t s
  | .stepComplete => Sys2Proof.Machine.execStepComplete s
  | .freezeFlood bundle seq t => Sys2Proof.Machine.execFreezeFlood bundle seq t s
  | .launch chk => Sys2Proof.Machine.execLaunch chk s
  | .effWindow => Sys2Proof.Machine.execEffWindow s
  | .partition => Sys2Proof.Machine.execPartition s
  | .cadInEdge => Sys2Proof.Machine.execCadInEdge s
  | .ptpCadenceEvent => Sys2Proof.Machine.execPtpCadenceEvent s
  | .trigInEdge pin rising => Sys2Proof.Machine.execTrigInEdge pin rising s
  | .trigClear => Sys2Proof.Machine.execTrigClear s
  -- capture, mask tests, trace
  | .capGoStart => Sys2Proof.Machine.execCapGoStart s
  | .capGoStop => Sys2Proof.Machine.execCapGoStop s
  | .capWindowClosed => Sys2Proof.Machine.execCapWindowClosed s
  | .capRearmDone => Sys2Proof.Machine.execCapRearmDone s
  | .maskCtrlWrite v => Sys2Proof.Machine.execMaskCtrlWrite v s
  | .traceGoStart => Sys2Proof.Machine.execTraceGoStart s
  | .traceGoStop => Sys2Proof.Machine.execTraceGoStop s
  | .traceGoSync => Sys2Proof.Machine.execTraceGoSync s
  | .traceStopped => Sys2Proof.Machine.execTraceStopped s
  | .traceBranchTimeout core => Sys2Proof.Machine.execTraceBranchTimeout core s
  | .traceDeltaLimit src => Sys2Proof.Machine.execTraceDeltaLimit src s
  | .traceGap src => Sys2Proof.Machine.execTraceGap src s
  | .classBTrace core pc ev => Sys2Proof.Machine.execClassBTrace core pc ev s
  -- transactions and tip-ins
  | .txnOpen slot scope => Sys2Proof.Machine.execTxnOpen slot scope s
  | .txnSubmit slot whenMode count => Sys2Proof.Machine.execTxnSubmit slot whenMode count s
  | .txnCancel slot => Sys2Proof.Machine.execTxnCancel slot s
  | .txnClose slot => Sys2Proof.Machine.execTxnClose slot s
  | .txnValidated slot => Sys2Proof.Machine.execTxnValidated slot s
  | .tipPreload key discard => Sys2Proof.Machine.execTipPreload key discard s
  | .tipPreloadImage quarter discard => Sys2Proof.Machine.execTipPreloadImage quarter discard s
  | .tipPreloadDone chk => Sys2Proof.Machine.execTipPreloadDone chk s
  -- inspection
  | .inspReadDm rsv target data => Sys2Proof.Machine.execInspReadDm rsv target data s
  | .inspWriteDm rsv target data => Sys2Proof.Machine.execInspWriteDm rsv target data s
  | .inspReadIm rsv target data => Sys2Proof.Machine.execInspReadIm rsv target data s
  | .inspReadShadow rsv target data => Sys2Proof.Machine.execInspReadShadow rsv target data s
  | .inspReadDmb rsv target data => Sys2Proof.Machine.execInspReadDmb rsv target data s
  | .inspWriteDmb rsv target data => Sys2Proof.Machine.execInspWriteDmb rsv target data s
  | .inspParityTest rsv target data => Sys2Proof.Machine.execInspParityTest rsv target data s
  | .inspReadSchedule rsv target data => Sys2Proof.Machine.execInspReadSchedule rsv target data s
  | .inspForceDm rsv target data => Sys2Proof.Machine.execInspForceDm rsv target data s
  | .inspForcePoint rsv target data => Sys2Proof.Machine.execInspForcePoint rsv target data s
  | .inspReleaseDm rsv target data => Sys2Proof.Machine.execInspReleaseDm rsv target data s
  | .inspReleasePoint rsv target data => Sys2Proof.Machine.execInspReleasePoint rsv target data s
  | .inspReadBpControls rsv target data => Sys2Proof.Machine.execInspReadBpControls rsv target data s
  | .inspWriteHaltEnable rsv target data => Sys2Proof.Machine.execInspWriteHaltEnable rsv target data s
  | .inspReadQueue rsv target data => Sys2Proof.Machine.execInspReadQueue rsv target data s
  | .inspReadIoCell rsv target data padHigh => Sys2Proof.Machine.execInspReadIoCell rsv target data padHigh s
  | .inspOpReserved op => Sys2Proof.Machine.execInspOpReserved op s
  -- couriers and channels
  | .schWait core obj arg => Sys2Proof.Machine.execSchWait core obj arg s
  | .schSignal core ctx => Sys2Proof.Machine.execSchSignal core ctx s
  | .schSetup core v arg => Sys2Proof.Machine.execSchSetup core v arg s
  | .schExit core => Sys2Proof.Machine.execSchExit core s
  | .schPulse core gen => Sys2Proof.Machine.execSchPulse core gen s
  | .schFail core => Sys2Proof.Machine.execSchFail core s
  | .schPtpWaitExpiry => Sys2Proof.Machine.execSchPtpWaitExpiry s
  | .take core chan => Sys2Proof.Machine.execTake core chan s
  | .chanDone core chan v buffer => Sys2Proof.Machine.execChanDone core chan v buffer s
  | .chanPop core chan => Sys2Proof.Machine.execChanPop core chan s
  | .c2hAlloc core chan => Sys2Proof.Machine.execC2hAlloc core chan s
  | .c2hPost core chan slot image => Sys2Proof.Machine.execC2hPost core chan slot image s
  | .chanErrRead core chan => Sys2Proof.Machine.execChanErrRead core chan s
  | .h2cPush chan => Sys2Proof.Machine.execH2cPush chan s
  | .c2hCons chan v => Sys2Proof.Machine.execC2hCons chan v s
  | .retire chan => Sys2Proof.Machine.execRetire chan s
  | .deadlineMiss chan => Sys2Proof.Machine.execDeadlineMiss chan s
  | .replyTimeout chan => Sys2Proof.Machine.execReplyTimeout chan s
  | .courierTrap core pc cause => Sys2Proof.Machine.execCourierTrap core pc cause s
  -- packets, die links, host port
  | .packetRd p parityBad chk => Sys2Proof.Machine.execPacketRd p parityBad chk s
  | .packetWr p parityBad chk stored => Sys2Proof.Machine.execPacketWr p parityBad chk stored s
  | .packetPwr p parityBad chk stored => Sys2Proof.Machine.execPacketPwr p parityBad chk stored s
  | .packetMsg p parityBad => Sys2Proof.Machine.execPacketMsg p parityBad s
  | .packetCpl p parityBad => Sys2Proof.Machine.execPacketCpl p parityBad s
  | .packetAck p parityBad => Sys2Proof.Machine.execPacketAck p parityBad s
  | .errnote p parityBad => Sys2Proof.Machine.execErrnote p parityBad s
  | .badOp p parityBad => Sys2Proof.Machine.execBadOp p parityBad s
  | .npTimeout tag => Sys2Proof.Machine.execNpTimeout tag s
  | .tagQuarantineEnd tag => Sys2Proof.Machine.execTagQuarantineEnd tag s
  | .requestAgeLimit output => Sys2Proof.Machine.execRequestAgeLimit output s
  | .dlinkDataFrame link dir f => Sys2Proof.Machine.execDlinkDataFrame link dir f s
  | .dlinkIdleFrame link dir f => Sys2Proof.Machine.execDlinkIdleFrame link dir f s
  | .dlinkNak link dir f => Sys2Proof.Machine.execDlinkNak link dir f s
  | .dlinkReplayTimeout link dir => Sys2Proof.Machine.execDlinkReplayTimeout link dir s
  | .hostRead bar offset len => Sys2Proof.Machine.execHostRead bar offset len s
  | .hostWrite bar offset bytes => Sys2Proof.Machine.execHostWrite bar offset bytes s
  | .hostReadTimeout tag => Sys2Proof.Machine.execHostReadTimeout tag s
  | .mbDoorbell => Sys2Proof.Machine.execMbDoorbell s
  | .mbResponseRead offset len => Sys2Proof.Machine.execMbResponseRead offset len s
  | .mgtDictFrame port f => Sys2Proof.Machine.execMgtDictFrame port f s
  | .mgtFrameForward port frame residence => Sys2Proof.Machine.execMgtFrameForward port frame residence s
  | .initSel ep => Sys2Proof.Machine.execInitSel ep s
  | .statsClearOne => Sys2Proof.Machine.execStatsClearOne s
  | .statsClearAll => Sys2Proof.Machine.execStatsClearAll s
  -- lanes
  | .laneIdle bundle lane cb => Sys2Proof.Machine.execLaneIdle bundle lane cb s
  | .laneNak bundle cb => Sys2Proof.Machine.execLaneNak bundle cb s
  | .nakRepeat bundle cls => Sys2Proof.Machine.execNakRepeat bundle cls s
  | .quietReq bundle cb => Sys2Proof.Machine.execQuietReq bundle cb s
  | .quietAck bundle cb => Sys2Proof.Machine.execQuietAck bundle cb s
  | .quietRefuse bundle cb => Sys2Proof.Machine.execQuietRefuse bundle cb s
  | .laneDrop bundle lane cb => Sys2Proof.Machine.execLaneDrop bundle lane cb s
  | .laneFailed bundle lane => Sys2Proof.Machine.execLaneFailed bundle lane s
  | .staticFrame bundle seq payload => Sys2Proof.Machine.execStaticFrame bundle seq payload s
  | .staticLast bundle seq payload => Sys2Proof.Machine.execStaticLast bundle seq payload s
  | .lanePacket bundle seq flit cb => Sys2Proof.Machine.execLanePacket bundle seq flit cb s
  | .laneFrameBad bundle lane cls => Sys2Proof.Machine.execLaneFrameBad bundle lane cls s
  | .lanePacketResendTimeout bundle => Sys2Proof.Machine.execLanePacketResendTimeout bundle s
  | .quietIdleExpiry bundle => Sys2Proof.Machine.execQuietIdleExpiry bundle s
  | .quietExit bundle => Sys2Proof.Machine.execQuietExit bundle s
  | .trainingBurst bundle => Sys2Proof.Machine.execTrainingBurst bundle s
  | .offEntry bundle => Sys2Proof.Machine.execOffEntry bundle s
  | .linksvcCmdRetrain => Sys2Proof.Machine.execLinksvcCmdRetrain s
  | .linksvcCmdRecalibrate => Sys2Proof.Machine.execLinksvcCmdRecalibrate s
  | .linksvcCmdRediscover => Sys2Proof.Machine.execLinksvcCmdRediscover s
  | .laneCtlRetrain bundle lane => Sys2Proof.Machine.execLaneCtlRetrain bundle lane s
  | .laneCtlClr bundle lane => Sys2Proof.Machine.execLaneCtlClr bundle lane s
  -- scrubber, store, keys, settings, log
  | .scrubGoStart => Sys2Proof.Machine.execScrubGoStart s
  | .scrubGoAbort => Sys2Proof.Machine.execScrubGoAbort s
  | .scrubDone hbmChecks => Sys2Proof.Machine.execScrubDone hbmChecks s
  | .storeWriteDone sector verifyOk => Sys2Proof.Machine.execStoreWriteDone sector verifyOk s
  | .storeClearDone sector verifyOk => Sys2Proof.Machine.execStoreClearDone sector verifyOk s
  | .storeReadData => Sys2Proof.Machine.execStoreReadData s
  | .keyInstall v => Sys2Proof.Machine.execKeyInstall v s
  | .keyRemove slot => Sys2Proof.Machine.execKeyRemove slot s
  | .zeroise v => Sys2Proof.Machine.execZeroise v s
  | .random => Sys2Proof.Machine.execRandom s
  | .memPolicyWrite v => Sys2Proof.Machine.execMemPolicyWrite v s
  | .adminKey wrap => Sys2Proof.Machine.execAdminKey wrap s
  | .trngFail => Sys2Proof.Machine.execTrngFail s
  | .drbgReseed => Sys2Proof.Machine.execDrbgReseed s
  | .settingsSave v => Sys2Proof.Machine.execSettingsSave v s
  | .logFlush v => Sys2Proof.Machine.execLogFlush v s
  | .logFlushAuto => Sys2Proof.Machine.execLogFlushAuto s
  -- time
  | .ptpSync port domain twoStep rxStamp originStamp correction => Sys2Proof.Machine.execPtpSync port domain twoStep rxStamp originStamp correction s
  | .ptpFollowUp port domain originStamp correction => Sys2Proof.Machine.execPtpFollowUp port domain originStamp correction s
  | .ptpDelayResp port domain txStamp rxStamp correction => Sys2Proof.Machine.execPtpDelayResp port domain txStamp rxStamp correction s
  | .ptpHoldover domain => Sys2Proof.Machine.execPtpHoldover domain s
  | .timeActiveWrite v => Sys2Proof.Machine.execTimeActiveWrite v s
  | .secondPulse => Sys2Proof.Machine.execSecondPulse s
  -- collator, health, thermal, probe banks
  | .collatorUnit act unit pass => Sys2Proof.Machine.execCollatorUnit act unit pass s
  | .collStoreHourly => Sys2Proof.Machine.execCollStoreHourly s
  | .chanImbalance die => Sys2Proof.Machine.execChanImbalance die s
  | .thermalReading die centiC => Sys2Proof.Machine.execThermalReading die centiC s
  | .vioChange bank wrongVoltage => Sys2Proof.Machine.execVioChange bank wrongVoltage s
  | .bankPowered bank => Sys2Proof.Machine.execBankPowered bank s
  -- dictionary
  | .dclkWrite gen isTime v => Sys2Proof.Machine.execDclkWrite gen isTime v s
  | .deadMarkSet die router target => Sys2Proof.Machine.execDeadMarkSet die router target s
  | .deadMarkClear die router target => Sys2Proof.Machine.execDeadMarkClear die router target s
  | .srcRouteWrite die ni entry v => Sys2Proof.Machine.execSrcRouteWrite die ni entry v s
  | .registerWrite priv index sub data => Sys2Proof.Machine.execRegisterWrite priv index sub data s
  | .porstNHigh => Sys2Proof.Machine.execPorstNHigh s
  | .dictRetryTimeout => Sys2Proof.Machine.execDictRetryTimeout s
  | .logEntryMove => Sys2Proof.Machine.execLogEntryMove s
  | .mgtLinkChange port up => Sys2Proof.Machine.execMgtLinkChange port up s
  | .prbsLock bundle lane => Sys2Proof.Machine.execPrbsLock bundle lane s
  | .prbsLockLoss bundle lane => Sys2Proof.Machine.execPrbsLockLoss bundle lane s
  | .slewingDone => Sys2Proof.Machine.execSlewingDone s

end Sys2Proof.Machine
end

