-- ==== Sys2Proof/Machine/Periods.lean ====
section
/-! DEFINITION. Machine/Periods.lean: the frame periods of a bundle: which frames its lanes take (R293), the bits that their
pads drive (R288, R289), and lanes under test (R307, R308). -/

namespace Sys2Proof.Machine

/-- R293: the next frame for a lane, in the order of the ranks; LCTL, PRIO and BRINGUP frames only on the lowest healthy lane. -/
def nextFrame (low : Bool) (q : List TxFrame) : Option TxFrame :=
  (if low then [1, 2, 3, 4, 5, 6] else [3, 4, 5, 6]).findSome? (fun r => q.find? (fun f => f.rank == r))

def idleFrame : TxFrame := { rank := 7, seq := 0, body := .idle }

/-- R332: before OUTEN no STATIC and no PACKET frame leaves. -/
def LaneBody.design : LaneBody → Bool
  | .static _ _ | .packet _ _ => true
  | .idle | .lctl _ _ _ _ | .prio _ _ => false

/-- R293: the frame that a lane takes; after 63 frames without a control block an IDLE frame goes before a frame without one. -/
def Bundle.takeFrame (low outen : Bool) (x : Bundle) : TxFrame × Bundle :=
  match nextFrame low (x.txq.filter (fun f => outen || !f.body.design)) with
  | some f =>
    if f.body.control then (f, { x with txq := x.txq.erase f, sinceCtl := 0 })
    else if x.sinceCtl < 63 then (f, { x with txq := x.txq.erase f, sinceCtl := x.sinceCtl + 1 })
    else (idleFrame, { x with sinceCtl := 0 })
  | none => (idleFrame, { x with sinceCtl := 0 })

/-- R292, R297: what has been sent: the last SEQ of each class; a static frame is kept until 64 later ones have been sent, a
priority frame until 8 have. -/
def Bundle.noteSent (f : TxFrame) (x : Bundle) : Bundle :=
  let last (ls : Nat) : Nat := if 1 ≤ seqDist ls f.seq ∧ seqDist ls f.seq < 128 then f.seq else ls
  let waits (rank seq : Nat) : Bool := x.txq.any (fun g => g.rank == rank && g.seq == seq)
  match f.body with
  | .static _ _ =>
    let ls := last x.lsStatic
    { x with lsStatic := ls, keepStatic := x.keepStatic.filter (fun k => waits 5 k.1 || decide (seqDist k.1 ls < 64)) }
  | .prio _ _ =>
    let ls := last x.lsPrio
    { x with lsPrio := ls, keepPrio := x.keepPrio.filter (fun k => waits 2 k.1 || decide (seqDist k.1 ls < 8)) }
  | .packet _ _ => { x with lsPkt := last x.lsPkt }
  | .idle | .lctl _ _ _ _ => x

/-- R305: the cycle in which a frame other than IDLE last left. -/
def Bundle.noteBusy (f : TxFrame) (cycle : Nat) (x : Bundle) : Bundle := if f.body = .idle then x else { x with busyAt := cycle }

/-- R307, R308: a lane under test: in LINKSVC, with a loop or the generator on. -/
def Module.underTest (m : Module) (l : Nat) : Bool :=
  decide (m.ctl.mode = .linksvc) && ((m.lane l).ctl % 8 != 0 || bitOf (m.lane l).ctl 5)

/-- R288, R289: a frame leaves on a lane; both scramblers of the lane move on by its 512 bits. -/
def Module.sendLine (b l : Nat) (f : TxFrame) (m : Module) : Module :=
  let x := m.lane l
  let frame := f.bits ((m.bundle b).control 0 0 0 0)
  (m.setLane l { x with scr := scrRun 512 x.scr, rxScr := scrRun 512 x.rxScr }).send (.pad l (.line frame (lineOf x.scr frame)))

/-- What a frame that a near-end loop brings does: its control block is taken, or it counts as a CRC failure. -/
def Module.loopTakes (b l : Nat) (c : Instr) (m : Module) : Module :=
  match c with
  | .laneIdle _ _ cb => m.takeBlock b cb
  | .laneFrameBad _ _ cls => m.frameBad b l cls
  | _ => m

/-- R307: a near-end loop brings a frame that is transmitted into the receive path of its lane, whose descrambler is the far
lane's: an IDLE frame that comes out whole tells its control block, any other counts as a CRC failure. -/
def Module.loopFrame (b l : Nat) (m : Module) : Module :=
  let x := m.lane l
  let frame := idleFrame.bits ((m.bundle b).control 0 0 0 0)
  m.bundleUp b (Module.loopTakes b l (laneCommand b (l % 8) 0 (frameOf x.rxScr (lineOf x.scr frame))))

/-- R307, R308: a frame period of a lane under test. The pattern goes to the pad, but for a near-end parallel loop, whose pad
is in electrical idle, and for a far-end loop; a near-end loop brings it to the lane's own checker, which locks. -/
def Module.testPeriod (b l : Nat) (m : Module) : Module :=
  let x := m.lane l
  let loop := x.ctl % 8
  let gen := bitOf x.ctl 5
  if loop = 3 ∧ !x.loopRefused then m.send (.pad l .recovered)
  else if gen then
    let r := prbsRun (bitsOf x.ctl 4 3) periodUi x.gen
    let m1 := m.setLane l { x with gen := r.2, prbsLock := x.prbsLock || ((loop == 1 || loop == 2) && bitOf x.ctl 6) }
    m1.send (.pad l (if loop = 1 then .idle else .pattern (BitVec.ofNat 529 (lineNat r.1))))
  else if loop = 1 then
    let y : Lane := { x with scr := scrRun 512 x.scr, rxScr := scrRun 512 x.rxScr }
    ((m.loopFrame b l).setLane l { (m.loopFrame b l).lane l with scr := y.scr, rxScr := y.rxScr }).send (.pad l .idle)
  else if loop = 2 then (m.loopFrame b l).sendLine b l idleFrame
  else m.sendLine b l idleFrame

/-- R302: a lane in VERIFY sends scrambled IDLE frames. -/
def Module.verifying (m : Module) (l : Nat) : Bool := decide ((m.lane l).phase = some .verify)

/-- A frame period of one lane; `low` while no lower lane of the bundle is healthy. -/
def Module.lanePeriod (b : Nat) (a : Bool × Module) (l : Nat) : Bool × Module :=
  let m := a.2
  if m.underTest l then (a.1, m.testPeriod b l)
  else if m.verifying l then (a.1, m.sendLine b l idleFrame)
  else if (m.bundle b).carries && (m.lane l).healthy then
    let m1 := m.pktPump b
    let t := (m1.bundle b).takeFrame a.1 m.start.outen
    (false, (m1.setBundle b ((t.2.noteSent t.1).noteBusy t.1 m.seq.cycle)).sendLine b l t.1)
  else a

/-- A QUIET_ACK waits to be sent (R306). -/
def Bundle.ackWaits (x : Bundle) : Bool := x.txq.any (fun f => match f.body with | .lctl op _ _ _ => op == 3 | _ => false)

/-- R293: one frame period of a bundle: its lanes in ascending order. A bundle enters Quiet after it has sent the QUIET_ACK
(R306). -/
def Module.bundlePeriod (b : Nat) (m : Module) : Module :=
  let r := ((lanesOf b).foldl (Module.lanePeriod b) (true, m)).2
  let r1 := r.setBundle b { r.bundle b with period := (r.bundle b).period + 1 }
  if (m.bundle b).ackWaits ∧ !(r1.bundle b).ackWaits then r1.enterQuiet b else r1

/-- R289: 1 ns of a bundle that carries frames or has a lane under test: a frame period ends every 529 UI. -/
def Module.bundleCycle (m : Module) (b : Nat) : Module :=
  let x := m.bundle b
  if x.carries ∨ (lanesOf b).any (fun l => m.underTest l || m.verifying l) then
    let ui := x.ui + bitsPerNs (m.bundleRate b)
    if ui < periodUi then m.setBundle b { x with ui := ui } else (m.setBundle b { x with ui := ui - periodUi }).bundlePeriod b
  else m

/-- 1 ns of every bundle. -/
def Module.lanesCycle (m : Module) : Module := (List.range 20).foldl Module.bundleCycle m

end Sys2Proof.Machine
end

