-- ==== Sys2Proof/Machine/Tick.lean ====
section
/-! DEFINITION. Machine/Tick.lean: what one cycle of the step clock does when no command waits. -/

namespace Sys2Proof.Machine

/-- R111: the counter of a stall request's cause. -/
def stallCounter : StallCause → Nat
  | .repair _ _ _ => rStallRepair
  | .lateStatic _ _ => rStallStatic
  | .memReturn _ _ => rStallMem
  | .memRead _ => rStallMem
  | .memWrite _ => rStallMem
  | .backPressure _ => rStallPressure
  | .courierPush _ => rStallPush
  | .traceA => rStallTrace
  | .deadline _ => rStallReply

/-- R186: causes that S_own counts. -/
def stallOwn : StallCause → Bool
  | .repair _ _ _ | .memReturn _ _ | .memRead _ | .memWrite _ => true
  | _ => false

/-- R111, R186: one stall cycle: once in the counter of each standing cause. -/
def Module.stallCycle (m : Module) : Module :=
  let keys := (m.seq.stalls.map (fun s => stallCounter s.cause)).eraseDups
  let own := m.seq.stalls.any (fun s => stallOwn s.cause)
  let m1 := (keys.foldl (fun (m : Module) k => m.statReg k 1) m).statReg rStallCycles 1
  { m1 with seq := { m1.seq with effS := m1.seq.effS + 1, effSown := m1.seq.effSown + b2n own,
                                 folioStall := m1.seq.folioStall + 1 } }

/-- R106, R111, R186: a cycle that lengthens phase 1 or holds phase 7 counts in B, and in the counters of its causes. The
own factor leaves out what a reply deadline or class A trace holds in phase 7 (R186). -/
def Module.heldCycle (drain : Bool) (m : Module) : Module :=
  let holding := m.seq.stalls.filter (fun s => !drain || s.holdsDrain)
  let keys := (holding.map (fun s => stallCounter s.cause)).eraseDups
  let outside := !drain && m.seq.stalls.any (fun s => match s.cause with
    | .deadline _ => true
    | .traceA => true
    | _ => false)
  let m1 := (keys.foldl (fun (m : Module) k => m.statReg k 1) m).statReg rBoundary 1
  let m2 := if drain then m1.statReg rPhase1 1 else m1
  m2.setSeq (fun s => { s with effB := s.effB + 1, effBown := s.effBown + b2n (!outside) })

/-- A cycle that passes while folios run: what it counts as, by the phase the module stands in. -/
def Module.runCycle (m : Module) : Module :=
  match m.seq.phase with
  | .issuing =>
    if !m.held then m.endEmpty
    else if m.seq.issued = 0 then (m.heldCycle false).settle
    else m.stallCycle.settle
  | .drain => if m.settle.drained then m.settle else m.settle.heldCycle true
  | .stitch => if m.inSystem then (m.statReg rBoundary 1).setSeq (fun s => { s with effB := s.effB + 1 }) else m
  | .hold => m.holdCycles 1
  -- R106, R186, R196: writes of HBMWR actions hold the module at the hold point, which no boundary counter counts
  | .launching =>
    if m.writing then m.holdCycles 1
    else if m.inSystem then (m.statReg rBoundary 1).setSeq (fun s => { s with effB := s.effB + 1 })
    else m

/-- One cycle of what runs on the NOC clocks: the trace funnel writes a sector (R256) and capture a record (R245); message
queues drain (R268); accesses of pages that were held are served (R274); the scrubber goes on (R168). -/
def Module.nocCycle (m : Module) : Module :=
  ((List.range 16).foldl (fun m i => m.rollOn i) m).funnelDrain.capDrain.drainMessages.pageServe.dieIdles.scrubCycle

/-- One cycle of the lanes: the bundles send (R293), checkers count (R308), discovery records that waited take effect (R303). -/
def Module.linkCycle (m : Module) : Module := m.lanesCycle.countPrbs.discPump

/-- An idle cycle: 1 ns of local time and one step-clock cycle (R107); what the machine waits for is counted. While the step,
courier and NOC clocks are gated only time and the lanes go on (R414). -/
def Module.tick (m : Module) : Module :=
  if m.pins.gated then (m.cycles 1).linkCycle
  else
    let m1 := (m.cycles 1).nocCycle.linkCycle
    if m1.ctl.mode.running then m1.runCycle.wake else m1.wake

/-- One idle cycle of the block. -/
def State.tick (s : State) : State := { s with mod := s.mod.tick }

end Sys2Proof.Machine
end

