-- ==== Sys2Proof/Safety.lean ====
section
/-! DEFINITION. Safety.lean: the terms in which the statements speak of a command: it completes with a module that has a
property; it leaves alone every part of the module but those named; and the invariant that every step keeps. -/

namespace Sys2Proof.Machine

/-- The command answers a next state with the queue it was given, and the module of that state has the property. -/
def Completes (c : Instr) (s : State) (P : Module → Prop) : Prop :=
  ∃ m, exec c s = .next (s.withMod m) ∧ P m

/-- The parts of a module: one for each field of `Module`. -/
inductive Part where
  | regs | ctl | pins | start | seq | data | image | load | txn | couriers | trig | trace | fabric | lanes | bundles
  | disc | store | sec | stew | scrub | hbm | outbox
  deriving DecidableEq, Repr

/-- Module `b` has in this part what module `a` has. -/
def Part.kept (a b : Module) : Part → Prop
  | .regs => b.regs = a.regs
  | .ctl => b.ctl = a.ctl
  | .pins => b.pins = a.pins
  | .start => b.start = a.start
  | .seq => b.seq = a.seq
  | .data => b.data = a.data
  | .image => b.image = a.image
  | .load => b.load = a.load
  | .txn => b.txn = a.txn
  | .couriers => b.couriers = a.couriers
  | .trig => b.trig = a.trig
  | .trace => b.trace = a.trace
  | .fabric => b.fabric = a.fabric
  | .lanes => b.lanes = a.lanes
  | .bundles => b.bundles = a.bundles
  | .disc => b.disc = a.disc
  | .store => b.store = a.store
  | .sec => b.sec = a.sec
  | .stew => b.stew = a.stew
  | .scrub => b.scrub = a.scrub
  | .hbm => b.hbm = a.hbm
  | .outbox => b.outbox = a.outbox

/-- Every part of the module but those named is unchanged. -/
def KeptBut (ps : List Part) (a b : Module) : Prop := ∀ p : Part, p ∉ ps → p.kept a b

/-- Every part. -/
def Part.all : List Part :=
  [.regs, .ctl, .pins, .start, .seq, .data, .image, .load, .txn, .couriers, .trig, .trace, .fabric, .lanes, .bundles,
   .disc, .store, .sec, .stew, .scrub, .hbm, .outbox]

/-- Every part but those named. -/
def Part.allBut (ps : List Part) : List Part := Part.all.filter (fun p => !ps.contains p)

/-- The parts of the module that a command may change, in some state. What every command that logs can change is `.stew`
(the queues of the log) and `.regs` (LOG_LOST, LOG_OVERRUN). -/
def mayChange : Instr → List Part
  | .powerOn => Part.all
  | .porstN => Part.all
  | .warmrstN => Part.all
  | .supplyFail _ => Part.all
  | .vstbyLoss => [.regs, .ctl, .pins, .start, .load, .fabric, .store, .sec, .stew, .outbox]
  | .hpPerstN => [.regs, .fabric, .stew]
  | .storeMounted _ => [.regs, .start, .fabric, .store, .sec, .stew, .outbox]
  | .bistComplete _ => [.regs, .start, .fabric, .store, .sec, .stew, .outbox]
  | .entropyFillDone => Part.all
  | .pllLock => Part.all
  | .epochChangeDone _ => [.load, .sec, .hbm]
  | .loadData _ => Part.allBut [.pins, .data, .image, .txn, .trig, .trace]
  | .loadGoVerify => [.load, .sec, .stew]
  | .loadGoAbandon => [.load, .stew]
  | .stageDiscard => [.regs, .load, .stew]
  | .completenessCheckDone _ => Part.allBut [.pins, .data, .txn, .trig, .trace]
  | .crcCheckDone _ => Part.allBut [.pins, .data, .txn, .trig, .trace]
  | .decryptionDone _ => Part.allBut [.pins, .data, .txn, .trig, .trace]
  | .imageChecksDone _ => Part.allBut [.pins, .data, .txn, .trig, .trace]
  | .programmingDone _ => Part.allBut [.trig, .trace]
  | .stageDigestCheckDone _ => Part.allBut [.image, .txn, .trig, .trace]
  | .trainingPhaseDone _ _ => [.regs, .pins, .start, .seq, .data, .lanes, .bundles, .disc, .sec, .stew, .outbox]
  | .trainingLimitExpiry _ => [.regs, .pins, .start, .seq, .data, .lanes, .bundles, .disc, .sec, .stew, .outbox]
  | .ringDisc _ _ _ => Part.allBut [.scrub]
  | .headDisc _ _ => Part.allBut [.scrub]
  | .ident _ _ _ _ _ _ => Part.allBut [.scrub]
  | .adj _ _ _ _ => Part.allBut [.scrub]
  | .echoReq _ _ => Part.allBut [.scrub]
  | .echoReplyDue _ => [.regs, .pins, .start, .seq, .data, .bundles, .disc, .sec, .outbox]
  | .echoRsp _ _ _ => Part.allBut [.scrub]
  | .discoveryFail => [.regs, .pins, .start, .seq, .data, .disc, .stew]
  | .startupLock => [.regs, .pins, .start, .seq, .data]
  | .pllUnlock => [.regs, .pins, .start, .seq, .data, .stew]
  | .modreadyNetHigh => [.ctl, .pins, .start, .seq, .fabric, .bundles, .outbox]
  | .doneTimeout => Part.allBut [.scrub]
  | .modeReqWarmStart _ _ => Part.all
  | .modeReqStopResume _ _ => Part.all
  | .modeReqRun _ _ => [.ctl, .stew]
  | .modeReqStep _ _ => [.ctl, .stew]
  | .modeReqPaced _ _ => [.ctl, .stew]
  | .modeReqFreeze _ _ => [.regs, .ctl, .seq, .txn, .fabric, .sec, .stew, .outbox]
  | .modeReqInspect _ _ => [.ctl, .fabric, .stew, .outbox]
  | .modeReqLinksvc _ _ => [.regs, .ctl, .data, .txn, .couriers, .fabric, .sec, .stew, .scrub, .hbm, .outbox]
  | .modeReqSelftest _ _ => [.regs, .ctl, .data, .txn, .couriers, .fabric, .sec, .stew, .scrub, .hbm, .outbox]
  | .modeReqLockdown _ _ => [.regs, .ctl, .start, .seq, .load, .couriers, .fabric, .lanes, .bundles, .store,
    .sec, .stew, .scrub, .hbm, .outbox]
  | .modeReqReserved _ _ _ => [.stew]
  | .serviceComplete _ => Part.all
  | .stepIssue _ _ => Part.allBut [.scrub]
  | .repairComplete _ _ _ => Part.all
  | .stallRelease => [.regs, .seq, .data, .couriers, .fabric, .bundles, .outbox]
  | .memTimeout _ _ => Part.allBut [.scrub]
  | .starveTimeout _ => Part.allBut [.scrub]
  | .walkerRead _ _ _ => Part.all
  | .drainComplete _ => Part.allBut [.scrub]
  | .stuckInput _ => [.regs, .stew]
  | .ringGather _ _ => Part.allBut [.scrub]
  | .headGather _ _ => Part.allBut [.scrub]
  | .headRelease _ _ => Part.allBut [.scrub]
  | .ringRelease _ _ => Part.allBut [.scrub]
  | .stepComplete => [.regs, .ctl, .txn, .fabric, .sec, .stew, .outbox]
  | .freezeFlood _ _ _ => Part.allBut [.scrub]
  | .launch _ => Part.all
  | .effWindow => [.regs, .seq]
  | .partition => Part.allBut [.scrub]
  | .cadInEdge => [.regs, .pins, .seq, .sec, .stew]
  | .ptpCadenceEvent => [.regs, .pins, .seq, .sec, .stew]
  | .trigInEdge _ _ => [.regs, .pins, .txn, .trig, .sec, .stew]
  | .trigClear => [.trig, .stew]
  | .capGoStart => [.regs, .trig, .fabric, .stew, .outbox]
  | .capGoStop => [.trig, .stew]
  | .capWindowClosed => [.regs, .trig, .fabric, .stew, .outbox]
  | .capRearmDone => [.trig, .fabric, .outbox]
  | .maskCtrlWrite _ => [.regs, .trig, .fabric, .stew, .outbox]
  | .traceGoStart => [.regs, .trace, .fabric, .stew, .outbox]
  | .traceGoStop => [.trace, .stew]
  | .traceGoSync => [.trace, .stew]
  | .traceStopped => [.regs, .seq, .trace, .fabric, .sec, .stew, .outbox]
  | .traceBranchTimeout _ => [.regs, .seq, .trace, .sec, .stew]
  | .traceDeltaLimit _ => [.regs, .seq, .trace, .sec, .stew]
  | .traceGap _ => [.regs, .seq, .trace, .sec, .stew]
  | .classBTrace _ _ _ => [.regs, .seq, .trace, .stew]
  | .txnOpen _ _ => [.txn]
  | .txnSubmit _ _ _ => [.txn]
  | .txnCancel _ => [.regs, .txn, .fabric, .stew, .hbm, .outbox]
  | .txnClose _ => [.txn]
  | .txnValidated _ => [.regs, .txn, .fabric, .stew, .hbm, .outbox]
  | .tipPreload _ _ => [.regs, .data, .txn, .stew]
  | .tipPreloadImage _ _ => [.regs, .data, .txn, .stew]
  | .tipPreloadDone _ => Part.allBut [.pins, .image, .trig, .trace]
  | .inspReadDm _ _ _ => [.regs, .txn, .stew]
  | .inspWriteDm _ _ _ => [.data, .txn]
  | .inspReadIm _ _ _ => [.regs, .txn, .stew]
  | .inspReadShadow _ _ _ => [.regs, .txn, .stew]
  | .inspReadDmb _ _ _ => [.regs, .txn, .stew]
  | .inspWriteDmb _ _ _ => [.data, .txn]
  | .inspParityTest _ _ _ => [.data, .txn]
  | .inspReadSchedule _ _ _ => [.regs, .txn, .stew]
  | .inspForceDm _ _ _ => [.data, .txn]
  | .inspForcePoint _ _ _ => [.data, .txn]
  | .inspReleaseDm _ _ _ => [.data, .txn]
  | .inspReleasePoint _ _ _ => [.data, .txn]
  | .inspReadBpControls _ _ _ => [.regs, .txn, .stew]
  | .inspWriteHaltEnable _ _ _ => [.data, .txn]
  | .inspReadQueue _ _ _ => [.regs, .txn, .stew]
  | .inspReadIoCell _ _ _ _ => [.regs, .txn, .stew]
  | .inspOpReserved _ => [.txn]
  | .schWait _ _ _ => [.couriers]
  | .schSignal _ _ => [.couriers]
  | .schSetup _ _ _ => [.couriers]
  | .schExit _ => [.couriers]
  | .schPulse _ _ => [.regs, .txn]
  | .schFail _ => [.couriers]
  | .schPtpWaitExpiry => [.couriers]
  | .take _ _ => [.regs, .seq, .data, .couriers, .fabric, .sec, .stew, .outbox]
  | .chanDone _ _ _ _ => [.couriers, .fabric]
  | .chanPop _ _ => [.regs, .seq, .data, .couriers, .fabric, .sec, .stew, .outbox]
  | .c2hAlloc _ _ => [.couriers]
  | .c2hPost _ _ _ _ => [.seq, .couriers, .fabric, .outbox]
  | .chanErrRead _ _ => [.couriers]
  | .h2cPush _ => [.regs, .couriers, .stew]
  | .c2hCons _ _ => [.couriers]
  | .retire _ => [.regs, .seq, .data, .couriers, .fabric, .outbox]
  | .deadlineMiss _ => [.regs, .seq, .couriers, .stew]
  | .replyTimeout _ => Part.allBut [.scrub]
  | .courierTrap _ _ _ => [.regs, .seq, .couriers, .trace, .sec, .stew]
  | .packetRd _ _ _ => Part.allBut [.pins, .data, .image, .txn, .trig, .trace]
  | .packetWr _ _ _ _ => Part.allBut [.pins, .data, .image, .txn, .trig, .trace]
  | .packetPwr _ _ _ _ => Part.allBut [.pins, .data, .image, .txn, .trig, .trace]
  | .packetMsg _ _ => Part.allBut [.pins, .data, .image, .txn, .trig, .trace]
  | .packetCpl _ _ => Part.all
  | .packetAck _ _ => Part.allBut [.pins, .image, .trace]
  | .errnote _ _ => Part.all
  | .badOp _ _ => [.regs, .fabric, .stew]
  | .npTimeout _ => [.regs, .txn, .fabric, .stew, .hbm, .outbox]
  | .tagQuarantineEnd _ => [.regs, .seq, .data, .txn, .trig, .fabric, .outbox]
  | .requestAgeLimit _ => [.fabric, .bundles]
  | .dlinkDataFrame _ _ _ => [.fabric, .outbox]
  | .dlinkIdleFrame _ _ _ => [.fabric, .outbox]
  | .dlinkNak _ _ _ => Part.allBut [.scrub]
  | .dlinkReplayTimeout _ _ => Part.allBut [.scrub]
  | .hostRead _ _ _ => [.regs, .fabric, .sec, .stew, .outbox]
  | .hostWrite _ _ _ => Part.all
  | .hostReadTimeout _ => [.fabric, .outbox]
  | .mbDoorbell => Part.all
  | .mbResponseRead _ _ => [.stew, .outbox]
  | .mgtDictFrame _ _ => Part.all
  | .mgtFrameForward _ _ _ => [.stew, .outbox]
  | .initSel _ => [.regs, .fabric, .stew]
  | .statsClearOne => [.fabric, .stew]
  | .statsClearAll => [.fabric, .stew]
  | .laneIdle _ _ _ => [.regs, .pins, .start, .seq, .data, .fabric, .lanes, .bundles, .disc, .sec, .stew, .outbox]
  | .laneNak _ _ => Part.allBut [.scrub]
  | .nakRepeat _ _ => [.bundles, .stew, .outbox]
  | .quietReq _ _ => [.regs, .seq, .data, .fabric, .bundles, .stew, .outbox]
  | .quietAck _ _ => [.regs, .seq, .data, .fabric, .bundles, .stew, .outbox]
  | .quietRefuse _ _ => [.regs, .seq, .data, .fabric, .bundles, .stew, .outbox]
  | .laneDrop _ _ _ => [.regs, .seq, .data, .fabric, .lanes, .bundles, .stew, .outbox]
  | .laneFailed _ _ => [.regs, .lanes, .bundles, .stew, .outbox]
  | .staticFrame _ _ _ => [.regs, .seq, .data, .fabric, .bundles, .stew, .outbox]
  | .staticLast _ _ _ => [.regs, .seq, .data, .fabric, .bundles, .stew, .outbox]
  | .lanePacket _ _ _ _ => [.regs, .seq, .data, .fabric, .bundles, .stew, .outbox]
  | .laneFrameBad _ _ _ => [.lanes, .bundles, .stew, .outbox]
  | .lanePacketResendTimeout _ => [.regs, .lanes, .bundles, .stew, .outbox]
  | .quietIdleExpiry _ => [.bundles, .stew, .outbox]
  | .quietExit _ => [.bundles, .outbox]
  | .trainingBurst _ => [.bundles, .outbox]
  | .offEntry _ => [.bundles]
  | .linksvcCmdRetrain => [.lanes, .bundles, .stew]
  | .linksvcCmdRecalibrate => [.regs, .pins, .start, .seq, .data, .bundles, .disc, .sec, .stew, .outbox]
  | .linksvcCmdRediscover => [.regs, .pins, .start, .seq, .data, .bundles, .disc, .sec, .stew, .outbox]
  | .laneCtlRetrain _ _ => [.lanes, .bundles, .stew]
  | .laneCtlClr _ _ => [.lanes, .stew]
  | .scrubGoStart => [.regs, .fabric, .stew, .scrub, .outbox]
  | .scrubGoAbort => [.regs, .fabric, .stew, .scrub, .outbox]
  | .scrubDone _ => Part.all
  | .storeWriteDone _ _ => Part.all
  | .storeClearDone _ _ => Part.all
  | .storeReadData => [.store, .stew]
  | .keyInstall _ => [.regs, .store, .stew]
  | .keyRemove _ => [.regs, .store, .sec, .stew]
  | .zeroise _ => [.regs, .ctl, .start, .seq, .load, .couriers, .fabric, .lanes, .bundles, .store, .sec, .stew,
    .scrub, .hbm, .outbox]
  | .random => [.sec, .stew]
  | .memPolicyWrite _ => [.regs, .store, .stew]
  | .adminKey _ => [.regs, .sec, .stew]
  | .trngFail => [.regs, .sec, .stew]
  | .drbgReseed => [.sec]
  | .settingsSave _ => [.regs, .store, .stew]
  | .logFlush _ => [.regs, .store, .stew]
  | .logFlushAuto => [.regs, .store, .stew]
  | .ptpSync _ _ _ _ _ _ => [.regs, .seq, .couriers, .stew, .outbox]
  | .ptpFollowUp _ _ _ _ => [.regs, .seq, .couriers, .stew, .outbox]
  | .ptpDelayResp _ _ _ _ _ => [.stew]
  | .ptpHoldover _ => [.regs, .seq, .couriers, .stew]
  | .timeActiveWrite _ => [.regs, .seq, .couriers, .stew]
  | .secondPulse => [.stew]
  | .collatorUnit _ _ _ => [.regs, .start, .data, .lanes, .bundles, .store, .sec, .stew, .outbox]
  | .collStoreHourly => [.regs, .store, .stew]
  | .chanImbalance _ => [.fabric]
  | .thermalReading _ _ => Part.allBut [.scrub]
  | .vioChange _ _ => [.regs, .pins, .data, .stew]
  | .bankPowered _ => [.pins, .data]
  | .dclkWrite _ _ _ => [.regs, .seq, .stew]
  | .deadMarkSet _ _ _ => [.fabric, .stew]
  | .deadMarkClear _ _ _ => [.fabric, .stew]
  | .srcRouteWrite _ _ _ _ => [.fabric, .stew]
  | .registerWrite _ _ _ _ => Part.all
  | .porstNHigh => Part.allBut [.ctl, .txn, .trace, .scrub]
  | .dictRetryTimeout => Part.all
  | .logEntryMove => [.regs, .fabric, .stew, .outbox]
  | .mgtLinkChange _ _ => [.pins]
  | .prbsLock _ _ => [.lanes]
  | .prbsLockLoss _ _ => [.lanes]
  | .slewingDone => [.stew]

/-! ### The invariant -/

/-- The canonical form of what HBM holds. -/
def Hbm.Ok (h : Hbm) : Prop := swf (fun _ => 0#8) h.bytes = true ∧ swf (fun _ => 0) h.ctr = true

/-- R31: RESUMABLE is set in FROZEN and INSPECT alone. -/
def ModeCtl.Ok (c : ModeCtl) : Prop := c.resumable = true → c.mode = .frozen ∨ c.mode = .inspect

/-- R379: no queue of the event log holds more than 16 entries. -/
def QueuesOk (q : SMap (List LogEntry)) : Prop := ∀ e ∈ q, e.2.length ≤ 16

/-- The keys of a table rise. -/
abbrev Rising {α : Type} (t : SMap α) : Prop := (t.map (·.1)).Pairwise (· < ·)

/-- R250, R254, R257, R261: the sources of trace are class A (0), the funnel (1), which loses nothing, and the 32 cores; only
a core holds the bits of a BRANCH, and none once the sources have stopped. -/
def Trace.Ok (t : Trace) : Prop :=
  Rising t.sources ∧ ∀ e ∈ t.sources, (e.1 = 0 ∨ e.1 = 1 ∨ 0x20 ≤ e.1 ∧ e.1 < 0x40) ∧ (e.1 = 1 → e.2.lost = 0) ∧
    (e.2.bits ≠ [] → 0x20 ≤ e.1 ∧ t.stopReq = false)

/-- The parts of the module that the invariant speaks of: RESUMABLE (R31), the canonical form of HBM, the 16 transaction
slots (R188), GRANTS (R113), the ring and the queues of the event log (R379), the canonical form of the table of contexts
(R214), the sources of trace, and the order of the tables of store sectors and of channel entries. -/
def Parts (c : ModeCtl) (h : Hbm) (slots : List Slot) (grants : Nat) (ring : List LogEntry)
    (q : SMap (List LogEntry)) (contexts : SMap Ctx) (channels : SMap Channel) (trace : Trace) (sectors : SMap Sector) : Prop :=
  c.Ok ∧ h.Ok ∧ slots.length = 16 ∧ grants ≤ 1023 ∧ ring.length ≤ 4096 ∧ QueuesOk q ∧ swf Ctx.init contexts = true ∧
  (∀ e ∈ channels, Rising e.2.entries) ∧ trace.Ok ∧ Rising sectors

/-- The invariant of a module. -/
def Module.Inv (m : Module) : Prop :=
  Parts m.ctl m.hbm m.txn.slots m.seq.grants m.stew.ring m.stew.logQ m.couriers.contexts m.couriers.channels m.trace m.store.sectors

/-! ### Terms of the statements -/

/-- What a cold start has just set (R117, R118): the start steps run, the registers read their defaults, both epochs
are to change, nothing is loaded, and the log is empty. -/
def ColdBegun (m : Module) : Prop :=
  m.start.running = true ∧ m.start.storeMounted = false ∧ m.start.bistDone = false ∧ m.regs = [] ∧ m.store.state = 1 ∧
  m.load.epochStage = true ∧ m.load.epochDesign = true ∧ m.image.present = false ∧ m.hbm.bytes = [] ∧
  m.sec.stageSecret = none ∧ m.sec.designSecret = none ∧ m.stew.ring = [] ∧ m.stew.now = 0

/-- What a warm start leaves of module `a` (R117, R118, R212). -/
def WarmBegun (a m : Module) : Prop :=
  m.ctl.mode = .reset ∧ m.ctl.cold = false ∧ m.ctl.prev = a.ctl.mode ∧ m.ctl.resumable = false ∧ m.ctl.target = 0 ∧
  m.start.running = true ∧ m.start.storeMounted = true ∧ m.start.bistDone = true ∧ m.start.remapLoaded = true ∧
  m.start.pllLocked = false ∧ m.pins.modreadyLow = true ∧ m.seq.folio = a.seq.folio ∧ m.seq.grants = 0 ∧
  m.seq.dkey = [0x40, 0x40, 0x40, 0x40] ∧ m.data.forces = [] ∧ m.data.haltEn = [] ∧ m.data.fpoint = [] ∧
  m.txn.slots = List.replicate 16 Slot.init ∧ m.txn.pulses = 0 ∧ m.trig.capState = 0 ∧ m.trig.maskState = 0 ∧ m.trace.state = 0 ∧
  m.couriers.started = false ∧ m.fabric.net = [] ∧ m.sec.designSecret = a.sec.designSecret ∧ m.sec.stageSecret = a.sec.stageSecret ∧
  m.load.staged = (a.load.staged && !a.load.discardWait) ∧ ∀ e ∈ m.bundles, ¬ (e.2.state = 1 ∧ e.2.pstate = 0)

/-- Nothing waits that a start writes to HBM (R246, R261): no capture record, no trace. -/
def StartClear (m : Module) : Prop :=
  m.trig.capQueue = [] ∧ m.trace.stopReq = false ∧ m.trace.state ≠ 1 ∧ m.trace.state ≠ 2

/-- WARMRST_N has an effect (R24, R28, R404, R414). -/
def WarmPinActs (m : Module) : Prop :=
  m.ctl.mode ≠ .lockdown ∧ m.pins.porstHigh = true ∧ m.pins.suppliesGood = true ∧ (∀ t ∈ m.stew.tj, t < 11000) ∧
  ¬ ((m.ctl.mode = .frozen ∨ m.ctl.mode = .inspect) ∧ m.ctl.coldOnly = true)

/-- R96: the step ranges that a walk of a segment program appends from word i on; none where it breaks a rule that R418
guards. -/
def walkRanges (seg disp : Nat → Nat) (edges : BitVec 64) (dkey : List Nat) : Nat → Nat → Option Nat → Option (List (Nat × Nat))
  | 0, _, _ => some []
  | n + 1, i, last =>
    let w := seg i
    let go (nxt : Nat) (last : Option Nat) : Option (List (Nat × Nat)) :=
      if segEnd w ∨ 255 < nxt then some [] else if nxt ≤ i then none else walkRanges seg disp edges dkey n nxt last
    if segCond w = 3 then none
    else if segCond w = 2 then
      let t := disp (65 * segQuarter w + nth 0x40 dkey (segQuarter w))
      go (if t = 0 then i + 1 else t) last
    else if segCond w = 0 ∨ edges.getLsbD (segSel w) = true then
      if segLast w < segFirst w ∨ (∃ l ∈ last, segFirst w ≤ l) then none
      else (go (if segNext w = 0 then i + 1 else segNext w) (some (segLast w))).map ((segFirst w, segLast w) :: ·)
    else go (i + 1) last

/-- The words of the master step timer's copy of the segment program and dispatch table. -/
def Module.segBits (m : Module) (q i : Nat) : Nat := (sget { bits := 0, par := 0 } m.seq.segs (256 * q + i)).bits
def Module.dispBits (m : Module) (q j : Nat) : Nat := (sget { bits := 0, par := 0 } m.seq.disp (260 * q + j)).bits

/-- Nothing stands in the way of the launch of the next folio: the release has come, no action is still being written, every
word that phases 6 and 7 read passes its check, the nine sequencers hold one program, and each of its possible walks is legal
(R97, R98, R123, R138, R196, R418). -/
def LaunchClear (a : Module) : Prop :=
  a.ctl.mode.running = true ∧ a.seq.phase = .launching ∧ a.localWrites = [] ∧ a.writing = false ∧ a.skewLeft = false ∧
  a.txn.inspWait = [] ∧ a.txn.pulsedNow = 0 ∧
  (∀ e ∈ a.data.im, imGood e.2 = true) ∧ (∀ e ∈ a.data.xbar, schedGood xbarLen e.2 = true) ∧
  (∀ e ∈ a.data.spine, schedGood spineLen e.2 = true) ∧ (∀ k, a.unitBad .linkEntry k = false) ∧
  (∀ k, a.unitBad .segWord k = false) ∧ (∀ k, a.unitBad .dispEntry k = false) ∧
  (∀ q i, q < 8 → i < 256 → a.segBits q i = a.segBits 8 i) ∧ (∀ q j, q < 8 → j < 260 → a.dispBits q j = a.dispBits 8 j) ∧
  (∀ k ∈ a.seq.dkey, k ≤ 0x40) ∧ (∀ t ∈ a.image.tips, t.1 < 0x40) ∧
  ∀ (edges : BitVec 64) (dkey : List Nat), (∀ k ∈ dkey, k ≤ 0x40) → walkRanges (a.segBits 8) (a.dispBits 8) edges dkey 256 0 none ≠ none

/-- R253: the bits of a trace packet. -/
def packetBits (src ty delta body : Nat) : BitVec 128 :=
  BitVec.ofNat 128 (src % 64 * 2 ^ 122 + ty * 2 ^ 119 + delta % 2 ^ 24 * 2 ^ 95 + body % 2 ^ 95)

/-- What a trace source `x` and the FIFO become when the source emits a packet of time t: behind a SYNC where one is due
(R255), behind GAP and SYNC where packets were lost (R257), dropped and counted without room. `limit` is the occupancy below
which the source's packets are admitted; the SYNC carries `addr` and `folio`. -/
def Emitted (src limit : Nat) (x : TraceSrc) (ty body addr folio t : Nat) (fifo : List (BitVec 128)) (y : TraceSrc)
    (fifo1 : List (BitVec 128)) : Prop :=
  let room (n : Nat) : Prop := fifo.length + n ≤ limit
  let due : Prop := x.needSync = true ∨ 256 ≤ x.sinceSync
  let sync (delta : Nat) : BitVec 128 := packetBits src 2 delta (addr * 2 ^ 71 + folio % 2 ^ 64)
  let gap : BitVec 128 := packetBits src 3 (t - x.last) (x.lost * 2 ^ 63)
  let synced : TraceSrc := { x with last := t, lost := 0, sinceSync := 0, needSync := false, lastFolio := folio }
  (x.lost = 0 → ¬ due → room 1 →
    fifo1 = fifo ++ [packetBits src ty (t - x.last) body] ∧ y = { x with last := t, sinceSync := x.sinceSync + 1 }) ∧
  (x.lost = 0 → due → room 2 → fifo1 = fifo ++ [sync (t - x.last), packetBits src ty 0 body] ∧ y = { synced with sinceSync := 1 }) ∧
  (x.lost = 0 → due → room 1 → ¬ room 2 → fifo1 = fifo ++ [sync (t - x.last)] ∧ y = { synced with lost := 1 }) ∧
  (0 < x.lost → room 3 → fifo1 = fifo ++ [gap, sync 0, packetBits src ty 0 body] ∧ y = { synced with sinceSync := 1 }) ∧
  (0 < x.lost → room 2 → ¬ room 3 → fifo1 = fifo ++ [gap, sync 0] ∧ y = { synced with lost := 1 }) ∧
  -- refused, with the SYNC that is due
  (x.lost = 0 → due → ¬ room 1 → fifo1 = fifo ∧ y = { x with lost := 2 }) ∧
  (x.lost = 0 ∧ ¬ due ∧ ¬ room 1 ∨ 0 < x.lost ∧ ¬ room 2 → fifo1 = fifo ∧ y = { x with lost := min (x.lost + 1) (2 ^ 32 - 1) })

/-- R257: the occupancy of the FIFO below which a packet of a source is admitted. -/
def Module.admits (m : Module) (src : Nat) : Nat :=
  if src = 0 then (if bitOf (m.reg rTraceCtrl) 2 then 1024 else 1008) else 512

/-- A stream has been rejected with a check code (R24, R183, R323). -/
def Rejected (code ty inst off : Nat) (m : Module) : Prop :=
  m.reg rLoadResult = loadResult code ty inst ∧ m.reg rLoadFailOffset = off ∧ m.ctl.mode = .load ∧ m.ctl.cause = 0x0101 ∧
  m.load.state = 0 ∧ m.load.pass = 0 ∧ m.load.blocks = [] ∧ m.sec.engineKey = none

/-- The dictionary serves a request that is not guaranteed and whose plane has its supply (R359). -/
def Served (m : Module) : Prop := m.ctl.mode ≠ .lockdown ∧ m.pins.suppliesGood = true

/-- What a release does to the mode of a module that stands at the stitch (R140, R142, R105, R74, R112, R113). -/
def ReleaseEffect (t : Token) (a m : Module) : Prop :=
  a.ctl.mode = .idle ∨ a.ctl.mode.running = true →
    (t.clkmis = true → m.ctl.mode = .frozen ∧ m.ctl.cause = 0x0902 ∧ m.ctl.resumable = false) ∧
    (t.clkmis = false → t.haltr = true → m.ctl.mode = .frozen ∧ m.ctl.resumable = true) ∧
    (t.clkmis = false → t.haltr = false → t.reqok = true →
      (t.target = 3 → a.ctl.mode.running = true → m.ctl.mode = .idle) ∧
      (t.target = 4 → a.ctl.mode = .idle → m.ctl.mode = .run) ∧
      (t.target = 5 → a.ctl.mode = .idle → m.ctl.mode = .step ∧ m.ctl.stepLeft = t.stepn) ∧
      (t.target = 6 → a.ctl.mode = .idle → t.masters = 1 → m.ctl.mode = .paced ∧ m.seq.grants = 0) ∧
      (t.target = 6 → t.masters ≠ 1 → a.inSystem = true → m.ctl = { a.ctl with target := 0, stepn := 0 })) ∧
    (t.clkmis = false → t.haltr = false → (t.reqok = false ∨ t.target = 0) → t.depart = true → a.ctl.mode.running = true →
      (a.ctl.mode = .paced → t.pacego = true) →
      (∀ i, i < 16 → ¬ ((a.slot i).state = 5 ∧ (a.slot i).scope = true ∧ t.txno.getLsbD i = true)) →
      m.ctl = a.ctl ∧ m.seq.phase = .launching)

/-- Only slot `i` of module `a` differs in `m`, and it holds `sl`. -/
def OneSlot (a m : Module) (i : Nat) (sl : Slot) : Prop :=
  m.slot i = sl ∧ (∀ j, j ≠ i → m.slot j = a.slot j) ∧ { m.txn with slots := a.txn.slots } = a.txn

/-- The inspection page has answered with a status and a value; nothing but its own registers differs. -/
def Responds (st v : Nat) (a m : Module) : Prop :=
  m.txn.inspStatus.toNat = st ∧ m.txn.inspValue = BitVec.ofNat 120 v ∧
  { m.txn with inspStatus := a.txn.inspStatus, inspValue := a.txn.inspValue, inspCmd := a.txn.inspCmd } = a.txn ∧
  KeptBut [.txn] a m

/-- The inspection page has carried out a write: the data is `d`, and nothing but the page's registers differs beside
it. -/
def Wrote (d : Data) (a m : Module) : Prop := m.data = d ∧ Responds 0 0 { a with data := d } m

/-- The inspection page serves a read at once (R209, R414). -/
def PageReads (m : Module) : Prop :=
  (m.ctl.mode = .idle ∨ m.ctl.mode = .frozen ∨ m.ctl.mode = .inspect) ∧ m.pins.gated = false ∧ m.txn.inspStatus ≠ 0xFF#8

/-- The inspection page carries out a write (R208, R332, R414). -/
def PageWrites (m : Module) : Prop :=
  m.ctl.mode = .inspect ∧ m.pins.gated = false ∧ m.start.wren = true ∧ m.txn.inspStatus ≠ 0xFF#8

/-- The context is on no ready list of a core. -/
def NotQueued (m : Module) (core n : Nat) : Prop := ∀ p, p < 32 → n ∉ sget [] m.couriers.ready (readyKey core p)

/-- A core that runs a context reaches the page of an enabled channel. -/
def PageOpen (m : Module) (core c : Nat) : Prop := (∃ n, m.coreCtx core = some n) ∧ cfgEn (m.chanCfg c) = true

/-- A packet reaches an endpoint of this module: no dead endpoint or router is on its way, and none that it has to follow is
still before it (R90, R163). -/
def Reaches (m : Module) (p : Packet) : Prop :=
  m.ctl.mode ≠ .lockdown ∧ m.pins.gated = false ∧ p.dst / 4096 = m.disc.modnum ∧ m.absorbs (m.startOf p) p = false ∧ m.behind p = false

/-- The engine's tree verifies every sector of a list (R345). -/
def TreeWhole (m : Module) (ss : List Nat) : Prop := (m.treeRead ss false).2.1 = true

/-- The engine's tree verifies every sector that a packet reads or writes (R345). -/
def TreeGood (m : Module) (p : Packet) : Prop := TreeWhole m (sectorsIn p.addr (spanOf p))

/-- The sectors that hold a stream. -/
def Module.streamSectors (m : Module) : List Nat := sectorsIn 0 (max 64 m.streamLen)

/-- A pass can read the staging area (R274, R341, R345). -/
def StageReads (m : Module) : Prop :=
  m.load.epochStage = false ∧ m.tagsOut m.epEngine = false ∧ TreeWhole m m.streamSectors

/-- What a good read of the staging area leaves: its requests are counted (R166, R278) and its paths cached (R345). -/
def Module.stageRead (m : Module) : Module := (m.readSectors .good m.streamSectors m.epEngine).2

/-- A priority frame comes in order on a bundle, and none is held out of order behind it (R293, R297). -/
def InOrder (m : Module) (b seq : Nat) : Prop := seq = (m.bundle b).rxPrio ∧ (m.bundle b).oooPrio = []

/-- A packet reaches an HBM controller with an address that this controller serves. -/
def ReachesHbm (m : Module) (p : Packet) : Prop :=
  Reaches m p ∧ isHbm p.dst = true ∧ m.hbmAddrOk p = true ∧ endpointExists (p.dst / 256 % 16) (p.dst % 256) = true

/-- The packet has left the network, and one packet has entered it: `q`, but for the source route of its NI. -/
def Answered (a m : Module) (p q : Packet) : Prop :=
  ∃ r, m.fabric.net = dropPacket p a.fabric.net ++ [r] ∧
    { op := r.op, pri := r.pri, sr := false, ackreq := r.ackreq, len := r.len, dst := r.dst, src := r.src, tag := r.tag, status := r.status, hops := 0, route := 0, xhops := r.xhops, addr := r.addr, idata := r.idata, data := r.data : Sys2Proof.Packet } = q

/-- HBM reads as before but for the bytes `bs` from address `a` on. -/
def HbmWritten (h h1 : Hbm) (a : Nat) (bs : List Byte) : Prop :=
  ∀ k, sget 0#8 h1.bytes k = if a ≤ k ∧ k < a + bs.length then bs.getD (k - a) 0#8 else sget 0#8 h.bytes k

/-- A READ of MODE_STATUS at OPER privilege as a frame (R360, R31). -/
def statusFrame (seq nonce : Nat) : List Byte :=
  leBytes 32 (2 ^ 248 + 2 ^ 240 + 0x2000 * 2 ^ 216 + 2 ^ 208 + seq * 2 ^ 144 + nonce * 2 ^ 80)

/-- Its response, with the four bytes of the value. -/
def statusAnswer (seq nonce value : Nat) : List Byte :=
  leBytes 32 (2 ^ 248 + 0x81 * 2 ^ 240 + 0x2000 * 2 ^ 216 + 2 ^ 208 + 4 * 2 ^ 176 + seq * 2 ^ 144 + nonce * 2 ^ 80) ++ leBytes 4 value

/-- A control block that shows nothing missing and acknowledges and credits nothing new at a bundle. -/
def QuietBlock (x : Bundle) (cb : CtlBlock) : Prop :=
  128 ≤ seqDist x.rxStatic cb.lsStatic ∧ 128 ≤ seqDist x.rxPkt cb.lsPkt ∧ 128 ≤ seqDist x.rxPrio cb.lsPrio

/-- The bits of a static frame's payload, lowest first. -/
def payloadBits (p : BitVec 464) : List Bool := (List.range 464).map (fun i => p.getLsbD i)

/-- A write of a record can begin at once, in sector k (R350, R351): the store is mounted, no write waits or runs. -/
def StoreReady (m : Module) (k : Nat) : Prop :=
  2 ≤ m.store.state ∧ m.store.queue = [] ∧ (∀ j ∈ m.store.journal, (m.store.sector j).st ≠ secWriting) ∧ m.store.pick = some k

/-- The write of a record has begun in sector k (R350, R353). -/
def WriteBegun (m : Module) (k record : Nat) (body : List Byte) : Prop :=
  (m.store.sector k).st = secWriting ∧ (m.store.sector k).record = record ∧ (m.store.sector k).len = body.length ∧
  (m.store.sector k).bcrc = crc32c body ∧ k ∈ m.store.journal ∧ m.store.queue = []

end Sys2Proof.Machine
end

