-- ==== Sys2Proof/WellFormed.lean ====
section
/-! DEFINITION. WellFormed.lean: which operands of a command the module of the manual can meet: numbers of units that exist
and values that fit their field. The machine itself gives every command a meaning, well formed or not. -/

namespace Sys2Proof

/-- R264: every field of the header fits, and the data flits are those that LEN counts (an RD carries none). -/
def Packet.wf (p : Packet) : Bool :=
  p.op < 16 && p.pri < 4 && p.len ≤ 8 && p.dst < 2 ^ 20 && p.src < 2 ^ 20 && p.tag < 2 ^ 12 && p.status < 16
    && p.hops ≤ 12 && p.route < 2 ^ 24 && p.xhops < 16 && p.addr < 2 ^ 64
    && p.data.length == (if p.op = 0 then 0 else p.len)

/-- R141: every field of the token fits; KIND 5-7 and MASTERS 3 are reserved. -/
def Token.wf (t : Token) : Bool :=
  t.folio < 2 ^ 64 && t.kind < 5 && t.masters < 3 && t.target < 16 && t.stepn < 2 ^ 24 && t.lapns < 2 ^ 16
    && t.frzorg < 2 ^ 8

/-- R292: every field of the control block fits. -/
def CtlBlock.wf (c : CtlBlock) : Bool :=
  c.op < 6 && c.nclass < 4 && c.nseq < 256 && c.nlane < 8 && c.lsStatic < 256 && c.lsPrio < 256 && c.lsPkt < 256
    && c.ackPkt < 256 && c.crReq < 256 && c.crRsp < 256 && c.crMsg < 256 && c.skewcr < 65536 && c.vc < 4

/-- R272: every field of the control word fits; four flit slots. -/
def DieFrame.wf (f : DieFrame) : Bool :=
  f.seq < 256 && f.ack < 256 && f.crReq < 256 && f.crRsp < 256 && f.crMsg < 256 && f.vcmap.all (· < 4)
    && f.vcmap.length ≤ 4 && f.flits.length ≤ 4

/-- R360: the fields of an IPv4 packet fit. -/
def Fragment.wf (f : Fragment) : Bool :=
  f.src < 2 ^ 32 && f.dst < 2 ^ 32 && f.ident < 2 ^ 16 && f.offset < 2 ^ 16 && f.bytes.length ≤ 65515

/-- R286: a bundle of the module, and a lane of it. -/
def bundleOk (b : Nat) : Bool := b < 20
def laneOk (b l : Nat) : Bool := b < 20 && l < 8

/-- R214, R219, R216: a core, a channel, a context. -/
def coreOk (c : Nat) : Bool := c < 32
def chanOk (c : Nat) : Bool := c < 256
def ctxOk (c : Nat) : Bool := c < 1024

/-- R262, R421: a router, as the log names it: an 18-bit number. -/
def routerOk (r : Nat) : Bool := r < 2 ^ 18

/-- R188: a transaction slot. -/
def slotOk (k : Nat) : Bool := k < 16

/-- R270: a module number. -/
def moduleOk (n : Nat) : Bool := n < 256

/-- R262: a die code. -/
def dieOk (d : Nat) : Bool := d < 11

/-- The command is one that the module can meet. -/
def Instr.wf : Instr → Bool
  | .powerOn | .porstN | .warmrstN | .vstbyLoss | .hpPerstN | .entropyFillDone | .pllLock
  | .epochChangeDone _ | .loadGoVerify | .loadGoAbandon | .stageDiscard | .completenessCheckDone _ | .crcCheckDone _
  | .decryptionDone _ | .imageChecksDone _ | .programmingDone _ | .stageDigestCheckDone _ | .discoveryFail | .startupLock
  | .pllUnlock | .modreadyNetHigh | .doneTimeout => true
  | .supplyFail rail => rail < 12
  | .storeMounted fails => fails.all (· < 4096)
  | .bistComplete dies => dies.length == 8
  | .loadData block => block.length ≤ 32768
  | .trainingPhaseDone lane _ => lane < 160
  | .trainingLimitExpiry lane => lane < 160
  | .ringDisc seq ring count => seq < 256 && ring < 16 && count < 16
  | .headDisc seq ring => seq < 256 && ring < 16
  | .ident bundle seq sender _ mods imgnum => bundleOk bundle && seq < 256 && moduleOk sender && mods ≤ 256 && moduleOk imgnum
  | .adj bundle seq module nbr => bundleOk bundle && seq < 256 && moduleOk module && nbr.length == 20
  | .echoReplyDue bundle => bundleOk bundle
  | .echoReq bundle seq | .echoRsp bundle seq _ => bundleOk bundle && seq < 256
  | .modeReqWarmStart _ _ | .modeReqStopResume _ _ | .modeReqRun _ _ | .modeReqStep _ _ | .modeReqPaced _ _
  | .modeReqFreeze _ _ | .modeReqInspect _ _ | .modeReqLinksvc _ _ | .modeReqSelftest _ _
  | .modeReqLockdown _ _ => true
  | .modeReqReserved _ target _ => target == 1 || target == 2 || (12 ≤ target && target ≤ 15)
  | .serviceComplete failedBps => failedBps.all (· < 262144)
  | .stepIssue _ badChannels | .drainComplete badChannels => badChannels.all (fun c => bundleOk c.1)
  | .repairComplete _ _ _ | .stallRelease | .walkerRead _ _ _ => true
  | .memTimeout _ seqNo => seqNo < 4096
  | .starveTimeout bundle => bundleOk bundle
  | .stuckInput _ => true
  | .ringGather seq t => seq < 256 && t.wf && t.kind == 0
  | .headGather seq t => seq < 256 && t.wf && t.kind == 1
  | .headRelease seq t => seq < 256 && t.wf && t.kind == 2
  | .ringRelease seq t => seq < 256 && t.wf && t.kind == 3
  | .freezeFlood bundle seq t => bundleOk bundle && seq < 256 && t.wf && t.kind == 4
  | .stepComplete | .launch _ | .effWindow | .partition | .cadInEdge | .ptpCadenceEvent | .trigClear => true
  | .trigInEdge pin _ => pin < 8
  | .capGoStart | .capGoStop | .capWindowClosed | .capRearmDone | .maskCtrlWrite _ | .traceGoStart | .traceGoStop
  | .traceGoSync | .traceStopped => true
  | .traceBranchTimeout core => coreOk core
  | .traceDeltaLimit src | .traceGap src => src < 64
  | .classBTrace core pc ev =>
    coreOk core && pc < 2 ^ 18 && (match ev with | .branch _ => true | .transfer xfer addr => xfer < 4 && addr < 2 ^ 18)
  | .txnOpen slot _ | .txnCancel slot | .txnClose slot | .txnValidated slot => slotOk slot
  | .txnSubmit slot whenMode count => slotOk slot && whenMode < 4 && count < 8192
  | .tipPreload key _ => key < 128
  | .tipPreloadImage quarter _ => quarter < 4
  | .tipPreloadDone _ => true
  | .inspReadDm _ _ _ | .inspWriteDm _ _ _ | .inspReadIm _ _ _ | .inspReadShadow _ _ _ | .inspReadDmb _ _ _
  | .inspWriteDmb _ _ _ | .inspParityTest _ _ _ | .inspReadSchedule _ _ _ | .inspForceDm _ _ _
  | .inspForcePoint _ _ _ | .inspReleaseDm _ _ _ | .inspReleasePoint _ _ _ | .inspReadBpControls _ _ _
  | .inspWriteHaltEnable _ _ _ | .inspReadQueue _ _ _ | .inspReadIoCell _ _ _ _ => true
  | .inspOpReserved op => op == 0 || 0x10#8 < op
  | .schWait core _ _ | .schSetup core _ _ | .schExit core | .schFail core => coreOk core
  | .schSignal core ctx => coreOk core && ctxOk ctx
  | .schPulse core gen => coreOk core && gen < 64
  | .schPtpWaitExpiry => true
  | .take core chan | .chanPop core chan | .c2hAlloc core chan | .chanErrRead core chan => coreOk core && chanOk chan
  | .chanDone core chan _ buffer => coreOk core && chanOk chan && buffer.length ≤ 32
  | .c2hPost core chan slot image => coreOk core && chanOk chan && slot < 64 && image.length == 256
  | .h2cPush chan | .c2hCons chan _ | .retire chan | .deadlineMiss chan | .replyTimeout chan => chanOk chan
  | .courierTrap core _ _ => coreOk core
  | .packetRd p parityBad _ => p.wf && p.op == 0 && parityBad.all routerOk
  | .packetWr p parityBad _ _ => p.wf && p.op == 1 && parityBad.all routerOk
  | .packetPwr p parityBad _ _ => p.wf && p.op == 2 && parityBad.all routerOk
  | .packetMsg p parityBad => p.wf && p.op == 3 && parityBad.all routerOk
  | .packetCpl p parityBad => p.wf && p.op == 8 && parityBad.all routerOk
  | .packetAck p parityBad => p.wf && p.op == 9 && parityBad.all routerOk
  | .errnote p parityBad => p.wf && p.op == 10 && parityBad.all routerOk
  | .badOp p parityBad => p.wf && ((4 ≤ p.op && p.op ≤ 7) || 11 ≤ p.op) && parityBad.all routerOk
  | .npTimeout tag | .tagQuarantineEnd tag | .hostReadTimeout tag => tag < 4096
  | .requestAgeLimit _ => true
  | .dlinkDataFrame _ dir f | .dlinkIdleFrame _ dir f | .dlinkNak _ dir f => dir < 2 && f.wf
  | .dlinkReplayTimeout _ dir => dir < 2
  | .hostRead bar _ _ => bar == 0 || bar == 2 || bar == 4
  | .hostWrite bar _ bytes => (bar == 0 || bar == 2 || bar == 4) && bytes.length ≤ 512
  | .mbDoorbell | .mbResponseRead _ _ => true
  | .mgtDictFrame port f => port < 2 && f.wf
  | .mgtFrameForward port _ _ | .mgtLinkChange port _ => port < 2
  | .initSel ep => ep < 2 ^ 20
  | .statsClearOne | .statsClearAll => true
  | .laneIdle bundle lane cb => laneOk bundle lane && cb.wf && cb.op == 0
  | .laneNak bundle cb => bundleOk bundle && cb.wf && cb.op == 1
  | .nakRepeat bundle cls => bundleOk bundle && 1 ≤ cls && cls ≤ 3
  | .quietReq bundle cb => bundleOk bundle && cb.wf && cb.op == 2
  | .quietAck bundle cb => bundleOk bundle && cb.wf && cb.op == 3
  | .quietRefuse bundle cb => bundleOk bundle && cb.wf && cb.op == 4
  | .laneDrop bundle lane cb => laneOk bundle lane && cb.wf && cb.op == 5
  | .lanePacketResendTimeout bundle
  | .quietIdleExpiry bundle | .quietExit bundle | .trainingBurst bundle | .offEntry bundle => bundleOk bundle
  | .laneFrameBad bundle lane cls => laneOk bundle lane && cls < 4
  | .laneFailed bundle lane | .laneCtlRetrain bundle lane
  | .laneCtlClr bundle lane | .prbsLock bundle lane | .prbsLockLoss bundle lane => laneOk bundle lane
  | .staticFrame bundle seq _ | .staticLast bundle seq _ => bundleOk bundle && seq < 256
  | .lanePacket bundle seq _ cb => bundleOk bundle && seq < 256 && cb.wf && cb.op == 0 && 1 ≤ cb.vc
  | .linksvcCmdRetrain | .linksvcCmdRecalibrate | .linksvcCmdRediscover => true
  | .scrubGoStart | .scrubGoAbort | .scrubDone _ | .storeReadData | .keyInstall _ | .keyRemove _ | .zeroise _ | .random
  | .memPolicyWrite _ | .adminKey _ | .trngFail | .drbgReseed | .settingsSave _ | .logFlush _ | .logFlushAuto => true
  | .storeWriteDone sector _ | .storeClearDone sector _ => sector < 4096
  | .ptpSync port domain _ _ _ _ | .ptpFollowUp port domain _ _ | .ptpDelayResp port domain _ _ _ =>
    port < 2 && domain < 256
  | .ptpHoldover domain => domain < 2
  | .timeActiveWrite _ | .secondPulse | .collStoreHourly | .porstNHigh | .dictRetryTimeout | .logEntryMove
  | .slewingDone => true
  | .collatorUnit act unit _ =>
    (match act with | .spares => unit < 2 ^ 18 | .imSched => unit < 2 ^ 30 | .dmbs => unit < 2 ^ 22 | .lanes => unit < 20)
  | .chanImbalance die => die == 1 || die == 6
  | .thermalReading die _ => dieOk die
  | .vioChange bank _ | .bankPowered bank => bank < 12
  | .dclkWrite gen _ _ => gen < 64
  | .deadMarkSet die router target | .deadMarkClear die router target =>
    dieOk die && target < 256 && (!router || target < 64)
  | .srcRouteWrite die ni entry _ => dieOk die && ni < 256 && entry < 16
  | .registerWrite _ index sub _ => index < 65536 && sub < 256

end Sys2Proof
end

