-- ==== Sys2Proof/Certificates/Slice0/Obligations.lean ====
section
/-! DEFINITION. Certificates/Slice0/Obligations.lean: the statements about the block. `Completes c s P` (Safety.lean)
says that the command c answers a next state from s, and that the module of that state has P; every clause that
describes an effect is of that form. -/

open Sys2Proof Sys2Proof.Machine

/-- After the table of commands: a step of the block is exec of the command at the front of its queue. The second
half, the idle cycle on an empty queue, is the model's DESIGN CHOICE (log entry 2). -/
def Obligations.StepRunsTheFrontCommand : Prop :=
  (∀ (s : State) (c : Instr) (rest : List Instr), s.pending = c :: rest → step s = exec c { s with pending := rest }) ∧
  ∀ s : State, s.pending = [] → ∃ t, step s = .next t ∧ t.pending = [] ∧
    (s.mod.scrub.running = false → s.mod.disc.waiting = [] → t.mod.ctl.mode = s.mod.ctl.mode ∧
      (s.mod.ctl.mode.running = false →
        t.mod.stew.up = s.mod.stew.up + 1 ∧ t.mod.stew.now = (s.mod.stew.pass 1).now ∧ t.mod.seq.cycle = s.mod.seq.cycle + 1))

/-- The reset values that R31, R36, R75, R116, R188, R209, R319, R342, R362, R379, R390 and R414 give. That no start
is under way at State.reset is the model's choice (log entry 10): the supplies have not come yet. -/
def Obligations.ResetState : Prop :=
  let m := State.reset.mod
  State.reset.pending = [] ∧ m.ctl.mode = .reset ∧ m.ctl.cold = true ∧ m.ctl.cause = 0 ∧ m.ctl.prev = .reset ∧ m.ctl.resumable = false ∧
  (∀ a, sget 0#8 m.hbm.bytes a = 0) ∧ (∀ a, sget 0 m.hbm.ctr a = 0) ∧ (∀ i, i < 16 → (m.slot i).state = 0) ∧
  (∀ q, sget 0x4688#16 m.data.bankmap q = 0x4688#16) ∧ (∀ bp, sget true m.data.haltEn bp = true) ∧
  m.reg rPaceCfg = regDefault rPaceCfg ∧ m.reg rThermWarn = 100 ∧ m.reg rWinSlot = 0xFF ∧ m.stew.ring = [] ∧ m.stew.logQ = [] ∧
  (∀ c, m.chan c = Channel.init) ∧ m.load.staged = false ∧ m.sec.adminKey = none ∧ m.start.running = false

/-- The invariant that StepKeepsTheInvariant carries holds at the start. Which properties it joins is the model's
selection (log entry 162). -/
def Obligations.ResetKeepsTheInvariant : Prop :=
  State.reset.mod.Inv

/-- R31 (RESUMABLE), R113 (GRANTS), R188 (16 slots), R379 (ring of 4,096, queues of 16), R252, R260 (the sources of
trace) and the canonical forms of HBM and of the tables, over every command from every state that meets them. Which
properties are joined is the model's selection (log entry 162). -/
def Obligations.StepKeepsTheInvariant : Prop :=
  ∀ s t : State, s.mod.Inv → step s = .next t → t.mod.Inv

/-- Every condition that the manual calls a fault is a mode change of the module (R24, R28); the one refusal is that
of the entries that the manual does not describe (R394; log entry 18). -/
def Obligations.CommandsNeverFault : Prop :=
  ∀ (c : Instr) (s : State),
    (∃ m, exec c s = .next (s.withMod m)) ∨
    ∃ index sub, exec c s = .refused (.vendorEntry index sub) ∧ 0x7F00 ≤ index ∧ index ≤ 0x7FFF ∧ s.mod.ctl.mode ≠ .lockdown

/-- The frame of every command over the parts of the module, from the rules that give each command its effect. The
commands' own statements say what becomes of the parts that may change. -/
def Obligations.CommandFrames : Prop :=
  ∀ (c : Instr) (s t : State), exec c s = .next t → KeptBut (mayChange c) s.mod t.mod

/-- R27, whole: the mode, the log entry and RESUMABLE. When the log is open is DEDUCED (log entry 20); the SEQ of an
entry is not part of the statement, since it takes it when it moves into the ring (log entry 19). -/
def Obligations.FaultInAStoppedMode : Prop :=
  ∀ (m : Module) (code source : Nat) (items : List (Nat × Nat)),
    m.ctl.mode = .frozen ∨ m.ctl.mode = .inspect ∨ m.ctl.mode = .lockdown →
      (m.faultWith code source items).ctl.mode = m.ctl.mode ∧
      (m.faultWith code source items).stew = (m.log code source items).stew ∧
      (m.logOpen = true → (sget [] m.stew.logQ source).length < 16 →
        ∃ e, sget [] (m.faultWith code source items).stew.logQ source = sget [] m.stew.logQ source ++ [e] ∧
          e.code = BitVec.ofNat 16 code ∧ e.source = source ∧ e.folio = m.seq.folio) ∧
      (m.ctl.mode = .frozen ∨ m.ctl.mode = .inspect → (m.faultWith code source items).ctl.resumable = false)

/-- R47, whole. -/
def Obligations.ImParity : Prop :=
  ∀ w : BitVec 96,
    (∀ k, k < 12 → (byteParity 12 w.toNat).testBit k = ((List.range 8).foldl (fun a i => a ^^ w.getLsbD (8 * k + i)) false)) ∧
    ∀ flips : BitVec 96,
      imGood { word := w ^^^ flips, par := BitVec.ofNat 12 (byteParity 12 w.toNat) } =
        (List.range 12).all (fun k => !((List.range 8).foldl (fun a i => a ^^ flips.getLsbD (8 * k + i)) false))

/-- R24, R31, R117, R118, R353, R403, R404, R405. That the store shows state 1 (mounting) and that these commands
name the moments are readings of the model (log entries 1, 10). -/
def Obligations.PowerCommands : Prop :=
  ∀ s : State,
    Completes .powerOn s (fun m =>
      m.ctl.mode = .reset ∧ m.ctl.cold = true ∧ m.pins.suppliesGood = true ∧ m.pins.lowRails = [] ∧
      m.pins.porstHigh = s.mod.pins.porstHigh ∧
      (s.mod.pins.porstHigh = true → ColdBegun m) ∧
      (s.mod.pins.porstHigh = false → m.start.running = false)) ∧
    Completes .porstN s (fun m =>
      m.ctl.mode = .reset ∧ m.ctl.cold = true ∧ m.ctl.prev = s.mod.ctl.mode ∧ m.pins.porstHigh = false ∧
      m.start.running = false ∧ m.store.journal = [] ∧
      -- what the store was not writing or clearing stands
      (∀ k, k ∉ s.mod.store.journal → m.store.sector k = s.mod.store.sector k)) ∧
    Completes .porstNHigh s (fun m =>
      m.pins.porstHigh = true ∧
      (if s.mod.pins.suppliesGood = true ∧ s.mod.ctl.mode = .reset ∧ s.mod.ctl.cold = true ∧ s.mod.start.running = false
       then ColdBegun m else m = { s.mod with pins := { s.mod.pins with porstHigh := true } })) ∧
    ∀ rail, rail ≤ 11 → Completes (.supplyFail rail) s (fun m =>
      m.ctl.mode = .reset ∧ m.ctl.cold = true ∧ m.ctl.prev = s.mod.ctl.mode ∧ m.ctl.cause = 0x0703#16 ∧ m.pins.suppliesGood = false ∧
      rail ∈ m.pins.lowRails ∧ (∀ r ∈ s.mod.pins.lowRails, r ∈ m.pins.lowRails) ∧ m.start.running = false)

/-- R24, R25, R28, R29, R117, R118, R212, R404, R414. The cases in which WARMRST_N has no effect rest on log entry 38
(DEDUCED); TARGET 3 in a service on log entry 39 (DEDUCED). -/
def Obligations.WarmStartCommands : Prop :=
  ∀ s : State,
    let service := s.mod.ctl.mode = .linksvc ∨ s.mod.ctl.mode = .selftest
    (StartClear s.mod →
      (WarmPinActs s.mod → s.mod.ctl.mode ≠ .load → Completes .warmrstN s (WarmBegun s.mod) ∧
        ∀ priv, priv ≠ .oper → Completes (.modeReqWarmStart priv 0) s (WarmBegun s.mod)) ∧
      (service → (∀ priv, Completes (.modeReqStopResume priv 0) s (WarmBegun s.mod)) ∧
        ∀ bps, Completes (.serviceComplete bps) s (WarmBegun s.mod))) ∧
    -- a failed check of what a start still writes to HBM outranks it
    (let begun (m : Module) : Prop := WarmBegun s.mod m ∨ m.ctl.mode = .lockdown
     (WarmPinActs s.mod → s.mod.ctl.mode ≠ .load → Completes .warmrstN s begun ∧
        ∀ priv, priv ≠ .oper → Completes (.modeReqWarmStart priv 0) s begun) ∧
      (service → (∀ priv, Completes (.modeReqStopResume priv 0) s begun) ∧ ∀ bps, Completes (.serviceComplete bps) s begun)) ∧
    (¬ WarmPinActs s.mod → Completes .warmrstN s (fun m => m = s.mod) ∧
      ∀ priv, priv ≠ .oper → Completes (.modeReqWarmStart priv 0) s (fun m => m = s.mod.answer stModeRefused))

/-- R117, R59, R280, R328, R339, R341, R350, R352, R358, R398, R404. What VSTBY_LOSS loses is DEDUCED (log entry 37);
which clears of the mount fail is open (log entry 199); the wait of a header for entropy is log entry 45. That an
event with no work of its kind under way changes nothing is a DESIGN CHOICE (log entry 3). -/
def Obligations.StartEventCommands : Prop :=
  ∀ s : State,
    Completes .vstbyLoss s (fun m =>
      m.ctl = { ModeCtl.init with prev := s.mod.ctl.mode } ∧ m.pins.suppliesGood = false ∧ m.pins.modreadyLow = true ∧
      m.start.running = false ∧ m.store.state = 0 ∧ m.store.journal = [] ∧ m.store.queue = [] ∧
      (∀ k, k ∉ s.mod.store.journal → m.store.sector k = s.mod.store.sector k) ∧
      m.sec = { Security.init with freeCtr := m.sec.freeCtr } ∧ m.load = Load.init ∧
      m.stew = { Steward.init with chunk := s.mod.stew.chunk }) ∧
    Completes .hpPerstN s (fun m =>
      (∀ t ∈ m.fabric.tags, t.use ≠ 1) ∧ m.fabric.hostReads = [] ∧ m.fabric.tags.length = s.mod.fabric.tags.length ∧ m.fabric.net = s.mod.fabric.net ∧
      m.stew = (s.mod.log 0x0230 dieH [(4, 3)]).stew) ∧
    -- STORE_MOUNTED: what the mount does with every sector that has been written
    (s.mod.start.running = true → s.mod.start.storeMounted = false → s.mod.store.queue = [] →
      Rising s.mod.store.sectors → ∀ fails : List Nat,
      let old := s.mod.store.sectors
      let whole (x : Sector) : Prop := x.readable = true ∧ x.st = secValid ∧ crc32c (x.bodyBytes 0 x.len) = x.bcrc
      let older (k : Nat) (x : Sector) : Prop := ∃ e ∈ old, e.1 ≠ k ∧ whole e.2 ∧ e.2.record = x.record ∧
        (seqNewer e.2.seq x.seq = true ∨ e.2.seq = x.seq ∧ e.1 < k)
      let cleared (k : Nat) (x y : Sector) : Prop := y.readable = true ∧ y.wear = x.wear + 1 ∧
        (k ∈ fails → y.st = secRetired) ∧ (k ∉ fails → y.st = (if x.wear + 1 < wearLimit then secErased else secRetired) ∧ y.body = [])
      Completes (.storeMounted fails) s (fun m => m.start.storeMounted = true ∧ 2 ≤ m.store.state ∧ m.store.journal = [] ∧
        ∀ e ∈ old,
          (whole e.2 → ¬ older e.1 e.2 → m.store.sector e.1 = e.2) ∧
          (whole e.2 → older e.1 e.2 → cleared e.1 e.2 (m.store.sector e.1)) ∧
          (e.2.readable = true → e.2.st = secErased ∨ e.2.st = secRetired → m.store.sector e.1 = e.2) ∧
          (e.2.readable = true → e.2.st = secClearing ∨ e.2.st = secWriting ∨
              e.2.st = secValid ∧ crc32c (e.2.bodyBytes 0 e.2.len) ≠ e.2.bcrc → cleared e.1 e.2 (m.store.sector e.1)) ∧
          -- an unreadable header: its WEAR becomes the greatest of the store
          (e.2.readable = false → ∃ w, (∀ x ∈ old, x.2.readable = true → x.2.wear ≤ w) ∧
            (w = 0 ∨ ∃ x ∈ old, x.2.readable = true ∧ x.2.wear = w) ∧
            (e.2.body ≠ [] → cleared e.1 { e.2 with wear := w } (m.store.sector e.1)) ∧
            (e.2.body = [] → (m.store.sector e.1).readable = true ∧ (m.store.sector e.1).st = secErased ∧
              (m.store.sector e.1).wear = w)))) ∧
    (s.mod.start.running = true → s.mod.ctl.cold = true → s.mod.start.storeMounted = true → s.mod.start.bistDone = false →
      ∀ dies : List BistDie, dies.length = 8 →
      Completes (.bistComplete dies) s (fun m =>
        m.start.bistDone = true ∧ m.start.remapLoaded = true ∧ m.start.remapInForce = s.mod.store.remap ∧ m.start.bistRun = true ∧
        (∀ k, k < 8 → m.start.bistPass.getLsbD k = !((dies[k]?.map BistDie.outsideSpares).getD false)) ∧
        m.start.bistFails = dies.map (fun d => min d.fails (2 ^ 32 - 1)))) ∧
    (s.mod.sec.trngReady = false → s.mod.stew.waitingReq = none ∨ s.mod.stew.reqQ = [] → Completes .entropyFillDone s (fun m =>
      m.sec.trngReady = true ∧ m.load.waitEntropy = none ∧
      (s.mod.load.waitEntropy = none → m.load = s.mod.load ∧
        -- the epoch changes that have waited for randomness draw their secrets
        (s.mod.load.epochStage = true → m.sec.newStage ≠ none) ∧ (s.mod.load.epochDesign = true → m.sec.newDesign ≠ none) ∧
        (s.mod.load.epochStage = false → s.mod.load.epochDesign = false → m.sec.drbgCount = 0)))) ∧
    (s.mod.sec.trngReady = true → s.mod.stew.waitingReq = none → Completes .entropyFillDone s (fun m => m = s.mod)) ∧
    (s.mod.ctl.mode = .reset → s.mod.start.running = true → s.mod.start.storeMounted = true → s.mod.start.bistDone = true →
      s.mod.start.remapLoaded = true →
      Completes .pllLock s (fun m =>
        m.ctl.mode = .load ∧ m.ctl.prev = .reset ∧ m.load.state = 0 ∧ m.start.pllLocked = true ∧ m.reg rReload = 0 ∧
        (s.mod.ctl.cold = false → s.mod.reg rReload = 0 → m.load.comparing = s.mod.load.staged) ∧
        (s.mod.ctl.cold = false → s.mod.reg rReload ≠ 0 → m.load.staged = false ∧ m.load.comparing = false))) ∧
    -- the secret that was drawn as the change began is in force; the blocks that waited are written
    (∀ k, s.mod.sec.newStage = some k → Completes (.epochChangeDone false) s (fun m =>
      m.load = { s.mod.load with epochStage := false, held := [] } ∧ m.sec = { s.mod.sec with stageSecret := some k, newStage := none } ∧
      (s.mod.load.held = [] → m.hbm = s.mod.hbm) ∧
      (∀ off bs, s.mod.load.held = [(off, bs)] → ∀ a, sget 0#8 m.hbm.bytes a =
        if off ≤ a ∧ a < off + bs.length then bs.getD (a - off) 0 else sget 0#8 s.mod.hbm.bytes a))) ∧
    (∀ k, s.mod.sec.newDesign = some k → Completes (.epochChangeDone true) s (fun m =>
      m.load = { s.mod.load with epochDesign := false } ∧ m.sec = { s.mod.sec with designSecret := some k, newDesign := none } ∧
      m.hbm = s.mod.hbm)) ∧
    (s.mod.sec.newStage = none → Completes (.epochChangeDone false) s (fun m => m = s.mod)) ∧
    (s.mod.sec.newDesign = none → Completes (.epochChangeDone true) s (fun m => m = s.mod))

/-- R312, R314, R319, R320, R322, R327, R339, R341, R342. That the requests suffice in privilege is DEDUCED (log
entry 7); where the blocks wait is log entry 45. -/
def Obligations.StreamCommands : Prop :=
  ∀ s : State, Served s.mod →
    (∀ block : List Byte, s.mod.ctl.mode = .load → s.mod.load.waitEntropy = none → s.mod.load.state = 1 →
      s.mod.reg rLoadOffset % 32768 = 0 → block.length = 32768 → s.mod.reg rLoadOffset + 32768 ≤ s.mod.streamLen →
      let off := s.mod.reg rLoadOffset
      let taken (m : Module) : Prop := m.reg rLoadOffset = off + 32768 ∧ sget 0 m.load.blocks (off / 32768) = 32768 ∧ m.stew.lastStatus = 0
      -- the bytes wait while the epoch of STAGE changes
      (s.mod.load.epochStage = true → Completes (.loadData block) s (fun m => taken m ∧ m.hbm = s.mod.hbm ∧
        m.load.held = s.mod.load.held ++ [(off, block)])) ∧
      -- sectors not written before in this epoch
      (s.mod.load.epochStage = false → (∀ k, off / 64 ≤ k → k < off / 64 + 512 → sget 0 s.mod.hbm.ctr k = 0) →
        TreeWhole s.mod (sectorsIn off 32768) → Completes (.loadData block) s (fun m => taken m ∧
          ∀ a, sget 0#8 m.hbm.bytes a = if off ≤ a ∧ a < off + 32768 then block.getD (a - off) 0 else sget 0#8 s.mod.hbm.bytes a))) ∧
    (∀ (block : List Byte) (code : Nat), s.mod.ctl.mode = .load → s.mod.load.waitEntropy = none → s.mod.load.state = 0 →
      s.mod.reg rLoadOffset = 0 → block.length = 32768 → s.mod.headerCheck (leNat (block.take 128)) = some code →
      Completes (.loadData block) s (fun m =>
        m.reg rLoadResult = loadResult code 0 0 ∧ m.ctl.mode = .load ∧ m.ctl.cause = 0x0101 ∧ m.load.state = 0 ∧ m.hbm = s.mod.hbm)) ∧
    (∀ block : List Byte, s.mod.ctl.mode = .load → s.mod.load.waitEntropy = none → s.mod.load.state = 0 →
      s.mod.reg rLoadOffset = 0 → block.length = 32768 → s.mod.headerCheck (leNat (block.take 128)) = none →
      32768 ≤ hdrStreamLen (leNat (block.take 128)) → s.mod.sec.trngReady = true →
      Completes (.loadData block) s (fun m =>
        m.load.state = 1 ∧ m.load.staged = false ∧ m.load.epochStage = true ∧ m.reg rLoadOffset = 32768 ∧
        m.load.header = BitVec.ofNat 1024 (leNat (block.take 128)) ∧ m.load.held = [(0, block)] ∧
        m.sec.stageSecret = none ∧ m.sec.newStage ≠ none ∧ m.stew.lastStatus = 0 ∧
        (∀ a, sget 0#8 m.hbm.bytes a = if a < stageTop then 0 else sget 0#8 s.mod.hbm.bytes a))) ∧
    (∀ block : List Byte, s.mod.ctl.mode ≠ .load →
      Completes (.loadData block) s (fun m => m = s.mod.answer stRefused)) ∧
    (s.mod.ctl.mode = .load → s.mod.load.state = 1 →
      Completes .loadGoVerify s (fun m => m.load = { s.mod.load with state := 2, pass := 1 } ∧ m.stew.lastStatus = 0)) ∧
    (s.mod.ctl.mode = .load → s.mod.load.state ≤ 1 →
      Completes .loadGoAbandon s (fun m => m.load = { s.mod.load with state := 0, blocks := [], waitEntropy := none, held := [] } ∧ m.stew.lastStatus = 0)) ∧
    ((∀ st ∈ s.mod.seq.stalls, ∀ u a k, st.cause ≠ .repair u a k) →
      Completes .stageDiscard s (fun m =>
        m.load = { s.mod.load with staged := false, digest := 0, stewardDigest := 0, discardWait := false, comparing := false } ∧
        m.stew.lastStatus = 0)) ∧
    ((∃ st ∈ s.mod.seq.stalls, ∃ u a k, st.cause = .repair u a k) →
      Completes .stageDiscard s (fun m => m.load = { s.mod.load with discardWait := true } ∧ m.stew.lastStatus = 0))

/-- R12, R183, R316, R317, R318, R322, R323, R324, R325, R328, R336. PROGRAMMING_DONE after the epoch change is
DEDUCED (log entry 44), as are the check codes of the reserved field and of a plain TAG (log entry 172), the byte
order of the TAG (log entry 49) and the event of a failed read in pass 5 (log entry 173). -/
def Obligations.PassCommands : Prop :=
  ∀ s : State,
    -- the module after a good read of the staging area
    let a := s.mod.stageRead
    -- pass 1: every block has come, the table is sound, the colophon is there
    (s.mod.load.pass = 1 → StageReads s.mod →
      if s.mod.complete = false then Completes (.completenessCheckDone .good) s (Rejected 0x1A08 0 0 0)
      else match tableBad s.mod.streamLen (pad64 (128 + 32 * hdrSections s.mod.stagedHeader)) 0 none s.mod.table with
        | some i => Completes (.completenessCheckDone .good) s (Rejected 0x1A09 (s.mod.tabEntry i).ty (s.mod.tabEntry i).inst i)
        | none =>
          if readLe s.mod.hbm.bytes (s.mod.streamLen - 4) 4 = 0x46434F4C ∧ readLe s.mod.hbm.bytes (s.mod.streamLen - 60) 8 = 0 ∧
              (hdrEnc s.mod.stagedHeader = false → readLe s.mod.hbm.bytes (s.mod.streamLen - 52) 48 = 0) then
            Completes (.completenessCheckDone .good) s (fun m => m = { a with load := { s.mod.load with pass := 2 } })
          else Completes (.completenessCheckDone .good) s (Rejected 0x1A0A 0 0 0)) ∧
    -- pass 2: the CRC, and the TAG of an encrypted stream
    (s.mod.load.pass = 2 → StageReads s.mod →
      let n := s.mod.streamLen
      let stream := readBytes s.mod.hbm.bytes 0 (n - 64)
      let colophon := readBytes s.mod.hbm.bytes (n - 64) 64
      let good := (crc32c (stream ++ colophon.drop 4)).toNat = leNat (colophon.take 4)
      let goesOn := Completes (.crcCheckDone .good) s (fun m => m = { a with load := { s.mod.load with state := 3, pass := 3 } })
      (¬ good → Completes (.crcCheckDone .good) s (Rejected 0x1A0B 0 0 0)) ∧
      (good → hdrEnc s.mod.stagedHeader = false → goesOn) ∧
      (good → hdrEnc s.mod.stagedHeader = true →
        (∀ key, s.mod.sec.engineKey = some key →
          let tag := hmac384 (kdf (keyBytes key) "OND8-M" (readBytes s.mod.hbm.bytes 0 128)) stream
          (tag = (colophon.drop 12).take 48 → goesOn) ∧
          (tag ≠ (colophon.drop 12).take 48 → Completes (.crcCheckDone .good) s (Rejected 0x1A0C 0 0 0))) ∧
        (s.mod.sec.engineKey = none → Completes (.crcCheckDone .good) s (Rejected 0x1A0C 0 0 0)))) ∧
    -- pass 3
    (s.mod.load.pass = 3 → StageReads s.mod → Completes (.decryptionDone .good) s (fun m =>
      m.load.state = 4 ∧ m.load.pass = 4 ∧ m.sec = { a.sec with engineKey := none } ∧
      (s.mod.sec.engineKey = none → ∀ x, sget 0#8 m.hbm.bytes x = sget 0#8 s.mod.hbm.bytes x) ∧
      KeptBut [.load, .sec, .hbm] a m)) ∧
    -- pass 4: the load checks
    (s.mod.load.pass = 4 → StageReads s.mod →
      match firstFail (a.imageFails a.readImage) with
      | some f => Completes (.imageChecksDone .good) s (fun m =>
          m.reg rLoadResult = loadResult f.code f.ty f.inst ∧ m.ctl.mode = .load ∧ m.ctl.cause = 0x0110 ∧ m.load.state = 0 ∧ m.load.pass = 0)
      | none => Completes (.imageChecksDone .good) s (fun m =>
          m.reg rLoadResult = 0 ∧ m.load = { s.mod.load with state := 5, pass := 5, epochDesign := true } ∧ m.sec.designSecret = none ∧
          ∀ a, sget 0#8 m.hbm.bytes a = if stageTop ≤ a ∧ a < hbmTop then 0 else sget 0#8 s.mod.hbm.bytes a)) ∧
    -- pass 5: programming
    (s.mod.load.pass = 5 → s.mod.load.epochDesign = false → StageReads s.mod → Completes (.programmingDone .good) s (fun m =>
      let d := programData a.readImage s.mod.data
      let q := programSeq a.readImage s.mod.seq
      m.ctl.mode = .bringup ∧ m.ctl.prev = s.mod.ctl.mode ∧ m.image = imageOf a.readImage (!hdrEnc s.mod.stagedHeader) ∧
      m.data.im = d.im ∧ m.data.xbar = d.xbar ∧ m.data.spine = d.spine ∧ m.data.link = d.link ∧ m.data.bankmap = [] ∧
      m.data.shadow = [] ∧ m.data.fill = [] ∧ m.data.iomap = d.iomap ∧ m.data.dmbDesc = d.dmbDesc ∧ m.data.windows = d.windows ∧
      m.seq.segs = q.segs ∧ m.seq.disp = q.disp ∧ m.couriers.mem = a.readImage.courier ∧
      m.load = { s.mod.load with state := 6, pass := 0, staged := true, digest := s.mod.load.newDigest, stewardDigest := s.mod.load.newDigest } ∧
      ∀ c, c < 256 → m.reg (rChanCfg c) = 0)) ∧
    (s.mod.load.pass = 5 → s.mod.load.epochDesign = false → s.mod.ctl.mode = .load → s.mod.reg rMemPolicy % 2 = 1 →
      StageReads s.mod → (∃ k ∈ s.mod.streamSectors, sget 0 s.mod.hbm.ctr k ≠ 0) →
      ∀ kind, kind ≠ 2 → Completes (.programmingDone (.failed kind)) s (fun m =>
        m.reg rLoadResult = loadResult 0x1A0B 0 0 ∧ m.ctl.mode = .load ∧ m.ctl.cause = 0x0110 ∧ m.load.state = 0 ∧ m.load.pass = 0)) ∧
    -- the digest of the staged image at a warm start
    (s.mod.load.comparing = true → s.mod.ctl.mode = .load → s.mod.tagsOut s.mod.epEngine = false → TreeWhole s.mod s.mod.streamSectors →
      if s.mod.stageDigest ((decryptSects s.mod.hbm.bytes [] none s.mod.table).map (·.2.2)) = s.mod.load.stewardDigest then
        Completes (.stageDigestCheckDone .good) s (fun m =>
          m.ctl.mode = .bringup ∧ m.load = { s.mod.load with comparing := false } ∧ m.data.bankmap = s.mod.data.bankmap ∧
          m.data.shadow = [] ∧ m.image = s.mod.image)
      else Completes (.stageDigestCheckDone .good) s (fun m =>
        m.ctl.mode = .load ∧ m.load = { s.mod.load with comparing := false, staged := false, digest := 0, stewardDigest := 0, discardWait := false }))

/-- R301, R302, R305, R310. That a lane of an UNCABLED bundle is failed like any other is DEDUCED (log entry 50); the
seeds in VERIFY are a DESIGN CHOICE (log entry 201), as is a command for a lane that does not train (log entry 3). -/
def Obligations.TrainingCommands : Prop :=
  ∀ (s : State) (lane : Nat),
    let x := s.mod.lane lane
    let rate := s.mod.bundleRate (lane / 8)
    -- a lane that goes on to VERIFY seeds both its scramblers
    let seeded (far : Nat) (y : Lane) : Lane := { y with scr := scrSeed lane, rxScr := scrSeed far }
    (∀ symbol, x.phase = none → Completes (.trainingPhaseDone lane symbol) s (fun m => m = s.mod)) ∧
    -- ALIGN: the symbol must be whole, and its LANE and RATE must agree
    (∀ symbol, x.phase = some .align → symbolOk symbol = false →
      Completes (.trainingPhaseDone lane symbol) s (fun m => m = s.mod.setLane lane x)) ∧
    (∀ symbol, x.phase = some .align → symbolOk symbol = true → (symbolLane symbol % 8 ≠ lane % 8 ∨ symbolRate symbol ≠ rate) →
      Completes (.trainingPhaseDone lane symbol) s (fun m =>
        m = s.mod.setLane lane { x with farLane := symbolLane symbol, farRate := some (symbolRate symbol) })) ∧
    (∀ symbol, x.phase = some .align → symbolOk symbol = true → symbolLane symbol % 8 = lane % 8 → symbolRate symbol = rate →
      Completes (.trainingPhaseDone lane symbol) s (fun m =>
        (let y : Lane := { x with farLane := symbolLane symbol, farRate := some rate, phase := some (if rate = 0 then .eq else .verify) }
         m.lane lane = if rate = 0 then y else seeded (symbolLane symbol) y) ∧
        (∃ out, m.outbox = .symbol lane out :: s.mod.outbox ∧ symbolOk out = true ∧ symbolLane out = lane % 256 ∧ symbolRate out = rate) ∧
        (∀ j, j ≠ lane → m.lane j = s.mod.lane j) ∧ KeptBut [.lanes, .sec, .outbox] s.mod m)) ∧
    -- in LOCK the lane drives the 1010 pattern
    (∀ symbol, x.phase = some .detect → Completes (.trainingPhaseDone lane symbol) s (fun m => ∃ pat : BitVec 529,
      (∀ i, i < 529 → pat.getLsbD i = decide (i % 2 = 0)) ∧
      m = (s.mod.setLane lane { x with noFar := false, phase := some .lock }).send (.pad lane (.pattern pat)))) ∧
    (∀ symbol p q, x.phase = some p → (p, q) ∈ [(TrainPhase.lock, TrainPhase.align), (.eq, .verify)] →
      Completes (.trainingPhaseDone lane symbol) s (fun m =>
        m.lane lane = (if p = .lock then { x with phase := some q } else seeded x.farLane { x with phase := some q }) ∧
        (∃ out, m.outbox = .symbol lane out :: s.mod.outbox ∧ (rate ≠ 3 → symbolOk out = true) ∧ symbolLane out = lane % 256 ∧ symbolRate out = rate) ∧
        (∀ j, j ≠ lane → m.lane j = s.mod.lane j) ∧ KeptBut [.lanes, .sec, .outbox] s.mod m)) ∧
    (∀ symbol, x.phase = some .verify → Completes (.trainingPhaseDone lane symbol) s (fun m =>
        (m.lane lane).phase = none ∧ (m.lane lane).trained = true ∧ (m.lane lane).failed = false ∧ (m.lane lane).scr = scrSeed lane ∧
        (m.lane lane).rxScr = scrSeed x.farLane ∧ (m.bundle (lane / 8)).state = 1)) ∧
    -- a phase that ran out of time
    (x.phase ≠ none → x.attempts + 1 < 3 → Completes (.trainingLimitExpiry lane) s (fun m =>
      m = s.mod.setLane lane { x with phase := some .detect, attempts := x.attempts + 1, good := 0, farRate := none })) ∧
    (x.phase ≠ none → 3 ≤ x.attempts + 1 → Completes (.trainingLimitExpiry lane) s (fun m =>
      (m.lane lane).phase = none ∧ (m.lane lane).failed = true ∧ (m.lane lane).trained = false ∧ (m.lane lane).attempts = 3)) ∧
    (x.phase ≠ none → 3 ≤ x.attempts + 1 → x.noFar = true →
      (∀ l ∈ lanesOf (lane / 8), l ≠ lane → (s.mod.lane l).phase = none ∧ (s.mod.lane l).noFar = true ∧ (s.mod.lane l).trained = false) →
      Completes (.trainingLimitExpiry lane) s (fun m => (m.bundle (lane / 8)).state = 2 ∧ (m.bundle (lane / 8)).pstate = 2))

/-- R143, R185, R287, R303, R304, R331, R332, R333. How STARTUP_LOCK and the wait for training join is DEDUCED (log
entry 46), as are the sign of a ring of one module (log entry 179), what becomes of a record out of order (log entry
109) and of one that comes early (log entry 114). That an event with no work of its kind under way changes nothing is
a DESIGN CHOICE (log entry 3). -/
def Obligations.DiscoveryAndStartUpCommands : Prop :=
  (∀ s : State,
    (s.mod.discovering = true →
      -- RING_DISC: a module takes its place; back at its originator; at another module of MODNUM 0x00
      (∀ seq ring count, InOrder s.mod 0 seq →
        (s.mod.image.modnum ≠ 0 → ring = 0 ∨ s.mod.ringOpen ring = false → Completes (.ringDisc seq ring count) s (fun m =>
          m.disc = { s.mod.disc with ring := ring, position := count + 1, modnum := ring * 16 + (count + 1), state := 1 } ∧
          .disc 10 0 ring (count + 1) ∈ m.outbox)) ∧
        (s.mod.image.modnum ≠ 0 → ring ≠ 0 → s.mod.ringOpen ring = true → Completes (.ringDisc seq ring count) s (fun m =>
          m.disc = { s.mod.disc with ringSize := count + 1 } ∧ .disc 11 1 (ring + 1) 0 ∈ m.outbox)) ∧
        (s.mod.image.modnum = 0 → ring = 0 → s.mod.ringOpen 0 = true → Completes (.ringDisc seq ring count) s (fun m =>
          m.disc = { s.mod.disc with ringSize := count + 1, rings := if (s.mod.bundle 11).state = 1 then s.mod.disc.rings else 1 } ∧
          ((s.mod.bundle 11).state = 1 → .disc 11 1 1 0 ∈ m.outbox))) ∧
        (s.mod.image.modnum = 0 → ring ≠ 0 ∨ s.mod.ringOpen 0 = false → Completes (.ringDisc seq ring count) s (fun m =>
          m.disc = { s.mod.disc with state := 3 } ∧ m.start.discFail = true))) ∧
      -- HEAD_DISC
      (∀ seq ring, InOrder s.mod 1 seq →
        (s.mod.image.modnum ≠ 0 → (s.mod.bundle 10).state = 1 → Completes (.headDisc seq ring) s (fun m =>
          m.disc = { s.mod.disc with ring := ring, position := 0, modnum := ring * 16, state := 1 } ∧ .disc 10 0 ring 0 ∈ m.outbox)) ∧
        (s.mod.image.modnum ≠ 0 → (s.mod.bundle 10).state ≠ 1 → Completes (.headDisc seq ring) s (fun m =>
          m.disc = { s.mod.disc with ring := ring, position := 0, modnum := ring * 16, state := 1, ringSize := 1 } ∧
          .disc 11 1 (ring + 1) 0 ∈ m.outbox)) ∧
        (s.mod.image.modnum = 0 → Completes (.headDisc seq ring) s (fun m => m.disc = { s.mod.disc with rings := ring }))) ∧
      -- IDENT, ADJ
      (∀ b seq sender sysid mods img, InOrder s.mod b seq → Completes (.ident b seq sender sysid mods img) s (fun m =>
        (m.bundle b).nbr = some sender ∧
        (sysid ≠ s.mod.image.systemId ∨ mods ≠ s.mod.image.modules → m.start.sysMismatch = true))) ∧
      (∀ b seq n nbr, InOrder s.mod b seq →
        (sfind s.mod.disc.adjs n = none → Completes (.adj b seq n nbr) s (fun m => sfind m.disc.adjs n = some nbr)) ∧
        (sfind s.mod.disc.adjs n ≠ none → Completes (.adj b seq n nbr) s (fun m => m = s.mod.prioNext b))) ∧
      -- ECHO_RSP: the hop is half of what the echo took beyond its 16 ns, rounded up
      (∀ b seq roundTrip, InOrder s.mod b seq →
        (b ∈ s.mod.disc.echoOut → Completes (.echoRsp b seq roundTrip) s (fun m =>
          (if b = 0 then m.disc.hopRing = (roundTrip - 16 + 1) / 2 ∧ m.disc.hopHead = s.mod.disc.hopHead
           else m.disc.hopHead = (roundTrip - 16 + 1) / 2 ∧ m.disc.hopRing = s.mod.disc.hopRing) ∧
          m.disc.echoOut = s.mod.disc.echoOut.erase b ∧ (s.mod.disc.echoOut.erase b = [] → m.disc.state = 2))) ∧
        (b ∉ s.mod.disc.echoOut → Completes (.echoRsp b seq roundTrip) s (fun m => m = s.mod.prioNext b))) ∧
      (s.mod.disc.state ≠ 2 → Completes .discoveryFail s (fun m =>
        m.disc.state = 3 ∧ m.start.discFail = true ∧ m.pins = s.mod.pins))) ∧
    (∀ b seq, InOrder s.mod b seq → s.mod.discEarly (.echoReq b seq) = false → Completes (.echoReq b seq) s (fun m =>
      m.disc = { s.mod.disc with echoDue := s.mod.disc.echoDue ++ [b] } ∧ KeptBut [.disc, .bundles] s.mod m)) ∧
    (∀ b, b ∈ s.mod.disc.echoDue → (s.mod.bundle b).pstate ≠ 1 → Completes (.echoReplyDue b) s (fun m =>
      m.disc = { s.mod.disc with echoDue := s.mod.disc.echoDue.erase b } ∧ m.outbox = .echoRsp b :: s.mod.outbox)) ∧
    -- a record that comes while lanes of this module still train waits
    (s.mod.ctl.mode = .bringup → s.mod.inSystem = true → s.mod.start.lanesTrained = false → ∀ b seq ring count rt sender sysid mods img nbr,
      ∀ e ∈ [(0, Instr.ringDisc seq ring count), (1, .headDisc seq ring), (b, .ident b seq sender sysid mods img), (b, .adj b seq sender nbr),
        (b, .echoReq b seq), (b, .echoRsp b seq rt)], InOrder s.mod e.1 seq →
      Completes e.2 s (fun m => m.disc = { s.mod.disc with waiting := s.mod.disc.waiting ++ [e.2] } ∧
        m.outbox = s.mod.outbox ∧ KeptBut [.disc, .bundles] s.mod m))) ∧
  (∀ s : State, s.mod.ctl.mode = .bringup →
    (s.mod.startupOn = true → Completes .startupLock s (fun m =>
      m.start.lockDone = true ∧ m.start.startupState = 5 ∧ m.start.stepsLeft = [] ∧
      (2 ∈ s.mod.start.stepsLeft → m.start.outen = true) ∧ (4 ∈ s.mod.start.stepsLeft → m.start.wren = true) ∧
      (3 ∈ s.mod.start.stepsLeft → m.data.dm = [] ∧ m.data.watch = [] ∧ m.data.queues = []) ∧
      m.pins.modreadyLow = (s.mod.pins.modreadyLow && (s.mod.start.sysMismatch || s.mod.start.discFail)))) ∧
    -- the PLLs may lock while lanes still train or discovery runs
    (s.mod.start.startupState ≤ 4 → s.mod.startupOn = false → Completes .startupLock s (fun m =>
      m = { s.mod with start := { s.mod.start with lockDone := true } }) ∧ Completes .pllUnlock s (fun m => m = s.mod)) ∧
    (∀ rest, s.mod.startupOn = true → s.mod.start.lockDone = false → s.mod.start.stepsLeft = 1 :: rest →
      Completes .pllUnlock s (fun m => m.start = { s.mod.start with startupState := 4 - rest.length } ∧
        m.stew = (s.mod.log 0x0106 srcSteward []).stew)) ∧
    (s.mod.start.startupState = 5 → s.mod.pins.modreadyLow = false → Completes .modreadyNetHigh s (fun m =>
      m.ctl.mode = .idle ∧ m.ctl.prev = .bringup ∧ m.seq.folio = 0 ∧ m.seq.opening = true ∧ m.start.startupState = 6 ∧
      m.start.running = false ∧ m.pins.netHigh = true)) ∧
    (s.mod.start.startupState = 5 → Completes .doneTimeout s (fun m =>
      m.ctl.mode = .frozen ∧ m.ctl.prev = .bringup ∧ m.ctl.cause = 0x0107 ∧ m.ctl.resumable = false ∧
      m.pins.modreadyLow = true ∧ m.start.startupState = 7)))

/-- R24, R25, R27, R30, R31, R32, R33, R112, R212, R248, R347, R393. A freeze at the hold point of a lone module is
DEDUCED to act at once (log entry 40), and LOCKDOWN in a held RESET to have no effect (log entry 205). -/
def Obligations.ModeRequestCommands : Prop :=
  ∀ (s : State) (priv : Priv),
    (s.mod.ctl.mode = .idle →
      Completes (.modeReqRun priv 0) s (fun m => m = ({ s.mod with ctl := { s.mod.ctl with target := 4, stepn := 0 } }).answer stOK) ∧
      (∀ arg : BitVec 24, arg ≠ 0 → Completes (.modeReqStep priv arg) s (fun m =>
        m = ({ s.mod with ctl := { s.mod.ctl with target := 5, stepn := arg.toNat } }).answer stOK)) ∧
      Completes (.modeReqPaced priv 0) s (fun m => m = ({ s.mod with ctl := { s.mod.ctl with target := 6, stepn := 0 } }).answer stOK) ∧
      (priv ≠ .oper →
        Completes (.modeReqLinksvc priv 0) s (fun m => m.ctl.mode = .linksvc ∧ m.ctl.prev = .idle ∧ m.couriers.started = false ∧
          m.scrub.running = false ∧ m.stew.lastStatus = 0 ∧ m.data.dm = [] ∧ m.data.builtinIm.isSome = true ∧
          ∀ i, i < 16 → 1 ≤ (m.slot i).state ∧ (m.slot i).state ≤ 5 → (m.slot i).rolling = true) ∧
        Completes (.modeReqSelftest priv 0) s (fun m => m.ctl.mode = .selftest ∧ m.ctl.prev = .idle ∧ m.couriers.started = false ∧
          m.scrub.running = false ∧ m.stew.lastStatus = 0 ∧ m.data.dm = [] ∧ m.data.builtinIm.isSome = true ∧
          ∀ i, i < 16 → 1 ≤ (m.slot i).state ∧ (m.slot i).state ≤ 5 → (m.slot i).rolling = true))) ∧
    (s.mod.ctl.mode.running = true → Completes (.modeReqStopResume priv 0) s (fun m =>
      m = ({ s.mod with ctl := { s.mod.ctl with target := 3, stepn := 0 } }).answer stOK)) ∧
    (s.mod.ctl.mode = .frozen → s.mod.ctl.resumable = true → Completes (.modeReqStopResume priv 0) s (fun m =>
      m.ctl.mode = .idle ∧ m.ctl.prev = .frozen ∧ m.ctl.resumable = false ∧ m.stew = { s.mod.stew with lastStatus := 0 } ∧
      KeptBut [.ctl, .stew, .fabric, .outbox] s.mod m)) ∧
    (s.mod.ctl.mode = .idle ∨ s.mod.ctl.mode.running = true → Completes (.modeReqFreeze priv 0) s (fun m =>
      m.stew.lastStatus = 0 ∧
      (if s.mod.inSystem = false ∧ s.mod.seq.phase = .hold then m.ctl.mode = .frozen ∧ m.ctl.resumable = true ∧ m.ctl.cause = 0
       -- HALT_POINT and MASK_VIOLATION of the same boundary keep their cause
       else m.ctl = { s.mod.ctl with freezeReq := true, freezeCause := (if s.mod.ctl.freezeReq = true ∧ (s.mod.ctl.freezeCause = 0x0910 ∨ s.mod.ctl.freezeCause = 0x0603) then s.mod.ctl.freezeCause else 0) }))) ∧
    (s.mod.ctl.mode = .inspect → Completes (.modeReqFreeze priv 0) s (fun m =>
      m.ctl.mode = .frozen ∧ m.ctl.prev = .inspect ∧ m.ctl.resumable = s.mod.ctl.resumable)) ∧
    (s.mod.ctl.mode = .frozen → Completes (.modeReqInspect priv 0) s (fun m =>
      m.ctl.mode = .inspect ∧ m.ctl.prev = .frozen ∧ m.ctl.resumable = s.mod.ctl.resumable ∧ m.data = s.mod.data ∧ m.txn = s.mod.txn)) ∧
    -- RESET that a supply or PORST_N holds stays
    (priv ≠ .oper → s.mod.resetHeld = true → Completes (.modeReqLockdown priv 0) s (fun m => m = s.mod.answer stOK)) ∧
    (priv ≠ .oper → s.mod.ctl.mode ≠ .lockdown → s.mod.resetHeld = false → Completes (.modeReqLockdown priv 0) s (fun m =>
      m.ctl.mode = .lockdown ∧ m.ctl.prev = s.mod.ctl.mode ∧ m.sec.stageSecret = none ∧ m.sec.designSecret = none ∧
      m.sec.engineKey = none ∧ m.load.staged = false ∧ m.hbm.bytes = [] ∧ m.couriers.started = false ∧ m.stew.lastStatus = 0)) ∧
    (s.mod.ctl.mode ≠ .lockdown → ∀ target arg, Completes (.modeReqReserved priv target arg) s (fun m => m = s.mod.answer stModeRefused))

/-- R33, whole, with the transition table of R24 written out by target. In LOCKDOWN itself every request that is not
guaranteed is answered MODE by R359, before R33 applies. That a held RESET outranks an accepted LOCKDOWN is R30 (log
entry 205). -/
def Obligations.ModeRequestRefusals : Prop :=
  ∀ (s : State) (priv : Priv) (arg : BitVec 24),
    let refused (c : Instr) : Prop := Completes c s (fun m => m = s.mod.answer stModeRefused)
    (s.mod.ctl.mode ≠ .lockdown →
      -- ARG is nonzero for a target other than STEP, or zero for STEP
      (arg ≠ 0 → refused (.modeReqRun priv arg) ∧ refused (.modeReqPaced priv arg) ∧ refused (.modeReqStopResume priv arg) ∧
        refused (.modeReqFreeze priv arg) ∧ refused (.modeReqInspect priv arg) ∧
        (priv ≠ .oper → refused (.modeReqWarmStart priv arg) ∧ refused (.modeReqLinksvc priv arg) ∧ refused (.modeReqSelftest priv arg) ∧
          refused (.modeReqLockdown priv arg))) ∧
      refused (.modeReqStep priv 0) ∧
      -- TARGET is 1 or 2, or has no mode
      (∀ target, refused (.modeReqReserved priv target arg)) ∧
      -- no row of the transition table
      (s.mod.ctl.mode ≠ .idle → refused (.modeReqRun priv 0) ∧ refused (.modeReqStep priv arg) ∧ refused (.modeReqPaced priv 0) ∧
        (priv ≠ .oper → refused (.modeReqLinksvc priv 0) ∧ refused (.modeReqSelftest priv 0))) ∧
      (s.mod.ctl.mode ≠ .idle → s.mod.ctl.mode.running = false → s.mod.ctl.mode ≠ .inspect → refused (.modeReqFreeze priv 0)) ∧
      (s.mod.ctl.mode ≠ .frozen → refused (.modeReqInspect priv 0)) ∧
      (s.mod.ctl.mode.running = false → s.mod.ctl.mode ≠ .linksvc → s.mod.ctl.mode ≠ .selftest →
        (s.mod.ctl.mode = .frozen → s.mod.ctl.resumable = false) → refused (.modeReqStopResume priv 0))) ∧
    -- TARGET 3 stops the module from RUN, STEP or PACED, and resumes it from FROZEN when RESUMABLE = 1
    (s.mod.ctl.mode.running = true → Completes (.modeReqStopResume priv 0) s (fun m =>
      m = ({ s.mod with ctl := { s.mod.ctl with target := 3, stepn := 0 } }).answer stOK)) ∧
    (s.mod.ctl.mode = .frozen → s.mod.ctl.resumable = true → Completes (.modeReqStopResume priv 0) s (fun m => m.ctl.mode = .idle)) ∧
    -- a request for LOCKDOWN is accepted in every mode, and has no effect in LOCKDOWN; RESET that a supply or PORST_N holds
    -- outranks it (R30)
    (priv ≠ .oper → Completes (.modeReqLockdown priv 0) s (fun m => m.stew.lastStatus = 0 ∧
      (s.mod.resetHeld = false → m.ctl.mode = .lockdown) ∧
      (s.mod.ctl.mode = .lockdown → m = s.mod.answer stOK))) ∧
    -- the privilege that a target requires
    (priv = .oper → s.mod.ctl.mode ≠ .lockdown →
      ∀ c ∈ [Instr.modeReqWarmStart priv arg, .modeReqLinksvc priv arg, .modeReqSelftest priv arg, .modeReqLockdown priv arg],
        Completes c s (fun m => m = s.mod.answer stPrivilege))

/-- R21, R63, R94, R109, R110, R135, R136, R165. One cycle for one step is a DESIGN CHOICE (log entry 53). That an
event with no work of its kind under way changes nothing is a DESIGN CHOICE (log entry 3). -/
def Obligations.StepCommands : Prop :=
  ∀ s : State,
    (s.mod.ctl.mode.running = true → s.mod.seq.phase = .issuing →
      (∀ pads, s.mod.settle.held = true → Completes (.stepIssue pads []) s (fun m => m = s.mod.settle)) ∧
      (∀ pads bad step rest, s.mod.settle.seq.steps = step :: rest → s.mod.settle.held = false →
        Completes (.stepIssue pads bad) s (fun m =>
          m.seq.steps = rest ∧ m.seq.issued = s.mod.seq.issued + 1 ∧ m.seq.cycle = s.mod.seq.cycle + 1 ∧
          m.seq.effE = s.mod.seq.effE + 1 ∧ m.stew.up = s.mod.stew.up + 1 ∧ m.stew.now = (s.mod.stew.pass 1).now ∧ m.seq.folio = s.mod.seq.folio ∧
          (rest = [] → m.ctl.mode.running = true → m.seq.phase = .drain) ∧ (rest ≠ [] → m.seq.phase = .issuing)))) ∧
    -- exactly the requests whose cause is gone are withdrawn
    Completes .stallRelease s (fun m =>
      m.seq.stalls = s.mod.seq.stalls.filter s.mod.settle.stands ∧ m.ctl = s.mod.ctl ∧ m.seq.steps = s.mod.seq.steps ∧
      (s.mod.ctl.mode.running = true → s.mod.seq.phase = .issuing → s.mod.seq.steps = [] → m.seq.stalls = [] → m.seq.phase = .drain)) ∧
    (s.mod.ctl.mode = .idle ∨ s.mod.ctl.mode.running = true →
      (∀ k n a, k ≠ 32768 → s.mod.data.memAccs.find? (fun a => a.portKey == k && a.seqNo == n) = some a →
        Completes (.memTimeout k n) s (fun m => m.ctl.mode = .frozen ∧ m.ctl.cause = 0x0425 ∧ m.ctl.resumable = false)) ∧
      -- the record read of the mask unit
      (∀ n t, s.mod.fabric.tags.find? (fun t => t.use == 3 && !t.quarantine) = some t →
        Completes (.memTimeout 32768 n) s (fun m => m.ctl.mode = .frozen ∧ m.ctl.cause = 0x0425 ∧ m.ctl.resumable = false))) ∧
    (∀ k n, k ≠ 32768 → s.mod.data.memAccs.find? (fun a => a.portKey == k && a.seqNo == n) = none →
      Completes (.memTimeout k n) s (fun m => m = s.mod)) ∧
    (s.mod.ctl.mode.running = true → ∀ b, (∃ st ∈ s.mod.seq.stalls, ∃ t, st.cause = .lateStatic b t) →
      Completes (.starveTimeout b) s (fun m => m.ctl.mode = .frozen ∧ m.ctl.cause = 0x0921 ∧ m.ctl.resumable = false))

/-- R136 and R229, whole. The commands assert that the barrier timeout has passed. -/
def Obligations.BarrierTimeouts : Prop :=
  ∀ s : State, s.mod.ctl.mode.running = true → s.mod.logOpen = true →
    -- R136
    (∀ b i, (∃ x ∈ s.mod.seq.stalls, ∃ t, x.cause = .lateStatic b t) → i < 4 → s.mod.bitsPresent b i = false → (∀ j, j < i → s.mod.bitsPresent b j = true) →
      (sget [] s.mod.stew.logQ (if b < 10 then dieL0 else dieL1)).length < 16 →
      Completes (.starveTimeout b) s (fun m => m.ctl.mode = .frozen ∧ m.ctl.cause = 0x0921 ∧ m.ctl.resumable = false ∧
        ∃ src, ∃ e ∈ sget [] m.stew.logQ src, e.code = 0x0921 ∧ e.folio = s.mod.seq.folio ∧
          e.arg = packArgs [(5, b), (11, nth 0 s.mod.seq.steps (i - 1))])) ∧
    -- R229
    (∀ c, ((∃ x ∈ s.mod.seq.stalls, x.cause = .deadline c) ∨ s.mod.seq.phase = .hold ∧ s.mod.fixedDue c = true) →
      (sget [] s.mod.stew.logQ dieH).length < 16 →
      Completes (.replyTimeout c) s (fun m => m.ctl.mode = .frozen ∧ m.ctl.cause = 0x0253 ∧ m.ctl.resumable = false ∧
        ∃ src, ∃ e ∈ sget [] m.stew.logQ src, e.code = 0x0253 ∧ e.folio = s.mod.seq.folio ∧
          e.arg = packArgs [(8, c), (32, (s.mod.chan c).retireSeq)]))

/-- R38, R47, R55, R56, R123, R152, R327, R329, R330, R346, R347, R348. Which unit is the last of a pass is the
model's DESIGN CHOICE (log entry 59); that a ROM DMB word without a record has no source is DEDUCED (log entry 186).
That an event with no work of its kind under way changes nothing is a DESIGN CHOICE (log entry 3). -/
def Obligations.RepairCommands : Prop :=
  ∀ (s : State) (u : RepairUnit) (key : Nat),
    let a := s.mod
    let v := (a.repairValue u key).1
    let sectors := sectorsIn (a.repairValue u key).2 (unitLen u)
    let zero : SchedWord := { bits := 0, par := 0 }
    let entry (n : Nat) : SchedWord := { bits := v, par := byteParity n v }
    -- the unit holds the value of its source with generated parity, and every other unit what it held
    let written (m : Module) : Prop :=
      (u = .imWord ∨ u = .shadowWord → m.data = { a.data with im := sset { word := 0, par := 0 } a.data.im key { word := BitVec.ofNat 96 v, par := BitVec.ofNat 12 (byteParity 12 v) } }) ∧
      (u = .xbarEntry → m.data = { a.data with xbar := sset zero a.data.xbar key (entry 240) }) ∧
      (u = .spineEntry → m.data = { a.data with spine := sset zero a.data.spine key (entry 512) }) ∧
      (u = .linkEntry → m.data = { a.data with link := sset zero a.data.link key (entry 8704) }) ∧
      (u = .segWord → m.data = a.data ∧ m.seq.segs = sset zero a.seq.segs key (entry 8)) ∧
      (u = .dispEntry → m.data = a.data ∧ m.seq.disp = sset zero a.seq.disp key (entry 1)) ∧
      (u = .romDmb → m.data = { a.data with dmbData := sset 0 a.data.dmbData key (BitVec.ofNat 64 v), dmbPar := sset 0 a.data.dmbPar key (BitVec.ofNat 8 (byteParity 8 (v % 2 ^ 64))), dmbValid := sset false a.data.dmbValid key true }) ∧
      (u ≠ .segWord → m.seq.segs = a.seq.segs) ∧ (u ≠ .dispEntry → m.seq.disp = a.seq.disp) ∧ m.unitBad u key = false
    let otherCause (x : Stall) : Bool := match x.cause with
      | .repair w k _ => !(decide (w = u) && k == key)
      | _ => true
    let free := a.tagsOut (a.repairReader u key) = false
    (a.repairing u key = true → free → TreeWhole a sectors → Completes (.repairComplete u key .good) s (fun m =>
      written m ∧ m.repairing u key = false ∧ m.seq.stalls = a.seq.stalls.filter otherCause ∧
      m.hbm.bytes = a.hbm.bytes ∧ m.hbm.ctr = a.hbm.ctr ∧ { m.sec with freeCtr := a.sec.freeCtr } = a.sec ∧
      (a.load.discardWait = false → m.load = a.load ∧ KeptBut [.regs, .seq, .data, .fabric, .sec, .scrub, .hbm] a m) ∧
      -- a discard that waits for the last repair is made
      (a.load.discardWait = true → (∀ st ∈ a.seq.stalls, otherCause st = true → ∀ w k t, st.cause ≠ .repair w k t) →
        m.load.staged = false ∧ m.load.discardWait = false))) ∧
    -- a source that fails its check
    (a.repairing u key = true → free → (∃ k ∈ sectors, sget 0 a.hbm.ctr k ≠ 0) → a.ctl.mode = .idle ∨ a.ctl.mode.running = true →
      ∀ kind, kind ≠ 2 →
      (a.reg rMemPolicy % 2 = 1 → Completes (.repairComplete u key (.failed kind)) s (fun m =>
        m.ctl.mode = .frozen ∧ m.ctl.cause = 0x0164 ∧ m.ctl.resumable = false ∧ m.repairing u key = false)) ∧
      (a.reg rMemPolicy % 2 = 0 → a.load.epochStage = false → a.load.epochDesign = false →
        Completes (.repairComplete u key (.failed kind)) s (fun m => m.ctl.mode = .lockdown ∧ m.ctl.cause = 0x0401))) ∧
    (a.repairing u key = false ∨ ¬ free → ∀ chk, Completes (.repairComplete u key chk) s (fun m => m = a)) ∧
    -- the walker
    (a.walks = true → a.walked u key = true → free → a.unitBad u key = true →
      (a.unitEssential u key = true → a.sourceHeld u key = true → Completes (.walkerRead u key .good) s (fun m =>
        (∃ st ∈ m.seq.stalls, st.cause = .repair u key 0) ∧ m.data = a.data ∧
        m.seq.happened = a.seq.happened ||| BitVec.ofNat 64 (2 ^ 48))) ∧
      (a.unitEssential u key = true → a.sourceHeld u key = false → a.ctl.mode ≠ .frozen → a.ctl.mode ≠ .inspect →
        Completes (.walkerRead u key .good) s (fun m => m.ctl.mode = .frozen ∧ m.ctl.cause = 0x0164)) ∧
      (a.unitEssential u key = false → a.sourceHeld u key = true → TreeWhole a sectors → Completes (.walkerRead u key .good) s (fun m =>
        written m ∧ m.seq.stalls = a.seq.stalls ∧ m.reg rWalkFound = min (a.reg rWalkFound + 1) (2 ^ 32 - 1))) ∧
      (a.unitEssential u key = false → a.sourceHeld u key = false → ∀ chk, Completes (.walkerRead u key chk) s (fun m =>
        m.data = a.data ∧ m.seq = a.seq ∧ m.reg rWalkFound = min (a.reg rWalkFound + 1) (2 ^ 32 - 1)))) ∧
    (a.ctl.mode ≠ .lockdown ∧ (a.walks = false ∨ a.walked u key = false ∨ ¬ free) ∨ a.unitBad u key = false ∧ walkLast u key = false → ∀ chk,
      Completes (.walkerRead u key chk) s (fun m => m = a)) ∧
    -- in LOCKDOWN a read that fails in the cycle of its entry is counted, and nothing else is done
    (a.ctl.mode = .lockdown → (∀ kind, a.unitBad u key = true → a.unitEssential u key = false → a.ctl.lockAt = a.seq.cycle →
        Completes (.walkerRead u key (.failed kind)) s (fun m => m.reg rMacFails = min (a.reg rMacFails + 1) (2 ^ 32 - 1) ∧
          m.data = a.data ∧ m.ctl = a.ctl)) ∧
      (a.ctl.lockAt ≠ a.seq.cycle → ∀ chk, Completes (.walkerRead u key chk) s (fun m => m = a))) ∧
    -- the last unit of a pass
    (a.walks = true → walkLast u key = true → free → a.unitBad u key = false → ∀ chk, Completes (.walkerRead u key chk) s (fun m =>
      m.reg rWalkPasses = stat48 (a.reg rWalkPasses) 1 ∧
      m.reg rWalkLast = (a.seq.cycle - a.start.walkAt) / 1000 % 2 ^ 32 ∧ m.start.walkAt = a.seq.cycle ∧
      KeptBut [.regs, .start] a m))

/-- R39, R41, R45, R46, R49, R51, R54, R63-R71, R76, R77, R80-R92, R94, R131, R150, R154, R161, R416, R417. How a
step counts its cycles is log entry 53; the numbering of accesses is DEDUCED (log entry 56), as is the visibility
step of a read (log entry 66). -/
def Obligations.LaneInstructions : Prop :=
  -- one word of one BP
  (∀ (d0 : Data) (p : Present) (ws : SMap Nat) (acc : LaneAcc) (bp word : Nat),
    let z := sget 0 ws (bp / 64 * 64)
    let w := laneWord ws bp word
    let chain := acc.chain && acc.last + 1 == bp
    let acc' := laneStep d0 p ws acc (bp, word)
    let a := d0.cell bp (iwA w)
    let b := d0.cell bp (iwB w)
    let c := d0.cell bp (iwC w)
    let d := if iwChn w then (bp % 4 != 0) && chain else d0.cell bp (iwD w)
    let look (c d : Bool) : Bool := (iwTT w).testBit (8 * b2n d + 4 * b2n c + 2 * b2n b + b2n a)
    -- the bit that source `code` delivers
    let source (code : Nat) (v : Bool) : Prop :=
      (1 ≤ code → code ≤ 0x40 → v = sget false d0.bus (bp / 64 * 64 + (code - 1))) ∧
      (0x80 ≤ code → code ≤ 0x87 → v = p.xbar.contains (bp / 64 * 8 + (code - 0x80))) ∧
      (0xC0 ≤ code → code ≤ 0xC3 → v = p.spine.contains (bp / 1024 * 4 + (code - 0xC0))) ∧
      (0xE0 ≤ code → code ≤ 0xE7 → v = (sget 0 d0.returns (bp / 64 * 8 + (code - 0xE0))).getLsbD (bp % 64)) ∧
      (0xF0 ≤ code → code ≤ 0xFF → v = p.cells.contains (bp / 64 * 16 + (code - 0xF0))) ∧
      (code = 0 ∨ csrcReserved code = true → v = false)
    let opc := iwOpc w
    -- the value of each opclass with a result
    let value (v : Bool) : Prop :=
      opc = 1 ∧ v = look c d ∨
      opc = 2 ∧ (∃ x, source (iwCsrc w) x ∧ v = look x d) ∨
      opc = 3 ∧ v = xor (d0.cell bp (iwA w / 8 * 8 + (4 * b2n d + 2 * b2n c + b2n b))) ((iwTT w).testBit 0) ∨
      opc = 4 ∧ source (iwTT w % 256) v ∨
      opc = 8 ∧ v = look c (p.cells.contains (bp / 64 * 16 + iwD w % 16)) ∨
      opc = 0xA ∧ v = look c false ∨
      opc = 0xB ∧ v = look c false ∨
      opc = 0xD ∧ v = (match sfind d0.fpoint bp with
        | some f => if f.armed then f.value else look c d
        | none => look c d)
    let noResult := opc = 0 ∨ 5 ≤ opc ∧ opc ≤ 7 ∨ opc = 9 ∨ opc = 0xC ∨ opc = 0xE ∨ opc = 0xF
    let forced (k : Nat) : Option Bool := acc.d.forced bp k
    -- beside a gathering request, a word that is not that request acts as a NOP with its catch
    (isReq (iwOpc z) = false ∨ iwOpc word = iwOpc z ∧ iwTT word = iwTT z → w = word) ∧
    (isReq (iwOpc z) = true → ¬ (iwOpc word = iwOpc z ∧ iwTT word = iwTT z) → opc = 0 ∧ ∀ k, k < 92 → w.testBit k = word.testBit k) ∧
    -- the result: the value, or the forced value of cell W
    (∀ v, value v → let r := (d0.forced bp (iwW w)).getD v
      acc'.chain = r ∧ acc'.bus = (if r then bp :: acc.bus else acc.bus) ∧
      (forced (iwW w) = none → (iwCsrc w = 0 ∨ iwCadr w ≠ iwW w) → acc'.d.cell bp (iwW w) = r) ∧
      acc'.xs = (if opc = 0xB ∧ r = true then (bp / 64 * 8 + iwD w % 8) :: acc.xs else acc.xs) ∧
      acc'.ss = (if opc = 0xA ∧ r = true then (bp / 1024 * 4 + iwD w % 4) :: acc.ss else acc.ss) ∧
      (iwMrk w = true → sget false acc'.d.watch bp = r)) ∧
    (noResult → acc'.chain = false ∧ acc'.bus = acc.bus ∧ acc'.xs = acc.xs ∧ acc'.ss = acc.ss ∧
      (opc ≠ 0xC → iwMrk w = true → sget false acc'.d.watch bp = false)) ∧
    (opc = 0xC → sget false acc'.d.watch bp = look c d) ∧
    (opc ≠ 0xC → iwMrk w = false → acc'.d.watch = acc.d.watch) ∧
    (opc = 9 → let key := bp / 64 * 16 + iwD w % 16
      sget false acc'.d.ioData key = a ∧ sget false acc'.d.ioEn key = b ∧
      (∀ k, k ≠ key → sget false acc'.d.ioData k = sget false acc.d.ioData k ∧ sget false acc'.d.ioEn k = sget false acc.d.ioEn k) ∧
      acc'.d.padFlight = (match acc.d.cellPad key with
        | some pad => acc.d.padFlight ++ [(2, pad, if b then some a else none)]
        | none => acc.d.padFlight)) ∧
    (opc ≠ 9 → acc'.d.ioData = acc.d.ioData ∧ acc'.d.ioEn = acc.d.ioEn ∧ acc'.d.padFlight = acc.d.padFlight) ∧
    acc'.halts = (if opc = 0xF ∧ look c d = true ∧ sget true d0.haltEn bp = true then acc.halts ++ [bp] else acc.halts) ∧
    -- the catch port, and every cell that no port writes
    (∀ v, source (iwCsrc w) v → iwCsrc w ≠ 0 → forced (iwCadr w) = none → acc'.d.cell bp (iwCadr w) = v) ∧
    (∀ b c, ¬ (b * 2048 + c = bp * 2048 + iwW w ∧ ¬ noResult ∧ forced (iwW w) = none) →
      ¬ (b * 2048 + c = bp * 2048 + iwCadr w ∧ iwCsrc w ≠ 0 ∧ forced (iwCadr w) = none) →
      acc'.d.cell b c = acc.d.cell b c) ∧
    { acc'.d with dm := acc.d.dm, watch := acc.d.watch, ioData := acc.d.ioData, ioEn := acc.d.ioEn, padFlight := acc.d.padFlight } = acc.d) ∧
  -- STEP_ISSUE: every word of the step, on the state at the end of the step before
  (∀ (s : State) (pads : List Nat) (bad : List (Nat × Nat × Nat)) (step : Nat) (rest : List Nat),
    s.mod.ctl.mode.running = true → s.mod.seq.phase = .issuing → s.mod.settle.seq.steps = step :: rest → s.mod.settle.held = false →
    let b := s.mod.settle.beginStep step rest pads
    let d0 := b.data
    let ws := d0.wordsAt step
    let acc := runLanes d0 b.presentAt ws
    Completes (.stepIssue pads bad) s (fun m =>
      (∀ bp c, m.data.cell bp c = acc.d.cell bp c) ∧ m.data.watch = acc.d.watch ∧ m.data.ioData = acc.d.ioData ∧
      m.data.ioEn = acc.d.ioEn ∧ m.data.padFlight = acc.d.padFlight ∧ (∀ l, sget false m.data.bus l = acc.bus.contains l) ∧
      (acc.halts ≠ [] → m.seq.haltFirst ≠ none) ∧ (acc.halts = [] → m.seq.haltFirst = b.seq.haltFirst) ∧
      -- words whose visibility step has come appear on their return lines
      (∀ r ∈ s.mod.settle.data.pendRets, ∀ v, r.word = some v →
        (let shown (x : PendRet) : Prop := x.left = some 0 ∨ x.left = none ∧ ∃ t, x.vis = some t ∧ t ≤ step
         shown r → (∀ x ∈ s.mod.settle.data.pendRets, x.portKey = r.portKey → shown x → x = r ∨ x.seqNo < r.seqNo) →
           sget 0 m.data.returns r.portKey = v)) ∧
      (∀ k, (∀ r ∈ s.mod.settle.data.pendRets, r.portKey = k → r.left ≠ some 0 ∧ (r.left = none → ∀ t, r.vis = some t → step < t)) →
        sget 0 m.data.returns k = sget 0 s.mod.settle.data.returns k) ∧
      (∀ r ∈ s.mod.settle.data.pendRets, ∀ n, r.left = some (n + 1) → { r with left := some n } ∈ m.data.pendRets) ∧
      -- one gathering request in the step
      ∀ g w, ws.filter (fun e => e.1 % 64 == 0 && isReq (iwOpc e.2)) = [(64 * g, w)] → sget 0 ws (64 * g) = w →
        let tt := iwTT w
        let mode := bitsOf tt 9 8
        let dmb := g / 16 * 16 + tt % 16
        let key := g * 8 + bitsOf tt 6 4
        let q := d0.queue dmb
        let bind := descBind (d0.desc dmb)
        let word (n : Nat) : Nat := sget 0 ws (64 * g + n)
        let on := bitOf tt 7 = false ∨ d0.cell (64 * g) (iwC w) = true
        let sameDmb := m.data.dmbData = d0.dmbData ∧ m.data.dmbPar = d0.dmbPar ∧ m.data.dmbValid = d0.dmbValid
        let returns (v : Word) : Prop := m.data.pendRets = d0.pendRets ++
          [{ portKey := key, left := some 1, vis := none, word := some v, seqNo := d0.memSeq }]
        let stored (at_ : Nat) (v : Word) : Prop := ∀ k,
          sget 0 m.data.dmbData k = (if k = at_ then v else sget 0 d0.dmbData k) ∧
          sget 0 m.data.dmbPar k = (if k = at_ then BitVec.ofNat 8 (byteParity 8 v.toNat) else sget 0 d0.dmbPar k) ∧
          sget false m.data.dmbValid k = (if k = at_ then true else sget false d0.dmbValid k)
        let read (at_ : Nat) : Prop :=
          returns (if sget false d0.dmbValid at_ then sget 0 d0.dmbData at_ else 0) ∧ sameDmb ∧
          (sget false d0.dmbValid at_ = true → (sget 0 d0.dmbPar at_).toNat ≠ byteParity 8 (sget 0 d0.dmbData at_).toNat →
            b.ctl.mode.running = true → m.ctl.mode = .frozen ∧ m.ctl.cause = 0x0420)
        let others (y : Queue) : Prop := ∀ k, m.data.queue k = if k = dmb then y else d0.queue k
        -- the address, data and enable that the lanes supply
        ∀ (aw addr : Nat) (data : Word), addr < 2 ^ aw → (∀ n, n < aw → addr.testBit n = d0.cell (64 * g + n) (iwA (word n))) →
          (∀ n, n < 64 → data.getLsbD n = d0.cell (64 * g + n) (iwB (word n))) →
        -- DMBRD
        (iwOpc w = 5 →
          (mode = 0 → aw = 10 → read (dmb * 1024 + addr) ∧ m.data.queues = d0.queues) ∧
          (mode = 1 → bind ≠ 0 → q.dvCount ≠ 0 → read (dmb * 1024 + q.dvHead) ∧
            (on → others { q with head := (q.head + 1) % 1024, count := q.count - 1, dvHead := (q.dvHead + 1) % 1024, dvCount := q.dvCount - 1 }) ∧
            (¬ on → m.data.queues = d0.queues)) ∧
          (mode = 1 → bind ≠ 0 → q.dvCount = 0 → returns 0 ∧ sameDmb ∧ m.data.queues = d0.queues ∧
            m.reg rUnderruns = if bind = 1 ∧ on then min (b.reg rUnderruns + 1) (2 ^ 32 - 1) else b.reg rUnderruns) ∧
          (mode = 2 → bind ≠ 0 → q.dvHead < 1024 → q.dvTail < 1024 → q.dvCount < 4096 → sameDmb ∧ m.data.queues = d0.queues ∧
            ∃ v : Word, returns v ∧ bitsOf v.toNat 9 0 = q.dvHead ∧ bitsOf v.toNat 19 10 = q.dvTail ∧ bitsOf v.toNat 31 20 = q.dvCount ∧
              bitOf v.toNat 32 = decide (q.dvCount = 0) ∧ bitOf v.toNat 33 = decide (1024 ≤ q.dvCount) ∧
              bitOf v.toNat 34 = decide (descWm0 (d0.desc dmb) ≠ 0 ∧ descWm0 (d0.desc dmb) ≤ q.dvCount) ∧
              bitOf v.toNat 35 = decide (descWm1 (d0.desc dmb) ≠ 0 ∧ descWm1 (d0.desc dmb) ≤ q.dvCount) ∧
              bitsOf v.toNat 37 36 = bind ∧ bitsOf v.toNat 63 38 = 0) ∧
          (mode = 3 ∨ mode ≠ 0 ∧ bind = 0 → sameDmb ∧ m.data.queues = d0.queues ∧ m.data.pendRets = d0.pendRets)) ∧
        -- DMBWR
        (iwOpc w = 6 → m.data.pendRets = d0.pendRets ∧
          (on → mode = 0 → aw = 10 → stored (dmb * 1024 + addr) data ∧ m.data.queues = d0.queues) ∧
          (on → mode = 1 → bind ≠ 0 → bind ≠ 3 → q.count < 1024 → stored (dmb * 1024 + q.tail) data ∧
            others { q with tail := (q.tail + 1) % 1024, count := q.count + 1, dvTail := (q.dvTail + 1) % 1024, dvCount := q.dvCount + 1 }) ∧
          (on → mode = 1 → bind ≠ 0 → bind ≠ 3 → 1024 ≤ q.count → sameDmb ∧ m.data.queues = d0.queues ∧
            m.reg rOverruns = min (b.reg rOverruns + 1) (2 ^ 32 - 1)) ∧
          (on → mode = 1 → bind = 3 → q.count < 1024 → q.skid = [] → stored (dmb * 1024 + q.tail) data ∧
            others { q with tail := (q.tail + 1) % 1024, count := q.count + 1, dvTail := (q.dvTail + 1) % 1024, dvCount := q.dvCount + 1 }) ∧
          (on → mode = 1 → bind = 3 → 1024 ≤ q.count ∨ q.skid ≠ [] → sameDmb ∧
            others { q with dvTail := (q.dvTail + 1) % 1024, dvCount := q.dvCount + 1, skid := q.skid ++ [data] } ∧
            ∃ st ∈ m.seq.stalls, st.cause = .courierPush dmb) ∧
          (¬ on ∨ 2 ≤ mode ∨ mode = 1 ∧ bind = 0 → sameDmb ∧ m.data.queues = d0.queues)) ∧
        -- MEMRQ
        (iwOpc w = 7 → sameDmb ∧ m.data.queues = d0.queues ∧
          let win := (sget 0 d0.windows key).toNat
          let place := (winBase win + 8 * addr) % 2 ^ 37
          let issued (write : Bool) : Prop := ∃ x, m.data.memAccs = d0.memAccs ++ [x] ∧ x.portKey = key ∧ x.write = write ∧
            x.addr = place ∧ x.data = data ∧ x.seqNo = d0.memSeq ∧ (write = true → x.tag = some (sget 0 d0.portSeq key)) ∧
            (x.waiting = false → ∃ p, m.fabric.net = b.fabric.net ++ [p] ∧ p.op = (if write then 2 else 0) ∧ p.addr = place ∧
              p.dst = b.epHbm place ∧ x.tag = some p.tag ∧ (write = true → p.idata = data))
          let visible := step < iwW w ∧ iwW w ∈ rest
          let line (v : Option Word) : Prop := m.data.pendRets = d0.pendRets ++
            (if visible then [{ portKey := key, left := none, vis := some (iwW w), word := v, seqNo := d0.memSeq }] else [])
          (bad = [] → on → mode = 1 → aw = winAw win → issued true ∧ m.data.pendRets = d0.pendRets) ∧
          (bad = [] → on → mode = 0 → aw = winAw win → issued false ∧ line none) ∧
          (¬ on → mode = 0 → m.data.memAccs = d0.memAccs ∧ line (some 0)) ∧
          (¬ on → mode = 1 → m.data.memAccs = d0.memAccs ∧ m.data.pendRets = d0.pendRets) ∧
          (2 ≤ mode → m.data.memAccs = d0.memAccs ∧ m.data.pendRets = d0.pendRets))))

/-- R70, whole; the catch port of the word acts as in every instruction (R46). -/
def Obligations.WatchInstruction : Prop :=
  ∀ (d0 : Data) (p : Present) (ws : SMap Nat) (acc : LaneAcc) (bp w : Nat), laneWord ws bp w = w → iwOpc w = 0xC →
    let chain := acc.chain && acc.last + 1 == bp
    let acc' := laneStep d0 p ws acc (bp, w)
    let d := operandD d0 bp w chain
    let value := (iwTT w).testBit (b2n d * 8 + b2n (d0.cell bp (iwC w)) * 4 + b2n (d0.cell bp (iwB w)) * 2 + b2n (d0.cell bp (iwA w)))
    sget false acc'.d.watch bp = value ∧ (∀ k, k ≠ bp → sget false acc'.d.watch k = sget false acc.d.watch k) ∧
    acc'.bus = acc.bus ∧ acc'.chain = false ∧ acc'.xs = acc.xs ∧ acc'.ss = acc.ss ∧ acc'.halts = acc.halts ∧
    (∀ b c, ¬ (iwCsrc w ≠ 0 ∧ b * 2048 + c = bp * 2048 + iwCadr w) → acc'.d.cell b c = acc.d.cell b c)

/-- R22, R24, R74, R102, R106, R112, R145, R186, R195, R196, R197, R202, R207, R297, R373, R374, R385. The cycles of
the boundary commands are a DESIGN CHOICE (log entry 53); a partition in FROZEN or INSPECT is DEDUCED (log entry
207). That an event with no work of its kind under way changes nothing is a DESIGN CHOICE (log entry 3). -/
def Obligations.BoundaryCommands : Prop :=
  ∀ s : State,
    (s.mod.settle.ctl.mode.running = true → s.mod.settle.seq.phase = .drain →
      (s.mod.settle.drained = false → Completes (.drainComplete []) s (fun m => m = s.mod.settle)) ∧
      (s.mod.settle.drained = true → Completes (.drainComplete []) s (fun m =>
        m.seq.phase = .stitch ∧ m.trig.act = 0 ∧ m.stew.up = s.mod.stew.up + 9 ∧ m.stew.now = (s.mod.stew.pass 9).now ∧
        (s.mod.settle.seq.haltFirst ≠ none → m.ctl.freezeReq = true ∧ m.ctl.freezeCause = 0x0910))) ∧
      -- a latch frame that fails its parity
      (s.mod.settle.drained = true → ∀ bad, (∃ e ∈ bad, 8 ≤ e.1 ∧ e.1 ≤ 11) → Completes (.drainComplete bad) s (fun m =>
        m.ctl.mode = .frozen ∧ m.ctl.cause = 0x0240 ∧ m.ctl.resumable = false))) ∧
    -- LAUNCH
    (LaunchClear s.mod → ∀ chk,
      let a := s.mod
      let due := a.committing a.earliest
      Completes (.launch chk) s (fun m =>
        m.ctl.mode = a.ctl.mode ∧ m.ctl.prev = a.ctl.prev ∧
        m.ctl.stepLeft = (if a.ctl.mode = .step then a.ctl.stepLeft - 1 else a.ctl.stepLeft) ∧
        m.seq.folio = a.earliest ∧ m.seq.opening = false ∧ m.couriers.started = true ∧ m.seq.dclkHeld = [] ∧
        (∃ rs, walkRanges (a.segBits 8) (a.dispBits 8) m.seq.edges m.seq.dkey 256 0 none = some rs ∧
          m.seq.steps = rs.flatMap (fun r => (List.range (r.2 + 1 - r.1)).map (r.1 + ·)) ∧ (rs ≠ [] → m.seq.phase = .issuing)) ∧
        (∀ k, k < 64 → bitsOf (sget 0 m.seq.dclkCfg k) 30 29 = 0 →
          m.seq.edges.getLsbD k = (bitOf (sget 0 m.seq.dclkCfg k) 31 &&
            a.earliest % max 1 (bitsOf (sget 0x10000 m.seq.dclkTime k) 31 16) == bitsOf (sget 0x10000 m.seq.dclkTime k) 15 0)) ∧
        -- every slot that commits at the folio is applied, and no other changes
        (∀ i ∈ due, (m.slot i).state = 6) ∧ (due ≠ [] → .msix 2 ∈ m.outbox) ∧ (∀ i, i ∉ due → m.slot i = a.slot i) ∧
        -- without one, what slots act on stands; words that the dictionary wrote and pulses come into force
        (due = [] →
          m.data.dm = a.data.dm ∧ m.data.forces = a.data.forces ∧ m.data.fpoint = a.data.fpoint ∧ m.data.haltEn = a.data.haltEn ∧
          m.data.bankmap = a.data.bankmap ∧ m.data.shadow = a.data.shadow ∧ m.seq.dkey = a.seq.dkey ∧ m.trig.arm = a.trig.arm ∧
          m.data.dmbData = a.data.dmbData ∧ m.data.dmbValid = a.data.dmbValid ∧
          (∀ pre post k v, a.seq.dclkHeld = pre ++ (k, false, v) :: post → (∀ e ∈ post, ¬ (e.1 = k ∧ e.2.1 = false)) →
            sget 0 m.seq.dclkCfg k = v) ∧
          (∀ pre post k v, a.seq.dclkHeld = pre ++ (k, true, v) :: post → (∀ e ∈ post, ¬ (e.1 = k ∧ e.2.1 = true)) →
            sget 0x10000 m.seq.dclkTime k = v) ∧
          ∀ k, k < 64 → bitsOf (sget 0 m.seq.dclkCfg k) 30 29 = 1 ∨ bitsOf (sget 0 m.seq.dclkCfg k) 30 29 = 2 →
            (m.seq.edges.getLsbD k = true ↔ bitOf (sget 0 m.seq.dclkCfg k) 31 = true ∧
              (if a.inSystem then ∃ e ∈ a.txn.pulseCommit, e.1 = a.earliest ∧ e.2.getLsbD k = true
               else a.txn.pulses.getLsbD k = true ∧ ∃ e ∈ a.txn.pulseCommit, e.1 = a.earliest))) ∧
        -- one slot with one record
        ∀ i r, due = [i] → (a.slot i).records = [r] → a.seq.dclkHeld = [] →
          let kind := actKind r.toNat
          let sub := actSub r.toNat
          let t := actTarget r.toNat
          let v := actData r.toNat
          let bp := actBp t
          let cell := actCell t
          let sameBut (masked : Nat) : Prop := m.slot i = { a.slot i with state := 6, preImages := [], hbmwrOut := [], masked := masked }
          (kind ≠ 1 ∨ sub ≠ 0 → sameBut (a.slot i).masked) ∧
          -- DEPOSIT
          (kind = 1 → sub = 0 →
            (a.data.forced bp cell = none → sameBut (a.slot i).masked ∧ m.data.cell bp cell = bitOf v 0 ∧
              ∀ b c, b * 2048 + c ≠ bp * 2048 + cell → m.data.cell b c = a.data.cell b c) ∧
            (a.data.forced bp cell ≠ none → sameBut ((a.slot i).masked + 1) ∧ m.data.dm = a.data.dm)) ∧
          (kind = 1 → sub = 1 → ∀ k,
            sget 0 m.data.dmbData k = (if k = t % 2 ^ 22 then BitVec.ofNat 64 v else sget 0 a.data.dmbData k) ∧
            sget false m.data.dmbValid k = (if k = t % 2 ^ 22 then true else sget false a.data.dmbValid k)) ∧
          (kind = 1 → sub = 2 → ∀ k, sget true m.data.haltEn k = if k = t % 2 ^ 18 then bitOf v 0 else sget true a.data.haltEn k) ∧
          -- FORCE and RELEASE
          (kind = 2 → sub = 0 → ((sget [] a.data.forces bp).filter (fun f => f.cell != cell)).length < 8 →
            m.data.forced bp cell = some (bitOf v 0) ∧ m.data.cell bp cell = bitOf v 0 ∧
            (∀ b c, b * 2048 + c ≠ bp * 2048 + cell → m.data.cell b c = a.data.cell b c) ∧
            ∀ b c, ¬ (b = bp ∧ c = cell) → m.data.forced b c = a.data.forced b c) ∧
          (kind = 3 → sub = 0 → m.data.forced bp cell = none ∧ m.data.dm = a.data.dm ∧
            ∀ b c, ¬ (b = bp ∧ c = cell) → m.data.forced b c = a.data.forced b c) ∧
          (kind = 2 → sub = 1 → ∀ k, sget { armed := false, value := false } m.data.fpoint k =
            if k = t % 2 ^ 18 then { armed := true, value := bitOf v 0 } else sget { armed := false, value := false } a.data.fpoint k) ∧
          (kind = 3 → sub = 1 → ∀ k, sget { armed := false, value := false } m.data.fpoint k =
            if k = t % 2 ^ 18 then { armed := false, value := false } else sget { armed := false, value := false } a.data.fpoint k) ∧
          -- TIPIN: a swap-in and a restore exchange the banks of the quires of the set
          (∀ q qs, q < 4 → a.seq.dkey.length = 4 → (∀ x ∈ qs, x < 256) → qs.Nodup →
            (kind = 5 ∧ sub = 0 ∧ a.residentTip t = some (q, qs) ∧ nth 0x40 a.seq.dkey q = 0x40 ∧ (∀ x ∈ qs, a.shadowOf x = .ready t) ∨
              kind = 5 ∧ sub = 1 ∧ q = t % 4 ∧ (∃ q0, a.residentTip (nth 0x40 a.seq.dkey q) = some (q0, qs)) ∧ (∀ x ∈ qs, a.shadowOf x = .held q)) →
            nth 0x40 m.seq.dkey q = (if sub = 0 then t else 0x40) ∧ (∀ p, p ≠ q → nth 0x40 m.seq.dkey p = nth 0x40 a.seq.dkey p) ∧
            (∀ x ∈ qs, bankOf m.data x q = bankOf a.data x 4 ∧ bankOf m.data x 4 = bankOf a.data x q ∧
              (∀ p, p < 4 → p ≠ q → bankOf m.data x p = bankOf a.data x p) ∧
              m.shadowOf x = if sub = 0 then .held q else .ready (nth 0x40 a.seq.dkey q)) ∧
            ∀ x, x ∉ qs → (∀ p, bankOf m.data x p = bankOf a.data x p) ∧ m.shadowOf x = a.shadowOf x) ∧
          -- CLOCKSET, PULSE, ARM
          (kind = 6 → sub = 0 → sget 0 m.seq.dclkCfg (t % 64) = v) ∧
          (kind = 6 → sub = 1 → sget 0x10000 m.seq.dclkTime (t % 64) = v) ∧
          (kind = 6 → sub = 2 → bitOf (sget 0 a.seq.dclkCfg (t % 64)) 31 = true →
            bitsOf (sget 0 a.seq.dclkCfg (t % 64)) 30 29 = 1 ∨ bitsOf (sget 0 a.seq.dclkCfg (t % 64)) 30 29 = 2 →
            m.seq.edges.getLsbD (t % 64) = true) ∧
          (kind = 7 → sub = 0 → m.trig.arm = BitVec.ofNat 16 v))) ∧
    -- HBMWR actions of slots that committed after their release are written first
    (s.mod.ctl.mode.running = true → s.mod.seq.phase = .launching → ∀ chk,
      (s.mod.localWrites ≠ [] → Completes (.launch chk) s (fun m => m.seq = s.mod.seq ∧ m.data = s.mod.data ∧ ∀ i ∈ s.mod.localWrites, (m.slot i).state = 5)) ∧
      (s.mod.localWrites = [] → s.mod.writing = true → Completes (.launch chk) s (fun m => m = s.mod))) ∧
    (s.mod.ctl.mode = .step → s.mod.ctl.stepLeft = 0 → s.mod.seq.phase = .hold → Completes .stepComplete s (fun m =>
      m.ctl.mode = .idle ∧ m.ctl.prev = .step ∧ m.ctl.cause = 0)) ∧
    (65536 ≤ s.mod.seq.effFolios → Completes .effWindow s (fun m =>
      m.seq.effFolios = 0 ∧ m.seq.effE = 0 ∧
      m.reg rEffFactor = effFactor s.mod.seq.effE s.mod.seq.effS s.mod.seq.effB ∧
      m.reg rEffWorst = max (effFactor s.mod.seq.effE s.mod.seq.effS s.mod.seq.effB) (s.mod.reg rEffWorst))) ∧
    (∀ b seq (t : Token), InOrder s.mod b seq → s.mod.ctl.mode = .idle ∨ s.mod.ctl.mode.running = true → (t.frzorg, t.frzcode.toNat) ∉ s.mod.disc.floods →
      Completes (.freezeFlood b seq t) s (fun m => m.ctl.mode = .frozen ∧ m.ctl.cause = t.frzcode ∧ m.ctl.resumable = false ∧
        (t.frzorg, t.frzcode.toNat) ∈ m.disc.floods)) ∧
    (∀ b seq (t : Token), InOrder s.mod b seq → (t.frzorg, t.frzcode.toNat) ∈ s.mod.disc.floods →
      Completes (.freezeFlood b seq t) s (fun m => m = s.mod.prioNext b)) ∧
    (∀ b seq (t : Token), InOrder s.mod b seq → s.mod.ctl.mode = .frozen ∨ s.mod.ctl.mode = .inspect → (t.frzorg, t.frzcode.toNat) ∉ s.mod.disc.floods →
      Completes (.freezeFlood b seq t) s (fun m => m.ctl = { s.mod.ctl with resumable := false } ∧ (t.frzorg, t.frzcode.toNat) ∈ m.disc.floods)) ∧
    (s.mod.inSystem = true → s.mod.atStitch = true →
      (s.mod.ctl.mode = .idle ∨ s.mod.ctl.mode.running = true →
        Completes .partition s (fun m => m.ctl.mode = .frozen ∧ m.ctl.cause = 0x0923 ∧ m.ctl.resumable = false ∧ m.stew.partitioned = true ∧
          m.stew.partHeard = s.mod.seq.heard ∧ (s.mod.disc.modnum, 0x0923) ∈ m.disc.floods)) ∧
      -- a round at the hold point of a resumable freeze
      (s.mod.ctl.mode = .frozen ∨ s.mod.ctl.mode = .inspect →
        Completes .partition s (fun m => m.ctl = { s.mod.ctl with resumable := false } ∧ m.stew.partitioned = true ∧
          m.stew.partHeard = s.mod.seq.heard ∧ (s.mod.disc.modnum, 0x0923) ∈ m.disc.floods))) ∧
    -- together with a failure under the HALT policy it is logged beside it
    (s.mod.inSystem = true → s.mod.atStitch = false → s.mod.lockedInRound = true → Completes .partition s (fun m =>
      m.stew = (s.mod.log 0x0923 srcSteward [(4, s.mod.roundKind)]).stew ∧ m.ctl = s.mod.ctl)) ∧
    (s.mod.inSystem = false ∨ s.mod.atStitch = false ∧ s.mod.lockedInRound = false → Completes .partition s (fun m => m = s.mod))

/-- R105, R112, R113, R139, R140, R141, R142. That a head acts when it sends the release is DEDUCED (log entry 80),
as is a request that launches no folio on its release (log entry 84). -/
def Obligations.StitchCommands : Prop :=
  ∀ (s : State) (seq : Nat) (t : Token), s.mod.inSystem = true →
    (InOrder s.mod 0 seq → s.mod.stitches = true → s.mod.atStitch = false → s.mod.ringHead = false →
      Completes (.ringGather seq t) s (fun m => m.seq = { s.mod.seq with heldToken := some t })) ∧
    (s.mod.atStitch = true →
      (InOrder s.mod 0 seq → s.mod.ringHead = false → s.mod.seq.merged = false → Completes (.ringGather seq t) s (fun m =>
        m.seq.merged = true ∧ m.outbox = .token 10 (mergeTokens t (s.mod.ownToken 0)) :: s.mod.outbox)) ∧
      (InOrder s.mod 1 seq → s.mod.ringHead = true → s.mod.sysHead = false → ∀ r, s.mod.seq.ringResult = some r →
        Completes (.headGather seq t) s (fun m => m.seq.ringResult = none ∧
          m.outbox = .token 11 (mergeTokens t { r with members := BitVec.ofNat 16 (2 ^ s.mod.disc.ring) }) :: s.mod.outbox)) ∧
      (InOrder s.mod 1 seq → s.mod.ringHead = true → s.mod.sysHead = true → t.trig &&& s.mod.trig.arm = 0 →
        Completes (.headGather seq t) s (ReleaseEffect t s.mod)) ∧
      (InOrder s.mod 1 seq → s.mod.ringHead = true → s.mod.sysHead = false → Completes (.headRelease seq t) s (ReleaseEffect t s.mod)) ∧
      (InOrder s.mod 0 seq → s.mod.ringHead = false → s.mod.seq.merged = true → Completes (.ringRelease seq t) s (ReleaseEffect t s.mod)))

/-- R23, R112, R113, R114, R115, R116, R139, R280. The moment of a lone module's round is DEDUCED (log entry 40); how
PTP events are counted is a DESIGN CHOICE (log entry 89); what a merged event does is open (log entry 104). That an
event with no work of its kind under way changes nothing is a DESIGN CHOICE (log entry 3). -/
def Obligations.LoneRoundAndPacing : Prop :=
  (∀ (s : State) (n : Nat) (t : Token), s.mod.inSystem = false → s.mod.atStitch = true → s.mod.ctl.freezeReq = false → s.mod.trig.fired = 0 →
    (s.mod.ctl.target = 4 → s.mod.ctl.mode = .idle → Completes (.ringRelease n t) s (fun m => m.ctl.mode = .run ∧ m.ctl.target = 0)) ∧
    (s.mod.ctl.target = 3 → s.mod.ctl.mode.running = true → Completes (.ringRelease n t) s (fun m => m.ctl.mode = .idle ∧ m.ctl.target = 0)) ∧
    (s.mod.ctl.target = 5 → s.mod.ctl.mode = .idle → Completes (.ringRelease n t) s (fun m =>
      m.ctl.mode = .step ∧ m.ctl.stepLeft = s.mod.ctl.stepn)) ∧
    (s.mod.ctl.target = 6 → s.mod.ctl.mode = .idle → Completes (.ringRelease n t) s (fun m => m.ctl.mode = .paced ∧ m.seq.grants = 0 ∧
      m.seq.lastCad = none ∧
      -- the first PTP event is the first that is not past
      (0 < m.reg rCadPtpPeriod → m.stew.now ≤ m.reg rCadPtpStart + m.seq.cadK * m.reg rCadPtpPeriod ∧
        ∀ j, j < m.seq.cadK → m.reg rCadPtpStart + j * m.reg rCadPtpPeriod < m.stew.now))) ∧
    (s.mod.ctl.target = 0 → s.mod.ctl.mode.running = true → s.mod.departs = true → (∀ i, i < 16 → (s.mod.slot i).state ≠ 5) → (s.mod.ctl.mode = .paced → 0 < s.mod.seq.grants) →
      Completes (.ringRelease n t) s (fun m => m.seq.phase = .launching ∧ m.ctl = s.mod.ctl ∧ m.stew.up = s.mod.stew.up + 5 ∧ m.stew.now = (s.mod.stew.pass 5).now))) ∧
  (∀ s : State,
    let due := s.mod.reg rCadPtpStart + s.mod.seq.cadK * s.mod.reg rCadPtpPeriod ≤ s.mod.stew.now
    let granted (m : Module) : Prop := m.seq.grants = min (s.mod.seq.grants + s.mod.reg rPaceCfg % 256) 1023 ∧
      (1023 < s.mod.seq.grants + s.mod.reg rPaceCfg % 256 → bitOf (m.reg rPaceOverrun) 11 = true)
    (s.mod.paces = true →
      (∀ c, (c = .cadInEdge ∧ bitOf (s.mod.reg rPaceCfg) 8 = false ∧ (∀ t, s.mod.seq.lastCad = some t → t + 40 ≤ s.mod.stew.up)) ∨
          (c = .ptpCadenceEvent ∧ bitOf (s.mod.reg rPaceCfg) 8 = true ∧ due) →
        Completes c s (fun m =>
          m.seq.lastCad = some s.mod.stew.up ∧ m.seq.cadK = (if c = .cadInEdge then s.mod.seq.cadK else s.mod.seq.cadK + 1) ∧
          -- two cycles or more behind the last event on crossing 7
          ((∀ t, s.mod.pins.crossed = some t → t + 2 ≤ s.mod.stew.up) → granted m ∧ m.pins.crossed = some s.mod.stew.up) ∧
          -- else it merges with that event
          (∀ t, s.mod.pins.crossed = some t → s.mod.stew.up < t + 2 →
            m.reg rXmerged = min (s.mod.reg rXmerged + 1) (2 ^ 32 - 1) ∧ bitOf (m.reg rXoverrun) 7 = true ∧
            m.pins = s.mod.pins ∧ (m.seq.grants = s.mod.seq.grants ∨ granted m)))) ∧
      (∀ t, bitOf (s.mod.reg rPaceCfg) 8 = false → s.mod.seq.lastCad = some t → s.mod.stew.up < t + 40 →
        Completes .cadInEdge s (fun m => m = s.mod.satReg 32 rCadMerged 1)) ∧
      (¬ due → Completes .ptpCadenceEvent s (fun m => m = s.mod))) ∧
    -- the source that PACE_CFG does not name, and every event outside PACED
    (s.mod.paces = false ∨ bitOf (s.mod.reg rPaceCfg) 8 = true → Completes .cadInEdge s (fun m => m = s.mod)) ∧
    (s.mod.paces = false ∨ bitOf (s.mod.reg rPaceCfg) 8 = false → Completes .ptpCadenceEvent s (fun m => m = s.mod)))

/-- R103, R235, R236, R237, R249, R279, R280. Which events meet on crossing 7, and that a merged one acts or not, is
DEDUCED (log entry 104). -/
def Obligations.TriggerCommands : Prop :=
  (∀ s : State,
    (∀ pin rising,
      let levels (m : Module) : Prop := m.pins.trigLevel.getLsbD (pin % 8) = rising ∧
        ∀ j, j < 8 → j ≠ pin % 8 → m.pins.trigLevel.getLsbD j = s.mod.pins.trigLevel.getLsbD j
      -- the edge acts: it counts where it leads into the active level, and pulses the generators that name it
      let acts (m : Module) : Prop :=
        (∀ j, j < 8 → m.trig.pinEdges.getLsbD j =
          (s.mod.trig.pinEdges.getLsbD j || decide (j = pin % 8 ∧ rising ≠ bitOf (s.mod.reg (rTrigInCfg j)) 0))) ∧
        (∀ k, k < 64 →
          let c := sget 0 s.mod.seq.dclkCfg k
          let names := bitsOf c 30 29 = 2 ∧ bitsOf c 26 24 = pin % 8 ∧ bitOf c 28 = !rising
          (names → s.mod.pulseDue k = false → m.txn.pulses.getLsbD k = true) ∧
          (¬ names → m.txn.pulses.getLsbD k = s.mod.txn.pulses.getLsbD k))
      ((∀ t, s.mod.pins.crossed = some t → t + 2 ≤ s.mod.stew.up) →
        Completes (.trigInEdge pin rising) s (fun m => levels m ∧ acts m ∧ m.pins.crossed = some s.mod.stew.up)) ∧
      -- an edge that comes too soon merges in the crossing
      (∀ t, s.mod.pins.crossed = some t → s.mod.stew.up < t + 2 →
        Completes (.trigInEdge pin rising) s (fun m => levels m ∧ (m.trig = s.mod.trig ∧ m.txn = s.mod.txn ∨ acts m) ∧
          m.reg rXmerged = min (s.mod.reg rXmerged + 1) (2 ^ 32 - 1) ∧ bitOf (m.reg rXoverrun) 7 = true))) ∧
    (s.mod.ctl.mode = .idle ∨ s.mod.ctl.mode = .frozen → s.mod.pins.suppliesGood = true →
      Completes .trigClear s (fun m => m = ({ s.mod with trig := { s.mod.trig with fb := 0 } }).answer stOK)) ∧
    (s.mod.ctl.mode.running = true → s.mod.pins.suppliesGood = true → Completes .trigClear s (fun m => m = s.mod.answer stRefused)) ∧
    (∀ pin, pin < 8 → bitsOf (s.mod.reg (rTrigInCfg pin)) 31 16 ≠ 0 →
      bitsOf (s.mod.reg (rTrigInCfg pin)) 31 16 ≤ nth 0 s.mod.trig.pinCount pin → bitOf (s.mod.reg (rTrigInCfg pin)) 2 = false →
      Completes (.stuckInput pin) s (fun m => m.reg (rTrigInCfg pin) = s.mod.reg (rTrigInCfg pin) + 4 ∧
        m.stew = ((s.mod.setReg (rTrigInCfg pin) (s.mod.reg (rTrigInCfg pin) + 4)).log 0x0602 dieH [(3, pin)]).stew))) ∧
  (∀ (m : Module) (n k : Nat), k < 16 →
    ((m.evalTrigger n).trig.fired.getLsbD k =
      ((List.range 128).any (fun t => termHolds (m.reg (rTrigTerm t)) (m.trigInputs n + m.trig.fb.toNat * 2 ^ 64) &&
        bitOf (m.reg (rMcSelect k)) t) != bitOf (m.reg (rMcCfg k)) 0)) ∧
    (m.evalTrigger n).trig.fb.getLsbD k = ((m.evalTrigger n).trig.fired.getLsbD k && bitOf (m.reg (rMcCfg k)) 1))

/-- R242, R243, R244, R245. That a start that cannot fit is refused is DEDUCED, and that a CAP_WINDOWS of 0 counts as
one window a DESIGN CHOICE (log entry 70). -/
def Obligations.CaptureCommands : Prop :=
  ∀ s : State,
    (Served s.mod → ¬ (1 ≤ s.mod.trig.capState ∧ s.mod.trig.capState ≤ 3) →
      (s.mod.reg rCapMode = 1 ∧ capTooBig s.mod (max 1 (s.mod.reg rCapWindows)) (s.mod.reg rCapPre) (s.mod.reg rCapPost) = false ∨
        s.mod.reg rCapMode = 2 ∧ 4 ≤ s.mod.capSlotsNs) →
      Completes .capGoStart s (fun m => m.trig.capState = 1 ∧ m.trig.capFresh = true ∧ m.trig.capStop = false ∧
        m.trig.capWindow = 0 ∧ m.capNext = 0 ∧ m.reg rCapProd = 0 ∧ m.reg rCapCons = 0 ∧ m.reg rMissedTriggers = 0 ∧
        m.reg rCapFirstLoss = ones64 ∧ m.trig.capStream = decide (s.mod.reg rCapMode = 2) ∧
        m.stew = { s.mod.stew with lastStatus := 0 })) ∧
    -- capture off, no room for a stream, or a window that the region cannot hold
    (Served s.mod → s.mod.reg rCapMode = 0 ∨ s.mod.reg rCapMode = 2 ∧ s.mod.capSlotsNs < 4 ∨
        s.mod.reg rCapMode = 1 ∧ capTooBig s.mod (max 1 (s.mod.reg rCapWindows)) (s.mod.reg rCapPre) (s.mod.reg rCapPost) = true →
      Completes .capGoStart s (fun m => m = s.mod.answer stRefused)) ∧
    (Served s.mod → 1 ≤ s.mod.trig.capState ∧ s.mod.trig.capState ≤ 3 →
      Completes .capGoStart s (fun m => m = s.mod.answer stRefused)) ∧
    (Served s.mod → Completes .capGoStop s (fun m =>
      m = ({ s.mod with trig := { s.mod.trig with capStop := true } }).answer stOK)) ∧
    (s.mod.pastDrain = true → s.mod.capCloseDue s.mod.seq.folio = true → s.mod.trig.capQueue.length < 63 →
      Completes .capWindowClosed s (fun m =>
        m.trig.capQueue.length = s.mod.trig.capQueue.length + 1 ∧
        (if s.mod.trig.capWindow + 1 < s.mod.reg rCapWindows then m.trig.capState = 3 ∧ m.trig.capRearm = 2
         else m.trig.capState = 4))) ∧
    (s.mod.pastDrain = true → s.mod.trig.capState = 3 → s.mod.trig.capRearm = 0 → Completes .capRearmDone s (fun m =>
      m.trig = { s.mod.trig with capState := 1, capWindow := s.mod.trig.capWindow + 1, capA := s.mod.seq.folio + 1,
                                 capMarks := 0, capLines := 0 }))

/-- R247, R248, R249. That clearing EN is taken in every mode is DEDUCED (log entry 71). -/
def Obligations.MaskCommands : Prop :=
  (∀ s : State,
    (Served s.mod → ∀ v : Byte, bitOf v.toNat 0 = false → Completes (.maskCtrlWrite v) s (fun m =>
      m.reg rMaskCtrl = v.toNat % 4 ∧ m.stew.lastStatus = 0 ∧
      (if s.mod.trig.maskState = 1 ∨ s.mod.trig.maskState = 2 then m.trig = { s.mod.trig with maskEnd := true }
       else m.trig = { s.mod.trig with maskState := 0 }))) ∧
    (Served s.mod → ∀ v : Byte, bitOf v.toNat 0 = true → s.mod.ctl.mode ≠ .idle →
      Completes (.maskCtrlWrite v) s (fun m => m = s.mod.answer stMode)) ∧
    (Served s.mod → ∀ v : Byte, bitOf v.toNat 0 = true → s.mod.ctl.mode = .idle →
      s.mod.trig.maskState ≠ 1 → s.mod.trig.maskState ≠ 2 → s.mod.image.maskSlots ≠ 0 →
      regBaseB s.mod.image.design ≤ s.mod.reg rMaskBase →
      s.mod.reg rMaskBase + s.mod.reg rMaskCount * s.mod.maskLen ≤ regBaseB s.mod.image.design + regSizeB s.mod.image.design →
      Completes (.maskCtrlWrite v) s (fun m =>
        m.reg rMaskCtrl = v.toNat % 4 ∧ m.trig.maskState = 1 ∧ m.trig.maskEnd = false ∧ m.stew.lastStatus = 0))) ∧
  (∀ (m : Module) (n exp care : Nat), m.trig.maskEnd = false → m.maskEn = true → m.trig.maskState = 2 →
    m.trig.maskRecs.find? (fun r => r.1 == n) = some (n, exp, care) →
    let bits := care &&& (exp ^^^ m.slotBits m.image.masks m.image.maskSlots)
    (bits ≠ 0 → (m.maskCompare n).ctl = { m.ctl with freezeReq := true, freezeCause := (if m.ctl.freezeReq = true ∧ m.ctl.freezeCause = 0x0910 then 0x0910 else 0x0603) } ∧
      (m.maskCompare n).trig.maskFailBits = bits ∧ (m.maskCompare n).reg rMaskFailFolio = n ∧
      (m.maskCompare n).reg rMaskFailCount = popN 1024 bits) ∧
    (bits = 0 → (m.maskCompare n).ctl = m.ctl ∧ (m.maskCompare n).regs = m.regs ∧ (m.maskCompare n).stew = m.stew))

/-- R250, R252, R253, R254, R255, R256, R257, R259, R260, R261. The addresses in packets that no row names are free
(log entry 61); FOLIO of a SYNC outside a walk (log entry 192), the first DELTA (log entry 193) and TRACE_GO 2 and 3
without trace (log entry 194) are a DESIGN CHOICE; the order of the sources at a stop is DEDUCED (log entry 62). That
an event with no work of its kind under way changes nothing is a DESIGN CHOICE (log entry 3). -/
def Obligations.TraceCommands : Prop :=
  (∀ s : State,
    let a := s.mod
    let held (src : Nat) : TraceSrc := { a.source src with bits := [] }
    -- the body of a class B BRANCH that holds the bits of a source
    let branch (bits : List Bool) (n : Nat) : Prop := n < 2 ^ 88 ∧ ∀ i, n.testBit i = bits.getD i false
    (Served a → a.image.trace % 65536 ≠ 0 → a.reg rTraceCtrl % 4 ≠ 0 → a.trace.state ≠ 1 → a.trace.state ≠ 2 →
      Completes .traceGoStart s (fun m => m.trace.state = 1 ∧ m.trace.fifo = [] ∧ m.trace.stopReq = false ∧
        (∀ src, src = 0 ∨ 0x20 ≤ src ∧ src < 0x40 →
          (m.source src).needSync = true ∧ (m.source src).last = a.seq.cycle ∧ (m.source src).lastFolio = a.seq.folio ∧
          (m.source src).lost = 0 ∧ (m.source src).bits = []) ∧
        m.reg rTraceWptr = 0 ∧ m.reg rTraceTrigFolio = ones64 ∧ m.reg rTraceDroppedA = 0 ∧ m.reg rTraceDroppedB = 0 ∧
        m.stew.lastStatus = 0)) ∧
    (Served a → a.image.trace % 65536 = 0 ∨ a.reg rTraceCtrl % 4 = 0 ∨ a.trace.state = 1 ∨ a.trace.state = 2 →
      Completes .traceGoStart s (fun m => m = a.answer stRefused)) ∧
    (Served a → a.tracing = true → Completes .traceGoStop s (fun m =>
      m = ({ a with trace := { a.trace with stopReason := 1 } }).answer stOK)) ∧
    (Served a → a.tracing = false → Completes .traceGoStop s (fun m => m = a.answer stOK)) ∧
    (Served a → Completes .traceGoSync s (fun m => (∀ e ∈ m.trace.sources, e.2.needSync = true) ∧
      m.trace.sources.map (·.1) = a.trace.sources.map (·.1) ∧ m.trace.fifo = a.trace.fifo ∧ m.stew.lastStatus = 0)) ∧
    -- TRACE_STOPPED: the FIFO, GAP and SYNC of the sources that lost packets, STOP, and PAD to the end of the last sector
    (a.trace.stopReq = true → a.trace.Ok → Completes .traceStopped s (fun m =>
      m.trace.state = 3 ∧ m.trace.fifo = [] ∧ m.trace.sources = [] ∧ m.trace.stopReq = false ∧ m.hbm = a.hbm ∧
      ∃ gaps pads : List (BitVec 128),
        let lost := a.trace.sources.filter (fun e => e.2.lost != 0)
        let stop := packetBits 1 5 0 (a.trace.stopReason * 2 ^ 64 + a.trace.lastFolio % 2 ^ 64)
        let all := a.trace.fifo ++ gaps ++ [stop] ++ pads
        gaps.length = 2 * lost.length ∧
        (∀ i src x, lost[i]? = some (src, x) →
          gaps[2 * i]? = some (packetBits src 3 (a.seq.cycle - x.last) (x.lost * 2 ^ 63)) ∧
          ∃ addr, gaps[2 * i + 1]? = some (packetBits src 2 0 (addr * 2 ^ 71 + a.seq.folio % 2 ^ 64))) ∧
        all.length % 4 = 0 ∧ pads.length < 4 ∧ (∀ p ∈ pads, p = packetBits 1 7 0 0) ∧
        (a.image.trace % 65536 = 0 → m.fabric.net = a.fabric.net) ∧
        (a.image.trace % 65536 ≠ 0 →
          let slots := a.image.trace % 65536 * 2 ^ 22
          let place (i : Nat) : Nat := a.image.trace / 65536 * 67108864 + 16 * ((a.reg rTraceWptr + 4 * i) % slots)
          m.reg rTraceWptr = a.reg rTraceWptr + all.length ∧
          ∃ new : List Sys2Proof.Packet, m.fabric.net = a.fabric.net ++ new ∧ new.length = all.length / 4 ∧
            ∀ i p, new[i]? = some p → p.op = opPWR ∧ p.pri = 0 ∧ p.src = a.epFunnel ∧ p.len = 2 ∧
              p.addr = place i ∧ p.dst = a.epHbm (place i) ∧
              p.data = [nth 0 all (4 * i + 1) ++ nth 0 all (4 * i), nth 0 all (4 * i + 3) ++ nth 0 all (4 * i + 2)]))) ∧
    (a.trace.stopReq = false → Completes .traceStopped s (fun m => m = a)) ∧
    (a.tracing = true →
      (∀ core n addr', addr' = 0x20 + core % 32 → branch (a.source addr').bits n →
        Completes (.traceBranchTimeout core) s (fun m => (m.source addr').bits = [] ∧
          ((a.source addr').bits = [] → m.trace = a.trace) ∧
          ((a.source addr').bits ≠ [] → ∃ addr, Emitted addr' (a.admits addr') (held addr') 0 ((a.source addr').bits.length * 2 ^ 88 + n) addr
            (a.source addr').atFolio (a.source addr').lastAt a.trace.fifo (m.source addr') m.trace.fifo))) ∧
      (∀ src n, src ≠ 1 → branch (a.source src).bits n →
        let x := a.source src
        let t := x.last + 0xFFFFFF
        let room := a.trace.fifo.length < a.admits src
        let sync (delta addr : Nat) : BitVec 128 := packetBits src 2 delta (addr * 2 ^ 71 + a.seq.folio % 2 ^ 64)
        let gap (t : Nat) : BitVec 128 := packetBits src 3 (t - x.last) (x.lost * 2 ^ 63)
        let synced (x : TraceSrc) (t : Nat) : TraceSrc := { x with last := t, lost := 0, sinceSync := 0, needSync := false, lastFolio := a.seq.folio }
        let emitted (m : Module) : Prop := ∃ addr, Emitted src (a.admits src) (held src) 0 (x.bits.length * 2 ^ 88 + n) addr
          x.atFolio x.lastAt a.trace.fifo (m.source src) m.trace.fifo
        (a.sourceOn src = true → a.sourceHalted src = false → sfind a.trace.sources src ≠ none →
          Completes (.traceDeltaLimit src) s (fun m =>
            (x.lost = 0 → x.bits = [] → room → m.source src = synced x t ∧ ∃ addr, m.trace.fifo = a.trace.fifo ++ [sync 0xFFFFFF addr]) ∧
            (x.lost = 0 → x.bits = [] → ¬ room → m.source src = { x with lost := 1 } ∧ m.trace.fifo = a.trace.fifo) ∧
            (x.lost = 0 → x.bits ≠ [] → ∃ addr y f, Emitted src (a.admits src) (held src) 0 (x.bits.length * 2 ^ 88 + n) addr
                x.atFolio x.lastAt a.trace.fifo y f ∧
              (f.length < a.admits src → m.source src = { synced y t with lost := y.lost } ∧ m.trace.fifo = f ++ [sync (t - y.last) addr]) ∧
              (a.admits src ≤ f.length → m.source src = { y with lost := min (y.lost + 1) (2 ^ 32 - 1) } ∧ m.trace.fifo = f)) ∧
            (0 < x.lost → x.bits = [] → a.trace.fifo.length + 1 < a.admits src → m.source src = synced x t ∧
              ∃ addr, m.trace.fifo = a.trace.fifo ++ [gap t, sync 0 addr]) ∧
            (0 < x.lost → x.bits ≠ [] → a.trace.fifo.length + 1 < a.admits src → emitted m) ∧
            (0 < x.lost → a.admits src ≤ a.trace.fifo.length + 1 → m.trace = a.trace))) ∧
        (a.sourceOn src = false ∨ a.sourceHalted src = true → Completes (.traceDeltaLimit src) s (fun m => m = a)) ∧
        Completes (.traceGap src) s (fun m =>
          (0 < x.lost → x.bits = [] → a.trace.fifo.length + 1 < a.admits src → m.source src = synced x a.seq.cycle ∧
            ∃ addr, m.trace.fifo = a.trace.fifo ++ [gap a.seq.cycle, sync 0 addr]) ∧
          (0 < x.lost → x.bits ≠ [] → a.trace.fifo.length + 1 < a.admits src → emitted m) ∧
          (x.lost = 0 ∨ a.admits src ≤ a.trace.fifo.length + 1 → m.trace = a.trace))) ∧
      -- class B
      (bitOf (a.reg rTraceCtrl) 1 = true → ∀ core pc, bitOf (a.reg rTraceCores) (core % 32) = true →
        a.couriers.run.getLsbD (core % 32) = true →
        let src := 0x20 + core % 32
        let x := a.source src
        (∀ taken, x.bits.length < 87 → Completes (.classBTrace core pc (.branch taken)) s (fun m =>
          m.source src = { x with bits := x.bits ++ [taken], firstAt := (if x.bits = [] then a.seq.cycle else x.firstAt), lastAt := a.seq.cycle, atFolio := a.seq.folio } ∧
          m.trace.fifo = a.trace.fifo)) ∧
        -- the 88th bit ends the packet
        (∀ taken n, x.bits.length = 87 → branch (x.bits ++ [taken]) n → Completes (.classBTrace core pc (.branch taken)) s (fun m =>
          Emitted src 512 { x with bits := [], lastAt := a.seq.cycle, atFolio := a.seq.folio } 0 (88 * 2 ^ 88 + n) pc a.seq.folio a.seq.cycle
            a.trace.fifo (m.source src) m.trace.fifo)) ∧
        -- TARGET, behind the BRANCH that holds the bits
        (∀ xfer addr n, branch x.bits n → Completes (.classBTrace core pc (.transfer xfer addr)) s (fun m =>
          let body := addr % 2 ^ 18 * 2 ^ 71 + xfer % 4 * 2 ^ 69
          (x.bits = [] → Emitted src 512 x 1 body pc a.seq.folio a.seq.cycle a.trace.fifo (m.source src) m.trace.fifo ∧
            (512 ≤ a.trace.fifo.length → 0 < x.lost → m.reg rTraceDroppedB = min (a.reg rTraceDroppedB + 1) (2 ^ 32 - 1))) ∧
          (x.bits ≠ [] → ∃ y f, Emitted src 512 (held src) 0 (x.bits.length * 2 ^ 88 + n) pc x.atFolio x.lastAt a.trace.fifo y f ∧
            Emitted src 512 y 1 body pc a.seq.folio a.seq.cycle f (m.source src) m.trace.fifo)))))) ∧
  -- class A: the packets of a walk, where none is due ahead of them and the FIFO has room
  (∀ (m : Module) (folio : Nat), m.tracing = true → bitOf (m.reg rTraceCtrl) 0 = true → (m.trace.state = 1 ∨ folio ≤ m.traceEnd) →
    (m.source 0).lost = 0 → (m.source 0).needSync = false → (m.source 0).sinceSync < 255 → m.trace.fifo.length + 2 ≤ m.admits 0 →
    let branch (delta count bits : Nat) : BitVec 128 :=
      packetBits 0 0 delta (count * 2 ^ 88 + (folio - (m.source 0).lastFolio) % 2 ^ 24 * 2 ^ 64 + bits)
    let delta := m.seq.cycle - (m.source 0).last
    -- a walk that meets EDGE words alone
    (∀ (es : List (Nat × Bool)) n, es ≠ [] → es.length < 64 → n < 2 ^ 64 → (∀ i, n.testBit i = (es.map (·.2)).getD i false) →
      (m.traceWalk folio (es.map (fun e => .edge e.1 e.2))).trace.fifo = m.trace.fifo ++ [branch delta es.length n]) ∧
    -- a walk whose first word recorded is a JUMP
    (∀ i target q key, target ≤ 256 → q < 4 → key < 128 →
      (m.traceWalk folio [.jump i target q key]).trace.fifo =
        m.trace.fifo ++ [branch delta 0 0, packetBits 0 1 0 (target * 2 ^ 71 + q * 2 ^ 69 + key * 2 ^ 62)]))

/-- R188, R189, R190, R191, R192, R284. What SUBMIT itself finds is reported at TXN_VALIDATED (log entry 150). -/
def Obligations.SlotCommands : Prop :=
  ∀ (s : State) (i : Nat), s.mod.ctl.mode ≠ .lockdown → i < s.mod.txn.slots.length →
    let sl := s.mod.slot i
    (s.mod.pulseSlot i = false → sl.state = 0 → ∀ scope, Completes (.txnOpen i scope) s (fun m =>
      OneSlot s.mod m i { sl with state := 1, scope := scope, refused := false, reason := 0 } ∧ KeptBut [.txn] s.mod m)) ∧
    (s.mod.pulseSlot i = true → sl.state ≠ 7 → ∀ scope, Completes (.txnOpen i scope) s (fun m =>
      OneSlot s.mod m i { sl with refused := true, reason := 0x0016#16 } ∧ KeptBut [.txn] s.mod m)) ∧
    (sl.state = 1 → ∀ whenMode count, Completes (.txnSubmit i whenMode count) s (fun m =>
      (m.slot i).state = 2 ∧ (m.slot i).refused = false ∧ (m.slot i).records = (List.range count).map (sget 0 sl.winRecords) ∧
      (m.slot i).blocks = sl.winBlocks ∧ (whenMode ≠ 2 → (m.slot i).whenMode = whenMode ∧ (m.slot i).when_ = sl.txnWhen) ∧
      (∀ j, j ≠ i → m.slot j = s.mod.slot j) ∧ KeptBut [.txn] s.mod m)) ∧
    (1 ≤ sl.state ∧ sl.state ≤ 3 → Completes (.txnCancel i) s (fun m =>
      OneSlot s.mod m i ({ sl with refused := false }.abort 0x0012 0) ∧ (m.slot i).state = 7 ∧
      m.data = s.mod.data ∧ m.outbox = .msix 2 :: s.mod.outbox)) ∧
    (sl.state = 6 ∨ sl.state = 7 → Completes (.txnClose i) s (fun m =>
      OneSlot s.mod m i { Slot.init with winRecords := sl.winRecords, winBlocks := sl.winBlocks, txnWhen := sl.txnWhen } ∧
      KeptBut [.txn] s.mod m)) ∧
    -- a command that the slot's state does not take
    (∀ c, (c = .txnOpen i false ∨ c = .txnOpen i true) ∧ s.mod.pulseSlot i = false ∧ sl.state ≠ 0 ∨
        (∃ w k, c = .txnSubmit i w k) ∧ sl.state ≠ 1 ∨ c = .txnCancel i ∧ ¬ (1 ≤ sl.state ∧ sl.state ≤ 3) ∨
        c = .txnClose i ∧ sl.state ≠ 6 ∧ sl.state ≠ 7 →
      Completes c s (fun m => OneSlot s.mod m i { sl with refused := true } ∧ KeptBut [.txn] s.mod m))

/-- R190, R191, R194, R195, R199. That what SUBMIT itself finds is reported here is DEDUCED (log entry 150). -/
def Obligations.SlotValidation : Prop :=
  ∀ (s : State) (i : Nat), i < s.mod.txn.slots.length → (s.mod.slot i).state = 2 →
    let sl := s.mod.slot i
    let commit := if sl.scope then none else s.mod.commitFolio sl
    let fault := s.mod.firstFault i sl.scope commit (sl.records.map (·.toNat)) [] 0
    let aborted (reason at_ : Nat) : Prop := Completes (.txnValidated i) s (fun m =>
      OneSlot s.mod m i (sl.abort reason at_) ∧ m.data = s.mod.data ∧ m.outbox = .msix 2 :: s.mod.outbox)
    (sl.early ≠ 0 → aborted sl.early 0) ∧
    (sl.early = 0 → ∀ reason at_, fault = some (reason, at_) → aborted reason at_) ∧
    (sl.early = 0 → fault = none → sl.scope = true → Completes (.txnValidated i) s (fun m =>
      OneSlot s.mod m i { sl with state := 3 } ∧ KeptBut [.txn] s.mod m)) ∧
    (sl.early = 0 → fault = none → sl.scope = false → ∀ n, s.mod.commitFolio sl = some n → Completes (.txnValidated i) s (fun m =>
      OneSlot s.mod m i { sl with state := 4, folio := some n } ∧ s.mod.earliest ≤ n ∧ KeptBut [.txn] s.mod m)) ∧
    (sl.early = 0 → fault = none → sl.scope = false → s.mod.commitFolio sl = none → aborted 0x0011 0)

/-- R203, R204, R206, R207, R274, R346. A preload of what is not resident is DEDUCED to be refused (log entry 68);
the refusal for an APPLYING slot is a DESIGN CHOICE (log entry 191); the check code of a failed sector is open (log
entry 69). -/
def Obligations.PreloadCommands : Prop :=
  ∀ s : State,
    (∀ key quarter quires discard, Served s.mod → s.mod.txn.preload = none →
      s.mod.residentTip key = some (quarter, quires) → s.mod.tipPending quires = false →
      (discard = true ∨ ∀ q ∈ quires, ∀ k, s.mod.shadowOf q ≠ .held k) →
      Completes (.tipPreload key discard) s (fun m =>
        m.txn = { s.mod.txn with preload := some { key := key, quarter := quarter, quires := quires }, tipQuarter := quarter } ∧
        (∀ q ∈ quires, m.shadowOf q = .empty) ∧ (∀ q, q ∉ quires → m.shadowOf q = s.mod.shadowOf q) ∧
        m.reg rTipStatus % 4 = 1 ∧ m.stew.lastStatus = 0)) ∧
    (∀ quarter discard tip quires, Served s.mod → s.mod.txn.preload = none → s.mod.load.staged = true →
      s.mod.residentTip (nth 0x40 s.mod.seq.dkey (quarter % 4)) = some (tip, quires) → s.mod.tipPending quires = false →
      (discard = true ∨ ∀ q ∈ quires, ∀ k, s.mod.shadowOf q ≠ .held k) →
      Completes (.tipPreloadImage quarter discard) s (fun m =>
        m.txn = { s.mod.txn with preload := some { key := 0x40, quarter := quarter % 4, quires := quires }, tipQuarter := quarter % 4 } ∧
        (∀ q ∈ quires, m.shadowOf q = .empty) ∧ (∀ q, q ∉ quires → m.shadowOf q = s.mod.shadowOf q) ∧
        m.reg rTipStatus % 4 = 1 ∧ m.stew.lastStatus = 0)) ∧
    (∀ key quarter quires, Served s.mod → s.mod.residentTip key = some (quarter, quires) →
      (s.mod.txn.preload.isSome = true ∨ s.mod.tipPending quires = true ∨ ∃ q ∈ quires, ∃ k, s.mod.shadowOf q = .held k) →
      Completes (.tipPreload key false) s (fun m => m = s.mod.answer stRefused)) ∧
    (∀ p, s.mod.txn.preload = some p → s.mod.ctl.mode ≠ .lockdown → s.mod.tagsOut s.mod.epEngine = false →
      let ss := s.mod.preloadSectors p
      let others (m : Module) : Prop := m.txn.preload = none ∧ ∀ q, q ∉ p.quires → m.shadowOf q = s.mod.shadowOf q
      let fails (check : Option Nat) (m : Module) : Prop :=
        others m ∧ (∀ q ∈ p.quires, m.shadowOf q = .empty) ∧ { m.data with shadow := s.mod.data.shadow } = s.mod.data ∧
        m.reg rTipStatus % 65536 = (p.key * 4 + 3) % 65536 ∧ ∀ c ∈ check, m.reg rTipStatus / 65536 = c % 65536 + (p.key * 4 + 3) / 65536
      -- the sectors stand: the words read decide
      (TreeWhole s.mod ss →
        let a := (s.mod.readSectors .good ss s.mod.epEngine).2
        let img := a.readImage
        let code := if p.key = 0x40 then (firstFail ((Module.baseFails img p).map quireFail)).map (·.code)
          else firstTipFail (tipFails (img.env (walksOf img.seg img.disp img.tipKeys)) img a.lostList (a.tipImage p.key))
        (∀ c, code = some c → Completes (.tipPreloadDone .good) s (fails (some c))) ∧
        (code = none → Completes (.tipPreloadDone .good) s (fun m =>
          others m ∧ (∀ q ∈ p.quires, m.shadowOf q = if p.key = 0x40 then .held p.quarter else .ready p.key) ∧
          m.reg rTipStatus % 65536 = (p.key * 4 + 2) % 65536 ∧
          { m.data with shadow := s.mod.data.shadow } =
            if p.key = 0x40 then p.quires.foldl (fun d q => rewriteBank img q p.quarter (bankOf d q 4) d) s.mod.data
            else p.quires.foldl (loadSlice (a.tipImage p.key)) s.mod.data))) ∧
      -- a sector that has been written fails its check
      ((∃ k ∈ ss, sget 0 s.mod.hbm.ctr k ≠ 0) → ∀ kind, kind ≠ 2 →
        (s.mod.reg rMemPolicy % 2 = 1 → Completes (.tipPreloadDone (.failed kind)) s (fails none)) ∧
        (s.mod.reg rMemPolicy % 2 = 0 → s.mod.resetHeld = false → s.mod.load.epochStage = false → s.mod.load.epochDesign = false →
          Completes (.tipPreloadDone (.failed kind)) s (fun m => m.ctl.mode = .lockdown)))) ∧
    -- without a free tag the reads are held
    (∀ chk, s.mod.tagsOut s.mod.epEngine = true → Completes (.tipPreloadDone chk) s (fun m => m = s.mod))

/-- R25, R28, R36, R47, R150, R158, R208, R209, R411, R420. The words of the built-in tip-ins are free (log entry
171); the level of an input pad is an operand (log entries 74, 58). -/
def Obligations.InspectionReads : Prop :=
  ∀ (s : State) (t : BitVec 32), PageReads s.mod →
    let n := t.toNat
    let a := s.mod
    -- a word of a bank: the image's, or that of the built-in tip-in that has displaced it (R25)
    let im (key : Nat) : ImWord := match a.data.builtinIm with
      | none => sget { word := 0, par := 0 } a.data.im key
      | some k => imWord (Config.builtinWord k 0 key)
    (n < 2 ^ 29 → Completes (.inspReadDm 0 t 0) s (Responds 0
      (b2n (a.data.cell (n / 2048) (n % 2048)) + 2 * b2n (a.data.forced (n / 2048) (n % 2048)).isSome) a)) ∧
    (n < 2 ^ 29 →
      let w := im ((n / 2048 * 5 + bankOf a.data (n / 2048 / 1024) (n % 2048 / 512)) * 512 + n % 512)
      Completes (.inspReadIm 0 t 0) s (Responds (if w.par.toNat = byteParity 12 w.word.toNat then 0 else 6)
        (w.par.toNat * 2 ^ 96 + w.word.toNat) a)) ∧
    (n < 2 ^ 29 → n % 2048 < 512 →
      let w := im ((n / 2048 * 5 + bankOf a.data (n / 2048 / 1024) 4) * 512 + n % 512)
      Completes (.inspReadShadow 0 t 0) s (Responds (if w.par.toNat = byteParity 12 w.word.toNat then 0 else 6)
        (w.par.toNat * 2 ^ 96 + w.word.toNat) a)) ∧
    (n < 2 ^ 22 →
      let w := (sget 0 a.data.dmbData n).toNat
      let stored := (sget 0 a.data.dmbPar n).toNat
      let valid := sget false a.data.dmbValid n
      (valid = false ∨ stored = byteParity 8 w →
        Completes (.inspReadDmb 0 t 0) s (Responds 0 (b2n valid * 2 ^ 73 + byteParity 8 w * 2 ^ 65 + w) a) ∧
        Completes (.inspReadDmb 0 t 1) s (Responds 0 (stored * 2 ^ 64 + w) a)) ∧
      (valid = true → stored ≠ byteParity 8 w → Completes (.inspReadDmb 0 t 1) s (fun m =>
        m.txn.inspStatus = 6#8 ∧ m.txn.inspValue = BitVec.ofNat 120 (stored * 2 ^ 64 + w) ∧ m.data = a.data))) ∧
    (n < 2 ^ 31 → n % 2048 < 64 → (n < 2 ^ 30 → n % 2048 < 30) → Completes (.inspReadSchedule 0 t 0) s (Responds 0
      (let key := (n / 2 ^ 22 % 256 * 5 + bankOf a.data (n / 2 ^ 22 % 256) (n / 2 ^ 11 % 2048 / 512 % 4)) * 512 + n / 2 ^ 11 % 512
       (match a.data.builtinIm with
        | none => (sget { bits := 0, par := 0 } (if n < 2 ^ 30 then a.data.xbar else a.data.spine) key).bits
        | some k => Config.builtinWord k (if n < 2 ^ 30 then 1 else 2) key) / 2 ^ (64 * (n % 64)) % 2 ^ 64) a)) ∧
    (n < 2 ^ 18 → Completes (.inspReadBpControls 0 t 0) s (Responds 0
      (b2n (sget false a.data.watch n) + 2 * b2n (sget true a.data.haltEn n) +
        4 * b2n (sget { armed := false, value := false } a.data.fpoint n).armed +
        8 * b2n (sget { armed := false, value := false } a.data.fpoint n).value + 16 * (sget [] a.data.forces n).length) a)) ∧
    (n < 2 ^ 12 → Completes (.inspReadQueue 0 t 0) s (Responds 0 (a.physStatus n) a)) ∧
    -- the pad: the level driven on it, else the one brought to it, and 0 in a bank without power
    (n < 2 ^ 18 → n / 16 % 4 = 0 → ∀ ext, Completes (.inspReadIoCell 0 t 0 ext) s (Responds 0
      (let k := n / 64 * 16 + n % 16
       let pad := match a.data.cellPad k with
        | some p => a.padPowered p && (sget none a.data.padOut p).getD ext
        | none => ext
       b2n (sget false a.data.ioData k) + 2 * b2n (sget false a.data.ioEn k) + 4 * b2n pad) a))

/-- R41, R72, R75, R150, R153, R197, R208, R209, R332. The statement is of INSPECT after WREN. -/
def Obligations.InspectionWrites : Prop :=
  ∀ (s : State) (t : BitVec 32) (d : Word), PageWrites s.mod →
    let n := t.toNat
    let bp := n / 2048
    let cell := n % 2048
    let a := s.mod.data
    (n < 2 ^ 29 → d.toNat ≤ 1 → a.forced bp cell = none → Completes (.inspWriteDm 0 t d) s
      (Wrote (a.putCell bp cell (d.getLsbD 0)) s.mod)) ∧
    (n < 2 ^ 29 → d.toNat ≤ 1 → a.forced bp cell ≠ none → Completes (.inspWriteDm 0 t d) s (Responds 3 0 s.mod)) ∧
    (n < 2 ^ 22 → Completes (.inspWriteDmb 0 t d) s (Wrote { a with dmbData := sset 0 a.dmbData n d, dmbPar := sset 0 a.dmbPar n (BitVec.ofNat 8 (byteParity 8 d.toNat)), dmbValid := sset false a.dmbValid n true } s.mod)) ∧
    (n < 2 ^ 30 → Completes (.inspParityTest 0 t d) s (Wrote { a with dmbData := sset 0 a.dmbData (n % 2 ^ 22) d, dmbPar := sset 0 a.dmbPar (n % 2 ^ 22) (BitVec.ofNat 8 (n / 2 ^ 22)), dmbValid := sset false a.dmbValid (n % 2 ^ 22) true } s.mod)) ∧
    (n < 2 ^ 29 → d.toNat ≤ 1 → ((sget [] a.forces bp).filter (fun f => f.cell != cell)).length < 8 →
      Completes (.inspForceDm 0 t d) s (Wrote { a.putCell bp cell (d.getLsbD 0) with forces := sset [] a.forces bp ((sget [] a.forces bp).filter (fun f => f.cell != cell) ++ [{ cell := cell, value := d.getLsbD 0 }]) } s.mod)) ∧
    (n < 2 ^ 29 → d.toNat ≤ 1 → 8 ≤ ((sget [] a.forces bp).filter (fun f => f.cell != cell)).length →
      Completes (.inspForceDm 0 t d) s (Responds 4 0 s.mod)) ∧
    (n < 2 ^ 18 → d.toNat ≤ 1 → Completes (.inspForcePoint 0 t d) s (Wrote { a with fpoint := sset { armed := false, value := false } a.fpoint n { armed := true, value := d.getLsbD 0 } } s.mod)) ∧
    (n < 2 ^ 29 → Completes (.inspReleaseDm 0 t 0) s (Wrote { a with forces := sset [] a.forces bp ((sget [] a.forces bp).filter (fun f => f.cell != cell)) } s.mod)) ∧
    (n < 2 ^ 18 → Completes (.inspReleasePoint 0 t 0) s (Wrote { a with fpoint := sset { armed := false, value := false } a.fpoint n { armed := false, value := false } } s.mod)) ∧
    (n < 2 ^ 18 → d.toNat ≤ 1 → Completes (.inspWriteHaltEnable 0 t d) s (Wrote { a with haltEn := sset true a.haltEn n (d.getLsbD 0) } s.mod))

/-- R153, R208, R209, R332, R414, R420. The record that an action becomes is DEDUCED (log entry 73); the order of two
conditions and the STATUS before WREN are a DESIGN CHOICE (log entry 189). -/
def Obligations.InspectionElsewhere : Prop :=
  (∀ (s : State) (rsv : BitVec 24) (t : BitVec 32) (d : Word),
    let page (pad : Bool) : List Instr := [.inspReadDm rsv t d, .inspWriteDm rsv t d, .inspReadIm rsv t d, .inspReadShadow rsv t d,
      .inspReadDmb rsv t d, .inspWriteDmb rsv t d, .inspParityTest rsv t d, .inspReadSchedule rsv t d, .inspForceDm rsv t d,
      .inspForcePoint rsv t d, .inspReleaseDm rsv t d, .inspReleasePoint rsv t d, .inspReadBpControls rsv t d,
      .inspWriteHaltEnable rsv t d, .inspReadQueue rsv t d, .inspReadIoCell rsv t d pad]
    (s.mod.txn.inspStatus = 0xFF#8 ∨ s.mod.ctl.mode = .lockdown ∨ s.mod.pins.gated = true →
      ∀ pad, ∀ c ∈ page pad, Completes c s (fun m => m = s.mod)) ∧
    (s.mod.txn.inspStatus ≠ 0xFF#8 → s.mod.pins.gated = false →
      (s.mod.ctl.mode = .reset ∨ s.mod.ctl.mode = .load ∨ s.mod.ctl.mode = .bringup ∨ s.mod.ctl.mode = .linksvc ∨ s.mod.ctl.mode = .selftest →
        (∀ pad, ∀ c ∈ page pad, Completes c s (Responds 1 0 s.mod)) ∧ ∀ op, Completes (.inspOpReserved op) s (Responds 1 0 s.mod)) ∧
      (s.mod.ctl.mode = .idle ∨ s.mod.ctl.mode.running = true ∨ s.mod.ctl.mode = .frozen ∨ s.mod.ctl.mode = .inspect →
        -- a reserved OP takes the other bytes as they stand in the page
        (∀ op, Completes (.inspOpReserved op) s (fun m =>
          Responds (if s.mod.txn.inspCmd.toNat / 2 ^ 96 % 2 ^ 24 = 0 then 5 else 2) 0 s.mod m ∧
          m.txn.inspCmd.toNat = s.mod.txn.inspCmd.toNat % 2 ^ 120 + op.toNat * 2 ^ 120)) ∧
        (rsv ≠ 0 → ∀ pad, ∀ c ∈ page pad, Completes c s (Responds 2 0 s.mod))) ∧
      (s.mod.ctl.mode = .idle ∨ s.mod.ctl.mode.running = true ∨ s.mod.ctl.mode = .frozen →
        t.toNat < 2 ^ 30 → Completes (.inspParityTest 0 t d) s (Responds 1 0 s.mod)) ∧
      -- before WREN nothing is written
      (s.mod.ctl.mode = .inspect → s.mod.start.wren = false → t.toNat < 2 ^ 18 → d.toNat ≤ 1 →
        ∀ c ∈ [Instr.inspWriteDm 0 t d, .inspWriteDmb 0 t d, .inspParityTest 0 t d, .inspForceDm 0 t d, .inspForcePoint 0 t d,
          .inspWriteHaltEnable 0 t d, .inspReleaseDm 0 t 0, .inspReleasePoint 0 t 0], Completes c s (Responds 1 0 s.mod)))) ∧
  (∀ (s : State) (t : BitVec 32) (d : Word), s.mod.txn.inspStatus ≠ 0xFF#8 → s.mod.pins.gated = false →
    (s.mod.ctl.mode.running = true → t.toNat < 2 ^ 29 → Completes (.inspReadDm 0 t 0) s (fun m =>
      m.txn.inspStatus = 0xFF#8 ∧ m.txn.inspWait = s.mod.txn.inspWait ++ [(0x01, t, 0#64)] ∧ m.data = s.mod.data)) ∧
    (s.mod.ctl.mode = .idle ∨ s.mod.ctl.mode.running = true ∨ s.mod.ctl.mode = .frozen →
      t.toNat < 2 ^ 29 → d.toNat ≤ 1 → s.mod.txn.slots.length = 16 →
      let i := s.mod.reg rWinSlot
      let sl := s.mod.slot i
      (i ≤ 15 → sl.state = 1 → sl.scope = false → sl.winRecords = [] → Completes (.inspWriteDm 0 t d) s (fun m =>
        m.txn.inspStatus = 0#8 ∧ m.data = s.mod.data ∧ (∀ j, j ≠ i → m.slot j = s.mod.slot j) ∧
        sget 0 (m.slot i).winRecords 0 = BitVec.ofNat 128 (1 * 2 ^ 124 + t.toNat * 2 ^ 64 + d.toNat))) ∧
      (15 < i ∨ sl.state ≠ 1 ∨ sl.scope = true → Completes (.inspWriteDm 0 t d) s (Responds 1 0 s.mod))))

/-- R103, R202, R214, R215, R216, R217, R218. SCH_ARG as an operand is DEDUCED (log entry 76); that SETUP keeps PEND
is a DESIGN CHOICE (log entry 170); merging with a pulse that has been released is DEDUCED (log entry 163). That an
event with no work of its kind under way changes nothing is a DESIGN CHOICE (log entry 3). -/
def Obligations.SchedulerCommands : Prop :=
  (∀ (s : State) (core n : Nat), swf Ctx.init s.mod.couriers.contexts = true → s.mod.coreCtx core = some n →
    -- SCH_WAIT
    (∀ (obj : BitVec 16) (arg : Word), objReserved obj.toNat = false → s.mod.objReady obj.toNat arg.toNat (s.mod.ctx n).pend = false →
      NotQueued s.mod core n → Completes (.schWait core obj arg) s (fun m =>
        m.ctx n = { s.mod.ctx n with state := 3, waitobj := obj.toNat, waitArg := arg.toNat } ∧ KeptBut [.couriers] s.mod m)) ∧
    (∀ (obj : BitVec 16) (arg : Word), objReserved obj.toNat = false → s.mod.objReady obj.toNat arg.toNat (s.mod.ctx n).pend = true →
      Completes (.schWait core obj arg) s (fun m =>
        m.ctx n = { s.mod.ctx n with pend := (s.mod.ctx n).pend && obj.toNat / 4096 != 0 } ∧
        m.couriers.ready = s.mod.couriers.ready ∧ KeptBut [.couriers] s.mod m)) ∧
    (∀ (obj : BitVec 16) (arg : Word), objReserved obj.toNat = true → Completes (.schWait core obj arg) s (fun m =>
      (m.ctx n).failSelf = true ∧ ((m.ctx n).state = 1 ∨ (m.ctx n).state = 2) ∧ (m.ctx n).pc = (s.mod.ctx n).pc ∧
      KeptBut [.couriers] s.mod m)) ∧
    -- SCH_SIGNAL
    (∀ k, k < 1024 → (∀ e ∈ s.mod.couriers.contexts, e.2.state ≠ 3) → Completes (.schSignal core k) s (fun m =>
      m.ctx k = { s.mod.ctx k with pend := true } ∧ (∀ j, j ≠ k → m.ctx j = s.mod.ctx j) ∧
      m.couriers.ready = s.mod.couriers.ready ∧ KeptBut [.couriers] s.mod m)) ∧
    -- SCH_SETUP
    (∀ v arg : Word, let k := v.toNat % 1024
      let home := v.toNat / 2 ^ 10 % 32
      let prio := v.toNat / 2 ^ 16 % 32
      ((s.mod.ctx k).state = 0 → Completes (.schSetup core v arg) s (fun m =>
        (m.ctx k).home = home ∧ (m.ctx k).prio = prio ∧ (m.ctx k).pc = arg.toNat ∧ (m.ctx k).pend = (s.mod.ctx k).pend ∧
        ((m.ctx k).state = 1 ∨ (m.ctx k).state = 2) ∧ KeptBut [.couriers] s.mod m)) ∧
      ((s.mod.ctx k).state ≠ 0 → (s.mod.ctx k).home = core → Completes (.schSetup core v arg) s (fun m =>
        (m.ctx k).prio = prio ∧ (m.ctx k).home = core ∧ KeptBut [.couriers] s.mod m)) ∧
      ((s.mod.ctx k).state ≠ 0 → (s.mod.ctx k).home ≠ core → Completes (.schSetup core v arg) s (fun m =>
        sget none m.couriers.schFail core = some k ∧ m.couriers.contexts = s.mod.couriers.contexts ∧
        m.couriers.ready = s.mod.couriers.ready ∧ KeptBut [.couriers] s.mod m))) ∧
    -- SCH_EXIT
    (NotQueued s.mod core n → Completes (.schExit core) s (fun m =>
      m.ctx n = { s.mod.ctx n with state := 0 } ∧ KeptBut [.couriers] s.mod m)) ∧
    -- SCH_PULSE
    (∀ gen, gen < 64 →
      (s.mod.txn.pulses.getLsbD gen = true ∨ (∃ e ∈ s.mod.txn.pulseCommit, e.2.getLsbD gen = true) → Completes (.schPulse core gen) s (fun m =>
        m.reg rClkPulseMerged = min (s.mod.reg rClkPulseMerged + 1) (2 ^ 32 - 1) ∧ KeptBut [.regs] s.mod m)) ∧
      (s.mod.txn.pulses.getLsbD gen = false → (∀ e ∈ s.mod.txn.pulseCommit, e.2.getLsbD gen = false) → Completes (.schPulse core gen) s (fun m =>
        m.txn.pulses = s.mod.txn.pulses ||| BitVec.ofNat 64 (2 ^ gen) ∧ m.txn.slots = s.mod.txn.slots ∧ KeptBut [.txn] s.mod m ∧
        (s.mod.inSystem = false → s.mod.txn.pulses = 0 → m.txn.pulseCommit = s.mod.txn.pulseCommit ++ [(s.mod.earliest, 0)])))) ∧
    -- SCH_FAIL
    ((s.mod.ctx n).failSelf = true → Completes (.schFail core) s (fun m =>
      m.couriers.lastRead = BitVec.ofNat 64 n ∧ m.ctx n = { s.mod.ctx n with failSelf := false } ∧ KeptBut [.couriers] s.mod m)) ∧
    ((s.mod.ctx n).failSelf = false → Completes (.schFail core) s (fun m =>
      m.couriers.lastRead = BitVec.ofNat 64 ((sget none s.mod.couriers.schFail core).getD ones64) ∧
      sget none m.couriers.schFail core = none ∧ m.couriers.contexts = s.mod.couriers.contexts ∧ KeptBut [.couriers] s.mod m))) ∧
  (∀ s : State,
    (∀ core, s.mod.coreCtx core = none → ∀ obj arg k v gen,
      ∀ c ∈ [Instr.schWait core obj arg, .schSignal core k, .schSetup core v arg, .schExit core, .schPulse core gen, .schFail core],
        Completes c s (fun m => m = s.mod)) ∧
    -- the contexts of a halted core stay as they stand
    ((∀ e ∈ s.mod.couriers.contexts, e.2.state = 3 → s.mod.couriers.run.getLsbD e.2.home = true →
        s.mod.objReady e.2.waitobj e.2.waitArg e.2.pend = false) →
      Completes .schPtpWaitExpiry s (fun m => m = s.mod)) ∧
    (∀ n x, s.mod.couriers.contexts = [(n, x)] → x.state = 3 → x.waitobj / 4096 = 5 → x.waitArg ≤ s.mod.stew.now →
      s.mod.couriers.run.getLsbD x.home = true →
      Completes .schPtpWaitExpiry s (fun m => ((m.ctx n).state = 1 ∨ (m.ctx n).state = 2) ∧ (m.ctx n).pc = x.pc ∧
        KeptBut [.couriers] s.mod m)))

/-- R154, R214, R219, R220, R222, R223, R224, R226, R278, R284. A DONE with DROP = 1 does not judge LEN (log entry
75, DEDUCED); which free entry TAKE gives (log entry 168) and the size of a core's packets (log entry 202) are a
DESIGN CHOICE. That an event with no work of its kind under way changes nothing is a DESIGN CHOICE (log entry 3). -/
def Obligations.ChannelPage : Prop :=
  (∀ (s : State) (core c : Nat), PageOpen s.mod core c →
    let ch := s.mod.chan c
    -- TAKE
    (s.mod.canTake c = false → Completes (.take core c) s (fun m => m = s.mod.coreRead 0)) ∧
    (cfgPaired (s.mod.chanCfg c) = false → ∀ slot rest e, ch.h2c = slot :: rest → ch.freeEntry = some e →
      Completes (.take core c) s (fun m =>
        m.couriers.lastRead = BitVec.ofNat 64 (2 ^ 63 + e * 2 ^ 32 + ch.nextSeq) ∧
        m.chan c = { ch with h2c := rest, freed := (ch.freed + 1) % 2 ^ 32, nextSeq := (ch.nextSeq + 1) % 2 ^ 32,
                             entries := sset Entry.init ch.entries e { state := 1, seq := ch.nextSeq, len := 0, buffer := slotWords slot, reqFolio := none, missed := decide (0 < ch.reqMissed) } } ∧
        ∀ j, j ≠ c → m.chan j = s.mod.chan j)) ∧
    (cfgPaired (s.mod.chanCfg c) = true → ∀ dmb e, s.mod.outQueue c = some dmb → cfgReqw (s.mod.chanCfg c) ≠ 0 →
      cfgReqw (s.mod.chanCfg c) ≤ (s.mod.data.queue dmb).count → ch.freeEntry = some e →
      Completes (.take core c) s (fun m =>
        m.couriers.lastRead = BitVec.ofNat 64 (2 ^ 63 + e * 2 ^ 32 + ch.nextSeq) ∧ (m.chan c).nextSeq = (ch.nextSeq + 1) % 2 ^ 32 ∧
        (sget Entry.init (m.chan c).entries e).state = 1 ∧ (sget Entry.init (m.chan c).entries e).seq = ch.nextSeq ∧
        (sget Entry.init (m.chan c).entries e).buffer.length = cfgReqw (s.mod.chanCfg c) ∧ (m.chan c).h2c = ch.h2c)) ∧
    -- DONE
    (∀ (v : Word) buffer, let e := v.toNat % 64
      let len := if v.getLsbD 31 then 0 else v.toNat / 2 ^ 8 % 64
      let x := sget Entry.init ch.entries e
      (x.state = 1 → len ≤ 32 → (len = 0 ∨ s.mod.inQueue c ≠ none) → Completes (.chanDone core c v buffer) s (fun m =>
        m.couriers = (s.mod.setChan c { ch with entries := sset Entry.init ch.entries e { x with state := 2, len := len, buffer := buffer.take 32 } }).couriers ∧
        (Rising ch.entries → m.fabric = (s.mod.countPosted (s.mod.epCore core) len (8 * len)).fabric) ∧
        KeptBut [.couriers, .fabric] s.mod m)) ∧
      (x.state ≠ 1 ∨ 32 < len ∨ len ≠ 0 ∧ s.mod.inQueue c = none → Completes (.chanDone core c v buffer) s (fun m =>
        m = s.mod.setChan c { ch with err := ch.err ||| 4#4 }))) ∧
    -- POP
    (cfgPaired (s.mod.chanCfg c) = false → ∀ dmb, s.mod.outQueue c = some dmb → (s.mod.data.queue dmb).count ≠ 0 →
      let word := s.mod.data.readDmb (dmb * 1024 + (s.mod.data.queue dmb).head)
      Completes (.chanPop core c) s (fun m => m.couriers.lastRead = word.1 ∧
        (m.chan c).wordFolios = ch.wordFolios.drop 1 ∧ (m.chan c).err = (if word.2 then ch.err else ch.err ||| 8#4) ∧
        ∀ j, j ≠ c → m.chan j = s.mod.chan j)) ∧
    (cfgPaired (s.mod.chanCfg c) = true ∨ s.mod.outQueue c = none ∨ (∃ dmb, s.mod.outQueue c = some dmb ∧ (s.mod.data.queue dmb).count = 0) →
      Completes (.chanPop core c) s (fun m => m = (s.mod.setChan c { ch with err := ch.err ||| 1#4 }).coreRead 0)) ∧
    -- C2H_ALLOC
    (ch.c2hFree = 0 → Completes (.c2hAlloc core c) s (fun m => m = s.mod.coreRead 0)) ∧
    (ch.c2hFree ≠ 0 → Completes (.c2hAlloc core c) s (fun m =>
      m.couriers.lastRead = BitVec.ofNat 64 (2 ^ 63 + ch.c2hAlloc % 64) ∧ m.chan c = { ch with c2hAlloc := (ch.c2hAlloc + 1) % 2 ^ 32 } ∧
      (∀ j, j ≠ c → m.chan j = s.mod.chan j) ∧ KeptBut [.couriers] s.mod m)) ∧
    -- C2H_POST
    (∀ slot image, slot < 64 → ch.allocated slot = none → Completes (.c2hPost core c slot image) s (fun m =>
      m = s.mod.setChan c { ch with err := ch.err ||| 2#4 })) ∧
    (∀ slot image, slot < 64 → ch.allocated slot ≠ none → Completes (.c2hPost core c slot image) s (fun m =>
      sget [] (m.chan c).c2hRing slot = image.take 256 ∧
      (m.outbox = if (m.chan c).c2hProd = ch.c2hProd then s.mod.outbox else .msix (8 + c) :: s.mod.outbox))) ∧
    -- ERR
    Completes (.chanErrRead core c) s (fun m =>
      m.couriers.lastRead = BitVec.ofNat 64 ch.err.toNat ∧ m.chan c = { ch with err := 0 } ∧
      (∀ j, j ≠ c → m.chan j = s.mod.chan j) ∧ KeptBut [.couriers] s.mod m)) ∧
  (∀ (s : State) (core c : Nat) (v : Word) (buffer : List Word) (slot : Nat) (image : List Byte),
    let page : List Instr := [.take core c, .chanDone core c v buffer, .chanPop core c, .c2hAlloc core c, .c2hPost core c slot image, .chanErrRead core c]
    (s.mod.coreCtx core = none → ∀ i ∈ page, Completes i s (fun m => m = s.mod)) ∧
    ((∃ n, s.mod.coreCtx core = some n) → cfgEn (s.mod.chanCfg c) = false → ∀ i ∈ page, Completes i s (fun m => m = s.mod.coreRead 0)))

/-- R215, R221, R222, R223, R224, R225, R227, R228, R229, R234. A push to a disabled channel is DEDUCED to be taken
(log entry 79); the ARG of a trap is log entry 78; what FOLIO words pushed before a channel was enabled have is log
entry 155; in which modes a deadline stall counts toward the timeout is DEDUCED (log entry 156). That an event with
no work of its kind under way changes nothing is a DESIGN CHOICE (log entry 3). -/
def Obligations.RingAndReplyCommands : Prop :=
  (∀ (s : State) (c : Nat), c < 256 → s.mod.ctl.mode ≠ .lockdown →
    let ch := s.mod.chan c
    (ch.credit ≠ 0 → Completes (.h2cPush c) s (fun m =>
      m.chan c = { ch with h2c := ch.h2c ++ [readBytes ch.stage 0 256], accepted := (ch.accepted + 1) % 2 ^ 32 } ∧
      (∀ j, j ≠ c → m.chan j = s.mod.chan j) ∧ KeptBut [.couriers] s.mod m)) ∧
    (ch.credit = 0 → Completes (.h2cPush c) s (fun m => m.couriers = s.mod.couriers ∧ m.reg (rChanStatus c) = 1 ∧
      m.reg (rChanOverrun c) = min (s.mod.reg (rChanOverrun c) + 1) (2 ^ 32 - 1))) ∧
    (∀ v : BitVec 32, Completes (.c2hCons c v) s (fun m => m.chan c = { ch with c2hCons := v.toNat } ∧
      (∀ j, j ≠ c → m.chan j = s.mod.chan j) ∧ KeptBut [.couriers] s.mod m))) ∧
  (∀ (s : State) (c : Nat), c < 256 →
    let ch := s.mod.chan c
    -- RETIRE
    (∀ e x, ch.oldest = some (e, x) → x.state = 2 → (x.len = 0 ∨ x.len ≤ s.mod.inRoom c) → Completes (.retire c) s (fun m =>
      (m.chan c).retireSeq = (ch.retireSeq + 1) % 2 ^ 32 ∧ sget Entry.init (m.chan c).entries e = { x with state := 3 } ∧
      (∀ j, j ≠ c → m.chan j = s.mod.chan j))) ∧
    ((ch.oldest = none ∨ ∃ e x, ch.oldest = some (e, x) ∧ (x.state ≠ 2 ∨ x.len ≠ 0 ∧ s.mod.inRoom c < x.len)) →
      Completes (.retire c) s (fun m => m = s.mod)) ∧
    -- DEADLINE_MISS
    (∀ f rest, ch.deadlines = f :: rest → Completes (.deadlineMiss c) s (fun m =>
      (m.chan c).deadlines = rest ∧ m.reg (rDeadlineMisses c) = min (s.mod.reg (rDeadlineMisses c) + 1) (2 ^ 32 - 1) ∧
      m.seq.happened = s.mod.seq.happened ||| BitVec.ofNat 64 (2 ^ 51) ∧
      (cfgDlstall (s.mod.chanCfg c) = true → ∃ x ∈ m.seq.stalls, x.cause = .deadline c) ∧
      (cfgDlstall (s.mod.chanCfg c) = false → m.seq.stalls = s.mod.seq.stalls))) ∧
    (ch.deadlines = [] → Completes (.deadlineMiss c) s (fun m => m = s.mod)) ∧
    -- REPLY_TIMEOUT
    (s.mod.ctl.mode.running = true → (∃ x ∈ s.mod.seq.stalls, x.cause = .deadline c) → Completes (.replyTimeout c) s (fun m =>
      m.ctl.mode = .frozen ∧ m.ctl.resumable = false)) ∧
    (s.mod.ctl.mode.running = false → Completes (.replyTimeout c) s (fun m => m = s.mod)) ∧
    -- COURIER_TRAP
    (∀ core pc cause, core < 32 → s.mod.couriers.run.getLsbD core = true → Completes (.courierTrap core pc cause) s (fun m =>
      m.couriers = { s.mod.couriers with run := m.couriers.run } ∧ m.couriers.run.getLsbD core = false ∧
      ∀ j, j < 32 → j ≠ core → m.couriers.run.getLsbD j = s.mod.couriers.run.getLsbD j)))

/-- R161, R263, R264, R265, R266, R269, R332, R342, R345, R346, R348. The geometry of the tree is a DESIGN CHOICE
(log entry 17); WRITE_ERR before WREN also for a sector that would fail is DEDUCED (log entry 183). -/
def Obligations.MemoryPackets : Prop :=
  ∀ (s : State) (p : Packet), ReachesHbm s.mod p →
    let old := readBytes s.mod.hbm.bytes p.addr (spanOf p)
    let asBefore (m : Module) : Prop := m.hbm.bytes = s.mod.hbm.bytes ∧ m.hbm.ctr = s.mod.hbm.ctr ∧ KeptBut [.fabric, .outbox, .hbm] s.mod m
    (TreeGood s.mod p →
      (p.len = 0 → Completes (.packetRd p none .good) s (fun m =>
        Answered s.mod m p (replyTo p opCPL psOK (BitVec.ofNat 64 (leNat old)) []) ∧ asBefore m)) ∧
      (p.len ≠ 0 → Completes (.packetRd p none .good) s (fun m =>
        Answered s.mod m p (replyTo p opCPL psOK 0 (flitsOf p.len old)) ∧ asBefore m)) ∧
      (s.mod.start.wren = true →
        Completes (.packetWr p none .good true) s (fun m => HbmWritten s.mod.hbm m.hbm p.addr ((writeData p).take (spanOf p)) ∧
          Answered s.mod m p (replyTo p opCPL psOK 0 []) ∧ KeptBut [.fabric, .outbox, .hbm] s.mod m) ∧
        Completes (.packetPwr p none .good true) s (fun m => HbmWritten s.mod.hbm m.hbm p.addr ((writeData p).take (spanOf p)) ∧
          (if p.ackreq then Answered s.mod m p (replyTo p opACK psOK 0 []) else m.fabric.net = dropPacket p s.mod.fabric.net) ∧
          KeptBut [.fabric, .outbox, .hbm] s.mod m) ∧
        -- the storage fails the write
        Completes (.packetWr p none .good false) s (fun m => Answered s.mod m p (replyTo p opCPL psWrite 0 []) ∧ asBefore m) ∧
        Completes (.packetPwr p none .good false) s (fun m => Answered s.mod m p (replyTo p opERR psWrite 0 []) ∧ asBefore m))) ∧
    -- before WREN
    (s.mod.start.wren = false → ∀ chk stored,
      Completes (.packetWr p none chk stored) s (fun m => Answered s.mod m p (replyTo p opCPL psWrite 0 []) ∧ asBefore m) ∧
      Completes (.packetPwr p none chk stored) s (fun m => Answered s.mod m p (replyTo p opERR psWrite 0 []) ∧ asBefore m)) ∧
    -- a node of the tree fails its check, with the policy HALT
    (¬ TreeGood s.mod p → p.len = 0 → s.mod.epochAt p.addr = false → s.mod.reg rMemPolicy % 2 = 0 → s.mod.resetHeld = false →
      Completes (.packetRd p none .good) s (fun m => m.ctl.mode = .lockdown ∧ m.ctl.cause = 0x0401#16))

/-- R163, R263, R266, R268, R269, R270, R276, R277, R278, R348, R414. That a packet is served that the network does
not hold (log entry 96) and UR at an endpoint without memory (log entry 97) are a DESIGN CHOICE; packets in LOCKDOWN
(log entry 99), how the order of two packets is kept (log entry 175) and that packets do not arrive on gated clocks
(log entry 126) are DEDUCED; the split into packet frames is log entry 200. -/
def Obligations.PacketArrivals : Prop :=
  (∀ (s : State) (p : Packet),
    -- MSG
    (Reaches s.mod p → endpointExists (p.dst / 256 % 16) (p.dst % 256) = true →
      let q := sget [] s.mod.fabric.msgq p.dst
      (queueFlits (q ++ [p]) ≤ 64 → Completes (.packetMsg p none) s (fun m =>
        sget [] m.fabric.msgq p.dst = q ++ [p] ∧ KeptBut [.fabric] s.mod m)) ∧
      (64 < queueFlits (q ++ [p]) → Completes (.packetMsg p none) s (fun m =>
        m.fabric.msgq = s.mod.fabric.msgq ∧ m.reg rMsgDropped = min (s.mod.reg rMsgDropped + 1) (2 ^ 32 - 1)))) ∧
    -- a packet that would overtake an earlier one of its source and destination does not arrive yet, nor any on a gated clock
    (s.mod.behind p = true ∨ s.mod.pins.gated = true → ∀ bad chk stored, ∀ c ∈ [Instr.packetRd p bad chk, .packetWr p bad chk stored,
        .packetPwr p bad chk stored, .packetMsg p bad, .packetCpl p bad, .packetAck p bad, .errnote p bad],
      Completes c s (fun m => m = s.mod)) ∧
    -- a flit that failed parity
    (s.mod.ctl.mode ≠ .lockdown → s.mod.behind p = false → s.mod.pins.gated = false → ∀ router chk stored,
      ∀ c ∈ [Instr.packetRd p (some router) chk, .packetWr p (some router) chk stored, .packetPwr p (some router) chk stored,
        .packetMsg p (some router), .packetCpl p (some router), .packetAck p (some router), .errnote p (some router)],
      Completes c s (fun m => m.fabric.net = dropPacket p s.mod.fabric.net ∧
        m.reg rNocParity = min (s.mod.reg rNocParity + 1) (2 ^ 32 - 1) ∧ m.hbm = s.mod.hbm ∧ m.data = s.mod.data)) ∧
    -- an absorber
    (s.mod.ctl.mode ≠ .lockdown → s.mod.behind p = false → s.mod.pins.gated = false → s.mod.absorbs (s.mod.startOf p) p = true → ∀ chk stored,
      let k := p.dst % 4096
      let nonPosted (m : Module) : Prop := Answered s.mod m p (replyTo p opCPL psDead 0 []) ∧
        sget 0 m.fabric.absorbedNP k = min (sget 0 s.mod.fabric.absorbedNP k + 1) (2 ^ 32 - 1) ∧ KeptBut [.fabric, .outbox] s.mod m
      let posted (m : Module) : Prop :=
        sget 0 m.fabric.absorbedP k = min (sget 0 s.mod.fabric.absorbedP k + 1) (2 ^ 32 - 1) ∧ KeptBut [.fabric, .outbox] s.mod m
      (p.op = opRD → Completes (.packetRd p none chk) s nonPosted) ∧
      (p.op = opWR → Completes (.packetWr p none chk stored) s nonPosted) ∧
      (p.op = opPWR → p.ackreq = true → Completes (.packetPwr p none chk stored) s (fun m =>
        Answered s.mod m p (replyTo p opERR psDead 0 []) ∧ posted m)) ∧
      (p.op = opPWR → p.ackreq = false → Completes (.packetPwr p none chk stored) s (fun m =>
        m.fabric.net = dropPacket p s.mod.fabric.net ∧ posted m)) ∧
      (p.op = opMSG → Completes (.packetMsg p none) s (fun m => m.fabric.net = dropPacket p s.mod.fabric.net ∧ posted m))) ∧
    -- another module's packet: over the bundle of its MODROUTE entry, or refused
    (s.mod.ctl.mode ≠ .lockdown → s.mod.behind p = false → s.mod.pins.gated = false → s.mod.absorbs (s.mod.startOf p) p = false →
      p.dst / 4096 ≠ s.mod.disc.modnum → ∀ chk stored,
      let arrivals : List Instr := [.packetRd p none chk, .packetWr p none chk stored, .packetPwr p none chk stored, .packetMsg p none,
        .packetCpl p none, .packetAck p none, .errnote p none]
      let q := match s.mod.fabric.net.find? (samePacket p) with
        | some q => q
        | none => if p.src / 4096 = s.mod.disc.modnum then p else { p with xhops := min 15 (p.xhops + 1) }
      let r := s.mod.reg (rModroute (p.dst / 4096))
      (r.testBit 7 = true → q.xhops < 15 →
        let b := r % 32
        let x := s.mod.bundle b
        let fs := packetFlits { q with sr := false, hops := 0, route := 0 }
        let sent (m : Module) : Prop := m.fabric.net = dropPacket p s.mod.fabric.net ∧ (∀ j, j ≠ b → m.bundle j = s.mod.bundle j) ∧
          KeptBut [.fabric, .bundles, .outbox] s.mod m
        -- its flits wait where the bundle cannot send
        (¬ (x.state = 1 ∧ x.pstate = 1) → (x.haveReq = 0 ∧ x.haveRsp = 0 ∧ x.haveMsg = 0) → ∀ c ∈ arrivals, Completes c s (fun m =>
          m.bundle b = { x with txPktQ := x.txPktQ ++ fs } ∧ sent m)) ∧
        -- or the next packet frame takes one
        (x.state = 1 → x.pstate = 0 → x.keepPkt.length < 64 → x.txPktQ = [] → x.reqLeft = 0 → (∀ f ∈ x.txq, f.rank ≠ 6) →
          x.haveReq ≠ 0 → x.haveRsp ≠ 0 → x.haveMsg ≠ 0 → ∀ f, fs = [f] → ∀ c ∈ arrivals, Completes c s (fun m =>
          (m.bundle b).txPktQ = [] ∧ (m.bundle b).keepPkt = x.keepPkt ++ [(x.txPkt, f)] ∧ (m.bundle b).txPkt = (x.txPkt + 1) % 256 ∧
          (m.bundle b).txq = x.txq ++ [{ rank := 6, seq := x.txPkt, body := .packet f.1 f.2 }] ∧ sent m))) ∧
      (r.testBit 7 = false ∨ 15 ≤ q.xhops →
        (p.op = opRD → Completes (.packetRd p none chk) s (fun m => Answered s.mod m p (replyTo p opCPL psDead 0 []) ∧ m.bundles = s.mod.bundles)) ∧
        (p.op = opWR → Completes (.packetWr p none chk stored) s (fun m =>
          Answered s.mod m p (replyTo p opCPL psDead 0 []) ∧ m.bundles = s.mod.bundles)) ∧
        (p.op = opPWR → p.ackreq = true → Completes (.packetPwr p none chk stored) s (fun m =>
          Answered s.mod m p (replyTo p opERR psDead 0 []) ∧ m.bundles = s.mod.bundles)) ∧
        (p.op = opPWR ∧ p.ackreq = false ∨ opMSG ≤ p.op → ∀ c ∈ arrivals, Completes c s (fun m =>
          m.fabric.net = dropPacket p s.mod.fabric.net ∧ m.bundles = s.mod.bundles)))) ∧
    -- LOCKDOWN
    (s.mod.ctl.mode = .lockdown → s.mod.behind p = false → s.mod.pins.gated = false → ∀ bad chk stored,
      (∀ kind, chk ≠ .failed kind) ∨ s.mod.ctl.lockAt ≠ s.mod.seq.cycle → ∀ c ∈ [Instr.packetRd p bad chk, .packetWr p bad chk stored,
        .packetPwr p bad chk stored, .packetMsg p bad, .packetCpl p bad, .packetAck p bad, .errnote p bad],
      Completes c s (fun m => m.fabric = { s.mod.fabric with net := dropPacket p s.mod.fabric.net, starts := m.fabric.starts } ∧
        KeptBut [.fabric] s.mod m)) ∧
    -- a second failed check in the cycle in which LOCKDOWN was entered
    (s.mod.ctl.mode = .lockdown → s.mod.behind p = false → s.mod.pins.gated = false → isHbm p.dst = true → s.mod.ctl.lockAt = s.mod.seq.cycle → ∀ kind stored,
      ∀ c ∈ [Instr.packetRd p none (.failed kind), .packetWr p none (.failed kind) stored, .packetPwr p none (.failed kind) stored],
      Completes c s (fun m => m.reg rMacFails = min (s.mod.reg rMacFails + 1) (2 ^ 32 - 1) ∧ m.ctl = s.mod.ctl ∧ m.hbm = s.mod.hbm)) ∧
    -- a reserved OP
    Completes (.badOp p none) s (fun m => m.fabric = { s.mod.fabric with net := dropPacket p s.mod.fabric.net, starts := m.fabric.starts } ∧
      m.reg rBadOp = min (s.mod.reg rBadOp + 1) (2 ^ 32 - 1) ∧ KeptBut [.regs, .fabric] s.mod m) ∧
    ∀ router, Completes (.badOp p (some router)) s (fun m => m.fabric.net = dropPacket p s.mod.fabric.net ∧
      m.reg rNocParity = min (s.mod.reg rNocParity + 1) (2 ^ 32 - 1))) ∧
  (∀ (s : State) (p : Packet) (chk : SectorCheck) (stored : Bool), Reaches s.mod p →
    endpointExists (p.dst / 256 % 16) (p.dst % 256) = true → isHbm p.dst = false ∨ s.mod.hbmAddrOk p = false →
    let st := if isHbm p.dst then psAddr else psUR
    Completes (.packetRd p none chk) s (fun m => Answered s.mod m p (replyTo p opCPL st 0 []) ∧ KeptBut [.fabric, .outbox] s.mod m) ∧
    Completes (.packetWr p none chk stored) s (fun m => Answered s.mod m p (replyTo p opCPL st 0 []) ∧ KeptBut [.fabric, .outbox] s.mod m) ∧
    Completes (.packetPwr p none chk stored) s (fun m => Answered s.mod m p (replyTo p opERR st 0 []) ∧ KeptBut [.fabric, .outbox] s.mod m))

/-- R92, R162, R165, R198, R200, R210, R244, R274, R275, R283, R347. That CAP_PROD moves at the acknowledgement is
DEDUCED (log entry 175). -/
def Obligations.PacketAnswers : Prop :=
  ∀ (s : State) (p : Packet), Reaches s.mod p →
    -- CPL of a memory-port read
    (∀ t a, s.mod.fabric.tags.find? (fun t => t.tag == p.tag) = some t → t.quarantine = false → t.use = 0 → p.status = psOK →
      s.mod.data.memAccs.find? (fun a => a.tag == some p.tag && !a.write) = some a →
      Completes (.packetCpl p none) s (fun m => m.data.pendRets = s.mod.data.pendRets.map (fun r =>
        if r.seqNo = a.seqNo ∧ r.portKey = a.portKey then { r with word := some p.idata } else r) ∧
        (∀ b ∈ m.data.memAccs, b.seqNo ≠ a.seqNo) ∧ m.ctl = s.mod.ctl)) ∧
    (∀ t a, s.mod.fabric.tags.find? (fun t => t.tag == p.tag) = some t → t.quarantine = false → t.use = 0 → p.status ≠ psOK →
      s.mod.data.memAccs.find? (fun a => a.tag == some p.tag && !a.write) = some a → s.mod.ctl.mode.running = true →
      Completes (.packetCpl p none) s (fun m => m.ctl.mode = .frozen ∧ m.ctl.resumable = false)) ∧
    -- CPL of a host read
    (∀ t h, s.mod.fabric.tags.find? (fun t => t.tag == p.tag) = some t → t.quarantine = false → t.use = 1 → p.status = psOK →
      s.mod.fabric.hostReads.find? (fun h => h.tags.contains p.tag) = some h → h.tags = [p.tag] → h.bad = false → p.data ≠ [] →
      let bs := readBytes (writeBytes h.got t.addr (p.data.flatMap (fun f => leBytes 32 f.toNat))) h.addr h.len
      Completes (.packetCpl p none) s (fun m => ∀ q ∈ payloads bs.length bs, .hostCpl true q ∈ m.outbox)) ∧
    -- CPL of a tag that is free or in quarantine
    ((∀ t, s.mod.fabric.tags.find? (fun t => t.tag == p.tag) = some t → t.quarantine = true) → Completes (.packetCpl p none) s (fun m =>
      (m.stats p.dst).lateCpl = min ((s.mod.stats p.dst).lateCpl + 1) (2 ^ 32 - 1) ∧ m.fabric.tags = s.mod.fabric.tags ∧
      KeptBut [.fabric] s.mod m)) ∧
    -- ACK
    (p.dst = s.mod.epTxn → ∀ i, s.mod.writerSlot p.addr p.tag = some i → i < s.mod.txn.slots.length → (s.mod.slot i).rolling = false →
      Completes (.packetAck p none) s (fun m => m.slot i = { s.mod.slot i with hbmwrOut := (s.mod.slot i).hbmwrOut.erase (p.addr, p.tag) } ∧
        (∀ j, j ≠ i → m.slot j = s.mod.slot j) ∧ KeptBut [.txn, .fabric] s.mod m)) ∧
    (p.dst = s.mod.epTrigger → s.mod.trig.capOut = some [p.addr] → Completes (.packetAck p none) s (fun m =>
      m.trig.capQueue = s.mod.trig.capQueue.drop 1 ∧ m.trig.capOut = none ∧
      m.reg rCapProd = (if s.mod.trig.capOld = 0 ∧ s.mod.trig.capStream = true then s.mod.reg rCapProd + 1 else s.mod.reg rCapProd))) ∧
    (p.dst ≠ s.mod.epTxn → p.dst ≠ s.mod.epTrigger → ∀ a, s.mod.data.memAccs.find? (fun a => a.write && !a.waiting && a.tag == some p.tag &&
        a.addr == p.addr && s.mod.portEp a.portKey == p.dst) = some a →
      Completes (.packetAck p none) s (fun m => (∀ b ∈ m.data.memAccs, b.seqNo ≠ a.seqNo) ∧ m.data.pendRets = s.mod.data.pendRets ∧
        m.ctl = s.mod.ctl ∧ m.hbm = s.mod.hbm)) ∧
    -- ERRNOTE
    (p.dst = s.mod.epTrigger → p.status = psMac → 1 ≤ s.mod.trig.capState → s.mod.trig.capState ≤ 3 → s.mod.trig.capOut = none →
      Completes (.errnote p none) s (fun m => m.trig.capState = 5 ∧ m.ctl = s.mod.ctl)) ∧
    (p.dst = s.mod.epFunnel → p.status = psMac → s.mod.trace.state = 2 → s.mod.trace.stopReq = false →
      Completes (.errnote p none) s (fun m => m.trace.stopReq = true ∧ m.ctl = s.mod.ctl)) ∧
    (p.dst ≠ s.mod.epTxn → p.dst ≠ s.mod.epTrigger → p.dst ≠ s.mod.epFunnel → ∀ a, s.mod.data.memAccs.find? (fun a => a.write && !a.waiting && a.tag == some p.tag &&
        a.addr == p.addr && s.mod.portEp a.portKey == p.dst) = some a → s.mod.ctl.mode.running = true →
      Completes (.errnote p none) s (fun m => (m.stats p.dst).errnotes = min ((s.mod.stats p.dst).errnotes + 1) (2 ^ 32 - 1) ∧
        m.ctl.mode = .frozen ∧ m.ctl.resumable = false ∧ m.ctl.cause = (if p.status = psMac then 0x0401#16 else 0x0423#16))) ∧
    (p.dst = s.mod.epTxn → ∀ i, s.mod.writerSlot p.addr p.tag = some i → i < s.mod.txn.slots.length → (s.mod.slot i).rewriting = false →
      1 < (s.mod.slot i).hbmwrOut.length →
      Completes (.errnote p none) s (fun m => (m.slot i).rolling = true ∧ (m.slot i).state = (s.mod.slot i).state ∧
        (∀ j, j ≠ i → m.slot j = s.mod.slot j) ∧ m.hbm = s.mod.hbm ∧ m.ctl = s.mod.ctl))

/-- R267, R274, R275, R276, R278, R283. The name of an output is a DESIGN CHOICE (log entry 102), and that packets on
the die stand in one list (log entry 208); that three timeouts mark endpoints of the module alone is DEDUCED (log
entry 105). That an event with no work of its kind under way changes nothing is a DESIGN CHOICE (log entry 3). -/
def Obligations.TagAndStatisticsCommands : Prop :=
  (∀ (s : State) (tag : Nat),
    (∀ t, s.mod.fabric.tags.find? (fun t => t.tag == tag && !t.quarantine && t.use != 0 && t.use != 3) = some t →
      Completes (.npTimeout tag) s (fun m =>
        m.fabric.tags = s.mod.fabric.tags.map (fun x => if x.tag = tag then { x with quarantine := true } else x) ∧
        (m.stats t.src).timeouts = min ((s.mod.stats t.src).timeouts + 1) (2 ^ 32 - 1) ∧
        sget 0 m.fabric.timeouts t.dst = sget 0 s.mod.fabric.timeouts t.dst + 1 ∧
        (sget 0 s.mod.fabric.timeouts t.dst = 2 → t.dst / 4096 = s.mod.disc.modnum →
          sget false m.fabric.deadEp (t.dst % 4096) = true) ∧
        (∀ h, t.use = 1 → s.mod.fabric.hostReads.find? (fun h => h.tags.contains tag) = some h → h.tags = [tag] →
          m.outbox = .hostCpl false [] :: s.mod.outbox))) ∧
    (s.mod.fabric.tags.find? (fun t => t.tag == tag && !t.quarantine && t.use != 0 && t.use != 3) = none →
      Completes (.npTimeout tag) s (fun m => m = s.mod)) ∧
    ((∃ t ∈ s.mod.fabric.tags, t.tag = tag ∧ t.quarantine = true) → Completes (.tagQuarantineEnd tag) s (fun m =>
      (∀ t ∈ m.fabric.tags, t.tag = tag → t.quarantine = false) ∧
      (∀ t ∈ s.mod.fabric.tags, t.tag ≠ tag → t ∈ m.fabric.tags) ∧ m.ctl = s.mod.ctl)) ∧
    -- the oldest request that waits at an output: of a die link or a bundle behind the packet under way, else in the network
    (let link := (List.range 36).find? (fun k => linkOutput (k / 2) (k % 2) == tag)
     let bundle := (List.range 20).find? (fun b => outputCode (bundleRouter b) 4 == tag)
     let oldest (left : Nat) (q : List (Nat × BitVec 256)) : Nat :=
       (nth [] (splitRequests q.length (((q.filter (fun f => f.1 == 1)).map (·.2)).drop left)) 0).length
     let waiting := s.mod.fabric.net.find? (fun p => p.op < opMSG && s.mod.crosses tag p)
     (∀ k, link = some k → let x := s.mod.dieLink (k / 2) (k % 2)
       Completes (.requestAgeLimit tag) s (fun m => m.dieLink (k / 2) (k % 2) = { x with reqLeft := x.reqLeft + oldest x.reqLeft x.txq } ∧
         KeptBut [.fabric] s.mod m)) ∧
     (∀ b, link = none → bundle = some b → let x := s.mod.bundle b
       Completes (.requestAgeLimit tag) s (fun m => m.bundle b = { x with reqLeft := x.reqLeft + oldest x.reqLeft x.txPktQ } ∧
         (∀ j, j ≠ b → m.bundle j = s.mod.bundle j) ∧ KeptBut [.bundles] s.mod m)) ∧
     (∀ p, link = none → bundle = none → waiting = some p → Completes (.requestAgeLimit tag) s (fun m =>
       m.fabric = { s.mod.fabric with net := p :: dropPacket p s.mod.fabric.net } ∧ KeptBut [.fabric] s.mod m)) ∧
     (link = none → bundle = none → waiting = none → Completes (.requestAgeLimit tag) s (fun m => m = s.mod)))) ∧
  (∀ s : State, Served s.mod →
    (∀ ep, ep < 2 ^ 20 → Completes (.initSel ep) s (fun m =>
      m.fabric = { s.mod.fabric with snapshot := s.mod.stats ep } ∧ m.reg rInitSel = ep ∧
      m.stew = { s.mod.stew with lastStatus := 0 } ∧ KeptBut [.regs, .fabric, .stew] s.mod m)) ∧
    Completes .statsClearOne s (fun m =>
      m.stats (s.mod.reg rInitSel % 2 ^ 20) = InitStats.init ∧ (∀ ep, ep ≠ s.mod.reg rInitSel % 2 ^ 20 → m.stats ep = s.mod.stats ep) ∧
      m.stew = { s.mod.stew with lastStatus := 0 } ∧ KeptBut [.fabric, .stew] s.mod m) ∧
    Completes .statsClearAll s (fun m => (∀ ep, m.stats ep = InitStats.init) ∧
      m.stew = { s.mod.stew with lastStatus := 0 } ∧ KeptBut [.fabric, .stew] s.mod m))

/-- R267, R269, R272, R273, R285. How flits share frames is a DESIGN CHOICE (log entry 103); that a NAK and a timeout
of one cycle give one pass is DEDUCED (log entry 174). That an event with no work of its kind under way changes
nothing is a DESIGN CHOICE (log entry 3). -/
def Obligations.DieLinkFrames : Prop :=
  ∀ (s : State) (link dir : Nat) (f : DieFrame), dir < 2 →
    let x := s.mod.dieLink link dir
    let back := s.mod.dieLink link (1 - dir)
    let control (m : Module) : Prop := (m.dieLink link (1 - dir)).crReq = f.crReq ∧ (m.dieLink link (1 - dir)).crRsp = f.crRsp ∧
      (m.dieLink link (1 - dir)).crMsg = f.crMsg
    (f.crcOk = true →
      (f.seq = x.rxSeq → Completes (.dlinkDataFrame link dir f) s (fun m =>
        (m.dieLink link dir).rxSeq = (x.rxSeq + 1) % 256 ∧ (m.dieLink link dir).nakSent = false ∧ control m ∧
        m.fabric.net = s.mod.fabric.net ∧
        -- its flits are received, and their buffers freed by VC; whole packets go on
        (let fs := (f.flits.zip f.vcmap).filterMap (fun e => if e.2 = 0 then none else some (e.2, e.1))
         let r := takePackets 16 (x.rxq ++ fs)
         (m.dieLink link dir).rxq = r.2 ∧
         (m.dieLink link dir).freed = [1, 2, 3].map (fun vc => (nth 0 x.freed (vc - 1) + (fs.filter (fun e => e.1 == vc)).length) % 256) ∧
         ∀ p t, r.1 = [p] → s.mod.aimOf p = some t →
           match firstCrossing (s.mod.liveHops (hopsFrom 64 (linkEntry link dir) t p.sr p.hops p.route)) with
           | none => ∀ l d, d < 2 → (l, d) ≠ (link, 1 - dir) → (m.dieLink l d).txq = (s.mod.dieLink l d).txq
           | some (l, d, n) => (l, d) ≠ (link, 1 - dir) → 128 ≤ (s.mod.dieLink l d).unacked.length →
             (m.dieLink l d).txq = (s.mod.dieLink l d).txq ++ packetFlits
               (if p.sr then { p with hops := p.hops - n, route := p.route / 4 ^ (min n p.hops), sr := n < p.hops } else p)))) ∧
      (f.seq ≠ x.rxSeq → Completes (.dlinkDataFrame link dir f) s (fun m =>
        (m.dieLink link dir).rxSeq = x.rxSeq ∧ (m.dieLink link dir).nakSent = true ∧ control m ∧
        (x.nakSent = false → .dieNak link (1 - dir) ((x.rxSeq + 255) % 256) (s.mod.dieFrameOf link (1 - dir) 2 0 []) ∈ m.outbox))) ∧
      Completes (.dlinkIdleFrame link dir f) s (fun m => control m ∧ (m.dieLink link dir).rxSeq = x.rxSeq ∧ m.fabric.net = s.mod.fabric.net) ∧
      (back.unacked ≠ [] → (∀ u ∈ back.unacked, u.1 ≠ f.ack) → back.passes < 7 → back.passAt ≠ some (s.mod.seq.cycle, false) →
        Completes (.dlinkNak link dir f) s (fun m => control m ∧ (m.dieLink link (1 - dir)).passes = back.passes + 1 ∧
          ∀ u ∈ back.unacked, .dieFrame link (1 - dir) u.1 (s.mod.dieFrameOf link (1 - dir) 0 u.1 u.2) ∈ m.outbox))) ∧
    (f.crcOk = false → x.nakSent = false → ∀ c ∈ [Instr.dlinkDataFrame link dir f, .dlinkIdleFrame link dir f, .dlinkNak link dir f],
      Completes c s (fun m => m.dieLink link dir = { x with nakSent := true } ∧
        m.outbox = .dieNak link (1 - dir) ((x.rxSeq + 255) % 256) (s.mod.dieFrameOf link (1 - dir) 2 0 []) :: s.mod.outbox ∧
        KeptBut [.fabric, .outbox] s.mod m)) ∧
    (x.unacked ≠ [] → x.passes < 7 → x.passAt ≠ some (s.mod.seq.cycle, true) → Completes (.dlinkReplayTimeout link dir) s (fun m =>
      m.dieLink link dir = { x with passes := x.passes + 1, passAt := some (s.mod.seq.cycle, false) } ∧
      m.outbox = (x.unacked.map (fun u => OutMsg.dieFrame link dir u.1 (s.mod.dieFrameOf link dir 0 u.1 u.2))).reverse ++ s.mod.outbox ∧
      KeptBut [.fabric, .outbox] s.mod m)) ∧
    (x.unacked ≠ [] → x.passes = 7 → x.passAt ≠ some (s.mod.seq.cycle, true) → s.mod.ctl.mode.running = true →
      Completes (.dlinkReplayTimeout link dir) s (fun m => m.ctl.mode = .frozen ∧ m.ctl.resumable = false ∧ m.ctl.cause = 0x0221#16)) ∧
    -- a NAK of the same cycle has given the pass
    (x.passAt = some (s.mod.seq.cycle, true) → Completes (.dlinkReplayTimeout link dir) s (fun m => m = s.mod)) ∧
    (x.unacked = [] → Completes (.dlinkReplayTimeout link dir) s (fun m => m = s.mod))

/-- R188, R190, R208, R223, R274, R276, R278, R281, R282, R283, R363, R414. The pieces of a host read of HBM (log
entry 144) and the endpoints and packets of the other accesses (log entry 181) are the model's choice; other BARs are
DEDUCED (log entry 146), as is the wait at a gated unit (log entry 126). -/
def Obligations.HostPortReads : Prop :=
  ∀ (s : State) (offset len : Nat),
    let aborted (c : Instr) : Prop := Completes c s (fun m => m.outbox = .hostCpl false [] :: s.mod.outbox ∧ KeptBut [.outbox] s.mod m)
    -- a read of BAR0 or of the command page is a packet of the host endpoint
    let counted (m : Module) : Prop := KeptBut [.regs, .fabric, .sec, .outbox] s.mod m
    let served (bar o : Nat) : Prop := s.mod.pageDead bar o true = none ∧ s.mod.pageHeld bar o = false
    (∀ bs : List Byte, (payloads bs.length bs).flatten = bs ∧ ∀ q ∈ payloads bs.length bs, q.length ≤ 512) ∧
    (s.mod.ctl.mode = .lockdown → ∀ bar, bar ≠ 0 ∨ 0x10000 ≤ offset → aborted (.hostRead bar offset len)) ∧
    (s.mod.ctl.mode ≠ .lockdown →
      (∀ i, i < 16 → let at_ := slotBase + i * slotSpan + 0x10
        served 0 at_ → Completes (.hostRead 0 at_ 8) s (fun m =>
          m.outbox = .hostCpl true (leBytes 8 (s.mod.slot i).status) :: s.mod.outbox ∧ counted m)) ∧
      (∀ c, c < 256 → let at_ := chanBase + c * 65536 + 0x118
        served 0 at_ → Completes (.hostRead 0 at_ 8) s (fun m =>
          m.outbox = .hostCpl true (leBytes 8 (s.mod.chan c).c2hProd) :: s.mod.outbox ∧ counted m)) ∧
      (served 2 0x10 → Completes (.hostRead 2 0x10 16) s (fun m =>
        m.outbox = .hostCpl true (leBytes 16 (s.mod.txn.inspStatus.toNat * 2 ^ 120 + s.mod.txn.inspValue.toNat)) :: s.mod.outbox ∧
        counted m)) ∧
      -- an access that meets an absorber, and one that is held
      (∀ bar, bar = 0 ∨ bar = 2 ∧ offset < 4096 →
        (∀ p, s.mod.pageDead bar offset true = some p → Completes (.hostRead bar offset len) s (fun m =>
          m.outbox = .hostCpl false [] :: s.mod.outbox ∧
          sget 0 m.fabric.absorbedNP (p.dst % 4096) = min (sget 0 s.mod.fabric.absorbedNP (p.dst % 4096) + 1) (2 ^ 32 - 1) ∧
          KeptBut [.fabric, .outbox] s.mod m)) ∧
        (s.mod.pageDead bar offset true = none → s.mod.pageHeld bar offset = true → Completes (.hostRead bar offset len) s (fun m =>
          m.fabric.hostReads = s.mod.fabric.hostReads ++
            [{ addr := 0, len := len, span := 0, tags := [], got := [], bad := false, page := some (bar, offset) }] ∧
          KeptBut [.fabric] s.mod m))) ∧
      (s.mod.ctl.mode ≠ .inspect → designAt ≤ offset → offset - designAt < regSizeB s.mod.image.design → aborted (.hostRead 2 offset len)) ∧
      -- reserved offsets: between the command page and the design region, and beyond it
      (4096 ≤ offset → offset < designAt ∨ regSizeB s.mod.image.design ≤ offset - designAt → len ≤ 512 → Completes (.hostRead 2 offset len) s (fun m =>
        m.outbox = .hostCpl true (List.replicate len 0#8) :: s.mod.outbox ∧ KeptBut [.outbox] s.mod m)) ∧
      (∀ bar, bar ≠ 0 → bar ≠ 2 → bar ≠ 4 → aborted (.hostRead bar offset len)) ∧
      -- a read of the capture region leaves as one request for each sector
      (offset < traceAt → 0 < len → offset + len ≤ regSizeB s.mod.image.capture →
        (sectorsIn (regBaseB s.mod.image.capture + offset) len).length ≤ s.mod.hostTags.length →
        Completes (.hostRead 4 offset len) s (fun m => ∃ tags,
          m.fabric.hostReads = s.mod.fabric.hostReads ++ [{ addr := regBaseB s.mod.image.capture + offset, len := len, span := len, tags := tags, got := [], bad := false, page := none }] ∧
          tags.length = (sectorsIn (regBaseB s.mod.image.capture + offset) len).length ∧
          m.fabric.tags.map (·.tag) = s.mod.fabric.tags.map (·.tag) ++ tags ∧ m.hbm = s.mod.hbm))) ∧
    (∀ tag h, s.mod.fabric.hostReads.find? (fun h => h.tags.contains tag) = some h → Completes (.hostReadTimeout tag) s (fun m =>
      m.fabric.hostReads = s.mod.fabric.hostReads.erase h ∧ m.outbox = .hostCpl false [] :: s.mod.outbox ∧ KeptBut [.fabric, .outbox] s.mod m))

/-- R188, R189, R193, R208, R221, R223, R276, R278, R281, R282, R363, R414. That a write beyond the maximum payload
is discarded is PRESUMED, the endpoints and packets of the accesses are the model's choice (log entry 181); the write
to a gated unit is DEDUCED (log entry 126). -/
def Obligations.HostPortWrites : Prop :=
  ∀ s : State,
    -- the request area
    (∀ offset bytes, offset + bytes.length ≤ 0x8100 → bytes.length ≤ 512 → s.mod.pageDead 0 offset false = none →
      Completes (.hostWrite 0 offset bytes) s (fun m =>
      (∀ k, sget 0 m.stew.reqArea k = if offset ≤ k ∧ k < offset + bytes.length then bytes.getD (k - offset) 0 else sget 0 s.mod.stew.reqArea k) ∧
      KeptBut [.stew, .fabric] s.mod m)) ∧
    -- no write carries more than the maximum payload
    (∀ bar offset bytes, 512 < bytes.length → Completes (.hostWrite bar offset bytes) s (fun m => m = s.mod)) ∧
    (s.mod.ctl.mode = .lockdown → ∀ bar offset bytes, bar ≠ 0 ∨ 0x10000 ≤ offset → Completes (.hostWrite bar offset bytes) s (fun m => m = s.mod)) ∧
    (s.mod.ctl.mode ≠ .lockdown →
      let counted (n : Nat) : State := s.withMod (s.mod.countDone s.mod.epHost 1 n false)
      let served (bar o : Nat) : Prop := s.mod.pageDead bar o false = none ∧ s.mod.pins.gated = false
      -- TXN_CTRL, the doorbell of a channel ring, C2H_CONS and INSP_CMD are the commands that they spell
      (∀ i, i < s.mod.txn.slots.length → i < 16 → let at_ := slotBase + i * slotSpan
        served 0 at_ →
        exec (.hostWrite 0 at_ (leBytes 8 1)) s = exec (.txnOpen i false) (counted 8) ∧
        exec (.hostWrite 0 at_ (leBytes 8 (2 ^ 35 + 1))) s = exec (.txnOpen i true) (counted 8) ∧
        exec (.hostWrite 0 at_ (leBytes 8 (2 ^ 32 + 3 * 2 ^ 16 + 2))) s = exec (.txnSubmit i 1 3) (counted 8) ∧
        exec (.hostWrite 0 at_ (leBytes 8 3)) s = exec (.txnCancel i) (counted 8) ∧
        exec (.hostWrite 0 at_ (leBytes 8 4)) s = exec (.txnClose i) (counted 8)) ∧
      (∀ c, c < 256 → served 0 (chanBase + c * 65536 + 0x100) → served 0 (chanBase + c * 65536 + 0x120) →
        exec (.hostWrite 0 (chanBase + c * 65536 + 0x100) (leBytes 8 0)) s = exec (.h2cPush c) (counted 8) ∧
        ∀ v : BitVec 32, exec (.hostWrite 0 (chanBase + c * 65536 + 0x120) (leBytes 4 v.toNat)) s = exec (.c2hCons c v) (counted 4)) ∧
      (s.mod.txn.inspStatus ≠ 0xFF#8 → served 2 0 → ∀ t : BitVec 32, exec (.hostWrite 2 0 (leBytes 16 (2 ^ 120 + t.toNat * 2 ^ 64))) s = exec (.inspReadDm 0 t 0) (counted 16)) ∧
      -- a record of an OPEN slot
      (∀ i k (r : BitVec 128), i < s.mod.txn.slots.length → i < 16 → k < 4096 → (s.mod.slot i).state = 1 →
        served 0 (slotBase + i * slotSpan + 0x1000 + 16 * k) → Completes (.hostWrite 0 (slotBase + i * slotSpan + 0x1000 + 16 * k) (leBytes 16 r.toNat)) s (fun m =>
          sget 0 (m.slot i).winRecords k = r ∧ (∀ j, j ≠ k → sget 0 (m.slot i).winRecords j = sget 0 (s.mod.slot i).winRecords j) ∧
          (∀ j, j ≠ i → m.slot j = s.mod.slot j) ∧ KeptBut [.txn, .fabric] s.mod m)) ∧
      -- a write that meets an absorber, and one to an endpoint on a gated clock
      (∀ bar offset bytes, bar = 0 ∧ 0x10000 ≤ offset ∨ bar = 2 ∧ offset < 4096 → bytes.length ≤ 512 →
        (∀ p, s.mod.pageDead bar offset false = some p → Completes (.hostWrite bar offset bytes) s (fun m =>
          sget 0 m.fabric.absorbedP (p.dst % 4096) = min (sget 0 s.mod.fabric.absorbedP (p.dst % 4096) + 1) (2 ^ 32 - 1) ∧
          KeptBut [.fabric] s.mod m)) ∧
        (s.mod.pageDead bar offset false = none → s.mod.pageGated bar offset = true →
          Completes (.hostWrite bar offset bytes) s (fun m => m = s.mod))) ∧
      (s.mod.ctl.mode ≠ .inspect → ∀ offset bytes, designAt ≤ offset → Completes (.hostWrite 2 offset bytes) s (fun m => m = s.mod)))

/-- R31, R284, R360, R361, R363, R364, R365, R368. The answer RETRY to a waiting request is DEDUCED (log entry 137),
as is what becomes of a malformed datagram (log entry 136); the offsets of PTP fields are PRESUMED (log entry 121).
That an event with no work of its kind under way changes nothing is a DESIGN CHOICE (log entry 3). -/
def Obligations.RequestFrames : Prop :=
  ∀ (s : State) (seq nonce : Nat), seq < 2 ^ 32 → nonce < 2 ^ 64 →
    let value := s.mod.modeStatus
    -- MB_DOORBELL
    (s.mod.stew.mbBusy = false → readBytes s.mod.stew.reqArea 0 32 = statusFrame seq nonce → (∀ k ∈ s.mod.stew.kept, k.seq ≠ seq) →
      Completes .mbDoorbell s (fun m => m.stew.rspArea = statusAnswer seq nonce value ∧ m.stew.mbReply = true ∧ m.stew.mbBusy = false ∧
        m.outbox = .msix 0 :: s.mod.outbox ∧ m.ctl = s.mod.ctl ∧ m.regs = s.mod.regs)) ∧
    (s.mod.stew.mbBusy = true → Completes .mbDoorbell s (fun m => m = s.mod)) ∧
    -- MB_RESPONSE_READ
    (∀ offset len, let bs := (List.range len).map (fun i => nth 0#8 s.mod.stew.rspArea (offset + i))
      Completes (.mbResponseRead offset len) s (fun m => m.stew = { s.mod.stew with mbReply := false } ∧
      m.outbox = ((payloads bs.length bs).map (OutMsg.hostCpl true)).reverse ++ s.mod.outbox ∧
      KeptBut [.stew, .outbox] s.mod m)) ∧
    -- MGT_DICT_FRAME: a UDP datagram to port 50417 of the port's address, whole or in two fragments
    (∀ port src udp ident (sum0 sum1 : Byte), port < 2 → s.mod.reg (ent 0x1100 (3 + port)) ≠ 0 → udp < 65536 →
      (∀ k ∈ s.mod.stew.kept, k.seq ≠ seq) →
      let piece (offset : Nat) (more : Bool) (bytes : List Byte) : Fragment :=
        { src := src, dst := s.mod.reg (ent 0x1100 (3 + port)), ident := ident, offset := offset, more := more, bytes := bytes }
      let datagram := [BitVec.ofNat 8 (udp / 256), BitVec.ofNat 8 udp, 0xC4#8, 0xF1#8, 0#8, 40#8, sum0, sum1] ++ statusFrame seq nonce
      let mine (r : Reassembly) : Bool := r.port == port && r.src == src && r.ident == ident
      let answered (m : Module) : Prop :=
        m.outbox = .datagram port src udp (statusAnswer seq nonce value) :: s.mod.outbox ∧ m.ctl = s.mod.ctl ∧ m.regs = s.mod.regs ∧
        m.stew.parts = s.mod.stew.parts.filter (fun r => !mine r)
      Completes (.mgtDictFrame port (piece 0 false datagram)) s answered ∧
      ∀ k, 0 < k → k ≤ datagram.length →
        (s.mod.stew.parts.find? mine = none → Completes (.mgtDictFrame port (piece 0 true (datagram.take k))) s (fun m =>
          m.stew = { s.mod.stew with parts := ({ port := port, src := src, ident := ident, pieces := [(0, datagram.take k)], total := none } ::
            s.mod.stew.parts.filter (fun r => !mine r)).take 8 } ∧ KeptBut [.stew] s.mod m)) ∧
        (∀ r, s.mod.stew.parts.find? mine = some r → r.pieces = [(0, datagram.take k)] →
          Completes (.mgtDictFrame port (piece k false (datagram.drop k))) s answered)) ∧
    -- a datagram that is no frame, and one that the port does not take
    (∀ port f, port < 2 → f.dst = s.mod.reg (ent 0x1100 (3 + port)) → f.dst ≠ 0 → f.offset = 0 → f.more = false →
      beNat ((f.bytes.drop 2).take 2) ≠ 50417 ∨ f.bytes.length < 40 ∨ 33032 < f.bytes.length →
      Completes (.mgtDictFrame port f) s (fun m =>
        { m.stew with parts := s.mod.stew.parts } = s.mod.stew ∧ KeptBut [.stew] s.mod m)) ∧
    (∀ port f, 2 ≤ port ∨ s.mod.reg (ent 0x1100 (3 + port)) = 0 ∨ f.dst ≠ s.mod.reg (ent 0x1100 (3 + port)) →
      Completes (.mgtDictFrame port f) s (fun m => m = s.mod)) ∧
    -- MGT_FRAME_FORWARD
    (∀ port frame residence, port < 2 →
      let dst := beNat (frame.take 6)
      let ether := beNat ((frame.drop 12).take 2)
      let kind := beNat ((frame.drop 14).take 1) % 16
      let twoStep := (beNat ((frame.drop 20).take 1)).testBit 1
      let sent (out : List Byte) (m : Module) : Prop := m.outbox = .mgtFrame (1 - port) out :: s.mod.outbox
      -- the correctionField of a PTP message over IEEE 802.3
      let later (n : Nat) : List Byte := frame.take 22 ++ beBytes 8 ((beNat ((frame.drop 22).take 8) + n * 65536) % 2 ^ 64) ++ frame.drop 30
      (dst = (Config.mac 0).toNat ∨ dst = (Config.mac 1).toNat → Completes (.mgtFrameForward port frame residence) s (fun m => m = s.mod)) ∧
      (dst ≠ (Config.mac 0).toNat → dst ≠ (Config.mac 1).toNat →
        (ether ≠ 0x88F7 → ether ≠ 0x0800 → Completes (.mgtFrameForward port frame residence) s (fun m => sent frame m ∧ KeptBut [.outbox] s.mod m)) ∧
        (ether = 0x88F7 → kind = 0 ∧ twoStep = false ∨ kind = 1 → Completes (.mgtFrameForward port frame residence) s (fun m =>
          sent (later residence) m ∧ KeptBut [.outbox] s.mod m)) ∧
        -- the residence of a two-step Sync is added to its Follow_Up
        (ether = 0x88F7 → kind = 0 → twoStep = true → Completes (.mgtFrameForward port frame residence) s (fun m => sent frame m ∧
          sget 0 m.stew.residence (ptpIdentity frame 14) = residence ∧
          { m.stew with residence := s.mod.stew.residence } = s.mod.stew ∧ KeptBut [.stew, .outbox] s.mod m)) ∧
        (ether = 0x88F7 → kind = 8 → Completes (.mgtFrameForward port frame residence) s (fun m =>
          sent (later (sget 0 s.mod.stew.residence (ptpIdentity frame 14))) m ∧ KeptBut [.stew, .outbox] s.mod m)))) ∧
    -- DICT_RETRY_TIMEOUT
    (∀ path source frame, s.mod.stew.waitingReq = some (path, source, frame) → s.mod.stew.reqQ = [] →
      Completes .dictRetryTimeout s (fun m => m.stew.waitingReq = none ∧ m.load.waitEntropy = none ∧
        m.stew.lastStatus = 6#8 ∧ (path = 0 → m.stew.mbReply = true ∧ m.stew.mbBusy = false))) ∧
    (s.mod.stew.waitingReq = none → s.mod.stew.lastStatus ≠ 0xFF#8 → Completes .dictRetryTimeout s (fun m => m = s.mod))

/-- R116, R359, R361, R386, R387, R390, R392. RETRY without supply is DEDUCED (log entry 9); that a row of an entry
has the effect of a frame is DEDUCED (log entry 8). -/
def Obligations.RequestChecks : Prop :=
  ∀ (s : State) (priv : Priv) (index sub : Nat) (data : List Byte), (priv = .vendor → vendorIndex index = false) →
    let a := { s.mod with stew := { s.mod.stew with lastRead := [] } }
    let answered (st : Nat) : Prop := Completes (.registerWrite priv index sub data) s (fun m => m = a.answer st)
    (s.mod.ctl.mode = .lockdown → guaranteed true index sub data = false → answered stMode) ∧
    (s.mod.ctl.mode ≠ .lockdown ∨ guaranteed true index sub data = true →
      (entryInfo index sub = none → answered stNoEntry) ∧
      (∀ acc n, entryInfo index sub = some (acc, n) →
        (privOk priv (writePriv index sub) = false → answered stPrivilege) ∧
        (privOk priv (writePriv index sub) = true →
          (acc = .const ∨ acc = .ro → answered stAccess) ∧
          (acc ≠ .const ∧ acc ≠ .ro →
            (lenFits n data.length = false → answered stBadFrame) ∧
            (lenFits n data.length = true →
              (s.mod.pins.suppliesGood = false → onIsland index sub = false → answered stRetry) ∧
              (s.mod.pins.suppliesGood = true ∨ onIsland index sub = true →
                (acc = .rwi → s.mod.ctl.mode ≠ .idle → answered stMode) ∧
                -- an entry that the dictionary keeps as a register, and one that refuses a value
                (index = 0x2100 → sub = 0x02 → s.mod.ctl.mode = .idle → leNat data % 256 ≠ 0 →
                  Completes (.registerWrite priv index sub data) s (fun m => m = (a.setReg rPaceCfg (leNat data % 1024)).answer stOK)) ∧
                (index = 0x2100 → sub = 0x02 → s.mod.ctl.mode = .idle → leNat data % 256 = 0 → answered stRefused)))))))

/-- R138, R265, R270, R290, R292, R293, R294, R297, R298, R302. The folio of bits that come between two folios (log
entry 165), an older block (log entry 110) and the count of good frames by LANE_IDLE (log entry 201) are DEDUCED. -/
def Obligations.LaneFrames : Prop :=
  ∀ (s : State) (b : Nat), (s.mod.bundle b).state = 1 →
    let x := s.mod.bundle b
    -- a cumulative count mod n moves on to a new one; one that is older moves nothing
    let moved (n last new : Nat) : Nat :=
      let d := (new + n - last % n) % n
      if 2 * d ≤ n then last + d else last
    -- LANE_IDLE
    (∀ lane cb, lane < 8 → (s.mod.lane (8 * b + lane)).phase ≠ some .verify → QuietBlock x cb → Completes (.laneIdle b lane cb) s (fun m =>
      (m.bundle b).crReq = moved 256 x.crReq cb.crReq % 256 ∧ (m.bundle b).crRsp = moved 256 x.crRsp cb.crRsp % 256 ∧
      (m.bundle b).crMsg = moved 256 x.crMsg cb.crMsg % 256 ∧ (m.bundle b).skewAck = moved 65536 x.skewAck cb.skewcr ∧
      (∀ e ∈ (m.bundle b).skew, 0 < e.due ∨ (m.bundle b).skewAck < e.last) ∧
      (m.bundle b).rxStatic = x.rxStatic ∧ (m.bundle b).store = x.store ∧ m.ctl = s.mod.ctl)) ∧
    -- in VERIFY it counts as a good frame; the 1,024th in a row trains the lane
    (∀ lane cb, lane < 8 → let y := s.mod.lane (8 * b + lane)
      y.phase = some .verify →
      (y.good < 1023 → Completes (.laneIdle b lane cb) s (fun m => m.lane (8 * b + lane) = { y with good := y.good + 1 })) ∧
      (1023 ≤ y.good → Completes (.laneIdle b lane cb) s (fun m =>
        (m.lane (8 * b + lane)).phase = none ∧ (m.lane (8 * b + lane)).trained = true ∧ (m.lane (8 * b + lane)).failed = false ∧
        (m.bundle b).state = 1))) ∧
    -- LANE_NAK of a frame that is kept, or no longer
    (∀ cb f, QuietBlock x cb → cb.nclass = 1 → x.keepStatic.find? (fun f => f.1 == cb.nseq) = some f → Completes (.laneNak b cb) s (fun m =>
      (∃ rest, m.outbox = .staticF b cb.nseq f.2.2 f.2.1 :: rest) ∧ m.ctl = s.mod.ctl)) ∧
    (∀ cb f, QuietBlock x cb → cb.nclass = 3 → x.keepPrio.find? (fun f => f.1 == cb.nseq) = some f → Completes (.laneNak b cb) s (fun m =>
      (∃ rest, m.outbox = f.2.1 :: rest) ∧ m.ctl = s.mod.ctl)) ∧
    (∀ cb f, QuietBlock x cb → cb.nclass = 2 → (∀ u ∈ x.keepPkt, u.1 ≠ cb.ackPkt) → x.keepPkt.find? (fun f => f.1 == cb.nseq) = some f →
      x.resent ≠ some (x.period, cb.nseq, false) →
      let n := if x.resent.any (fun r => r.2.1 == cb.nseq) then x.pktResends + 1 else 1
      (n < 8 → Completes (.laneNak b cb) s (fun m => (∃ rest, m.outbox = .pktFrame b cb.nseq f.2.1 f.2.2 :: rest) ∧
        (m.bundle b).pktResends = n ∧ (m.bundle b).resent = some (x.period, cb.nseq, true) ∧ m.ctl = s.mod.ctl)) ∧
      (8 ≤ n → Completes (.laneNak b cb) s (fun m => (m.bundle b).state ≠ 1))) ∧
    (∀ cb, QuietBlock x cb → cb.nclass = 2 → (∀ u ∈ x.keepPkt, u.1 ≠ cb.nseq) → cb.nseq ≠ x.txPkt → s.mod.ctl.mode.running = true →
      Completes (.laneNak b cb) s (fun m => m.ctl.mode = .frozen ∧ m.ctl.resumable = false ∧ m.ctl.cause = 0x0304#16)) ∧
    (∀ cb, QuietBlock x cb → cb.nclass = 1 → x.keepStatic.find? (fun f => f.1 == cb.nseq) = none → s.mod.ctl.mode.running = true →
      Completes (.laneNak b cb) s (fun m => m.ctl.mode = .frozen ∧ m.ctl.resumable = false ∧ m.ctl.cause = 0x0304#16)) ∧
    -- STATIC_FRAME, STATIC_LAST in order
    (∀ payload, x.oooStatic = [] → x.storeNext = [] → x.rxStatic < 256 →
      let taken (store : List Bool) (next : List (List Bool)) (m : Module) : Prop :=
        (m.bundle b).rxStatic = (x.rxStatic + 1) % 256 ∧ (m.bundle b).store = store ∧ (m.bundle b).storeNext = next ∧
        (m.bundle b).gapStatic = x.gapStatic.filter (fun q => decide (seqDist ((x.rxStatic + 1) % 256) q < 128)) ∧ m.ctl = s.mod.ctl
      (s.mod.seq.phase = .issuing ∨ x.gotBits = true →
        Completes (.staticFrame b x.rxStatic payload) s (taken (x.store ++ payloadBits payload) []) ∧
        Completes (.staticLast b x.rxStatic payload) s (taken (x.store ++ payloadBits payload) [[]])) ∧
      -- between the steps of a folio without a bit and the next launch they open the next folio's stream
      (s.mod.seq.phase ≠ .issuing → x.gotBits = false →
        Completes (.staticFrame b x.rxStatic payload) s (taken x.store [payloadBits payload]) ∧
        Completes (.staticLast b x.rxStatic payload) s (taken x.store [payloadBits payload, []]))) ∧
    -- out of order: held, and each missing frame before it is NAKed once
    (∀ seq payload, seq < 256 → 0 < seqDist x.rxStatic seq → seqDist x.rxStatic seq < 128 → x.oooStatic = [] →
      let gaps := (List.range (seqDist x.rxStatic seq)).map (fun i => (x.rxStatic + i) % 256)
      let held (m : Module) : Prop := (m.bundle b).oooStatic = [(seq, payload, false)] ∧ (m.bundle b).gapStatic = gaps ∧
        (m.bundle b).store = x.store ∧ (m.bundle b).rxStatic = x.rxStatic
      (x.gapStatic = [] → Completes (.staticFrame b seq payload) s (fun m => held m ∧
        ∀ q ∈ gaps, ∃ cb, .lctl b cb ∈ m.outbox ∧ cb.op = 1 ∧ cb.nclass = 1 ∧ cb.nseq = q)) ∧
      (x.gapStatic = gaps → Completes (.staticFrame b seq payload) s (fun m => held m ∧ m.outbox = s.mod.outbox))) ∧
    -- seen before
    (∀ seq payload, seq < 256 → 128 ≤ seqDist x.rxStatic seq → Completes (.staticFrame b seq payload) s (fun m => m = s.mod)) ∧
    -- LANE_PACKET in order: its flit joins those received, and a packet that is whole enters the network
    (∀ flit cb, QuietBlock x cb → x.rxPkt < 256 → x.oooPkt = [] →
      let r := takePackets 64 (x.rxq ++ [(cb.vc, flit)])
      let before := s.mod.takeBlock b cb
      Completes (.lanePacket b x.rxPkt flit cb) s (fun m =>
        (m.bundle b).rxPkt = (x.rxPkt + 1) % 256 ∧ m.ctl = s.mod.ctl ∧ (m.bundle b).store = x.store ∧
        (m.bundle b).gapPkt = x.gapPkt.filter (fun q => decide (seqDist ((x.rxPkt + 1) % 256) q < 128)) ∧
        (m.bundle b).rxq = r.2 ∧
        (m.bundle b).freed = [1, 2, 3].map (fun vc => (nth 0 x.freed (vc - 1) + (if cb.vc = vc then 1 else 0)) % 256) ∧
        (r.1 = [] → m.fabric.net = before.fabric.net) ∧
        ∀ p, r.1 = [p] →
          let q := if p.dst / 4096 = s.mod.disc.modnum then p else { p with xhops := min 15 (p.xhops + 1) }
          (p.op ∉ [0, 1, 2, 3, 8, 9, 10] → m.fabric.net = before.fabric.net ∧ m.reg rBadOp = min (before.reg rBadOp + 1) (2 ^ 32 - 1)) ∧
          (p.op ∈ [0, 1, 2, 3, 8, 9, 10] → s.mod.routerDead (bundleRouter b) = false → m.fabric.net = before.fabric.net ++ [q])))

/-- R292, R297, R298, R300, R310, R311. That the window slides (log entry 112), what a failed frame tells of its
class (log entry 111) and one resend for a NAK and a timeout of one period (log entry 174) are DEDUCED. That an event
with no work of its kind under way changes nothing is a DESIGN CHOICE (log entry 3). -/
def Obligations.LaneReplay : Prop :=
  ∀ (s : State) (b : Nat),
    let x := s.mod.bundle b
    -- NAK_REPEAT
    (∀ cls, Completes (.nakRepeat b cls) s (fun m =>
      (∀ q ∈ x.gaps cls, .lctl b (x.control 1 cls q 0) ∈ m.outbox) ∧
      (m.bundle b).txq = x.txq ++ (x.gaps cls).map (fun q => { rank := 1, seq := 0, body := .lctl 1 cls q 0 }) ∧
      KeptBut [.bundles, .outbox] s.mod m)) ∧
    (∀ cls, x.gaps cls = [] → Completes (.nakRepeat b cls) s (fun m => m = s.mod)) ∧
    (x.state = 1 →
      -- LANE_PACKET_RESEND_TIMEOUT
      (∀ seq vc flit rest, x.keepPkt = (seq, vc, flit) :: rest →
        let n := if x.resent.any (fun r => r.2.1 == seq) then x.pktResends + 1 else 1
        (n < 8 → x.pstate ≠ 1 → x.resent ≠ some (x.period, seq, true) → Completes (.lanePacketResendTimeout b) s (fun m =>
          m.outbox = .pktFrame b seq vc flit :: s.mod.outbox ∧
          m.bundle b = { x with pktResends := n, resent := some (x.period, seq, false),
                                txq := x.txq ++ [{ rank := 4, seq := seq, body := .packet vc flit }] } ∧
          m.reg (rReplaysP b) = min (s.mod.reg (rReplaysP b) + 1) (2 ^ 32 - 1) ∧
          KeptBut [.regs, .bundles, .outbox] s.mod m)) ∧
        -- one that stands in Quiet leaves it
        (n < 8 → x.pstate = 1 → x.resent ≠ some (x.period, seq, true) → Completes (.lanePacketResendTimeout b) s (fun m =>
          m.outbox = .pktFrame b seq vc flit :: .burst b :: s.mod.outbox ∧ (m.bundle b).pstate = 0)) ∧
        (8 ≤ n → x.resent ≠ some (x.period, seq, true) → Completes (.lanePacketResendTimeout b) s (fun m =>
          (m.bundle b).state ≠ 1)) ∧
        -- a NAK of the same frame period has given the resend
        (x.resent = some (x.period, seq, true) → Completes (.lanePacketResendTimeout b) s (fun m => m = s.mod))) ∧
      (x.keepPkt = [] → Completes (.lanePacketResendTimeout b) s (fun m => m = s.mod)) ∧
      -- LANE_FRAME_BAD, LANE_FAILED, LANE_DROP
      (∀ lane, lane < 8 → let l := 8 * b + lane
        let y := s.mod.lane l
        (∀ cls, Completes (.laneFrameBad b lane cls) s (fun m =>
          m.lane l = { y with crcErrs := min (y.crcErrs + 1) (2 ^ 32 - 1), good := if y.phase = some .verify then 0 else y.good,
                              errAt := x.period :: y.errAt.filter (fun p => decide (x.period < p + 65536)) } ∧
          (∀ j, j ≠ l → m.lane j = s.mod.lane j) ∧ (cls = 0 → KeptBut [.lanes] s.mod m) ∧
          (1 ≤ cls ∧ cls ≤ 3 → x.holds cls (x.expected cls % 256) = false → x.expected cls % 256 ∈ (m.bundle b).gaps cls ∧
            KeptBut [.lanes, .bundles, .outbox] s.mod m))) ∧
        (y.healthy = true → s.mod.reg (rBundleCfg b) % 256 ≤ s.mod.windowErrs l → (∃ k ∈ lanesOf b, k ≠ l ∧ (s.mod.lane k).healthy = true) →
          Completes (.laneFailed b lane) s (fun m => m.lane l = { y with failed := true } ∧ (m.bundle b).state = 1 ∧
            (∃ rest, m.outbox = .lctl b (x.control 5 0 0 lane) :: rest) ∧ m.ctl = s.mod.ctl)) ∧
        (y.healthy = false ∨ s.mod.windowErrs l < s.mod.reg (rBundleCfg b) % 256 → Completes (.laneFailed b lane) s (fun m => m = s.mod)) ∧
        -- the control block of a LANE_DROP is taken as that of LANE_IDLE
        (∀ cb, y.healthy = true → (∃ k ∈ lanesOf b, k ≠ l ∧ (s.mod.lane k).healthy = true) → Completes (.laneDrop b lane cb) s (fun m =>
          m.lane l = { y with failed := true } ∧ (∀ j, j ≠ l → m.lane j = s.mod.lane j) ∧ KeptBut [.lanes] (s.mod.takeBlock b cb) m)) ∧
        (∀ cb, y.healthy = true → (∀ k ∈ lanesOf b, k ≠ l → (s.mod.lane k).healthy = false) → Completes (.laneDrop b lane cb) s (fun m =>
          (m.bundle b).state ≠ 1)) ∧
        (∀ cb, y.healthy = false → Completes (.laneDrop b lane cb) s (fun m => m = s.mod.takeBlock b cb))))

/-- R292, R305, R306, R310, R311, R332. The moment at which the end that grants enters Quiet is DEDUCED (log entry
180), as is what becomes of a design frame before OUTEN (log entry 185). That an event with no work of its kind under
way changes nothing is a DESIGN CHOICE (log entry 3). -/
def Obligations.LanePowerCommands : Prop :=
  ∀ (s : State) (b : Nat),
    let x := s.mod.bundle b
    let frame (op : Nat) : TxFrame := { rank := 1, seq := 0, body := .lctl op 0 0 0 }
    let sends (op : Nat) (a m : Module) : Prop := (∃ cb rest, m.outbox = .lctl b cb :: rest ∧ cb.op = op) ∧ KeptBut [.bundles, .outbox] a m
    (s.mod.mayQuiet b = true → x.quietPending = false → Completes (.quietIdleExpiry b) s (fun m =>
      m.bundle b = { x with quietPending := true, txq := x.txq ++ [frame 2] } ∧ sends 2 s.mod m)) ∧
    -- Quiet needs QUIET_IDLE ns of IDLE frames alone, and no lane that trains
    (s.mod.mayQuiet b = true → x.carries = true ∧ x.txq = [] ∧ x.txPktQ = [] ∧ x.keepPkt = [] ∧ x.retraining = false ∧
      x.busyAt + s.mod.reg (rQuietIdle b) ≤ s.mod.seq.cycle ∧ ∀ l ∈ lanesOf b, (s.mod.lane l).phase = none) ∧
    -- a received LCTL frame: its control block is taken as that of LANE_IDLE, then its OP acts
    (∀ cb, x.state = 1 →
      let a := s.mod.takeBlock b cb
      let y := a.bundle b
      (y.quietPending = false → Completes (.quietReq b cb) s (fun m =>
        if a.mayQuiet b = true then m.bundle b = { y with txq := y.txq ++ [frame 3] } ∧ sends 3 a m
        else (m.bundle b).txq = y.txq ++ [frame 4] ∧ (m.bundle b).quietPending = false ∧ sends 4 a m)) ∧
      (∀ n, y.quietPending = true → y.nbr = some n → s.mod.disc.modnum < n → Completes (.quietReq b cb) s (fun m => m = a)) ∧
      (y.quietPending = true → y.carries = true → y.txPktQ = [] → y.txq = [] → Completes (.quietAck b cb) s (fun m =>
        m.bundle b = { y with pstate := 1, quietPending := false, quietAt := a.seq.cycle } ∧ (∀ j, j ≠ b → m.bundle j = a.bundle j) ∧
        KeptBut [.bundles] a m)) ∧
      -- a frame that waits starts the exit at once
      (y.quietPending = true → y.carries = true → y.txq ≠ [] → Completes (.quietAck b cb) s (fun m =>
        (m.bundle b).pstate = 0 ∧ (m.bundle b).quietPending = false ∧ .burst b ∈ m.outbox)) ∧
      (y.quietPending = false → Completes (.quietAck b cb) s (fun m => m = a)) ∧
      Completes (.quietRefuse b cb) s (fun m => m.bundle b = { y with quietPending := false, busyAt := a.seq.cycle } ∧
        (∀ j, j ≠ b → m.bundle j = a.bundle j) ∧ KeptBut [.bundles] a m)) ∧
    (∀ cb, x.state ≠ 1 → ∀ c ∈ [Instr.quietReq b cb, .quietAck b cb, .quietRefuse b cb], Completes c s (fun m => m = s.mod)) ∧
    -- the bundle enters Quiet in the frame period that sends the QUIET_ACK
    (s.mod.ctl.mode ≠ .linksvc → x.carries = true → x.txPktQ = [] → x.txq = [frame 3] →
      (∃ l ∈ lanesOf b, (s.mod.lane l).healthy = true ∧ (s.mod.lane l).phase ≠ some .verify) →
      ((s.mod.bundlePeriod b).bundle b).pstate = 1 ∧ ((s.mod.bundlePeriod b).bundle b).txq = []) ∧
    (x.state = 1 → x.pstate = 1 → Completes (.quietExit b) s (fun m => (m.bundle b).pstate = 0 ∧
      (∃ later, m.outbox = later ++ .burst b :: s.mod.outbox) ∧ KeptBut [.bundles, .outbox] s.mod m)) ∧
    (x.state = 1 → x.pstate = 1 → Completes (.trainingBurst b) s (fun m => (m.bundle b).pstate = 0 ∧ KeptBut [.bundles, .outbox] s.mod m)) ∧
    (s.mod.reg (rBundleCfg b) / 256 % 4 = 2 → x.state ≠ 2 → Completes (.offEntry b) s (fun m =>
      m.bundle b = { x with pstate := 2, quietPending := false } ∧ (∀ j, j ≠ b → m.bundle j = s.mod.bundle j) ∧ KeptBut [.bundles] s.mod m)) ∧
    (s.mod.reg (rBundleCfg b) / 256 % 4 ≠ 2 → Completes (.offEntry b) s (fun m => m = s.mod)) ∧
    -- before OUTEN no STATIC and no PACKET frame leaves
    (∀ low, (x.takeFrame low false).1.body.design = false)

/-- R300, R303, R307, R308, R309, R310. The number of mismatched bits from outside is free (log entry 113); a ring of
one module is log entry 179. That an event with no work of its kind under way changes nothing is a DESIGN CHOICE (log
entry 3). -/
def Obligations.LinkServiceCommands : Prop :=
  ∀ s : State,
    (Served s.mod → s.mod.ctl.mode = .linksvc →
      Completes .linksvcCmdRetrain s (fun m => (∀ b, b < 20 → (m.bundle b).pstate = 3) ∧
        (∀ l, l < 160 → (m.lane l).phase = some .detect ∧ (m.lane l).trained = false) ∧ m.stew.lastStatus = 0 ∧
        KeptBut [.lanes, .bundles, .stew] s.mod m) ∧
      Completes .linksvcCmdRecalibrate s (fun m => m.stew.lastStatus = 0 ∧ m.ctl = s.mod.ctl ∧
        (s.mod.inSystem = false → m = s.mod.answer stOK) ∧
        (s.mod.inSystem = true → 1 < s.mod.disc.ringSize → .echoReq 0 ∈ m.outbox ∧ 0 ∈ m.disc.echoOut) ∧
        (s.mod.inSystem = true → s.mod.ringHead = true → 1 < s.mod.disc.rings → .echoReq 1 ∈ m.outbox ∧ 1 ∈ m.disc.echoOut)) ∧
      Completes .linksvcCmdRediscover s (fun m => m.stew.lastStatus = 0 ∧ m.ctl = s.mod.ctl ∧
        (s.mod.inSystem = false → m = s.mod.answer stOK) ∧
        (s.mod.inSystem = true → m.disc.adjs = [] ∧ m.disc.state = 1 ∧ (∀ b, (m.bundle b).nbr = none) ∧
          (s.mod.image.modnum = 0 → (s.mod.bundle 10).state = 1 → .disc 10 0 0 0 ∈ m.outbox))) ∧
      (∀ b lane, lane < 8 → Completes (.laneCtlRetrain b lane) s (fun m =>
        m.lane (8 * b + lane) = { s.mod.lane (8 * b + lane) with phase := some .detect, attempts := 0, trained := false, failed := false,
                                                                 good := 0, noFar := true, farRate := none, errAt := [] } ∧
        (m.bundle b).retraining = true ∧
        (∀ j, j ≠ 8 * b + lane → m.lane j = s.mod.lane j) ∧ m.stew.lastStatus = 0 ∧ KeptBut [.lanes, .bundles, .stew] s.mod m))) ∧
    (Served s.mod → s.mod.ctl.mode ≠ .linksvc → ∀ b lane,
      ∀ c ∈ [Instr.linksvcCmdRetrain, .linksvcCmdRecalibrate, .linksvcCmdRediscover, .laneCtlRetrain b lane],
        Completes c s (fun m => m = s.mod.answer stRefused)) ∧
    (∀ b lane, lane < 8 → let l := 8 * b + lane
      let x := s.mod.lane l
      (Served s.mod → Completes (.laneCtlClr b lane) s (fun m => m.lane l = { x with prbsErrs := 0, prbsBits := 0 } ∧
        (∀ j, j ≠ l → m.lane j = s.mod.lane j) ∧ m.stew.lastStatus = 0 ∧ KeptBut [.lanes, .stew] s.mod m)) ∧
      (s.mod.ctl.mode = .linksvc → bitOf x.ctl 6 = true → Completes (.prbsLock b lane) s (fun m => m.lane l = { x with prbsLock := true } ∧
        (∀ j, j ≠ l → m.lane j = s.mod.lane j) ∧ KeptBut [.lanes] s.mod m)) ∧
      (s.mod.ctl.mode ≠ .linksvc ∨ bitOf x.ctl 6 = false → Completes (.prbsLock b lane) s (fun m => m = s.mod)) ∧
      (x.prbsLock = true → Completes (.prbsLockLoss b lane) s (fun m => m.lane l = { x with prbsLock := false } ∧
        (∀ j, j ≠ l → m.lane j = s.mod.lane j) ∧ KeptBut [.lanes] s.mod m)) ∧
      (x.prbsLock = false → Completes (.prbsLockLoss b lane) s (fun m => m = s.mod)) ∧
      -- 1 ns of a locked checker: every bit counts, and every mismatched bit, of which a lane's own pattern has none
      (x.prbsLock = true → let bits := bitsPerNs (s.mod.bundleRate b)
        let y := (s.mod.checkPrbs l).lane l
        y.prbsBits = (x.prbsBits + bits) % 2 ^ 48 ∧ y.prbsErrs ≤ x.prbsErrs + bits ∧
        (x.prbsErrs < 2 ^ 32 → x.prbsErrs ≤ y.prbsErrs) ∧ (x.ownPattern = true → x.prbsErrs < 2 ^ 32 → y.prbsErrs = x.prbsErrs)))

/-- R167, R168, R169, R274, R342, R348. That a refused second start leaves the running pass is DEDUCED (log entry
117); the rate of a pass is a DESIGN CHOICE (log entry 116); a sector never written is DEDUCED to be checked for the
tree alone (log entry 157). That an event with no work of its kind under way changes nothing is a DESIGN CHOICE (log
entry 3). -/
def Obligations.ScrubberCommands : Prop :=
  ∀ s : State,
    (Served s.mod → s.mod.scrubRefused = false → Completes .scrubGoStart s (fun m =>
      m.scrub = { repairs := [], running := true, target := s.mod.reg rScrubTarget, last := s.mod.reg rScrubLast, next := s.mod.reg rScrubFirst } ∧
      m.reg rScrubState = 1 ∧ m.reg rScrubWords = 0 ∧ m.reg rScrubErrors = 0 ∧ m.reg rScrubEssential = 0 ∧ m.reg rScrubRepairs = 0 ∧
      m.reg rScrubFirstFail = ones64 ∧ m.reg rScrubLastFail = ones64 ∧ m.stew = { s.mod.stew with lastStatus := 0 } ∧
      KeptBut [.regs, .scrub, .stew] s.mod m)) ∧
    (Served s.mod →
      s.mod.scrub.running = true ∨ 2 < s.mod.reg rScrubTarget ∨ s.mod.reg rScrubLast < s.mod.reg rScrubFirst ∨ s.mod.ctl.mode.noScrub = true ∨
        scrubSpace (s.mod.reg rScrubTarget) ≤ s.mod.reg rScrubLast ∨ s.mod.reg rScrubTarget = 2 ∧ s.mod.reg rScrubFirst % 64 ≠ 0 →
      Completes .scrubGoStart s (fun m => m.reg rScrubState = 4 ∧ m.outbox = .msix 6 :: s.mod.outbox ∧ m.stew.lastStatus = 4 ∧ m.scrub = s.mod.scrub)) ∧
    (Served s.mod → s.mod.scrub.running = true → Completes .scrubGoAbort s (fun m => m.scrub = { s.mod.scrub with running := false } ∧
      m.reg rScrubState = 3 ∧ m.stew.lastStatus = 0)) ∧
    (∀ checks, s.mod.ctl.mode ≠ .lockdown → s.mod.scrub.running = true → s.mod.tagsOut s.mod.epSteward = false → s.mod.scrub.target = 2 →
      (∀ e ∈ checks, e.2 = .good ∨ sget 0 s.mod.hbm.ctr (e.1 / 64) = 0 ∧ e.1 < hbmTop ∧ e.2 ≠ .failed 2) →
      Completes (.scrubDone checks) s (fun m => m.scrub = { s.mod.scrub with running := false } ∧ m.reg rScrubState = 2 ∧
        m.reg rScrubWords = (s.mod.scrub.last - s.mod.scrub.next) / 64 + 1 ∧ m.hbm.bytes = s.mod.hbm.bytes ∧ m.hbm.ctr = s.mod.hbm.ctr ∧
        m.outbox = .msix 6 :: s.mod.outbox)) ∧
    -- no pass runs, or no tag is free (R274)
    (∀ checks, s.mod.ctl.mode ≠ .lockdown ∨ s.mod.scrub.target ≠ 2 →
      s.mod.scrub.running = false ∨ s.mod.tagsOut s.mod.epSteward = true → Completes (.scrubDone checks) s (fun m => m = s.mod)) ∧
    -- a read of an HBM pass that failed in the cycle of the lockdown is logged beside the other (R348)
    (∀ a kind, s.mod.ctl.mode = .lockdown → s.mod.scrub.target = 2 → Completes (.scrubDone [(a, .failed kind)]) s (fun m =>
      m.reg rMacFails = (if s.mod.ctl.lockAt = s.mod.seq.cycle then satAdd 32 (s.mod.reg rMacFails) 1 else s.mod.reg rMacFails) ∧
      m.scrub = s.mod.scrub ∧ m.ctl = s.mod.ctl ∧ m.hbm = s.mod.hbm))

/-- R349, R350, R351, R353, R354, R356. That a failed write is not tried again is DEDUCED (log entry 28), as is the
WEAR of a second try (log entry 29); that writes run one at a time is a DESIGN CHOICE (log entry 26). That an event
with no work of its kind under way changes nothing is a DESIGN CHOICE (log entry 3). -/
def Obligations.StoreCommands : Prop :=
  ∀ (s : State) (k : Nat), s.mod.stew.waitingReq = none →
    let x := s.mod.store.sector k
    -- STORE_WRITE_DONE
    (s.mod.store.journal.contains k = true → x.st = secWriting → x.record ≠ 0x0020 → s.mod.store.removals = [] → s.mod.store.queue = [] →
      (s.mod.store.current x.record = none → Completes (.storeWriteDone k true) s (fun m =>
        m.store.sector k = { x with st := secValid }.sealed ∧ k ∉ m.store.journal)) ∧
      (∀ j y, s.mod.store.current x.record = some (j, y) → j ≠ k → Completes (.storeWriteDone k true) s (fun m =>
        m.store.sector k = { x with st := secValid }.sealed ∧ k ∉ m.store.journal ∧ (m.store.sector j).st = secClearing ∧
        (m.store.sector j).wear = (s.mod.store.sector j).wear + 1 ∧ j ∈ m.store.journal)) ∧
      Completes (.storeWriteDone k false) s (fun m => (m.store.sector k).st = secClearing ∧ (m.store.sector k).wear = x.wear + 1 ∧
        k ∈ m.store.journal)) ∧
    (s.mod.store.journal.contains k = false ∨ x.st ≠ secWriting → ∀ ok, Completes (.storeWriteDone k ok) s (fun m => m = s.mod)) ∧
    -- STORE_CLEAR_DONE
    (s.mod.store.journal.contains k = true → x.st = secClearing → s.mod.store.queue = [] →
      Completes (.storeClearDone k true) s (fun m => m.store.sector k = x.cleared ∧ k ∉ m.store.journal) ∧
      (x.fails = 0 → Completes (.storeClearDone k false) s (fun m => m.store.sector k = { x with fails := 1 }.sealed ∧ KeptBut [.store] s.mod m)) ∧
      (x.fails ≠ 0 → Completes (.storeClearDone k false) s (fun m => (m.store.sector k).st = secRetired ∧ k ∉ m.store.journal))) ∧
    (s.mod.store.journal.contains k = false ∨ x.st ≠ secClearing → ∀ ok, Completes (.storeClearDone k ok) s (fun m => m = s.mod)) ∧
    -- STORE_READ_DATA
    (∀ j y, s.mod.store.current (s.mod.reg rStoreReadSel / 65536) = some (j, y) → Completes .storeReadData s (fun m =>
      m.stew.lastStatus = 0 ∧ m.stew.lastRead = y.bodyBytes (4096 * (s.mod.reg rStoreReadSel % 65536)) 4096 ∧ KeptBut [.store, .stew] s.mod m)) ∧
    (s.mod.store.current (s.mod.reg rStoreReadSel / 65536) = none → Completes .storeReadData s (fun m =>
      m.stew = { s.mod.stew with lastStatus := 0x0A, lastRead := [] } ∧ KeptBut [.stew] s.mod m))

/-- R346, R355, R365, R379, R384. The layouts of records 0x0030 and 0x0200 are a DESIGN CHOICE that the statement
leaves open (log entry 36); that SEQ is given at the move (log entry 19), the wait of a policy write (log entry 27)
and the first flush after a start (log entry 129) are DEDUCED. That an event with no work of its kind under way
changes nothing is a DESIGN CHOICE (log entry 3). -/
def Obligations.RecordCommands : Prop :=
  ∀ (s : State) (k : Nat), StoreReady s.mod k →
    Completes .collStoreHourly s (fun m => ∃ body, WriteBegun m k 0x0200 body) ∧
    (s.mod.ctl.mode ≠ .lockdown → Completes (.settingsSave 1) s (fun m => (∃ body, WriteBegun m k 0x0030 body) ∧ m.stew.lastStatus = 0)) ∧
    (s.mod.ctl.mode ≠ .lockdown → ∀ v, v ≠ 1#8 → Completes (.settingsSave v) s (fun m => m = s.mod.answer stRefused) ∧
      Completes (.logFlush v) s (fun m => m = s.mod.answer stRefused)) ∧
    (s.mod.ctl.mode = .idle → ∀ v : Byte, Completes (.memPolicyWrite v) s (fun m =>
      WriteBegun m k 0x0020 [BitVec.ofNat 8 (v.toNat % 2)] ∧ m.reg rMemPolicy = s.mod.reg rMemPolicy ∧ m.stew.lastStatus = 0xFF)) ∧
    (s.mod.ctl.mode ≠ .idle → s.mod.ctl.mode ≠ .lockdown → ∀ v, Completes (.memPolicyWrite v) s (fun m => m = s.mod.answer stMode)) ∧
    -- LOG_FLUSH, LOG_FLUSH_AUTO
    (∀ e, s.mod.stew.ring = [e] → s.mod.stew.flushed ≤ e.seq →
      (s.mod.ctl.mode ≠ .lockdown → Completes (.logFlush 1) s (fun m => WriteBegun m k (0x0100 + s.mod.stew.chunk) e.bytes ∧
        m.stew.flushed = e.seq + 1 ∧ m.stew.chunk = (s.mod.stew.chunk + 1) % 256 ∧ m.stew.lastStatus = 0 ∧ m.stew.ring = s.mod.stew.ring)) ∧
      Completes .logFlushAuto s (fun m => m = s.mod)) ∧
    ((s.mod.stew.ring.filter (fun e => s.mod.stew.flushed ≤ e.seq)).length = 2047 →
      s.mod.stew.lastFlush + 10000000000 ≤ s.mod.stew.up →
      (∃ e, s.mod.stew.ring.head? = some e ∧ ∀ x ∈ s.mod.stew.ring, x.seq ≤ e.seq) →
      Completes .logFlushAuto s (fun m => (∃ body, WriteBegun m k (0x0100 + s.mod.stew.chunk) body ∧ body.length = 2047 * 32) ∧
        m.stew.chunk = (s.mod.stew.chunk + 1) % 256)) ∧
    -- LOG_ENTRY_MOVE
    (∀ src e rest, nextLogSource s.mod.stew.logQ s.mod.stew.lastServed = some src → sget [] s.mod.stew.logQ src = e :: rest →
      Completes .logEntryMove s (fun m => m.stew.ring = { e with seq := s.mod.stew.logNext } :: s.mod.stew.ring.take 4095 ∧
        m.stew.logNext = s.mod.stew.logNext + 1 ∧ sget [] m.stew.logQ src = rest ∧ m.stew.lastServed = src ∧
        (∀ j, j ≠ src → sget [] m.stew.logQ j = sget [] s.mod.stew.logQ j) ∧ m.outbox = .msix 1 :: s.mod.outbox)) ∧
    (s.mod.stew.logQ = [] → Completes .logEntryMove s (fun m => m = s.mod))

/-- R30, R336, R337, R338, R339, R351, R362. Removal of an empty slot, and an install for which the store has no
room, are a DESIGN CHOICE (log entry 31), the byte order of the wrapped key too (log entry 33); the slots that
KEY_SLOTS shows (log entry 30) and an ADMIN key that does not unwrap (log entry 34) are DEDUCED. That an event with
no work of its kind under way changes nothing is a DESIGN CHOICE (log entry 3). -/
def Obligations.KeyCommands : Prop :=
  ∀ s : State,
    -- KEY_INSTALL
    (∀ (slot : Nat) (wrap : BitVec 320), slot < 16 → s.mod.keyMode = true → s.mod.keySlot slot = false →
      let v : BitVec 512 := BitVec.ofNat 512 (slot * 2 ^ 504 + wrap.toNat)
      match unwrapKey "OND8-W" [BitVec.ofNat 8 slot] wrap.toNat with
      | some _ =>
        (s.mod.store.erased ≠ 0 → ∀ k, StoreReady s.mod k → Completes (.keyInstall v) s (fun m =>
          WriteBegun m k (0x0010 + slot) (leBytes 40 wrap.toNat) ∧ m.stew.lastStatus = 0)) ∧
        (s.mod.store.erased = 0 → Completes (.keyInstall v) s (fun m => m.store = s.mod.store ∧ m.stew.lastStatus = 4))
      | none => Completes (.keyInstall v) s (fun m => m.store = s.mod.store ∧ m.stew.lastStatus = 4)) ∧
    (s.mod.ctl.mode ≠ .lockdown → ∀ v : BitVec 512, s.mod.keyMode = false ∨ s.mod.keySlot (v.toNat / 2 ^ 504 % 16) = true →
      Completes (.keyInstall v) s (fun m => m = s.mod.answer stRefused)) ∧
    -- KEY_REMOVE
    (s.mod.keyMode = true → ∀ slot : Byte, slot.toNat < 16 → Completes (.keyRemove slot) s (fun m =>
      (Rising s.mod.store.sectors → m.store.current (0x0010 + slot.toNat) = none) ∧ m.stew.lastStatus = 0)) ∧
    (s.mod.keyMode = false → s.mod.ctl.mode ≠ .lockdown → ∀ slot, Completes (.keyRemove slot) s (fun m => m = s.mod.answer stRefused)) ∧
    -- ZEROISE, in every mode
    Completes (.zeroise 0x5A45524F) s (fun m => (s.mod.resetHeld = false → m.ctl.mode = .lockdown) ∧ m.sec.stageSecret = none ∧
      m.sec.designSecret = none ∧ m.sec.engineKey = none ∧ m.hbm = { bytes := [], ctr := [], trees := [] } ∧
      (Rising s.mod.store.sectors → ∀ i, i < 16 → m.store.current (0x0010 + i) = none) ∧ m.stew.lastStatus = 0) ∧
    (∀ v, v ≠ 0x5A45524F#32 → Completes (.zeroise v) s (fun m => m = s.mod.answer stRefused)) ∧
    -- RANDOM
    (s.mod.ctl.mode ≠ .lockdown → s.mod.sec.trngReady = true →
      let x := s.mod.sec
      let key := beBytes 48 x.drbgK.toNat
      let v := hmac384 key (beBytes 48 x.drbgV.toNat)
      let key1 := hmac384 key (v ++ [0#8])
      Completes .random s (fun m => m.stew.lastRead = v.take 32 ∧ m.stew.lastStatus = 0 ∧ KeptBut [.sec, .stew] s.mod m ∧
        (x.drbgCount + 1 < 65536 → m.sec.drbgK = BitVec.ofNat 384 (beNat key1) ∧ m.sec.drbgV = BitVec.ofNat 384 (beNat (hmac384 key1 v)) ∧
          m.sec = { x with lastRandom := v.take 32, drbgCount := x.drbgCount + 1, drbgK := m.sec.drbgK, drbgV := m.sec.drbgV }) ∧
        (65536 ≤ x.drbgCount + 1 → m.sec.lastRandom = v.take 32 ∧ m.sec.drbgCount = 0 ∧ m.sec.freeCtr = x.freeCtr + 1))) ∧
    (s.mod.ctl.mode ≠ .lockdown → s.mod.sec.trngReady = false → Completes .random s (fun m => m = s.mod.answer stRetry)) ∧
    -- ADMIN_KEY
    (s.mod.ctl.mode = .idle → ∀ wrap : BitVec 320, Completes (.adminKey wrap) s (fun m =>
      match unwrapKey "OND8-A" [] wrap.toNat with
      | some key => m.sec = { s.mod.sec with adminKey := some key } ∧ m.reg rAdminWrap = wrap.toNat ∧ m.stew = { s.mod.stew with lastStatus := 0 } ∧
          KeptBut [.regs, .sec, .stew] s.mod m
      | none => m = s.mod.answer stRefused)) ∧
    (s.mod.ctl.mode ≠ .idle → s.mod.ctl.mode ≠ .lockdown → ∀ wrap, Completes (.adminKey wrap) s (fun m => m = s.mod.answer stRefused)) ∧
    -- TRNG_FAIL, DRBG_RESEED
    Completes .trngFail s (fun m => m.sec = { s.mod.sec with trngFail := true, trngReady := false } ∧ KeptBut [.regs, .sec, .stew] s.mod m) ∧
    (s.mod.sec.trngReady = true → Completes .drbgReseed s (fun m => m.sec.drbgCount = 0 ∧ m.sec.freeCtr = s.mod.sec.freeCtr + 1 ∧
      KeptBut [.sec] s.mod m)) ∧
    (s.mod.sec.trngReady = false → Completes .drbgReseed s (fun m => m = s.mod))

/-- R366, R367, R369, R371. The formulas and the rhythm of the requests are PRESUMED (log entry 120); that the
difference is held exactly is a DESIGN CHOICE (log entry 119). That an event with no work of its kind under way
changes nothing is a DESIGN CHOICE (log entry 3). -/
def Obligations.PtpCommands : Prop :=
  ∀ (s : State) (number d : Nat), s.mod.domainOf number = some d → s.mod.stew.domains.length = 2 →
    let x := s.mod.domain d
    -- PTP_SYNC: a two-step Sync waits; a one-step Sync is measured
    (∀ port rx origin correction, Completes (.ptpSync port number true rx origin correction) s (fun m =>
      m.domain d = { x with pendRx := some (rx - ingressNs port - (correction + s.mod.asym port)) } ∧
      (∀ j, j ≠ d → m.domain j = s.mod.domain j) ∧ KeptBut [.stew] s.mod m)) ∧
    (∀ port rx origin correction, let lead := origin + (correction + s.mod.asym port) + x.delay - (rx - ingressNs port)
      (x.state = 0 → Completes (.ptpSync port number false rx origin correction) s (fun m =>
        m.domain d = { x with offset := 0, ahead := lead, good := 0, state := 1, pendRx := none, reqSeq := (x.reqSeq + 1) % 65536, reqOut := true } ∧
        m.outbox = .delayReq port number x.reqSeq :: s.mod.outbox ∧ KeptBut [.stew, .outbox] s.mod m)) ∧
      (x.state = 1 → (x.ahead - lead).natAbs ≤ 100 → x.good < 15 → Completes (.ptpSync port number false rx origin correction) s (fun m =>
        m.domain d = { x with offset := x.ahead - lead, ahead := lead, good := x.good + 1, pendRx := none, reqSeq := (x.reqSeq + 1) % 65536, reqOut := true } ∧
        m.outbox = .delayReq port number x.reqSeq :: s.mod.outbox ∧ KeptBut [.stew, .outbox] s.mod m)) ∧
      (x.state = 1 → (x.ahead - lead).natAbs ≤ 100 → x.good = 15 → d ≠ s.mod.stew.active → Completes (.ptpSync port number false rx origin correction) s (fun m =>
        (m.domain d).state = 2 ∧ (m.domain d).good = 16 ∧ m.stew.now = s.mod.stew.now)) ∧
      -- the one step of the local time after a start
      (x.state = 1 → (x.ahead - lead).natAbs ≤ 100 → x.good = 15 → d = s.mod.stew.active → s.mod.stew.timeSet = false →
        Completes (.ptpSync port number false rx origin correction) s (fun m =>
          (m.domain d).state = 2 ∧ m.stew.timeSet = true ∧ m.stew.slewing = false ∧ m.stew.now = ((s.mod.stew.now : Int) + 2 * (lead / 2)).toNat ∧
          m.stew.latchSec = 0 ∧ m.stew.latchFolio = 0 ∧ m.stew.latchPhase = 0 ∧ m.stew.prevSec = 0 ∧ m.stew.prevFolio = 0)) ∧
      (x.state = 1 → 100 < (x.ahead - lead).natAbs → Completes (.ptpSync port number false rx origin correction) s (fun m =>
        m.domain d = { x with offset := x.ahead - lead, ahead := lead, good := 0, pendRx := none, reqSeq := (x.reqSeq + 1) % 65536, reqOut := true } ∧
        m.outbox = .delayReq port number x.reqSeq :: s.mod.outbox ∧ KeptBut [.stew, .outbox] s.mod m)) ∧
      (x.state = 2 → 1000 < (x.ahead - lead).natAbs → s.mod.reg rAutoswitch = 0 → Completes (.ptpSync port number false rx origin correction) s (fun m =>
        (m.domain d).state = 3 ∧ m.stew.active = s.mod.stew.active ∧ m.stew.now = s.mod.stew.now))) ∧
    -- PTP_FOLLOW_UP
    (∀ port origin correction rx, x.pendRx = some rx → x.state = 0 → Completes (.ptpFollowUp port number origin correction) s (fun m =>
      m.domain d = { x with offset := 0, ahead := origin + correction + x.delay - rx, good := 0, state := 1, pendRx := none, reqSeq := (x.reqSeq + 1) % 65536, reqOut := true } ∧
      m.outbox = .delayReq port number x.reqSeq :: s.mod.outbox ∧ KeptBut [.stew, .outbox] s.mod m)) ∧
    (∀ port origin correction, x.pendRx = none → Completes (.ptpFollowUp port number origin correction) s (fun m => m = s.mod)) ∧
    -- PTP_DELAY_RESP
    (∀ port tx rx correction, x.state = 0 ∨ x.reqOut = false → Completes (.ptpDelayResp port number tx rx correction) s (fun m => m = s.mod)) ∧
    (∀ port tx rx correction, x.state ≠ 0 → x.reqOut = true →
      let delay := (x.delay - x.ahead + (rx - (tx + egressNs port) - correction)) / 2
      Completes (.ptpDelayResp port number tx rx correction) s (fun m =>
        m.domain d = { x with delay := delay, ahead := x.ahead + (delay - x.delay), reqOut := false } ∧ (∀ j, j ≠ d → m.domain j = s.mod.domain j) ∧
        KeptBut [.stew] s.mod m))

/-- R365, R366, R369, R370, R371, R372. The rate of a slew within its bound of 100 ppm is a DESIGN CHOICE (log entry
119). That an event with no work of its kind under way changes nothing is a DESIGN CHOICE (log entry 3). -/
def Obligations.TimeCommands : Prop :=
  ∀ s : State, s.mod.stew.domains.length = 2 →
    -- PTP_HOLDOVER
    (∀ d, d < 2 → (s.mod.domain d).state = 2 → s.mod.reg rAutoswitch = 0 → Completes (.ptpHoldover d) s (fun m =>
      m.domain d = { s.mod.domain d with state := 3, good := 0 } ∧ m.stew.active = s.mod.stew.active ∧ m.stew.now = s.mod.stew.now)) ∧
    (∀ d, d < 2 → (s.mod.domain d).state = 2 → d = s.mod.stew.active → s.mod.reg rAutoswitch = 1 → (s.mod.domain (1 - d)).state = 2 →
      s.mod.stew.timeSet = true → Completes (.ptpHoldover d) s (fun m =>
        (m.domain d).state = 3 ∧ m.stew.active = 1 - d ∧ m.stew.now = s.mod.stew.now ∧
        m.stew.slewing = decide (2 < (s.mod.domain (1 - d)).ahead.natAbs))) ∧
    (∀ d, (s.mod.domain d).state ≠ 2 → Completes (.ptpHoldover d) s (fun m => m = s.mod)) ∧
    -- TIME_ACTIVE
    (s.mod.ctl.mode ≠ .lockdown → ∀ v : Byte,
      (v.toNat ≤ 1 → (s.mod.domain v.toNat).state = 2 → v.toNat ≠ s.mod.stew.active → s.mod.stew.timeSet = true →
        Completes (.timeActiveWrite v) s (fun m => m.stew.active = v.toNat ∧ m.stew.now = s.mod.stew.now ∧ m.stew.lastStatus = 0)) ∧
      (v.toNat ≤ 1 → (s.mod.domain v.toNat).state = 2 → v.toNat = s.mod.stew.active →
        Completes (.timeActiveWrite v) s (fun m => m = s.mod.answer stOK)) ∧
      (1 < v.toNat ∨ (s.mod.domain v.toNat).state ≠ 2 → Completes (.timeActiveWrite v) s (fun m => m = s.mod.answer stRefused))) ∧
    -- SECOND_PULSE, SLEWING_DONE
    Completes .secondPulse s (fun m => m.stew = { s.mod.stew with prevSec := s.mod.stew.latchSec, prevFolio := s.mod.stew.latchFolio, latchSec := s.mod.stew.now / 1000000000, latchFolio := s.mod.seq.folio, latchPhase := m.stew.latchPhase } ∧
      (s.mod.ctl.mode.running = false → m.stew.latchPhase = 2) ∧ KeptBut [.stew] s.mod m) ∧
    (s.mod.stew.slewing = true → s.mod.stew.lead.natAbs ≤ 2 → Completes .slewingDone s (fun m =>
      m.stew = { s.mod.stew with slewing := false } ∧ KeptBut [.stew] s.mod m)) ∧
    (s.mod.stew.slewing = false ∨ 2 < s.mod.stew.lead.natAbs → Completes .slewingDone s (fun m => m = s.mod)) ∧
    -- n ns of a slew: at most 2 ns in 20,000 ns, towards the active domain's time and not past it
    (∀ n, s.mod.stew.slewing = true → s.mod.stew.active < 2 →
      let w := s.mod.stew
      let w1 := w.pass n
      w1.slewing = true ∧ w1.lead.natAbs ≤ w.lead.natAbs ∧
      (w1.lead - w.lead).natAbs ≤ 2 * ((w.up + n) / 20000 - w.up / 20000) ∧
      (w1.now : Int) = w.now + (2 * ((w.up + n) / 2 - w.up / 2) : Nat) + (w.lead - w1.lead)) ∧
    -- MGT_LINK_CHANGE
    (∀ port up, port < 2 → Completes (.mgtLinkChange port up) s (fun m => m.pins.mgtLink.getLsbD port = up ∧
      m.pins.mgtLink.getLsbD (1 - port) = s.mod.pins.mgtLink.getLsbD (1 - port) ∧ KeptBut [.pins] s.mod m))

/-- R166, R381, R382, R384, R409, R410, R411, R414. Eligibility of collator units is a DESIGN CHOICE (log entry 124),
as are the hysteresis of THERM_N and what stays out of the gating (log entry 126); the window of CHAN_IMBALANCE is
DEDUCED (log entry 128), as are the pads of a bank that comes back (log entry 127). That an event with no work of its
kind under way changes nothing is a DESIGN CHOICE (log entry 3). -/
def Obligations.HealthCommands : Prop :=
  ∀ s : State,
    -- THERMAL_READING
    (∀ die (t : Int), die ≤ 10 → s.mod.stew.tj.length = 11 → t < 11000 → Completes (.thermalReading die t) s (fun m =>
      nth 0 m.stew.tj die = t ∧ (∀ j, j ≠ die → nth 0 m.stew.tj j = nth 0 s.mod.stew.tj j) ∧
      (100 * (s.mod.reg rThermWarn : Int) ≤ t → m.pins.thermN = true ∧ m.stew.hotDies.contains die = true) ∧
      (t < 100 * (s.mod.reg rThermWarn : Int) → m.stew.hotDies.contains die = false) ∧ m.ctl = s.mod.ctl)) ∧
    (∀ die (t : Int), die ≤ 10 → s.mod.stew.tj.length = 11 → 11000 ≤ t → s.mod.ctl.mode.running = true ∨ s.mod.ctl.mode = .idle →
      Completes (.thermalReading die t) s (fun m => m.ctl.mode = .frozen ∧ m.ctl.resumable = false ∧ m.ctl.cause = 0x0702#16 ∧
        m.stew.overtemp = true)) ∧
    (∀ die (t : Int), die ≤ 10 → 11000 ≤ t → s.mod.resetHeld = false → Completes (.thermalReading die t) s (fun m => m.pins.gated = true)) ∧
    -- VIO_CHANGE, BANK_POWERED
    (∀ bank wrong, bank < 12 → Completes (.vioChange bank wrong) s (fun m => m.pins.bankPowered.getLsbD bank = false ∧
      (∀ pad, pad / 32 = bank → sget none m.data.padOut pad = none) ∧
      (∀ pad, pad / 32 ≠ bank → sget none m.data.padOut pad = sget none s.mod.data.padOut pad) ∧ m.ctl = s.mod.ctl)) ∧
    (∀ bank, bank < 12 → s.mod.reg (rBankCfg bank) % 8 ≠ 0 → Completes (.bankPowered bank) s (fun m =>
      m.pins.bankPowered.getLsbD bank = true ∧ (∀ j, j < 12 → j ≠ bank → m.pins.bankPowered.getLsbD j = s.mod.pins.bankPowered.getLsbD j) ∧
      m.data.ioData = s.mod.data.ioData ∧ KeptBut [.pins, .data] s.mod m)) ∧
    (∀ bank, 11 < bank ∨ s.mod.reg (rBankCfg bank) % 8 = 0 → Completes (.bankPowered bank) s (fun m => m = s.mod)) ∧
    -- CHAN_IMBALANCE
    (let mine := srange s.mod.fabric.pcWindow 0 32
     let total := mine.foldl (fun a e => a + e.2) 0
     65536 ≤ total → Completes (.chanImbalance 1) s (fun m =>
       sget 0 m.fabric.chanImb 1 = min 0xFFFF (mine.foldl (fun a e => max a e.2) 0 * 32 * 256 / total) ∧
       (∀ k, k < 32 → sget 0 m.fabric.pcWindow k = 0) ∧ KeptBut [.fabric] s.mod m)) ∧
    -- COLLATOR_UNIT of a spare
    (∀ unit, s.mod.collTime = true → bitOf (s.mod.reg rCollCtrl) 0 = true → unit < 2 ^ 18 → s.mod.spareFree (unit / 64) (unit % 64 / 32) = true →
      s.mod.reg (rCollTested 0) + 1 < s.mod.reg (rCollEligible 0) → Completes (.collatorUnit .spares unit true) s (fun m =>
        m.reg (rCollTested 0) = s.mod.reg (rCollTested 0) + 1 ∧ KeptBut [.regs] s.mod m)) ∧
    (∀ act unit pass, s.mod.collTime = false ∨ bitOf (s.mod.reg rCollCtrl) (activityNo act) = false →
      Completes (.collatorUnit act unit pass) s (fun m => m = s.mod))

/-- R101, R104, R271, R276. COUNT is judged whatever V says, and a mark is kept by the die of the module (log entry
132, DEDUCED); the status of a write outside a range is log entry 140. -/
def Obligations.EntryCommands : Prop :=
  ∀ s : State, Served s.mod →
    -- DCLK_CFG, DCLK_TIME
    (s.mod.ctl.mode = .idle → ∀ gen (v : BitVec 32), gen < 64 →
      (clkCfgBad v.toNat = false → Completes (.dclkWrite gen false v) s (fun m =>
        m.reg (rDclkCfg gen) = v.toNat ∧ m.seq = { s.mod.seq with dclkHeld := s.mod.seq.dclkHeld ++ [(gen, false, v.toNat)] } ∧
        m.stew = { s.mod.stew with lastStatus := 0 } ∧ KeptBut [.regs, .seq, .stew] s.mod m)) ∧
      (clkTimeBad v.toNat = false → Completes (.dclkWrite gen true v) s (fun m =>
        m.reg (rDclkTime gen) = v.toNat ∧ m.seq = { s.mod.seq with dclkHeld := s.mod.seq.dclkHeld ++ [(gen, true, v.toNat)] } ∧
        m.stew = { s.mod.stew with lastStatus := 0 } ∧ KeptBut [.regs, .seq, .stew] s.mod m)) ∧
      (clkCfgBad v.toNat = true → Completes (.dclkWrite gen false v) s (fun m => m = s.mod.answer stRefused))) ∧
    (s.mod.ctl.mode ≠ .idle → ∀ gen isTime v, gen < 64 → Completes (.dclkWrite gen isTime v) s (fun m => m = s.mod.answer stMode)) ∧
    -- DEAD_MARK
    (s.mod.ctl.mode.running = false → ∀ die t, die ≤ 10 → t < 256 →
      (endpointExists die t = true →
        Completes (.deadMarkSet die false t) s (fun m => sget false m.fabric.deadEp (256 * die + t) = true ∧
          m.fabric = { s.mod.fabric with deadEp := m.fabric.deadEp } ∧
          (∀ k, k ≠ 256 * die + t → sget false m.fabric.deadEp k = sget false s.mod.fabric.deadEp k) ∧ m.stew.lastStatus = 0) ∧
        Completes (.deadMarkClear die false t) s (fun m => sget false m.fabric.deadEp (256 * die + t) = false ∧
          sget 0 m.fabric.timeouts (4096 * s.mod.disc.modnum + 256 * die + t) = 0 ∧
          (∀ k, k ≠ 256 * die + t → sget false m.fabric.deadEp k = sget false s.mod.fabric.deadEp k) ∧ m.stew.lastStatus = 0)) ∧
      (t % 4 = 0 → routerExists die (t / 4) = true →
        Completes (.deadMarkSet die true t) s (fun m => sget false m.fabric.deadRt (64 * die + t / 4) = true ∧
          m.fabric = { s.mod.fabric with deadRt := m.fabric.deadRt } ∧ m.stew.lastStatus = 0) ∧
        Completes (.deadMarkClear die true t) s (fun m => sget false m.fabric.deadRt (64 * die + t / 4) = false ∧
          m.fabric = { s.mod.fabric with deadRt := m.fabric.deadRt } ∧ m.stew.lastStatus = 0)) ∧
      (endpointExists die t = false → Completes (.deadMarkSet die false t) s (fun m => m = s.mod.answer stRefused))) ∧
    (s.mod.ctl.mode.running = true → ∀ die router t, die ≤ 10 → Completes (.deadMarkSet die router t) s (fun m => m = s.mod.answer stRefused) ∧
      Completes (.deadMarkClear die router t) s (fun m => m = s.mod.answer stRefused)) ∧
    -- SRC_ROUTE
    (∀ die ni entry (v : Word), ni < 256 → entry < 16 → endpointExists die ni = true →
      (s.mod.routeRefused ((256 * die + ni) * 16 + entry) v.toNat = false → Completes (.srcRouteWrite die ni entry v) s (fun m =>
        sget 0 m.fabric.srcRoute ((256 * die + ni) * 16 + entry) = v ∧
        (∀ k, k ≠ (256 * die + ni) * 16 + entry → sget 0 m.fabric.srcRoute k = sget 0 s.mod.fabric.srcRoute k) ∧
        m.stew.lastStatus = 0 ∧ KeptBut [.fabric, .stew] s.mod m)) ∧
      (s.mod.ctl.mode.routesOpen = false ∨ v.toNat / 2 ^ 56 % 16 = 0 ∨ 12 < v.toNat / 2 ^ 56 % 16 →
        Completes (.srcRouteWrite die ni entry v) s (fun m => m = s.mod.answer stRefused)))

/-- R141, R288, R289, R290, R291, R292, R303: a frame that leaves a lane is the frame that arrives, and spells the
command that it carries. The byte order of the CRC is DEDUCED from that of a colophon (log entry 176). -/
def Obligations.LaneFrameRoundTrip : Prop :=
  -- the line bits of a frame period: scrambled, with at most 16 stuffed bits, and read back
  (∀ (scr : BitVec 31) (f : BitVec 512), frameOf scr (lineOf scr f) = f ∧ (periodBits scr f).length ≤ 528) ∧
  ∀ (b lane roundTrip rank seq : Nat) (cb : CtlBlock), seq < 256 → cb.wf = true →
    let received (body : LaneBody) : Instr := laneCommand b lane roundTrip (TxFrame.bits cb { rank := rank, seq := seq, body := body })
    let record (r : Bringup) : LaneBody := .prio true (BitVec.ofNat 464 (bringupBits r))
    -- IDLE and LCTL
    received .idle = .laneIdle b lane { cb with op := 0 } ∧
    (∀ cls n k, cls < 4 → n < 256 → k < 8 →
      let block (op : Nat) : CtlBlock := { cb with op := op, nclass := cls, nseq := n, nlane := k }
      received (.lctl 1 cls n k) = .laneNak b (block 1) ∧ received (.lctl 2 cls n k) = .quietReq b (block 2) ∧
      received (.lctl 3 cls n k) = .quietAck b (block 3) ∧ received (.lctl 4 cls n k) = .quietRefuse b (block 4) ∧
      received (.lctl 5 cls n k) = .laneDrop b k (block 5)) ∧
    -- STATIC, STATIC_LAST, PACKET
    (∀ p, received (.static false p) = .staticFrame b seq p ∧ received (.static true p) = .staticLast b seq p) ∧
    (∀ vc flit, vc < 4 → received (.packet vc flit) = .lanePacket b seq flit { cb with vc := vc }) ∧
    -- PRIO: a stitch token
    (∀ t : Token, t.wf = true →
      let c := received (.prio false (BitVec.ofNat 464 (tokenBits t)))
      (t.kind = 0 → c = .ringGather seq t) ∧ (t.kind = 1 → c = .headGather seq t) ∧ (t.kind = 2 → c = .headRelease seq t) ∧
      (t.kind = 3 → c = .ringRelease seq t) ∧ (t.kind = 4 → c = .freezeFlood b seq t)) ∧
    -- BRINGUP: a discovery record
    ∀ r : Bringup, r.ring < 16 → r.count < 16 → r.module < 256 → r.mods ≤ 256 → r.imgnum < 256 → r.nbr.length = 20 →
      (∀ n ∈ r.nbr, n.all (· < 256) = true) →
      received (record { r with kind := 0 }) = .ringDisc seq r.ring r.count ∧
      received (record { r with kind := 1 }) = .headDisc seq r.ring ∧
      received (record { r with kind := 2 }) = .ident b seq r.module r.sysid r.mods r.imgnum ∧
      received (record { r with kind := 3 }) = .echoReq b seq ∧
      received (record { r with kind := 4 }) = .echoRsp b seq roundTrip ∧
      received (record { r with kind := 5 }) = .adj b seq r.module r.nbr
end

