-- ==== Sys2Proof/Laws/Frame.lean ====
section
/-! SUPPORT. Laws/Frame.lean: how the parts of a module pass through a fold and a choice. -/

namespace Sys2Proof.Machine

@[simp] theorem foldl_regs {β : Type} (f : Module → β → Module) (l : List β) (m : Module) (h : ∀ m x, (f m x).regs = m.regs) :
    (l.foldl f m).regs = m.regs := by
  induction l generalizing m with
  | nil => rfl
  | cons x t ih => rw [List.foldl_cons, ih, h]
@[simp] theorem ite_regs (c : Prop) [Decidable c] (a b : Module) :
    (if c then a else b).regs = if c then a.regs else b.regs := by split <;> rfl
@[simp] theorem foldl_ctl {β : Type} (f : Module → β → Module) (l : List β) (m : Module) (h : ∀ m x, (f m x).ctl = m.ctl) :
    (l.foldl f m).ctl = m.ctl := by
  induction l generalizing m with
  | nil => rfl
  | cons x t ih => rw [List.foldl_cons, ih, h]
@[simp] theorem ite_ctl (c : Prop) [Decidable c] (a b : Module) :
    (if c then a else b).ctl = if c then a.ctl else b.ctl := by split <;> rfl
@[simp] theorem foldl_pins {β : Type} (f : Module → β → Module) (l : List β) (m : Module) (h : ∀ m x, (f m x).pins = m.pins) :
    (l.foldl f m).pins = m.pins := by
  induction l generalizing m with
  | nil => rfl
  | cons x t ih => rw [List.foldl_cons, ih, h]
@[simp] theorem ite_pins (c : Prop) [Decidable c] (a b : Module) :
    (if c then a else b).pins = if c then a.pins else b.pins := by split <;> rfl
@[simp] theorem foldl_start {β : Type} (f : Module → β → Module) (l : List β) (m : Module) (h : ∀ m x, (f m x).start = m.start) :
    (l.foldl f m).start = m.start := by
  induction l generalizing m with
  | nil => rfl
  | cons x t ih => rw [List.foldl_cons, ih, h]
@[simp] theorem ite_start (c : Prop) [Decidable c] (a b : Module) :
    (if c then a else b).start = if c then a.start else b.start := by split <;> rfl
@[simp] theorem foldl_seq {β : Type} (f : Module → β → Module) (l : List β) (m : Module) (h : ∀ m x, (f m x).seq = m.seq) :
    (l.foldl f m).seq = m.seq := by
  induction l generalizing m with
  | nil => rfl
  | cons x t ih => rw [List.foldl_cons, ih, h]
@[simp] theorem ite_seq (c : Prop) [Decidable c] (a b : Module) :
    (if c then a else b).seq = if c then a.seq else b.seq := by split <;> rfl
@[simp] theorem foldl_data {β : Type} (f : Module → β → Module) (l : List β) (m : Module) (h : ∀ m x, (f m x).data = m.data) :
    (l.foldl f m).data = m.data := by
  induction l generalizing m with
  | nil => rfl
  | cons x t ih => rw [List.foldl_cons, ih, h]
@[simp] theorem ite_data (c : Prop) [Decidable c] (a b : Module) :
    (if c then a else b).data = if c then a.data else b.data := by split <;> rfl
@[simp] theorem foldl_image {β : Type} (f : Module → β → Module) (l : List β) (m : Module) (h : ∀ m x, (f m x).image = m.image) :
    (l.foldl f m).image = m.image := by
  induction l generalizing m with
  | nil => rfl
  | cons x t ih => rw [List.foldl_cons, ih, h]
@[simp] theorem ite_image (c : Prop) [Decidable c] (a b : Module) :
    (if c then a else b).image = if c then a.image else b.image := by split <;> rfl
@[simp] theorem foldl_load {β : Type} (f : Module → β → Module) (l : List β) (m : Module) (h : ∀ m x, (f m x).load = m.load) :
    (l.foldl f m).load = m.load := by
  induction l generalizing m with
  | nil => rfl
  | cons x t ih => rw [List.foldl_cons, ih, h]
@[simp] theorem ite_load (c : Prop) [Decidable c] (a b : Module) :
    (if c then a else b).load = if c then a.load else b.load := by split <;> rfl
@[simp] theorem foldl_txn {β : Type} (f : Module → β → Module) (l : List β) (m : Module) (h : ∀ m x, (f m x).txn = m.txn) :
    (l.foldl f m).txn = m.txn := by
  induction l generalizing m with
  | nil => rfl
  | cons x t ih => rw [List.foldl_cons, ih, h]
@[simp] theorem ite_txn (c : Prop) [Decidable c] (a b : Module) :
    (if c then a else b).txn = if c then a.txn else b.txn := by split <;> rfl
@[simp] theorem foldl_couriers {β : Type} (f : Module → β → Module) (l : List β) (m : Module) (h : ∀ m x, (f m x).couriers = m.couriers) :
    (l.foldl f m).couriers = m.couriers := by
  induction l generalizing m with
  | nil => rfl
  | cons x t ih => rw [List.foldl_cons, ih, h]
@[simp] theorem ite_couriers (c : Prop) [Decidable c] (a b : Module) :
    (if c then a else b).couriers = if c then a.couriers else b.couriers := by split <;> rfl
@[simp] theorem foldl_trig {β : Type} (f : Module → β → Module) (l : List β) (m : Module) (h : ∀ m x, (f m x).trig = m.trig) :
    (l.foldl f m).trig = m.trig := by
  induction l generalizing m with
  | nil => rfl
  | cons x t ih => rw [List.foldl_cons, ih, h]
@[simp] theorem ite_trig (c : Prop) [Decidable c] (a b : Module) :
    (if c then a else b).trig = if c then a.trig else b.trig := by split <;> rfl
@[simp] theorem foldl_trace {β : Type} (f : Module → β → Module) (l : List β) (m : Module) (h : ∀ m x, (f m x).trace = m.trace) :
    (l.foldl f m).trace = m.trace := by
  induction l generalizing m with
  | nil => rfl
  | cons x t ih => rw [List.foldl_cons, ih, h]
@[simp] theorem ite_trace (c : Prop) [Decidable c] (a b : Module) :
    (if c then a else b).trace = if c then a.trace else b.trace := by split <;> rfl
@[simp] theorem foldl_fabric {β : Type} (f : Module → β → Module) (l : List β) (m : Module) (h : ∀ m x, (f m x).fabric = m.fabric) :
    (l.foldl f m).fabric = m.fabric := by
  induction l generalizing m with
  | nil => rfl
  | cons x t ih => rw [List.foldl_cons, ih, h]
@[simp] theorem ite_fabric (c : Prop) [Decidable c] (a b : Module) :
    (if c then a else b).fabric = if c then a.fabric else b.fabric := by split <;> rfl
@[simp] theorem foldl_lanes {β : Type} (f : Module → β → Module) (l : List β) (m : Module) (h : ∀ m x, (f m x).lanes = m.lanes) :
    (l.foldl f m).lanes = m.lanes := by
  induction l generalizing m with
  | nil => rfl
  | cons x t ih => rw [List.foldl_cons, ih, h]
@[simp] theorem ite_lanes (c : Prop) [Decidable c] (a b : Module) :
    (if c then a else b).lanes = if c then a.lanes else b.lanes := by split <;> rfl
@[simp] theorem foldl_bundles {β : Type} (f : Module → β → Module) (l : List β) (m : Module) (h : ∀ m x, (f m x).bundles = m.bundles) :
    (l.foldl f m).bundles = m.bundles := by
  induction l generalizing m with
  | nil => rfl
  | cons x t ih => rw [List.foldl_cons, ih, h]
@[simp] theorem ite_bundles (c : Prop) [Decidable c] (a b : Module) :
    (if c then a else b).bundles = if c then a.bundles else b.bundles := by split <;> rfl
@[simp] theorem foldl_disc {β : Type} (f : Module → β → Module) (l : List β) (m : Module) (h : ∀ m x, (f m x).disc = m.disc) :
    (l.foldl f m).disc = m.disc := by
  induction l generalizing m with
  | nil => rfl
  | cons x t ih => rw [List.foldl_cons, ih, h]
@[simp] theorem ite_disc (c : Prop) [Decidable c] (a b : Module) :
    (if c then a else b).disc = if c then a.disc else b.disc := by split <;> rfl
@[simp] theorem foldl_store {β : Type} (f : Module → β → Module) (l : List β) (m : Module) (h : ∀ m x, (f m x).store = m.store) :
    (l.foldl f m).store = m.store := by
  induction l generalizing m with
  | nil => rfl
  | cons x t ih => rw [List.foldl_cons, ih, h]
@[simp] theorem ite_store (c : Prop) [Decidable c] (a b : Module) :
    (if c then a else b).store = if c then a.store else b.store := by split <;> rfl
@[simp] theorem foldl_sec {β : Type} (f : Module → β → Module) (l : List β) (m : Module) (h : ∀ m x, (f m x).sec = m.sec) :
    (l.foldl f m).sec = m.sec := by
  induction l generalizing m with
  | nil => rfl
  | cons x t ih => rw [List.foldl_cons, ih, h]
@[simp] theorem ite_sec (c : Prop) [Decidable c] (a b : Module) :
    (if c then a else b).sec = if c then a.sec else b.sec := by split <;> rfl
@[simp] theorem foldl_stew {β : Type} (f : Module → β → Module) (l : List β) (m : Module) (h : ∀ m x, (f m x).stew = m.stew) :
    (l.foldl f m).stew = m.stew := by
  induction l generalizing m with
  | nil => rfl
  | cons x t ih => rw [List.foldl_cons, ih, h]
@[simp] theorem ite_stew (c : Prop) [Decidable c] (a b : Module) :
    (if c then a else b).stew = if c then a.stew else b.stew := by split <;> rfl
@[simp] theorem foldl_scrub {β : Type} (f : Module → β → Module) (l : List β) (m : Module) (h : ∀ m x, (f m x).scrub = m.scrub) :
    (l.foldl f m).scrub = m.scrub := by
  induction l generalizing m with
  | nil => rfl
  | cons x t ih => rw [List.foldl_cons, ih, h]
@[simp] theorem ite_scrub (c : Prop) [Decidable c] (a b : Module) :
    (if c then a else b).scrub = if c then a.scrub else b.scrub := by split <;> rfl
@[simp] theorem foldl_hbm {β : Type} (f : Module → β → Module) (l : List β) (m : Module) (h : ∀ m x, (f m x).hbm = m.hbm) :
    (l.foldl f m).hbm = m.hbm := by
  induction l generalizing m with
  | nil => rfl
  | cons x t ih => rw [List.foldl_cons, ih, h]
@[simp] theorem ite_hbm (c : Prop) [Decidable c] (a b : Module) :
    (if c then a else b).hbm = if c then a.hbm else b.hbm := by split <;> rfl
@[simp] theorem foldl_outbox {β : Type} (f : Module → β → Module) (l : List β) (m : Module) (h : ∀ m x, (f m x).outbox = m.outbox) :
    (l.foldl f m).outbox = m.outbox := by
  induction l generalizing m with
  | nil => rfl
  | cons x t ih => rw [List.foldl_cons, ih, h]
@[simp] theorem ite_outbox (c : Prop) [Decidable c] (a b : Module) :
    (if c then a else b).outbox = if c then a.outbox else b.outbox := by split <;> rfl

end Sys2Proof.Machine
end

