-- ==== Sys2Proof/Laws/FrameOps.lean ====
section
/-! SUPPORT. Laws/FrameOps.lean: for each operation of the integrity tree, the registers, memory protection and the shared operations, the parts of the module that it
never changes. -/

namespace Sys2Proof.Machine

@[simp] theorem treeRead_frame (ss : List Nat) (bad : Bool) (m : Module) :
    (Module.treeRead ss bad m).2.2.regs = m.regs ∧
    (Module.treeRead ss bad m).2.2.ctl = m.ctl ∧
    (Module.treeRead ss bad m).2.2.pins = m.pins ∧
    (Module.treeRead ss bad m).2.2.start = m.start ∧
    (Module.treeRead ss bad m).2.2.seq = m.seq ∧
    (Module.treeRead ss bad m).2.2.data = m.data ∧
    (Module.treeRead ss bad m).2.2.image = m.image ∧
    (Module.treeRead ss bad m).2.2.load = m.load ∧
    (Module.treeRead ss bad m).2.2.txn = m.txn ∧
    (Module.treeRead ss bad m).2.2.couriers = m.couriers ∧
    (Module.treeRead ss bad m).2.2.trig = m.trig ∧
    (Module.treeRead ss bad m).2.2.trace = m.trace ∧
    (Module.treeRead ss bad m).2.2.fabric = m.fabric ∧
    (Module.treeRead ss bad m).2.2.lanes = m.lanes ∧
    (Module.treeRead ss bad m).2.2.bundles = m.bundles ∧
    (Module.treeRead ss bad m).2.2.disc = m.disc ∧
    (Module.treeRead ss bad m).2.2.store = m.store ∧
    (Module.treeRead ss bad m).2.2.sec = m.sec ∧
    (Module.treeRead ss bad m).2.2.stew = m.stew ∧
    (Module.treeRead ss bad m).2.2.scrub = m.scrub ∧
    (Module.treeRead ss bad m).2.2.outbox = m.outbox := by
  unfold Module.treeRead; simp

@[simp] theorem setReg_frame (m : Module) (key v : Nat) :
    (Module.setReg m key v).ctl = m.ctl ∧
    (Module.setReg m key v).pins = m.pins ∧
    (Module.setReg m key v).start = m.start ∧
    (Module.setReg m key v).seq = m.seq ∧
    (Module.setReg m key v).data = m.data ∧
    (Module.setReg m key v).image = m.image ∧
    (Module.setReg m key v).load = m.load ∧
    (Module.setReg m key v).txn = m.txn ∧
    (Module.setReg m key v).couriers = m.couriers ∧
    (Module.setReg m key v).trig = m.trig ∧
    (Module.setReg m key v).trace = m.trace ∧
    (Module.setReg m key v).fabric = m.fabric ∧
    (Module.setReg m key v).lanes = m.lanes ∧
    (Module.setReg m key v).bundles = m.bundles ∧
    (Module.setReg m key v).disc = m.disc ∧
    (Module.setReg m key v).store = m.store ∧
    (Module.setReg m key v).sec = m.sec ∧
    (Module.setReg m key v).stew = m.stew ∧
    (Module.setReg m key v).scrub = m.scrub ∧
    (Module.setReg m key v).hbm = m.hbm ∧
    (Module.setReg m key v).outbox = m.outbox := by
  unfold Module.setReg; simp

@[simp] theorem setRegs_frame (m : Module) (kvs : List (Nat × Nat)) :
    (Module.setRegs m kvs).ctl = m.ctl ∧
    (Module.setRegs m kvs).pins = m.pins ∧
    (Module.setRegs m kvs).start = m.start ∧
    (Module.setRegs m kvs).seq = m.seq ∧
    (Module.setRegs m kvs).data = m.data ∧
    (Module.setRegs m kvs).image = m.image ∧
    (Module.setRegs m kvs).load = m.load ∧
    (Module.setRegs m kvs).txn = m.txn ∧
    (Module.setRegs m kvs).couriers = m.couriers ∧
    (Module.setRegs m kvs).trig = m.trig ∧
    (Module.setRegs m kvs).trace = m.trace ∧
    (Module.setRegs m kvs).fabric = m.fabric ∧
    (Module.setRegs m kvs).lanes = m.lanes ∧
    (Module.setRegs m kvs).bundles = m.bundles ∧
    (Module.setRegs m kvs).disc = m.disc ∧
    (Module.setRegs m kvs).store = m.store ∧
    (Module.setRegs m kvs).sec = m.sec ∧
    (Module.setRegs m kvs).stew = m.stew ∧
    (Module.setRegs m kvs).scrub = m.scrub ∧
    (Module.setRegs m kvs).hbm = m.hbm ∧
    (Module.setRegs m kvs).outbox = m.outbox := by
  unfold Module.setRegs; simp

@[simp] theorem satReg_frame (m : Module) (width key n : Nat) :
    (Module.satReg m width key n).ctl = m.ctl ∧
    (Module.satReg m width key n).pins = m.pins ∧
    (Module.satReg m width key n).start = m.start ∧
    (Module.satReg m width key n).seq = m.seq ∧
    (Module.satReg m width key n).data = m.data ∧
    (Module.satReg m width key n).image = m.image ∧
    (Module.satReg m width key n).load = m.load ∧
    (Module.satReg m width key n).txn = m.txn ∧
    (Module.satReg m width key n).couriers = m.couriers ∧
    (Module.satReg m width key n).trig = m.trig ∧
    (Module.satReg m width key n).trace = m.trace ∧
    (Module.satReg m width key n).fabric = m.fabric ∧
    (Module.satReg m width key n).lanes = m.lanes ∧
    (Module.satReg m width key n).bundles = m.bundles ∧
    (Module.satReg m width key n).disc = m.disc ∧
    (Module.satReg m width key n).store = m.store ∧
    (Module.satReg m width key n).sec = m.sec ∧
    (Module.satReg m width key n).stew = m.stew ∧
    (Module.satReg m width key n).scrub = m.scrub ∧
    (Module.satReg m width key n).hbm = m.hbm ∧
    (Module.satReg m width key n).outbox = m.outbox := by
  unfold Module.satReg; simp

@[simp] theorem statReg_frame (m : Module) (key n : Nat) :
    (Module.statReg m key n).ctl = m.ctl ∧
    (Module.statReg m key n).pins = m.pins ∧
    (Module.statReg m key n).start = m.start ∧
    (Module.statReg m key n).seq = m.seq ∧
    (Module.statReg m key n).data = m.data ∧
    (Module.statReg m key n).image = m.image ∧
    (Module.statReg m key n).load = m.load ∧
    (Module.statReg m key n).txn = m.txn ∧
    (Module.statReg m key n).couriers = m.couriers ∧
    (Module.statReg m key n).trig = m.trig ∧
    (Module.statReg m key n).trace = m.trace ∧
    (Module.statReg m key n).fabric = m.fabric ∧
    (Module.statReg m key n).lanes = m.lanes ∧
    (Module.statReg m key n).bundles = m.bundles ∧
    (Module.statReg m key n).disc = m.disc ∧
    (Module.statReg m key n).store = m.store ∧
    (Module.statReg m key n).sec = m.sec ∧
    (Module.statReg m key n).stew = m.stew ∧
    (Module.statReg m key n).scrub = m.scrub ∧
    (Module.statReg m key n).hbm = m.hbm ∧
    (Module.statReg m key n).outbox = m.outbox := by
  unfold Module.statReg; simp

@[simp] theorem clearStartRegs_frame (m : Module) :
    (Module.clearStartRegs m).ctl = m.ctl ∧
    (Module.clearStartRegs m).pins = m.pins ∧
    (Module.clearStartRegs m).start = m.start ∧
    (Module.clearStartRegs m).seq = m.seq ∧
    (Module.clearStartRegs m).data = m.data ∧
    (Module.clearStartRegs m).image = m.image ∧
    (Module.clearStartRegs m).load = m.load ∧
    (Module.clearStartRegs m).txn = m.txn ∧
    (Module.clearStartRegs m).couriers = m.couriers ∧
    (Module.clearStartRegs m).trig = m.trig ∧
    (Module.clearStartRegs m).trace = m.trace ∧
    (Module.clearStartRegs m).fabric = m.fabric ∧
    (Module.clearStartRegs m).lanes = m.lanes ∧
    (Module.clearStartRegs m).bundles = m.bundles ∧
    (Module.clearStartRegs m).disc = m.disc ∧
    (Module.clearStartRegs m).store = m.store ∧
    (Module.clearStartRegs m).sec = m.sec ∧
    (Module.clearStartRegs m).stew = m.stew ∧
    (Module.clearStartRegs m).scrub = m.scrub ∧
    (Module.clearStartRegs m).hbm = m.hbm ∧
    (Module.clearStartRegs m).outbox = m.outbox := by
  unfold Module.clearStartRegs; simp

@[simp] theorem outcome_frame (chk : SectorCheck) (s : Nat) (m : Module) :
    (Module.outcome chk s m).2.regs = m.regs ∧
    (Module.outcome chk s m).2.ctl = m.ctl ∧
    (Module.outcome chk s m).2.pins = m.pins ∧
    (Module.outcome chk s m).2.start = m.start ∧
    (Module.outcome chk s m).2.seq = m.seq ∧
    (Module.outcome chk s m).2.data = m.data ∧
    (Module.outcome chk s m).2.image = m.image ∧
    (Module.outcome chk s m).2.load = m.load ∧
    (Module.outcome chk s m).2.txn = m.txn ∧
    (Module.outcome chk s m).2.couriers = m.couriers ∧
    (Module.outcome chk s m).2.trig = m.trig ∧
    (Module.outcome chk s m).2.trace = m.trace ∧
    (Module.outcome chk s m).2.fabric = m.fabric ∧
    (Module.outcome chk s m).2.lanes = m.lanes ∧
    (Module.outcome chk s m).2.bundles = m.bundles ∧
    (Module.outcome chk s m).2.disc = m.disc ∧
    (Module.outcome chk s m).2.store = m.store ∧
    (Module.outcome chk s m).2.sec = m.sec ∧
    (Module.outcome chk s m).2.stew = m.stew ∧
    (Module.outcome chk s m).2.scrub = m.scrub ∧
    (Module.outcome chk s m).2.outbox = m.outbox := by
  unfold Module.outcome; (try dsimp only); (repeat' split) <;> simp

@[simp] theorem msix_frame (v : Nat) (m : Module) :
    (Module.msix v m).regs = m.regs ∧
    (Module.msix v m).ctl = m.ctl ∧
    (Module.msix v m).pins = m.pins ∧
    (Module.msix v m).start = m.start ∧
    (Module.msix v m).seq = m.seq ∧
    (Module.msix v m).data = m.data ∧
    (Module.msix v m).image = m.image ∧
    (Module.msix v m).load = m.load ∧
    (Module.msix v m).txn = m.txn ∧
    (Module.msix v m).couriers = m.couriers ∧
    (Module.msix v m).trig = m.trig ∧
    (Module.msix v m).trace = m.trace ∧
    (Module.msix v m).lanes = m.lanes ∧
    (Module.msix v m).bundles = m.bundles ∧
    (Module.msix v m).disc = m.disc ∧
    (Module.msix v m).store = m.store ∧
    (Module.msix v m).sec = m.sec ∧
    (Module.msix v m).stew = m.stew ∧
    (Module.msix v m).scrub = m.scrub ∧
    (Module.msix v m).hbm = m.hbm := by
  unfold Module.msix; simp

@[simp] theorem log_frame (code : Nat) (source : Nat) (items : List (Nat × Nat)) (m : Module) :
    (Module.log code source items m).ctl = m.ctl ∧
    (Module.log code source items m).pins = m.pins ∧
    (Module.log code source items m).start = m.start ∧
    (Module.log code source items m).seq = m.seq ∧
    (Module.log code source items m).data = m.data ∧
    (Module.log code source items m).image = m.image ∧
    (Module.log code source items m).load = m.load ∧
    (Module.log code source items m).txn = m.txn ∧
    (Module.log code source items m).couriers = m.couriers ∧
    (Module.log code source items m).trig = m.trig ∧
    (Module.log code source items m).trace = m.trace ∧
    (Module.log code source items m).fabric = m.fabric ∧
    (Module.log code source items m).lanes = m.lanes ∧
    (Module.log code source items m).bundles = m.bundles ∧
    (Module.log code source items m).disc = m.disc ∧
    (Module.log code source items m).store = m.store ∧
    (Module.log code source items m).sec = m.sec ∧
    (Module.log code source items m).scrub = m.scrub ∧
    (Module.log code source items m).hbm = m.hbm ∧
    (Module.log code source items m).outbox = m.outbox := by
  unfold Module.log; simp

@[simp] theorem logMove_frame (m : Module) :
    (Module.logMove m).ctl = m.ctl ∧
    (Module.logMove m).pins = m.pins ∧
    (Module.logMove m).start = m.start ∧
    (Module.logMove m).seq = m.seq ∧
    (Module.logMove m).data = m.data ∧
    (Module.logMove m).image = m.image ∧
    (Module.logMove m).load = m.load ∧
    (Module.logMove m).txn = m.txn ∧
    (Module.logMove m).couriers = m.couriers ∧
    (Module.logMove m).trig = m.trig ∧
    (Module.logMove m).trace = m.trace ∧
    (Module.logMove m).lanes = m.lanes ∧
    (Module.logMove m).bundles = m.bundles ∧
    (Module.logMove m).disc = m.disc ∧
    (Module.logMove m).store = m.store ∧
    (Module.logMove m).sec = m.sec ∧
    (Module.logMove m).scrub = m.scrub ∧
    (Module.logMove m).hbm = m.hbm := by
  unfold Module.logMove; (try dsimp only); (repeat' split) <;> simp

@[simp] theorem logDrain_frame (m : Module) :
    (Module.logDrain m).ctl = m.ctl ∧
    (Module.logDrain m).pins = m.pins ∧
    (Module.logDrain m).start = m.start ∧
    (Module.logDrain m).seq = m.seq ∧
    (Module.logDrain m).data = m.data ∧
    (Module.logDrain m).image = m.image ∧
    (Module.logDrain m).load = m.load ∧
    (Module.logDrain m).txn = m.txn ∧
    (Module.logDrain m).couriers = m.couriers ∧
    (Module.logDrain m).trig = m.trig ∧
    (Module.logDrain m).trace = m.trace ∧
    (Module.logDrain m).lanes = m.lanes ∧
    (Module.logDrain m).bundles = m.bundles ∧
    (Module.logDrain m).disc = m.disc ∧
    (Module.logDrain m).store = m.store ∧
    (Module.logDrain m).sec = m.sec ∧
    (Module.logDrain m).scrub = m.scrub ∧
    (Module.logDrain m).hbm = m.hbm := by
  unfold Module.logDrain; simp

@[simp] theorem logFirst_frame (code source : Nat) (items : List (Nat × Nat)) (m : Module) :
    (Module.logFirst code source items m).ctl = m.ctl ∧
    (Module.logFirst code source items m).pins = m.pins ∧
    (Module.logFirst code source items m).seq = m.seq ∧
    (Module.logFirst code source items m).data = m.data ∧
    (Module.logFirst code source items m).image = m.image ∧
    (Module.logFirst code source items m).load = m.load ∧
    (Module.logFirst code source items m).txn = m.txn ∧
    (Module.logFirst code source items m).couriers = m.couriers ∧
    (Module.logFirst code source items m).trig = m.trig ∧
    (Module.logFirst code source items m).trace = m.trace ∧
    (Module.logFirst code source items m).fabric = m.fabric ∧
    (Module.logFirst code source items m).lanes = m.lanes ∧
    (Module.logFirst code source items m).bundles = m.bundles ∧
    (Module.logFirst code source items m).disc = m.disc ∧
    (Module.logFirst code source items m).store = m.store ∧
    (Module.logFirst code source items m).sec = m.sec ∧
    (Module.logFirst code source items m).scrub = m.scrub ∧
    (Module.logFirst code source items m).hbm = m.hbm ∧
    (Module.logFirst code source items m).outbox = m.outbox := by
  unfold Module.logFirst; simp

@[simp] theorem send_frame (o : OutMsg) (m : Module) :
    (Module.send o m).regs = m.regs ∧
    (Module.send o m).ctl = m.ctl ∧
    (Module.send o m).pins = m.pins ∧
    (Module.send o m).start = m.start ∧
    (Module.send o m).seq = m.seq ∧
    (Module.send o m).data = m.data ∧
    (Module.send o m).image = m.image ∧
    (Module.send o m).load = m.load ∧
    (Module.send o m).txn = m.txn ∧
    (Module.send o m).couriers = m.couriers ∧
    (Module.send o m).trig = m.trig ∧
    (Module.send o m).trace = m.trace ∧
    (Module.send o m).fabric = m.fabric ∧
    (Module.send o m).lanes = m.lanes ∧
    (Module.send o m).bundles = m.bundles ∧
    (Module.send o m).disc = m.disc ∧
    (Module.send o m).store = m.store ∧
    (Module.send o m).sec = m.sec ∧
    (Module.send o m).stew = m.stew ∧
    (Module.send o m).scrub = m.scrub ∧
    (Module.send o m).hbm = m.hbm := by
  unfold Module.send; simp

@[simp] theorem deliver_frame (path source : Nat) (frame : List Byte) (m : Module) :
    (Module.deliver path source frame m).regs = m.regs ∧
    (Module.deliver path source frame m).ctl = m.ctl ∧
    (Module.deliver path source frame m).pins = m.pins ∧
    (Module.deliver path source frame m).start = m.start ∧
    (Module.deliver path source frame m).seq = m.seq ∧
    (Module.deliver path source frame m).data = m.data ∧
    (Module.deliver path source frame m).image = m.image ∧
    (Module.deliver path source frame m).load = m.load ∧
    (Module.deliver path source frame m).txn = m.txn ∧
    (Module.deliver path source frame m).couriers = m.couriers ∧
    (Module.deliver path source frame m).trig = m.trig ∧
    (Module.deliver path source frame m).trace = m.trace ∧
    (Module.deliver path source frame m).lanes = m.lanes ∧
    (Module.deliver path source frame m).bundles = m.bundles ∧
    (Module.deliver path source frame m).disc = m.disc ∧
    (Module.deliver path source frame m).store = m.store ∧
    (Module.deliver path source frame m).sec = m.sec ∧
    (Module.deliver path source frame m).scrub = m.scrub ∧
    (Module.deliver path source frame m).hbm = m.hbm := by
  unfold Module.deliver; simp

@[simp] theorem keepReply_frame (path source h : Nat) (frame : List Byte) (m : Module) :
    (Module.keepReply path source h frame m).regs = m.regs ∧
    (Module.keepReply path source h frame m).ctl = m.ctl ∧
    (Module.keepReply path source h frame m).pins = m.pins ∧
    (Module.keepReply path source h frame m).start = m.start ∧
    (Module.keepReply path source h frame m).seq = m.seq ∧
    (Module.keepReply path source h frame m).data = m.data ∧
    (Module.keepReply path source h frame m).image = m.image ∧
    (Module.keepReply path source h frame m).load = m.load ∧
    (Module.keepReply path source h frame m).txn = m.txn ∧
    (Module.keepReply path source h frame m).couriers = m.couriers ∧
    (Module.keepReply path source h frame m).trig = m.trig ∧
    (Module.keepReply path source h frame m).trace = m.trace ∧
    (Module.keepReply path source h frame m).fabric = m.fabric ∧
    (Module.keepReply path source h frame m).lanes = m.lanes ∧
    (Module.keepReply path source h frame m).bundles = m.bundles ∧
    (Module.keepReply path source h frame m).disc = m.disc ∧
    (Module.keepReply path source h frame m).store = m.store ∧
    (Module.keepReply path source h frame m).sec = m.sec ∧
    (Module.keepReply path source h frame m).scrub = m.scrub ∧
    (Module.keepReply path source h frame m).hbm = m.hbm ∧
    (Module.keepReply path source h frame m).outbox = m.outbox := by
  unfold Module.keepReply; simp

@[simp] theorem reply_frame (path source h status : Nat) (m : Module) :
    (Module.reply path source h status m).regs = m.regs ∧
    (Module.reply path source h status m).ctl = m.ctl ∧
    (Module.reply path source h status m).pins = m.pins ∧
    (Module.reply path source h status m).start = m.start ∧
    (Module.reply path source h status m).seq = m.seq ∧
    (Module.reply path source h status m).data = m.data ∧
    (Module.reply path source h status m).image = m.image ∧
    (Module.reply path source h status m).load = m.load ∧
    (Module.reply path source h status m).txn = m.txn ∧
    (Module.reply path source h status m).couriers = m.couriers ∧
    (Module.reply path source h status m).trig = m.trig ∧
    (Module.reply path source h status m).trace = m.trace ∧
    (Module.reply path source h status m).lanes = m.lanes ∧
    (Module.reply path source h status m).bundles = m.bundles ∧
    (Module.reply path source h status m).disc = m.disc ∧
    (Module.reply path source h status m).store = m.store ∧
    (Module.reply path source h status m).sec = m.sec ∧
    (Module.reply path source h status m).scrub = m.scrub ∧
    (Module.reply path source h status m).hbm = m.hbm := by
  unfold Module.reply; simp

@[simp] theorem answer_frame (st : Nat) (m : Module) :
    (Module.answer st m).regs = m.regs ∧
    (Module.answer st m).ctl = m.ctl ∧
    (Module.answer st m).pins = m.pins ∧
    (Module.answer st m).start = m.start ∧
    (Module.answer st m).seq = m.seq ∧
    (Module.answer st m).data = m.data ∧
    (Module.answer st m).image = m.image ∧
    (Module.answer st m).load = m.load ∧
    (Module.answer st m).txn = m.txn ∧
    (Module.answer st m).couriers = m.couriers ∧
    (Module.answer st m).trig = m.trig ∧
    (Module.answer st m).trace = m.trace ∧
    (Module.answer st m).fabric = m.fabric ∧
    (Module.answer st m).lanes = m.lanes ∧
    (Module.answer st m).bundles = m.bundles ∧
    (Module.answer st m).disc = m.disc ∧
    (Module.answer st m).store = m.store ∧
    (Module.answer st m).sec = m.sec ∧
    (Module.answer st m).scrub = m.scrub ∧
    (Module.answer st m).hbm = m.hbm ∧
    (Module.answer st m).outbox = m.outbox := by
  unfold Module.answer; simp

@[simp] theorem endWait_frame (st : Nat) (m : Module) :
    (Module.endWait st m).regs = m.regs ∧
    (Module.endWait st m).ctl = m.ctl ∧
    (Module.endWait st m).pins = m.pins ∧
    (Module.endWait st m).start = m.start ∧
    (Module.endWait st m).seq = m.seq ∧
    (Module.endWait st m).data = m.data ∧
    (Module.endWait st m).image = m.image ∧
    (Module.endWait st m).load = m.load ∧
    (Module.endWait st m).txn = m.txn ∧
    (Module.endWait st m).couriers = m.couriers ∧
    (Module.endWait st m).trig = m.trig ∧
    (Module.endWait st m).trace = m.trace ∧
    (Module.endWait st m).lanes = m.lanes ∧
    (Module.endWait st m).bundles = m.bundles ∧
    (Module.endWait st m).disc = m.disc ∧
    (Module.endWait st m).store = m.store ∧
    (Module.endWait st m).sec = m.sec ∧
    (Module.endWait st m).scrub = m.scrub ∧
    (Module.endWait st m).hbm = m.hbm := by
  unfold Module.endWait; (try dsimp only); (repeat' split) <;> simp

@[simp] theorem lockRequests_frame (m : Module) :
    (Module.lockRequests m).regs = m.regs ∧
    (Module.lockRequests m).ctl = m.ctl ∧
    (Module.lockRequests m).pins = m.pins ∧
    (Module.lockRequests m).start = m.start ∧
    (Module.lockRequests m).seq = m.seq ∧
    (Module.lockRequests m).data = m.data ∧
    (Module.lockRequests m).image = m.image ∧
    (Module.lockRequests m).load = m.load ∧
    (Module.lockRequests m).txn = m.txn ∧
    (Module.lockRequests m).couriers = m.couriers ∧
    (Module.lockRequests m).trig = m.trig ∧
    (Module.lockRequests m).trace = m.trace ∧
    (Module.lockRequests m).lanes = m.lanes ∧
    (Module.lockRequests m).bundles = m.bundles ∧
    (Module.lockRequests m).disc = m.disc ∧
    (Module.lockRequests m).store = m.store ∧
    (Module.lockRequests m).sec = m.sec ∧
    (Module.lockRequests m).scrub = m.scrub ∧
    (Module.lockRequests m).hbm = m.hbm := by
  unfold Module.lockRequests; simp

@[simp] theorem happen_frame (input : Nat) (m : Module) :
    (Module.happen input m).regs = m.regs ∧
    (Module.happen input m).ctl = m.ctl ∧
    (Module.happen input m).pins = m.pins ∧
    (Module.happen input m).start = m.start ∧
    (Module.happen input m).data = m.data ∧
    (Module.happen input m).image = m.image ∧
    (Module.happen input m).load = m.load ∧
    (Module.happen input m).txn = m.txn ∧
    (Module.happen input m).couriers = m.couriers ∧
    (Module.happen input m).trig = m.trig ∧
    (Module.happen input m).trace = m.trace ∧
    (Module.happen input m).fabric = m.fabric ∧
    (Module.happen input m).lanes = m.lanes ∧
    (Module.happen input m).bundles = m.bundles ∧
    (Module.happen input m).disc = m.disc ∧
    (Module.happen input m).store = m.store ∧
    (Module.happen input m).sec = m.sec ∧
    (Module.happen input m).stew = m.stew ∧
    (Module.happen input m).scrub = m.scrub ∧
    (Module.happen input m).hbm = m.hbm ∧
    (Module.happen input m).outbox = m.outbox := by
  unfold Module.happen; simp

@[simp] theorem cycles_frame (n : Nat) (m : Module) :
    (Module.cycles n m).regs = m.regs ∧
    (Module.cycles n m).ctl = m.ctl ∧
    (Module.cycles n m).pins = m.pins ∧
    (Module.cycles n m).start = m.start ∧
    (Module.cycles n m).data = m.data ∧
    (Module.cycles n m).image = m.image ∧
    (Module.cycles n m).load = m.load ∧
    (Module.cycles n m).txn = m.txn ∧
    (Module.cycles n m).couriers = m.couriers ∧
    (Module.cycles n m).trig = m.trig ∧
    (Module.cycles n m).trace = m.trace ∧
    (Module.cycles n m).fabric = m.fabric ∧
    (Module.cycles n m).lanes = m.lanes ∧
    (Module.cycles n m).bundles = m.bundles ∧
    (Module.cycles n m).disc = m.disc ∧
    (Module.cycles n m).store = m.store ∧
    (Module.cycles n m).sec = m.sec ∧
    (Module.cycles n m).scrub = m.scrub ∧
    (Module.cycles n m).hbm = m.hbm ∧
    (Module.cycles n m).outbox = m.outbox := by
  unfold Module.cycles; simp

@[simp] theorem raiseStall_frame (c : StallCause) (m : Module) :
    (Module.raiseStall c m).regs = m.regs ∧
    (Module.raiseStall c m).ctl = m.ctl ∧
    (Module.raiseStall c m).pins = m.pins ∧
    (Module.raiseStall c m).start = m.start ∧
    (Module.raiseStall c m).data = m.data ∧
    (Module.raiseStall c m).image = m.image ∧
    (Module.raiseStall c m).load = m.load ∧
    (Module.raiseStall c m).txn = m.txn ∧
    (Module.raiseStall c m).couriers = m.couriers ∧
    (Module.raiseStall c m).trig = m.trig ∧
    (Module.raiseStall c m).trace = m.trace ∧
    (Module.raiseStall c m).fabric = m.fabric ∧
    (Module.raiseStall c m).lanes = m.lanes ∧
    (Module.raiseStall c m).bundles = m.bundles ∧
    (Module.raiseStall c m).disc = m.disc ∧
    (Module.raiseStall c m).store = m.store ∧
    (Module.raiseStall c m).sec = m.sec ∧
    (Module.raiseStall c m).stew = m.stew ∧
    (Module.raiseStall c m).scrub = m.scrub ∧
    (Module.raiseStall c m).hbm = m.hbm ∧
    (Module.raiseStall c m).outbox = m.outbox := by
  unfold Module.raiseStall; simp

@[simp] theorem setSource_frame (src : Nat) (x : TraceSrc) (m : Module) :
    (Module.setSource src x m).regs = m.regs ∧
    (Module.setSource src x m).ctl = m.ctl ∧
    (Module.setSource src x m).pins = m.pins ∧
    (Module.setSource src x m).start = m.start ∧
    (Module.setSource src x m).seq = m.seq ∧
    (Module.setSource src x m).data = m.data ∧
    (Module.setSource src x m).image = m.image ∧
    (Module.setSource src x m).load = m.load ∧
    (Module.setSource src x m).txn = m.txn ∧
    (Module.setSource src x m).couriers = m.couriers ∧
    (Module.setSource src x m).trig = m.trig ∧
    (Module.setSource src x m).fabric = m.fabric ∧
    (Module.setSource src x m).lanes = m.lanes ∧
    (Module.setSource src x m).bundles = m.bundles ∧
    (Module.setSource src x m).disc = m.disc ∧
    (Module.setSource src x m).store = m.store ∧
    (Module.setSource src x m).sec = m.sec ∧
    (Module.setSource src x m).stew = m.stew ∧
    (Module.setSource src x m).scrub = m.scrub ∧
    (Module.setSource src x m).hbm = m.hbm ∧
    (Module.setSource src x m).outbox = m.outbox := by
  unfold Module.setSource; simp

@[simp] theorem traceStall_frame (m : Module) :
    (Module.traceStall m).regs = m.regs ∧
    (Module.traceStall m).ctl = m.ctl ∧
    (Module.traceStall m).pins = m.pins ∧
    (Module.traceStall m).start = m.start ∧
    (Module.traceStall m).data = m.data ∧
    (Module.traceStall m).image = m.image ∧
    (Module.traceStall m).load = m.load ∧
    (Module.traceStall m).txn = m.txn ∧
    (Module.traceStall m).couriers = m.couriers ∧
    (Module.traceStall m).trig = m.trig ∧
    (Module.traceStall m).trace = m.trace ∧
    (Module.traceStall m).fabric = m.fabric ∧
    (Module.traceStall m).lanes = m.lanes ∧
    (Module.traceStall m).bundles = m.bundles ∧
    (Module.traceStall m).disc = m.disc ∧
    (Module.traceStall m).store = m.store ∧
    (Module.traceStall m).sec = m.sec ∧
    (Module.traceStall m).stew = m.stew ∧
    (Module.traceStall m).scrub = m.scrub ∧
    (Module.traceStall m).hbm = m.hbm ∧
    (Module.traceStall m).outbox = m.outbox := by
  unfold Module.traceStall; simp

@[simp] theorem tracePush_frame (p : BitVec 128) (m : Module) :
    (Module.tracePush p m).ctl = m.ctl ∧
    (Module.tracePush p m).pins = m.pins ∧
    (Module.tracePush p m).start = m.start ∧
    (Module.tracePush p m).data = m.data ∧
    (Module.tracePush p m).image = m.image ∧
    (Module.tracePush p m).load = m.load ∧
    (Module.tracePush p m).txn = m.txn ∧
    (Module.tracePush p m).couriers = m.couriers ∧
    (Module.tracePush p m).trig = m.trig ∧
    (Module.tracePush p m).fabric = m.fabric ∧
    (Module.tracePush p m).lanes = m.lanes ∧
    (Module.tracePush p m).bundles = m.bundles ∧
    (Module.tracePush p m).disc = m.disc ∧
    (Module.tracePush p m).store = m.store ∧
    (Module.tracePush p m).sec = m.sec ∧
    (Module.tracePush p m).stew = m.stew ∧
    (Module.tracePush p m).scrub = m.scrub ∧
    (Module.tracePush p m).hbm = m.hbm ∧
    (Module.tracePush p m).outbox = m.outbox := by
  unfold Module.tracePush; simp

@[simp] theorem traceDrop_frame (src : Nat) (m : Module) :
    (Module.traceDrop src m).ctl = m.ctl ∧
    (Module.traceDrop src m).pins = m.pins ∧
    (Module.traceDrop src m).start = m.start ∧
    (Module.traceDrop src m).seq = m.seq ∧
    (Module.traceDrop src m).data = m.data ∧
    (Module.traceDrop src m).image = m.image ∧
    (Module.traceDrop src m).load = m.load ∧
    (Module.traceDrop src m).txn = m.txn ∧
    (Module.traceDrop src m).couriers = m.couriers ∧
    (Module.traceDrop src m).trig = m.trig ∧
    (Module.traceDrop src m).fabric = m.fabric ∧
    (Module.traceDrop src m).lanes = m.lanes ∧
    (Module.traceDrop src m).bundles = m.bundles ∧
    (Module.traceDrop src m).disc = m.disc ∧
    (Module.traceDrop src m).store = m.store ∧
    (Module.traceDrop src m).sec = m.sec ∧
    (Module.traceDrop src m).scrub = m.scrub ∧
    (Module.traceDrop src m).hbm = m.hbm ∧
    (Module.traceDrop src m).outbox = m.outbox := by
  unfold Module.traceDrop; simp

@[simp] theorem tracePut_frame (src ty body t : Nat) (m : Module) :
    (Module.tracePut src ty body t m).ctl = m.ctl ∧
    (Module.tracePut src ty body t m).pins = m.pins ∧
    (Module.tracePut src ty body t m).start = m.start ∧
    (Module.tracePut src ty body t m).data = m.data ∧
    (Module.tracePut src ty body t m).image = m.image ∧
    (Module.tracePut src ty body t m).load = m.load ∧
    (Module.tracePut src ty body t m).txn = m.txn ∧
    (Module.tracePut src ty body t m).couriers = m.couriers ∧
    (Module.tracePut src ty body t m).trig = m.trig ∧
    (Module.tracePut src ty body t m).fabric = m.fabric ∧
    (Module.tracePut src ty body t m).lanes = m.lanes ∧
    (Module.tracePut src ty body t m).bundles = m.bundles ∧
    (Module.tracePut src ty body t m).disc = m.disc ∧
    (Module.tracePut src ty body t m).store = m.store ∧
    (Module.tracePut src ty body t m).sec = m.sec ∧
    (Module.tracePut src ty body t m).scrub = m.scrub ∧
    (Module.tracePut src ty body t m).hbm = m.hbm ∧
    (Module.tracePut src ty body t m).outbox = m.outbox := by
  unfold Module.tracePut; simp

@[simp] theorem syncPut_frame (src addr folio t : Nat) (m : Module) :
    (Module.syncPut src addr folio t m).ctl = m.ctl ∧
    (Module.syncPut src addr folio t m).pins = m.pins ∧
    (Module.syncPut src addr folio t m).start = m.start ∧
    (Module.syncPut src addr folio t m).data = m.data ∧
    (Module.syncPut src addr folio t m).image = m.image ∧
    (Module.syncPut src addr folio t m).load = m.load ∧
    (Module.syncPut src addr folio t m).txn = m.txn ∧
    (Module.syncPut src addr folio t m).couriers = m.couriers ∧
    (Module.syncPut src addr folio t m).trig = m.trig ∧
    (Module.syncPut src addr folio t m).fabric = m.fabric ∧
    (Module.syncPut src addr folio t m).lanes = m.lanes ∧
    (Module.syncPut src addr folio t m).bundles = m.bundles ∧
    (Module.syncPut src addr folio t m).disc = m.disc ∧
    (Module.syncPut src addr folio t m).store = m.store ∧
    (Module.syncPut src addr folio t m).sec = m.sec ∧
    (Module.syncPut src addr folio t m).scrub = m.scrub ∧
    (Module.syncPut src addr folio t m).hbm = m.hbm ∧
    (Module.syncPut src addr folio t m).outbox = m.outbox := by
  unfold Module.syncPut; simp

@[simp] theorem traceGap_frame (src addr folio t : Nat) (m : Module) :
    (Module.traceGap src addr folio t m).ctl = m.ctl ∧
    (Module.traceGap src addr folio t m).pins = m.pins ∧
    (Module.traceGap src addr folio t m).start = m.start ∧
    (Module.traceGap src addr folio t m).data = m.data ∧
    (Module.traceGap src addr folio t m).image = m.image ∧
    (Module.traceGap src addr folio t m).load = m.load ∧
    (Module.traceGap src addr folio t m).txn = m.txn ∧
    (Module.traceGap src addr folio t m).couriers = m.couriers ∧
    (Module.traceGap src addr folio t m).trig = m.trig ∧
    (Module.traceGap src addr folio t m).fabric = m.fabric ∧
    (Module.traceGap src addr folio t m).lanes = m.lanes ∧
    (Module.traceGap src addr folio t m).bundles = m.bundles ∧
    (Module.traceGap src addr folio t m).disc = m.disc ∧
    (Module.traceGap src addr folio t m).store = m.store ∧
    (Module.traceGap src addr folio t m).sec = m.sec ∧
    (Module.traceGap src addr folio t m).scrub = m.scrub ∧
    (Module.traceGap src addr folio t m).hbm = m.hbm ∧
    (Module.traceGap src addr folio t m).outbox = m.outbox := by
  unfold Module.traceGap; simp

@[simp] theorem traceLead_frame (src addr folio t : Nat) (m : Module) :
    (Module.traceLead src addr folio t m).ctl = m.ctl ∧
    (Module.traceLead src addr folio t m).pins = m.pins ∧
    (Module.traceLead src addr folio t m).start = m.start ∧
    (Module.traceLead src addr folio t m).data = m.data ∧
    (Module.traceLead src addr folio t m).image = m.image ∧
    (Module.traceLead src addr folio t m).load = m.load ∧
    (Module.traceLead src addr folio t m).txn = m.txn ∧
    (Module.traceLead src addr folio t m).couriers = m.couriers ∧
    (Module.traceLead src addr folio t m).trig = m.trig ∧
    (Module.traceLead src addr folio t m).fabric = m.fabric ∧
    (Module.traceLead src addr folio t m).lanes = m.lanes ∧
    (Module.traceLead src addr folio t m).bundles = m.bundles ∧
    (Module.traceLead src addr folio t m).disc = m.disc ∧
    (Module.traceLead src addr folio t m).store = m.store ∧
    (Module.traceLead src addr folio t m).sec = m.sec ∧
    (Module.traceLead src addr folio t m).scrub = m.scrub ∧
    (Module.traceLead src addr folio t m).hbm = m.hbm ∧
    (Module.traceLead src addr folio t m).outbox = m.outbox := by
  unfold Module.traceLead; simp

@[simp] theorem traceOffer_frame (src ty body t : Nat) (m : Module) :
    (Module.traceOffer src ty body t m).ctl = m.ctl ∧
    (Module.traceOffer src ty body t m).pins = m.pins ∧
    (Module.traceOffer src ty body t m).start = m.start ∧
    (Module.traceOffer src ty body t m).data = m.data ∧
    (Module.traceOffer src ty body t m).image = m.image ∧
    (Module.traceOffer src ty body t m).load = m.load ∧
    (Module.traceOffer src ty body t m).txn = m.txn ∧
    (Module.traceOffer src ty body t m).couriers = m.couriers ∧
    (Module.traceOffer src ty body t m).trig = m.trig ∧
    (Module.traceOffer src ty body t m).fabric = m.fabric ∧
    (Module.traceOffer src ty body t m).lanes = m.lanes ∧
    (Module.traceOffer src ty body t m).bundles = m.bundles ∧
    (Module.traceOffer src ty body t m).disc = m.disc ∧
    (Module.traceOffer src ty body t m).store = m.store ∧
    (Module.traceOffer src ty body t m).sec = m.sec ∧
    (Module.traceOffer src ty body t m).scrub = m.scrub ∧
    (Module.traceOffer src ty body t m).hbm = m.hbm ∧
    (Module.traceOffer src ty body t m).outbox = m.outbox := by
  unfold Module.traceOffer; simp

@[simp] theorem traceEmit_frame (src ty body addr folio t : Nat) (m : Module) :
    (Module.traceEmit src ty body addr folio t m).ctl = m.ctl ∧
    (Module.traceEmit src ty body addr folio t m).pins = m.pins ∧
    (Module.traceEmit src ty body addr folio t m).start = m.start ∧
    (Module.traceEmit src ty body addr folio t m).data = m.data ∧
    (Module.traceEmit src ty body addr folio t m).image = m.image ∧
    (Module.traceEmit src ty body addr folio t m).load = m.load ∧
    (Module.traceEmit src ty body addr folio t m).txn = m.txn ∧
    (Module.traceEmit src ty body addr folio t m).couriers = m.couriers ∧
    (Module.traceEmit src ty body addr folio t m).trig = m.trig ∧
    (Module.traceEmit src ty body addr folio t m).fabric = m.fabric ∧
    (Module.traceEmit src ty body addr folio t m).lanes = m.lanes ∧
    (Module.traceEmit src ty body addr folio t m).bundles = m.bundles ∧
    (Module.traceEmit src ty body addr folio t m).disc = m.disc ∧
    (Module.traceEmit src ty body addr folio t m).store = m.store ∧
    (Module.traceEmit src ty body addr folio t m).sec = m.sec ∧
    (Module.traceEmit src ty body addr folio t m).scrub = m.scrub ∧
    (Module.traceEmit src ty body addr folio t m).hbm = m.hbm ∧
    (Module.traceEmit src ty body addr folio t m).outbox = m.outbox := by
  unfold Module.traceEmit; simp

@[simp] theorem endBranch_frame (src pc : Nat) (m : Module) :
    (Module.endBranch src pc m).ctl = m.ctl ∧
    (Module.endBranch src pc m).pins = m.pins ∧
    (Module.endBranch src pc m).start = m.start ∧
    (Module.endBranch src pc m).data = m.data ∧
    (Module.endBranch src pc m).image = m.image ∧
    (Module.endBranch src pc m).load = m.load ∧
    (Module.endBranch src pc m).txn = m.txn ∧
    (Module.endBranch src pc m).couriers = m.couriers ∧
    (Module.endBranch src pc m).trig = m.trig ∧
    (Module.endBranch src pc m).fabric = m.fabric ∧
    (Module.endBranch src pc m).lanes = m.lanes ∧
    (Module.endBranch src pc m).bundles = m.bundles ∧
    (Module.endBranch src pc m).disc = m.disc ∧
    (Module.endBranch src pc m).store = m.store ∧
    (Module.endBranch src pc m).sec = m.sec ∧
    (Module.endBranch src pc m).scrub = m.scrub ∧
    (Module.endBranch src pc m).hbm = m.hbm ∧
    (Module.endBranch src pc m).outbox = m.outbox := by
  unfold Module.endBranch; simp

@[simp] theorem freePc_frame (m : Module) :
    (Module.freePc m).2.regs = m.regs ∧
    (Module.freePc m).2.ctl = m.ctl ∧
    (Module.freePc m).2.pins = m.pins ∧
    (Module.freePc m).2.start = m.start ∧
    (Module.freePc m).2.seq = m.seq ∧
    (Module.freePc m).2.data = m.data ∧
    (Module.freePc m).2.image = m.image ∧
    (Module.freePc m).2.load = m.load ∧
    (Module.freePc m).2.txn = m.txn ∧
    (Module.freePc m).2.couriers = m.couriers ∧
    (Module.freePc m).2.trig = m.trig ∧
    (Module.freePc m).2.trace = m.trace ∧
    (Module.freePc m).2.fabric = m.fabric ∧
    (Module.freePc m).2.lanes = m.lanes ∧
    (Module.freePc m).2.bundles = m.bundles ∧
    (Module.freePc m).2.disc = m.disc ∧
    (Module.freePc m).2.store = m.store ∧
    (Module.freePc m).2.stew = m.stew ∧
    (Module.freePc m).2.scrub = m.scrub ∧
    (Module.freePc m).2.hbm = m.hbm ∧
    (Module.freePc m).2.outbox = m.outbox := by
  unfold Module.freePc; simp

@[simp] theorem syncAddr_frame (src : Nat) (m : Module) :
    (Module.syncAddr src m).2.regs = m.regs ∧
    (Module.syncAddr src m).2.ctl = m.ctl ∧
    (Module.syncAddr src m).2.pins = m.pins ∧
    (Module.syncAddr src m).2.start = m.start ∧
    (Module.syncAddr src m).2.seq = m.seq ∧
    (Module.syncAddr src m).2.data = m.data ∧
    (Module.syncAddr src m).2.image = m.image ∧
    (Module.syncAddr src m).2.load = m.load ∧
    (Module.syncAddr src m).2.txn = m.txn ∧
    (Module.syncAddr src m).2.couriers = m.couriers ∧
    (Module.syncAddr src m).2.trig = m.trig ∧
    (Module.syncAddr src m).2.trace = m.trace ∧
    (Module.syncAddr src m).2.fabric = m.fabric ∧
    (Module.syncAddr src m).2.lanes = m.lanes ∧
    (Module.syncAddr src m).2.bundles = m.bundles ∧
    (Module.syncAddr src m).2.disc = m.disc ∧
    (Module.syncAddr src m).2.store = m.store ∧
    (Module.syncAddr src m).2.stew = m.stew ∧
    (Module.syncAddr src m).2.scrub = m.scrub ∧
    (Module.syncAddr src m).2.hbm = m.hbm ∧
    (Module.syncAddr src m).2.outbox = m.outbox := by
  unfold Module.syncAddr; (try dsimp only); (repeat' split) <;> simp

@[simp] theorem gapOut_frame (src t : Nat) (m : Module) :
    (Module.gapOut src t m).ctl = m.ctl ∧
    (Module.gapOut src t m).pins = m.pins ∧
    (Module.gapOut src t m).start = m.start ∧
    (Module.gapOut src t m).data = m.data ∧
    (Module.gapOut src t m).image = m.image ∧
    (Module.gapOut src t m).load = m.load ∧
    (Module.gapOut src t m).txn = m.txn ∧
    (Module.gapOut src t m).couriers = m.couriers ∧
    (Module.gapOut src t m).trig = m.trig ∧
    (Module.gapOut src t m).fabric = m.fabric ∧
    (Module.gapOut src t m).lanes = m.lanes ∧
    (Module.gapOut src t m).bundles = m.bundles ∧
    (Module.gapOut src t m).disc = m.disc ∧
    (Module.gapOut src t m).store = m.store ∧
    (Module.gapOut src t m).scrub = m.scrub ∧
    (Module.gapOut src t m).hbm = m.hbm ∧
    (Module.gapOut src t m).outbox = m.outbox := by
  unfold Module.gapOut; simp

@[simp] theorem stopSources_frame (reason : Nat) (m : Module) :
    (Module.stopSources reason m).ctl = m.ctl ∧
    (Module.stopSources reason m).pins = m.pins ∧
    (Module.stopSources reason m).start = m.start ∧
    (Module.stopSources reason m).data = m.data ∧
    (Module.stopSources reason m).image = m.image ∧
    (Module.stopSources reason m).load = m.load ∧
    (Module.stopSources reason m).txn = m.txn ∧
    (Module.stopSources reason m).couriers = m.couriers ∧
    (Module.stopSources reason m).trig = m.trig ∧
    (Module.stopSources reason m).fabric = m.fabric ∧
    (Module.stopSources reason m).lanes = m.lanes ∧
    (Module.stopSources reason m).bundles = m.bundles ∧
    (Module.stopSources reason m).disc = m.disc ∧
    (Module.stopSources reason m).store = m.store ∧
    (Module.stopSources reason m).scrub = m.scrub ∧
    (Module.stopSources reason m).hbm = m.hbm ∧
    (Module.stopSources reason m).outbox = m.outbox := by
  unfold Module.stopSources; simp

@[simp] theorem traceFinish_ctl (write : List (BitVec 128) → Module → Module) (m : Module) (h : ∀ ps m, (write ps m).ctl = m.ctl) :
    (m.traceFinish write).ctl = m.ctl := by
  unfold Module.traceFinish
  simp [h]

@[simp] theorem traceFinish_pins (write : List (BitVec 128) → Module → Module) (m : Module) (h : ∀ ps m, (write ps m).pins = m.pins) :
    (m.traceFinish write).pins = m.pins := by
  unfold Module.traceFinish
  simp [h]

@[simp] theorem traceFinish_start (write : List (BitVec 128) → Module → Module) (m : Module) (h : ∀ ps m, (write ps m).start = m.start) :
    (m.traceFinish write).start = m.start := by
  unfold Module.traceFinish
  simp [h]

@[simp] theorem traceFinish_data (write : List (BitVec 128) → Module → Module) (m : Module) (h : ∀ ps m, (write ps m).data = m.data) :
    (m.traceFinish write).data = m.data := by
  unfold Module.traceFinish
  simp [h]

@[simp] theorem traceFinish_image (write : List (BitVec 128) → Module → Module) (m : Module) (h : ∀ ps m, (write ps m).image = m.image) :
    (m.traceFinish write).image = m.image := by
  unfold Module.traceFinish
  simp [h]

@[simp] theorem traceFinish_load (write : List (BitVec 128) → Module → Module) (m : Module) (h : ∀ ps m, (write ps m).load = m.load) :
    (m.traceFinish write).load = m.load := by
  unfold Module.traceFinish
  simp [h]

@[simp] theorem traceFinish_txn (write : List (BitVec 128) → Module → Module) (m : Module) (h : ∀ ps m, (write ps m).txn = m.txn) :
    (m.traceFinish write).txn = m.txn := by
  unfold Module.traceFinish
  simp [h]

@[simp] theorem traceFinish_couriers (write : List (BitVec 128) → Module → Module) (m : Module) (h : ∀ ps m, (write ps m).couriers = m.couriers) :
    (m.traceFinish write).couriers = m.couriers := by
  unfold Module.traceFinish
  simp [h]

@[simp] theorem traceFinish_trig (write : List (BitVec 128) → Module → Module) (m : Module) (h : ∀ ps m, (write ps m).trig = m.trig) :
    (m.traceFinish write).trig = m.trig := by
  unfold Module.traceFinish
  simp [h]

@[simp] theorem traceFinish_lanes (write : List (BitVec 128) → Module → Module) (m : Module) (h : ∀ ps m, (write ps m).lanes = m.lanes) :
    (m.traceFinish write).lanes = m.lanes := by
  unfold Module.traceFinish
  simp [h]

@[simp] theorem traceFinish_bundles (write : List (BitVec 128) → Module → Module) (m : Module) (h : ∀ ps m, (write ps m).bundles = m.bundles) :
    (m.traceFinish write).bundles = m.bundles := by
  unfold Module.traceFinish
  simp [h]

@[simp] theorem traceFinish_disc (write : List (BitVec 128) → Module → Module) (m : Module) (h : ∀ ps m, (write ps m).disc = m.disc) :
    (m.traceFinish write).disc = m.disc := by
  unfold Module.traceFinish
  simp [h]

@[simp] theorem traceFinish_store (write : List (BitVec 128) → Module → Module) (m : Module) (h : ∀ ps m, (write ps m).store = m.store) :
    (m.traceFinish write).store = m.store := by
  unfold Module.traceFinish
  simp [h]

@[simp] theorem traceFinish_scrub (write : List (BitVec 128) → Module → Module) (m : Module) (h : ∀ ps m, (write ps m).scrub = m.scrub) :
    (m.traceFinish write).scrub = m.scrub := by
  unfold Module.traceFinish
  simp [h]

@[simp] theorem traceFinish_hbm (write : List (BitVec 128) → Module → Module) (m : Module) (h : ∀ ps m, (write ps m).hbm = m.hbm) :
    (m.traceFinish write).hbm = m.hbm := by
  unfold Module.traceFinish
  simp [h]

@[simp] theorem enter_frame (mode : Mode) (cause : Nat) (m : Module) :
    (Module.enter mode cause m).regs = m.regs ∧
    (Module.enter mode cause m).pins = m.pins ∧
    (Module.enter mode cause m).start = m.start ∧
    (Module.enter mode cause m).seq = m.seq ∧
    (Module.enter mode cause m).data = m.data ∧
    (Module.enter mode cause m).image = m.image ∧
    (Module.enter mode cause m).load = m.load ∧
    (Module.enter mode cause m).txn = m.txn ∧
    (Module.enter mode cause m).couriers = m.couriers ∧
    (Module.enter mode cause m).trig = m.trig ∧
    (Module.enter mode cause m).trace = m.trace ∧
    (Module.enter mode cause m).lanes = m.lanes ∧
    (Module.enter mode cause m).bundles = m.bundles ∧
    (Module.enter mode cause m).disc = m.disc ∧
    (Module.enter mode cause m).store = m.store ∧
    (Module.enter mode cause m).sec = m.sec ∧
    (Module.enter mode cause m).stew = m.stew ∧
    (Module.enter mode cause m).scrub = m.scrub ∧
    (Module.enter mode cause m).hbm = m.hbm := by
  unfold Module.enter; simp

@[simp] theorem setLane_frame (l : Nat) (x : Lane) (m : Module) :
    (Module.setLane l x m).regs = m.regs ∧
    (Module.setLane l x m).ctl = m.ctl ∧
    (Module.setLane l x m).pins = m.pins ∧
    (Module.setLane l x m).start = m.start ∧
    (Module.setLane l x m).seq = m.seq ∧
    (Module.setLane l x m).data = m.data ∧
    (Module.setLane l x m).image = m.image ∧
    (Module.setLane l x m).load = m.load ∧
    (Module.setLane l x m).txn = m.txn ∧
    (Module.setLane l x m).couriers = m.couriers ∧
    (Module.setLane l x m).trig = m.trig ∧
    (Module.setLane l x m).trace = m.trace ∧
    (Module.setLane l x m).fabric = m.fabric ∧
    (Module.setLane l x m).bundles = m.bundles ∧
    (Module.setLane l x m).disc = m.disc ∧
    (Module.setLane l x m).store = m.store ∧
    (Module.setLane l x m).sec = m.sec ∧
    (Module.setLane l x m).stew = m.stew ∧
    (Module.setLane l x m).scrub = m.scrub ∧
    (Module.setLane l x m).hbm = m.hbm ∧
    (Module.setLane l x m).outbox = m.outbox := by
  unfold Module.setLane; simp

@[simp] theorem setBundle_frame (b : Nat) (x : Bundle) (m : Module) :
    (Module.setBundle b x m).regs = m.regs ∧
    (Module.setBundle b x m).ctl = m.ctl ∧
    (Module.setBundle b x m).pins = m.pins ∧
    (Module.setBundle b x m).start = m.start ∧
    (Module.setBundle b x m).seq = m.seq ∧
    (Module.setBundle b x m).data = m.data ∧
    (Module.setBundle b x m).image = m.image ∧
    (Module.setBundle b x m).load = m.load ∧
    (Module.setBundle b x m).txn = m.txn ∧
    (Module.setBundle b x m).couriers = m.couriers ∧
    (Module.setBundle b x m).trig = m.trig ∧
    (Module.setBundle b x m).trace = m.trace ∧
    (Module.setBundle b x m).fabric = m.fabric ∧
    (Module.setBundle b x m).lanes = m.lanes ∧
    (Module.setBundle b x m).disc = m.disc ∧
    (Module.setBundle b x m).store = m.store ∧
    (Module.setBundle b x m).sec = m.sec ∧
    (Module.setBundle b x m).stew = m.stew ∧
    (Module.setBundle b x m).scrub = m.scrub ∧
    (Module.setBundle b x m).hbm = m.hbm ∧
    (Module.setBundle b x m).outbox = m.outbox := by
  unfold Module.setBundle; simp

@[simp] theorem leaveQuiet_frame (b : Nat) (m : Module) :
    (Module.leaveQuiet b m).regs = m.regs ∧
    (Module.leaveQuiet b m).ctl = m.ctl ∧
    (Module.leaveQuiet b m).pins = m.pins ∧
    (Module.leaveQuiet b m).start = m.start ∧
    (Module.leaveQuiet b m).seq = m.seq ∧
    (Module.leaveQuiet b m).data = m.data ∧
    (Module.leaveQuiet b m).image = m.image ∧
    (Module.leaveQuiet b m).load = m.load ∧
    (Module.leaveQuiet b m).txn = m.txn ∧
    (Module.leaveQuiet b m).couriers = m.couriers ∧
    (Module.leaveQuiet b m).trig = m.trig ∧
    (Module.leaveQuiet b m).trace = m.trace ∧
    (Module.leaveQuiet b m).fabric = m.fabric ∧
    (Module.leaveQuiet b m).lanes = m.lanes ∧
    (Module.leaveQuiet b m).disc = m.disc ∧
    (Module.leaveQuiet b m).store = m.store ∧
    (Module.leaveQuiet b m).sec = m.sec ∧
    (Module.leaveQuiet b m).stew = m.stew ∧
    (Module.leaveQuiet b m).scrub = m.scrub ∧
    (Module.leaveQuiet b m).hbm = m.hbm := by
  unfold Module.leaveQuiet; simp

@[simp] theorem sendFrame_frame (b : Nat) (f : TxFrame) (o : OutMsg) (m : Module) :
    (Module.sendFrame b f o m).regs = m.regs ∧
    (Module.sendFrame b f o m).ctl = m.ctl ∧
    (Module.sendFrame b f o m).pins = m.pins ∧
    (Module.sendFrame b f o m).start = m.start ∧
    (Module.sendFrame b f o m).seq = m.seq ∧
    (Module.sendFrame b f o m).data = m.data ∧
    (Module.sendFrame b f o m).image = m.image ∧
    (Module.sendFrame b f o m).load = m.load ∧
    (Module.sendFrame b f o m).txn = m.txn ∧
    (Module.sendFrame b f o m).couriers = m.couriers ∧
    (Module.sendFrame b f o m).trig = m.trig ∧
    (Module.sendFrame b f o m).trace = m.trace ∧
    (Module.sendFrame b f o m).fabric = m.fabric ∧
    (Module.sendFrame b f o m).lanes = m.lanes ∧
    (Module.sendFrame b f o m).disc = m.disc ∧
    (Module.sendFrame b f o m).store = m.store ∧
    (Module.sendFrame b f o m).sec = m.sec ∧
    (Module.sendFrame b f o m).stew = m.stew ∧
    (Module.sendFrame b f o m).scrub = m.scrub ∧
    (Module.sendFrame b f o m).hbm = m.hbm := by
  unfold Module.sendFrame; simp

@[simp] theorem sendPrio_frame (b : Nat) (o : OutMsg) (m : Module) :
    (Module.sendPrio b o m).regs = m.regs ∧
    (Module.sendPrio b o m).ctl = m.ctl ∧
    (Module.sendPrio b o m).pins = m.pins ∧
    (Module.sendPrio b o m).start = m.start ∧
    (Module.sendPrio b o m).seq = m.seq ∧
    (Module.sendPrio b o m).data = m.data ∧
    (Module.sendPrio b o m).image = m.image ∧
    (Module.sendPrio b o m).load = m.load ∧
    (Module.sendPrio b o m).txn = m.txn ∧
    (Module.sendPrio b o m).couriers = m.couriers ∧
    (Module.sendPrio b o m).trig = m.trig ∧
    (Module.sendPrio b o m).trace = m.trace ∧
    (Module.sendPrio b o m).fabric = m.fabric ∧
    (Module.sendPrio b o m).lanes = m.lanes ∧
    (Module.sendPrio b o m).disc = m.disc ∧
    (Module.sendPrio b o m).store = m.store ∧
    (Module.sendPrio b o m).sec = m.sec ∧
    (Module.sendPrio b o m).stew = m.stew ∧
    (Module.sendPrio b o m).scrub = m.scrub ∧
    (Module.sendPrio b o m).hbm = m.hbm := by
  unfold Module.sendPrio; simp

@[simp] theorem sendFlood_frame (origin code : Nat) (m : Module) :
    (Module.sendFlood origin code m).regs = m.regs ∧
    (Module.sendFlood origin code m).ctl = m.ctl ∧
    (Module.sendFlood origin code m).pins = m.pins ∧
    (Module.sendFlood origin code m).start = m.start ∧
    (Module.sendFlood origin code m).seq = m.seq ∧
    (Module.sendFlood origin code m).data = m.data ∧
    (Module.sendFlood origin code m).image = m.image ∧
    (Module.sendFlood origin code m).load = m.load ∧
    (Module.sendFlood origin code m).txn = m.txn ∧
    (Module.sendFlood origin code m).couriers = m.couriers ∧
    (Module.sendFlood origin code m).trig = m.trig ∧
    (Module.sendFlood origin code m).trace = m.trace ∧
    (Module.sendFlood origin code m).fabric = m.fabric ∧
    (Module.sendFlood origin code m).lanes = m.lanes ∧
    (Module.sendFlood origin code m).store = m.store ∧
    (Module.sendFlood origin code m).sec = m.sec ∧
    (Module.sendFlood origin code m).stew = m.stew ∧
    (Module.sendFlood origin code m).scrub = m.scrub ∧
    (Module.sendFlood origin code m).hbm = m.hbm := by
  unfold Module.sendFlood; simp

@[simp] theorem setSlot_frame (i : Nat) (sl : Slot) (m : Module) :
    (Module.setSlot i sl m).regs = m.regs ∧
    (Module.setSlot i sl m).ctl = m.ctl ∧
    (Module.setSlot i sl m).pins = m.pins ∧
    (Module.setSlot i sl m).start = m.start ∧
    (Module.setSlot i sl m).seq = m.seq ∧
    (Module.setSlot i sl m).data = m.data ∧
    (Module.setSlot i sl m).image = m.image ∧
    (Module.setSlot i sl m).load = m.load ∧
    (Module.setSlot i sl m).couriers = m.couriers ∧
    (Module.setSlot i sl m).trig = m.trig ∧
    (Module.setSlot i sl m).trace = m.trace ∧
    (Module.setSlot i sl m).fabric = m.fabric ∧
    (Module.setSlot i sl m).lanes = m.lanes ∧
    (Module.setSlot i sl m).bundles = m.bundles ∧
    (Module.setSlot i sl m).disc = m.disc ∧
    (Module.setSlot i sl m).store = m.store ∧
    (Module.setSlot i sl m).sec = m.sec ∧
    (Module.setSlot i sl m).stew = m.stew ∧
    (Module.setSlot i sl m).scrub = m.scrub ∧
    (Module.setSlot i sl m).hbm = m.hbm ∧
    (Module.setSlot i sl m).outbox = m.outbox := by
  unfold Module.setSlot; simp

@[simp] theorem abortSlot_frame (i reason atIdx : Nat) (m : Module) :
    (Module.abortSlot i reason atIdx m).ctl = m.ctl ∧
    (Module.abortSlot i reason atIdx m).pins = m.pins ∧
    (Module.abortSlot i reason atIdx m).start = m.start ∧
    (Module.abortSlot i reason atIdx m).seq = m.seq ∧
    (Module.abortSlot i reason atIdx m).data = m.data ∧
    (Module.abortSlot i reason atIdx m).image = m.image ∧
    (Module.abortSlot i reason atIdx m).load = m.load ∧
    (Module.abortSlot i reason atIdx m).couriers = m.couriers ∧
    (Module.abortSlot i reason atIdx m).trig = m.trig ∧
    (Module.abortSlot i reason atIdx m).trace = m.trace ∧
    (Module.abortSlot i reason atIdx m).lanes = m.lanes ∧
    (Module.abortSlot i reason atIdx m).bundles = m.bundles ∧
    (Module.abortSlot i reason atIdx m).disc = m.disc ∧
    (Module.abortSlot i reason atIdx m).store = m.store ∧
    (Module.abortSlot i reason atIdx m).sec = m.sec ∧
    (Module.abortSlot i reason atIdx m).scrub = m.scrub := by
  unfold Module.abortSlot; simp

@[simp] theorem unwind_frame (i reason : Nat) (m : Module) :
    (Module.unwind i reason m).ctl = m.ctl ∧
    (Module.unwind i reason m).pins = m.pins ∧
    (Module.unwind i reason m).start = m.start ∧
    (Module.unwind i reason m).seq = m.seq ∧
    (Module.unwind i reason m).data = m.data ∧
    (Module.unwind i reason m).image = m.image ∧
    (Module.unwind i reason m).load = m.load ∧
    (Module.unwind i reason m).couriers = m.couriers ∧
    (Module.unwind i reason m).trig = m.trig ∧
    (Module.unwind i reason m).trace = m.trace ∧
    (Module.unwind i reason m).lanes = m.lanes ∧
    (Module.unwind i reason m).bundles = m.bundles ∧
    (Module.unwind i reason m).disc = m.disc ∧
    (Module.unwind i reason m).store = m.store ∧
    (Module.unwind i reason m).sec = m.sec ∧
    (Module.unwind i reason m).scrub = m.scrub := by
  unfold Module.unwind; simp

@[simp] theorem discardSlot_frame (now : Bool) (m : Module) (i : Nat) :
    (Module.discardSlot now m i).ctl = m.ctl ∧
    (Module.discardSlot now m i).pins = m.pins ∧
    (Module.discardSlot now m i).start = m.start ∧
    (Module.discardSlot now m i).seq = m.seq ∧
    (Module.discardSlot now m i).data = m.data ∧
    (Module.discardSlot now m i).image = m.image ∧
    (Module.discardSlot now m i).load = m.load ∧
    (Module.discardSlot now m i).couriers = m.couriers ∧
    (Module.discardSlot now m i).trig = m.trig ∧
    (Module.discardSlot now m i).trace = m.trace ∧
    (Module.discardSlot now m i).lanes = m.lanes ∧
    (Module.discardSlot now m i).bundles = m.bundles ∧
    (Module.discardSlot now m i).disc = m.disc ∧
    (Module.discardSlot now m i).store = m.store ∧
    (Module.discardSlot now m i).sec = m.sec ∧
    (Module.discardSlot now m i).scrub = m.scrub := by
  unfold Module.discardSlot; simp

@[simp] theorem abortHostReads_frame (m : Module) :
    (Module.abortHostReads m).regs = m.regs ∧
    (Module.abortHostReads m).ctl = m.ctl ∧
    (Module.abortHostReads m).pins = m.pins ∧
    (Module.abortHostReads m).start = m.start ∧
    (Module.abortHostReads m).seq = m.seq ∧
    (Module.abortHostReads m).data = m.data ∧
    (Module.abortHostReads m).image = m.image ∧
    (Module.abortHostReads m).load = m.load ∧
    (Module.abortHostReads m).txn = m.txn ∧
    (Module.abortHostReads m).couriers = m.couriers ∧
    (Module.abortHostReads m).trig = m.trig ∧
    (Module.abortHostReads m).trace = m.trace ∧
    (Module.abortHostReads m).lanes = m.lanes ∧
    (Module.abortHostReads m).bundles = m.bundles ∧
    (Module.abortHostReads m).disc = m.disc ∧
    (Module.abortHostReads m).store = m.store ∧
    (Module.abortHostReads m).sec = m.sec ∧
    (Module.abortHostReads m).stew = m.stew ∧
    (Module.abortHostReads m).scrub = m.scrub ∧
    (Module.abortHostReads m).hbm = m.hbm := by
  unfold Module.abortHostReads; simp

@[simp] theorem hostAnswer_frame (bs : List Byte) (m : Module) :
    (Module.hostAnswer bs m).regs = m.regs ∧
    (Module.hostAnswer bs m).ctl = m.ctl ∧
    (Module.hostAnswer bs m).pins = m.pins ∧
    (Module.hostAnswer bs m).start = m.start ∧
    (Module.hostAnswer bs m).seq = m.seq ∧
    (Module.hostAnswer bs m).data = m.data ∧
    (Module.hostAnswer bs m).image = m.image ∧
    (Module.hostAnswer bs m).load = m.load ∧
    (Module.hostAnswer bs m).txn = m.txn ∧
    (Module.hostAnswer bs m).couriers = m.couriers ∧
    (Module.hostAnswer bs m).trig = m.trig ∧
    (Module.hostAnswer bs m).trace = m.trace ∧
    (Module.hostAnswer bs m).fabric = m.fabric ∧
    (Module.hostAnswer bs m).lanes = m.lanes ∧
    (Module.hostAnswer bs m).bundles = m.bundles ∧
    (Module.hostAnswer bs m).disc = m.disc ∧
    (Module.hostAnswer bs m).store = m.store ∧
    (Module.hostAnswer bs m).sec = m.sec ∧
    (Module.hostAnswer bs m).stew = m.stew ∧
    (Module.hostAnswer bs m).scrub = m.scrub ∧
    (Module.hostAnswer bs m).hbm = m.hbm := by
  unfold Module.hostAnswer; simp

@[simp] theorem stopPreload_frame (m : Module) :
    (Module.stopPreload m).ctl = m.ctl ∧
    (Module.stopPreload m).pins = m.pins ∧
    (Module.stopPreload m).start = m.start ∧
    (Module.stopPreload m).seq = m.seq ∧
    (Module.stopPreload m).image = m.image ∧
    (Module.stopPreload m).load = m.load ∧
    (Module.stopPreload m).couriers = m.couriers ∧
    (Module.stopPreload m).trig = m.trig ∧
    (Module.stopPreload m).trace = m.trace ∧
    (Module.stopPreload m).fabric = m.fabric ∧
    (Module.stopPreload m).lanes = m.lanes ∧
    (Module.stopPreload m).bundles = m.bundles ∧
    (Module.stopPreload m).disc = m.disc ∧
    (Module.stopPreload m).store = m.store ∧
    (Module.stopPreload m).sec = m.sec ∧
    (Module.stopPreload m).stew = m.stew ∧
    (Module.stopPreload m).scrub = m.scrub ∧
    (Module.stopPreload m).hbm = m.hbm ∧
    (Module.stopPreload m).outbox = m.outbox := by
  unfold Module.stopPreload; (try dsimp only); (repeat' split) <;> simp

@[simp] theorem discardWork_frame (now : Bool) (m : Module) :
    (Module.discardWork now m).ctl = m.ctl ∧
    (Module.discardWork now m).pins = m.pins ∧
    (Module.discardWork now m).start = m.start ∧
    (Module.discardWork now m).seq = m.seq ∧
    (Module.discardWork now m).image = m.image ∧
    (Module.discardWork now m).load = m.load ∧
    (Module.discardWork now m).couriers = m.couriers ∧
    (Module.discardWork now m).trig = m.trig ∧
    (Module.discardWork now m).trace = m.trace ∧
    (Module.discardWork now m).lanes = m.lanes ∧
    (Module.discardWork now m).bundles = m.bundles ∧
    (Module.discardWork now m).disc = m.disc ∧
    (Module.discardWork now m).store = m.store ∧
    (Module.discardWork now m).sec = m.sec ∧
    (Module.discardWork now m).scrub = m.scrub := by
  unfold Module.discardWork; simp

@[simp] theorem stopCouriers_frame (m : Module) :
    (Module.stopCouriers m).regs = m.regs ∧
    (Module.stopCouriers m).ctl = m.ctl ∧
    (Module.stopCouriers m).pins = m.pins ∧
    (Module.stopCouriers m).start = m.start ∧
    (Module.stopCouriers m).seq = m.seq ∧
    (Module.stopCouriers m).data = m.data ∧
    (Module.stopCouriers m).image = m.image ∧
    (Module.stopCouriers m).load = m.load ∧
    (Module.stopCouriers m).txn = m.txn ∧
    (Module.stopCouriers m).trig = m.trig ∧
    (Module.stopCouriers m).trace = m.trace ∧
    (Module.stopCouriers m).fabric = m.fabric ∧
    (Module.stopCouriers m).lanes = m.lanes ∧
    (Module.stopCouriers m).bundles = m.bundles ∧
    (Module.stopCouriers m).disc = m.disc ∧
    (Module.stopCouriers m).store = m.store ∧
    (Module.stopCouriers m).sec = m.sec ∧
    (Module.stopCouriers m).stew = m.stew ∧
    (Module.stopCouriers m).scrub = m.scrub ∧
    (Module.stopCouriers m).hbm = m.hbm ∧
    (Module.stopCouriers m).outbox = m.outbox := by
  unfold Module.stopCouriers; simp

@[simp] theorem capWritten_frame (m : Module) :
    (Module.capWritten m).ctl = m.ctl ∧
    (Module.capWritten m).pins = m.pins ∧
    (Module.capWritten m).start = m.start ∧
    (Module.capWritten m).seq = m.seq ∧
    (Module.capWritten m).data = m.data ∧
    (Module.capWritten m).image = m.image ∧
    (Module.capWritten m).load = m.load ∧
    (Module.capWritten m).txn = m.txn ∧
    (Module.capWritten m).couriers = m.couriers ∧
    (Module.capWritten m).trace = m.trace ∧
    (Module.capWritten m).lanes = m.lanes ∧
    (Module.capWritten m).bundles = m.bundles ∧
    (Module.capWritten m).disc = m.disc ∧
    (Module.capWritten m).store = m.store ∧
    (Module.capWritten m).sec = m.sec ∧
    (Module.capWritten m).stew = m.stew ∧
    (Module.capWritten m).scrub = m.scrub ∧
    (Module.capWritten m).hbm = m.hbm := by
  unfold Module.capWritten; simp

@[simp] theorem stopCapture_frame (m : Module) :
    (Module.stopCapture m).regs = m.regs ∧
    (Module.stopCapture m).ctl = m.ctl ∧
    (Module.stopCapture m).pins = m.pins ∧
    (Module.stopCapture m).start = m.start ∧
    (Module.stopCapture m).seq = m.seq ∧
    (Module.stopCapture m).data = m.data ∧
    (Module.stopCapture m).image = m.image ∧
    (Module.stopCapture m).load = m.load ∧
    (Module.stopCapture m).txn = m.txn ∧
    (Module.stopCapture m).couriers = m.couriers ∧
    (Module.stopCapture m).trace = m.trace ∧
    (Module.stopCapture m).lanes = m.lanes ∧
    (Module.stopCapture m).bundles = m.bundles ∧
    (Module.stopCapture m).disc = m.disc ∧
    (Module.stopCapture m).store = m.store ∧
    (Module.stopCapture m).sec = m.sec ∧
    (Module.stopCapture m).stew = m.stew ∧
    (Module.stopCapture m).scrub = m.scrub ∧
    (Module.stopCapture m).hbm = m.hbm := by
  unfold Module.stopCapture; simp

@[simp] theorem stopTrace_frame (m : Module) :
    (Module.stopTrace m).ctl = m.ctl ∧
    (Module.stopTrace m).pins = m.pins ∧
    (Module.stopTrace m).start = m.start ∧
    (Module.stopTrace m).data = m.data ∧
    (Module.stopTrace m).image = m.image ∧
    (Module.stopTrace m).load = m.load ∧
    (Module.stopTrace m).txn = m.txn ∧
    (Module.stopTrace m).couriers = m.couriers ∧
    (Module.stopTrace m).trig = m.trig ∧
    (Module.stopTrace m).fabric = m.fabric ∧
    (Module.stopTrace m).lanes = m.lanes ∧
    (Module.stopTrace m).bundles = m.bundles ∧
    (Module.stopTrace m).disc = m.disc ∧
    (Module.stopTrace m).store = m.store ∧
    (Module.stopTrace m).scrub = m.scrub ∧
    (Module.stopTrace m).hbm = m.hbm ∧
    (Module.stopTrace m).outbox = m.outbox := by
  unfold Module.stopTrace; simp

@[simp] theorem abandonLoad_frame (m : Module) :
    (Module.abandonLoad m).regs = m.regs ∧
    (Module.abandonLoad m).ctl = m.ctl ∧
    (Module.abandonLoad m).pins = m.pins ∧
    (Module.abandonLoad m).start = m.start ∧
    (Module.abandonLoad m).seq = m.seq ∧
    (Module.abandonLoad m).data = m.data ∧
    (Module.abandonLoad m).txn = m.txn ∧
    (Module.abandonLoad m).couriers = m.couriers ∧
    (Module.abandonLoad m).trig = m.trig ∧
    (Module.abandonLoad m).trace = m.trace ∧
    (Module.abandonLoad m).fabric = m.fabric ∧
    (Module.abandonLoad m).lanes = m.lanes ∧
    (Module.abandonLoad m).bundles = m.bundles ∧
    (Module.abandonLoad m).disc = m.disc ∧
    (Module.abandonLoad m).store = m.store ∧
    (Module.abandonLoad m).stew = m.stew ∧
    (Module.abandonLoad m).scrub = m.scrub ∧
    (Module.abandonLoad m).hbm = m.hbm ∧
    (Module.abandonLoad m).outbox = m.outbox := by
  unfold Module.abandonLoad; simp

@[simp] theorem endLaneTests_frame (m : Module) :
    (Module.endLaneTests m).regs = m.regs ∧
    (Module.endLaneTests m).ctl = m.ctl ∧
    (Module.endLaneTests m).pins = m.pins ∧
    (Module.endLaneTests m).start = m.start ∧
    (Module.endLaneTests m).seq = m.seq ∧
    (Module.endLaneTests m).data = m.data ∧
    (Module.endLaneTests m).image = m.image ∧
    (Module.endLaneTests m).load = m.load ∧
    (Module.endLaneTests m).txn = m.txn ∧
    (Module.endLaneTests m).couriers = m.couriers ∧
    (Module.endLaneTests m).trig = m.trig ∧
    (Module.endLaneTests m).trace = m.trace ∧
    (Module.endLaneTests m).fabric = m.fabric ∧
    (Module.endLaneTests m).disc = m.disc ∧
    (Module.endLaneTests m).store = m.store ∧
    (Module.endLaneTests m).sec = m.sec ∧
    (Module.endLaneTests m).stew = m.stew ∧
    (Module.endLaneTests m).scrub = m.scrub ∧
    (Module.endLaneTests m).hbm = m.hbm ∧
    (Module.endLaneTests m).outbox = m.outbox := by
  unfold Module.endLaneTests; simp

@[simp] theorem storeFull_frame (record : Nat) (m : Module) :
    (Module.storeFull record m).ctl = m.ctl ∧
    (Module.storeFull record m).pins = m.pins ∧
    (Module.storeFull record m).start = m.start ∧
    (Module.storeFull record m).seq = m.seq ∧
    (Module.storeFull record m).data = m.data ∧
    (Module.storeFull record m).image = m.image ∧
    (Module.storeFull record m).load = m.load ∧
    (Module.storeFull record m).txn = m.txn ∧
    (Module.storeFull record m).couriers = m.couriers ∧
    (Module.storeFull record m).trig = m.trig ∧
    (Module.storeFull record m).trace = m.trace ∧
    (Module.storeFull record m).fabric = m.fabric ∧
    (Module.storeFull record m).lanes = m.lanes ∧
    (Module.storeFull record m).bundles = m.bundles ∧
    (Module.storeFull record m).disc = m.disc ∧
    (Module.storeFull record m).store = m.store ∧
    (Module.storeFull record m).sec = m.sec ∧
    (Module.storeFull record m).scrub = m.scrub ∧
    (Module.storeFull record m).hbm = m.hbm ∧
    (Module.storeFull record m).outbox = m.outbox := by
  unfold Module.storeFull; simp

@[simp] theorem storePump_frame (m : Module) :
    (Module.storePump m).ctl = m.ctl ∧
    (Module.storePump m).pins = m.pins ∧
    (Module.storePump m).start = m.start ∧
    (Module.storePump m).seq = m.seq ∧
    (Module.storePump m).data = m.data ∧
    (Module.storePump m).image = m.image ∧
    (Module.storePump m).load = m.load ∧
    (Module.storePump m).txn = m.txn ∧
    (Module.storePump m).couriers = m.couriers ∧
    (Module.storePump m).trig = m.trig ∧
    (Module.storePump m).trace = m.trace ∧
    (Module.storePump m).fabric = m.fabric ∧
    (Module.storePump m).lanes = m.lanes ∧
    (Module.storePump m).bundles = m.bundles ∧
    (Module.storePump m).disc = m.disc ∧
    (Module.storePump m).sec = m.sec ∧
    (Module.storePump m).scrub = m.scrub ∧
    (Module.storePump m).hbm = m.hbm ∧
    (Module.storePump m).outbox = m.outbox := by
  unfold Module.storePump; (try dsimp only); (repeat' split) <;> simp

@[simp] theorem queueRecord_frame (record : Nat) (body : List Byte) (m : Module) :
    (Module.queueRecord record body m).ctl = m.ctl ∧
    (Module.queueRecord record body m).pins = m.pins ∧
    (Module.queueRecord record body m).start = m.start ∧
    (Module.queueRecord record body m).seq = m.seq ∧
    (Module.queueRecord record body m).data = m.data ∧
    (Module.queueRecord record body m).image = m.image ∧
    (Module.queueRecord record body m).load = m.load ∧
    (Module.queueRecord record body m).txn = m.txn ∧
    (Module.queueRecord record body m).couriers = m.couriers ∧
    (Module.queueRecord record body m).trig = m.trig ∧
    (Module.queueRecord record body m).trace = m.trace ∧
    (Module.queueRecord record body m).fabric = m.fabric ∧
    (Module.queueRecord record body m).lanes = m.lanes ∧
    (Module.queueRecord record body m).bundles = m.bundles ∧
    (Module.queueRecord record body m).disc = m.disc ∧
    (Module.queueRecord record body m).sec = m.sec ∧
    (Module.queueRecord record body m).scrub = m.scrub ∧
    (Module.queueRecord record body m).hbm = m.hbm ∧
    (Module.queueRecord record body m).outbox = m.outbox := by
  unfold Module.queueRecord; simp

@[simp] theorem flushChunks_frame (n : Nat) (m : Module) :
    (Module.flushChunks n m).ctl = m.ctl ∧ (Module.flushChunks n m).pins = m.pins ∧ (Module.flushChunks n m).start = m.start ∧
    (Module.flushChunks n m).seq = m.seq ∧ (Module.flushChunks n m).data = m.data ∧ (Module.flushChunks n m).image = m.image ∧
    (Module.flushChunks n m).load = m.load ∧ (Module.flushChunks n m).txn = m.txn ∧
    (Module.flushChunks n m).couriers = m.couriers ∧ (Module.flushChunks n m).trig = m.trig ∧
    (Module.flushChunks n m).trace = m.trace ∧ (Module.flushChunks n m).fabric = m.fabric ∧
    (Module.flushChunks n m).lanes = m.lanes ∧ (Module.flushChunks n m).bundles = m.bundles ∧
    (Module.flushChunks n m).disc = m.disc ∧ (Module.flushChunks n m).sec = m.sec ∧
    (Module.flushChunks n m).scrub = m.scrub ∧ (Module.flushChunks n m).hbm = m.hbm ∧
    (Module.flushChunks n m).outbox = m.outbox := by
  induction n generalizing m with
  | zero => simp [Module.flushChunks]
  | succ n ih =>
    unfold Module.flushChunks
    dsimp only
    split
    · simp
    · simp [ih]

@[simp] theorem recountEligible_frame (m : Module) :
    (Module.recountEligible m).ctl = m.ctl ∧
    (Module.recountEligible m).pins = m.pins ∧
    (Module.recountEligible m).start = m.start ∧
    (Module.recountEligible m).seq = m.seq ∧
    (Module.recountEligible m).data = m.data ∧
    (Module.recountEligible m).image = m.image ∧
    (Module.recountEligible m).load = m.load ∧
    (Module.recountEligible m).txn = m.txn ∧
    (Module.recountEligible m).couriers = m.couriers ∧
    (Module.recountEligible m).trig = m.trig ∧
    (Module.recountEligible m).trace = m.trace ∧
    (Module.recountEligible m).fabric = m.fabric ∧
    (Module.recountEligible m).lanes = m.lanes ∧
    (Module.recountEligible m).bundles = m.bundles ∧
    (Module.recountEligible m).disc = m.disc ∧
    (Module.recountEligible m).store = m.store ∧
    (Module.recountEligible m).sec = m.sec ∧
    (Module.recountEligible m).stew = m.stew ∧
    (Module.recountEligible m).scrub = m.scrub ∧
    (Module.recountEligible m).hbm = m.hbm ∧
    (Module.recountEligible m).outbox = m.outbox := by
  unfold Module.recountEligible; simp

@[simp] theorem storeCollator_frame (m : Module) :
    (Module.storeCollator m).ctl = m.ctl ∧
    (Module.storeCollator m).pins = m.pins ∧
    (Module.storeCollator m).start = m.start ∧
    (Module.storeCollator m).seq = m.seq ∧
    (Module.storeCollator m).data = m.data ∧
    (Module.storeCollator m).image = m.image ∧
    (Module.storeCollator m).load = m.load ∧
    (Module.storeCollator m).txn = m.txn ∧
    (Module.storeCollator m).couriers = m.couriers ∧
    (Module.storeCollator m).trig = m.trig ∧
    (Module.storeCollator m).trace = m.trace ∧
    (Module.storeCollator m).fabric = m.fabric ∧
    (Module.storeCollator m).lanes = m.lanes ∧
    (Module.storeCollator m).bundles = m.bundles ∧
    (Module.storeCollator m).disc = m.disc ∧
    (Module.storeCollator m).sec = m.sec ∧
    (Module.storeCollator m).scrub = m.scrub ∧
    (Module.storeCollator m).hbm = m.hbm ∧
    (Module.storeCollator m).outbox = m.outbox := by
  unfold Module.storeCollator; simp

@[simp] theorem flushLog_frame (m : Module) :
    (Module.flushLog m).ctl = m.ctl ∧
    (Module.flushLog m).pins = m.pins ∧
    (Module.flushLog m).start = m.start ∧
    (Module.flushLog m).seq = m.seq ∧
    (Module.flushLog m).data = m.data ∧
    (Module.flushLog m).image = m.image ∧
    (Module.flushLog m).load = m.load ∧
    (Module.flushLog m).txn = m.txn ∧
    (Module.flushLog m).couriers = m.couriers ∧
    (Module.flushLog m).trig = m.trig ∧
    (Module.flushLog m).trace = m.trace ∧
    (Module.flushLog m).fabric = m.fabric ∧
    (Module.flushLog m).lanes = m.lanes ∧
    (Module.flushLog m).bundles = m.bundles ∧
    (Module.flushLog m).disc = m.disc ∧
    (Module.flushLog m).sec = m.sec ∧
    (Module.flushLog m).scrub = m.scrub ∧
    (Module.flushLog m).hbm = m.hbm ∧
    (Module.flushLog m).outbox = m.outbox := by
  unfold Module.flushLog; simp

@[simp] theorem writeRemap_frame (g e : Nat) (m : Module) :
    (Module.writeRemap g e m).ctl = m.ctl ∧
    (Module.writeRemap g e m).pins = m.pins ∧
    (Module.writeRemap g e m).seq = m.seq ∧
    (Module.writeRemap g e m).data = m.data ∧
    (Module.writeRemap g e m).image = m.image ∧
    (Module.writeRemap g e m).load = m.load ∧
    (Module.writeRemap g e m).txn = m.txn ∧
    (Module.writeRemap g e m).couriers = m.couriers ∧
    (Module.writeRemap g e m).trig = m.trig ∧
    (Module.writeRemap g e m).trace = m.trace ∧
    (Module.writeRemap g e m).fabric = m.fabric ∧
    (Module.writeRemap g e m).lanes = m.lanes ∧
    (Module.writeRemap g e m).bundles = m.bundles ∧
    (Module.writeRemap g e m).disc = m.disc ∧
    (Module.writeRemap g e m).sec = m.sec ∧
    (Module.writeRemap g e m).scrub = m.scrub ∧
    (Module.writeRemap g e m).hbm = m.hbm ∧
    (Module.writeRemap g e m).outbox = m.outbox := by
  unfold Module.writeRemap; simp

@[simp] theorem bpFailed_frame (bp : Nat) (m : Module) :
    (Module.bpFailed bp m).ctl = m.ctl ∧
    (Module.bpFailed bp m).pins = m.pins ∧
    (Module.bpFailed bp m).seq = m.seq ∧
    (Module.bpFailed bp m).data = m.data ∧
    (Module.bpFailed bp m).image = m.image ∧
    (Module.bpFailed bp m).load = m.load ∧
    (Module.bpFailed bp m).txn = m.txn ∧
    (Module.bpFailed bp m).couriers = m.couriers ∧
    (Module.bpFailed bp m).trig = m.trig ∧
    (Module.bpFailed bp m).trace = m.trace ∧
    (Module.bpFailed bp m).fabric = m.fabric ∧
    (Module.bpFailed bp m).lanes = m.lanes ∧
    (Module.bpFailed bp m).bundles = m.bundles ∧
    (Module.bpFailed bp m).disc = m.disc ∧
    (Module.bpFailed bp m).sec = m.sec ∧
    (Module.bpFailed bp m).scrub = m.scrub ∧
    (Module.bpFailed bp m).hbm = m.hbm ∧
    (Module.bpFailed bp m).outbox = m.outbox := by
  unfold Module.bpFailed; simp

@[simp] theorem spareFailed_frame (g x : Nat) (m : Module) :
    (Module.spareFailed g x m).ctl = m.ctl ∧
    (Module.spareFailed g x m).pins = m.pins ∧
    (Module.spareFailed g x m).seq = m.seq ∧
    (Module.spareFailed g x m).data = m.data ∧
    (Module.spareFailed g x m).image = m.image ∧
    (Module.spareFailed g x m).load = m.load ∧
    (Module.spareFailed g x m).txn = m.txn ∧
    (Module.spareFailed g x m).couriers = m.couriers ∧
    (Module.spareFailed g x m).trig = m.trig ∧
    (Module.spareFailed g x m).trace = m.trace ∧
    (Module.spareFailed g x m).fabric = m.fabric ∧
    (Module.spareFailed g x m).lanes = m.lanes ∧
    (Module.spareFailed g x m).bundles = m.bundles ∧
    (Module.spareFailed g x m).disc = m.disc ∧
    (Module.spareFailed g x m).sec = m.sec ∧
    (Module.spareFailed g x m).scrub = m.scrub ∧
    (Module.spareFailed g x m).hbm = m.hbm ∧
    (Module.spareFailed g x m).outbox = m.outbox := by
  unfold Module.spareFailed; simp

@[simp] theorem endSelftest_frame (m : Module) :
    (Module.endSelftest m).ctl = m.ctl ∧
    (Module.endSelftest m).pins = m.pins ∧
    (Module.endSelftest m).seq = m.seq ∧
    (Module.endSelftest m).data = m.data ∧
    (Module.endSelftest m).image = m.image ∧
    (Module.endSelftest m).load = m.load ∧
    (Module.endSelftest m).txn = m.txn ∧
    (Module.endSelftest m).couriers = m.couriers ∧
    (Module.endSelftest m).trig = m.trig ∧
    (Module.endSelftest m).trace = m.trace ∧
    (Module.endSelftest m).fabric = m.fabric ∧
    (Module.endSelftest m).lanes = m.lanes ∧
    (Module.endSelftest m).bundles = m.bundles ∧
    (Module.endSelftest m).disc = m.disc ∧
    (Module.endSelftest m).scrub = m.scrub ∧
    (Module.endSelftest m).hbm = m.hbm ∧
    (Module.endSelftest m).outbox = m.outbox := by
  unfold Module.endSelftest; simp

@[simp] theorem displace_frame (m : Module) :
    (Module.displace m).regs = m.regs ∧
    (Module.displace m).ctl = m.ctl ∧
    (Module.displace m).pins = m.pins ∧
    (Module.displace m).start = m.start ∧
    (Module.displace m).seq = m.seq ∧
    (Module.displace m).image = m.image ∧
    (Module.displace m).load = m.load ∧
    (Module.displace m).txn = m.txn ∧
    (Module.displace m).couriers = m.couriers ∧
    (Module.displace m).trig = m.trig ∧
    (Module.displace m).trace = m.trace ∧
    (Module.displace m).fabric = m.fabric ∧
    (Module.displace m).lanes = m.lanes ∧
    (Module.displace m).bundles = m.bundles ∧
    (Module.displace m).disc = m.disc ∧
    (Module.displace m).store = m.store ∧
    (Module.displace m).stew = m.stew ∧
    (Module.displace m).scrub = m.scrub ∧
    (Module.displace m).hbm = m.hbm ∧
    (Module.displace m).outbox = m.outbox := by
  unfold Module.displace; simp

@[simp] theorem logHalt_frame (m : Module) :
    (Module.logHalt m).ctl = m.ctl ∧
    (Module.logHalt m).pins = m.pins ∧
    (Module.logHalt m).start = m.start ∧
    (Module.logHalt m).seq = m.seq ∧
    (Module.logHalt m).data = m.data ∧
    (Module.logHalt m).image = m.image ∧
    (Module.logHalt m).load = m.load ∧
    (Module.logHalt m).txn = m.txn ∧
    (Module.logHalt m).couriers = m.couriers ∧
    (Module.logHalt m).trig = m.trig ∧
    (Module.logHalt m).trace = m.trace ∧
    (Module.logHalt m).fabric = m.fabric ∧
    (Module.logHalt m).lanes = m.lanes ∧
    (Module.logHalt m).bundles = m.bundles ∧
    (Module.logHalt m).disc = m.disc ∧
    (Module.logHalt m).store = m.store ∧
    (Module.logHalt m).sec = m.sec ∧
    (Module.logHalt m).scrub = m.scrub ∧
    (Module.logHalt m).hbm = m.hbm ∧
    (Module.logHalt m).outbox = m.outbox := by
  unfold Module.logHalt; (try dsimp only); (repeat' split) <;> simp

@[simp] theorem logOutranked_frame (m : Module) :
    (Module.logOutranked m).ctl = m.ctl ∧
    (Module.logOutranked m).pins = m.pins ∧
    (Module.logOutranked m).start = m.start ∧
    (Module.logOutranked m).seq = m.seq ∧
    (Module.logOutranked m).data = m.data ∧
    (Module.logOutranked m).image = m.image ∧
    (Module.logOutranked m).load = m.load ∧
    (Module.logOutranked m).txn = m.txn ∧
    (Module.logOutranked m).couriers = m.couriers ∧
    (Module.logOutranked m).trig = m.trig ∧
    (Module.logOutranked m).trace = m.trace ∧
    (Module.logOutranked m).fabric = m.fabric ∧
    (Module.logOutranked m).lanes = m.lanes ∧
    (Module.logOutranked m).bundles = m.bundles ∧
    (Module.logOutranked m).disc = m.disc ∧
    (Module.logOutranked m).store = m.store ∧
    (Module.logOutranked m).sec = m.sec ∧
    (Module.logOutranked m).scrub = m.scrub ∧
    (Module.logOutranked m).hbm = m.hbm ∧
    (Module.logOutranked m).outbox = m.outbox := by
  unfold Module.logOutranked; simp

@[simp] theorem paceLeft_frame (m : Module) :
    (Module.paceLeft m).regs = m.regs ∧
    (Module.paceLeft m).ctl = m.ctl ∧
    (Module.paceLeft m).pins = m.pins ∧
    (Module.paceLeft m).start = m.start ∧
    (Module.paceLeft m).data = m.data ∧
    (Module.paceLeft m).image = m.image ∧
    (Module.paceLeft m).load = m.load ∧
    (Module.paceLeft m).txn = m.txn ∧
    (Module.paceLeft m).couriers = m.couriers ∧
    (Module.paceLeft m).trig = m.trig ∧
    (Module.paceLeft m).trace = m.trace ∧
    (Module.paceLeft m).fabric = m.fabric ∧
    (Module.paceLeft m).lanes = m.lanes ∧
    (Module.paceLeft m).bundles = m.bundles ∧
    (Module.paceLeft m).disc = m.disc ∧
    (Module.paceLeft m).store = m.store ∧
    (Module.paceLeft m).sec = m.sec ∧
    (Module.paceLeft m).stew = m.stew ∧
    (Module.paceLeft m).scrub = m.scrub ∧
    (Module.paceLeft m).hbm = m.hbm ∧
    (Module.paceLeft m).outbox = m.outbox := by
  unfold Module.paceLeft; simp

theorem freezeBy_scrub (flood : Module → Module) (code : Nat) (m : Module) (h : ∀ m, (flood m).scrub = m.scrub) :
    (m.freezeBy flood code).scrub = m.scrub := by
  unfold Module.freezeBy
  split
  · rfl
  · split
    · dsimp only
      split <;> simp
    · dsimp only
      split <;> simp
    · rfl
    · dsimp only
      simp only [flushLog_frame, h]
      split <;> split <;> simp

@[simp] theorem faultFreeze_frame (code : Nat) (m : Module) :
    (Module.faultFreeze code m).scrub = m.scrub := by
  unfold Module.faultFreeze
  exact freezeBy_scrub _ _ _ (by simp)

@[simp] theorem faultWith_frame (code source : Nat) (items : List (Nat × Nat)) (m : Module) :
    (Module.faultWith code source items m).scrub = m.scrub := by
  unfold Module.faultWith; simp

@[simp] theorem askFreeze_frame (cause : Nat) (m : Module) :
    (Module.askFreeze cause m).regs = m.regs ∧
    (Module.askFreeze cause m).pins = m.pins ∧
    (Module.askFreeze cause m).start = m.start ∧
    (Module.askFreeze cause m).seq = m.seq ∧
    (Module.askFreeze cause m).data = m.data ∧
    (Module.askFreeze cause m).image = m.image ∧
    (Module.askFreeze cause m).load = m.load ∧
    (Module.askFreeze cause m).txn = m.txn ∧
    (Module.askFreeze cause m).couriers = m.couriers ∧
    (Module.askFreeze cause m).trig = m.trig ∧
    (Module.askFreeze cause m).trace = m.trace ∧
    (Module.askFreeze cause m).fabric = m.fabric ∧
    (Module.askFreeze cause m).lanes = m.lanes ∧
    (Module.askFreeze cause m).bundles = m.bundles ∧
    (Module.askFreeze cause m).disc = m.disc ∧
    (Module.askFreeze cause m).store = m.store ∧
    (Module.askFreeze cause m).sec = m.sec ∧
    (Module.askFreeze cause m).stew = m.stew ∧
    (Module.askFreeze cause m).scrub = m.scrub ∧
    (Module.askFreeze cause m).hbm = m.hbm ∧
    (Module.askFreeze cause m).outbox = m.outbox := by
  unfold Module.askFreeze; simp

@[simp] theorem resumableFreeze_frame (cause : Nat) (m : Module) :
    (Module.resumableFreeze cause m).regs = m.regs ∧
    (Module.resumableFreeze cause m).pins = m.pins ∧
    (Module.resumableFreeze cause m).start = m.start ∧
    (Module.resumableFreeze cause m).data = m.data ∧
    (Module.resumableFreeze cause m).image = m.image ∧
    (Module.resumableFreeze cause m).load = m.load ∧
    (Module.resumableFreeze cause m).txn = m.txn ∧
    (Module.resumableFreeze cause m).couriers = m.couriers ∧
    (Module.resumableFreeze cause m).trig = m.trig ∧
    (Module.resumableFreeze cause m).trace = m.trace ∧
    (Module.resumableFreeze cause m).lanes = m.lanes ∧
    (Module.resumableFreeze cause m).bundles = m.bundles ∧
    (Module.resumableFreeze cause m).disc = m.disc ∧
    (Module.resumableFreeze cause m).store = m.store ∧
    (Module.resumableFreeze cause m).sec = m.sec ∧
    (Module.resumableFreeze cause m).stew = m.stew ∧
    (Module.resumableFreeze cause m).scrub = m.scrub ∧
    (Module.resumableFreeze cause m).hbm = m.hbm := by
  unfold Module.resumableFreeze; simp

@[simp] theorem discardStaged_frame (cause : Nat) (m : Module) :
    (Module.discardStaged cause m).ctl = m.ctl ∧
    (Module.discardStaged cause m).pins = m.pins ∧
    (Module.discardStaged cause m).start = m.start ∧
    (Module.discardStaged cause m).seq = m.seq ∧
    (Module.discardStaged cause m).data = m.data ∧
    (Module.discardStaged cause m).image = m.image ∧
    (Module.discardStaged cause m).txn = m.txn ∧
    (Module.discardStaged cause m).couriers = m.couriers ∧
    (Module.discardStaged cause m).trig = m.trig ∧
    (Module.discardStaged cause m).trace = m.trace ∧
    (Module.discardStaged cause m).fabric = m.fabric ∧
    (Module.discardStaged cause m).lanes = m.lanes ∧
    (Module.discardStaged cause m).bundles = m.bundles ∧
    (Module.discardStaged cause m).disc = m.disc ∧
    (Module.discardStaged cause m).store = m.store ∧
    (Module.discardStaged cause m).sec = m.sec ∧
    (Module.discardStaged cause m).scrub = m.scrub ∧
    (Module.discardStaged cause m).hbm = m.hbm ∧
    (Module.discardStaged cause m).outbox = m.outbox := by
  unfold Module.discardStaged; simp

@[simp] theorem abortScrub_frame (m : Module) :
    (Module.abortScrub m).ctl = m.ctl ∧
    (Module.abortScrub m).pins = m.pins ∧
    (Module.abortScrub m).start = m.start ∧
    (Module.abortScrub m).seq = m.seq ∧
    (Module.abortScrub m).data = m.data ∧
    (Module.abortScrub m).image = m.image ∧
    (Module.abortScrub m).load = m.load ∧
    (Module.abortScrub m).txn = m.txn ∧
    (Module.abortScrub m).couriers = m.couriers ∧
    (Module.abortScrub m).trig = m.trig ∧
    (Module.abortScrub m).trace = m.trace ∧
    (Module.abortScrub m).lanes = m.lanes ∧
    (Module.abortScrub m).bundles = m.bundles ∧
    (Module.abortScrub m).disc = m.disc ∧
    (Module.abortScrub m).store = m.store ∧
    (Module.abortScrub m).sec = m.sec ∧
    (Module.abortScrub m).hbm = m.hbm := by
  unfold Module.abortScrub; simp

@[simp] theorem lockdown_frame (cause : Nat) (m : Module) :
    (Module.lockdown cause m).pins = m.pins ∧
    (Module.lockdown cause m).data = m.data ∧
    (Module.lockdown cause m).image = m.image ∧
    (Module.lockdown cause m).txn = m.txn ∧
    (Module.lockdown cause m).trig = m.trig ∧
    (Module.lockdown cause m).trace = m.trace ∧
    (Module.lockdown cause m).disc = m.disc := by
  unfold Module.lockdown; (try dsimp only); (repeat' split) <;> simp

@[simp] theorem clearDomain_frame (design : Bool) (m : Module) :
    (Module.clearDomain design m).regs = m.regs ∧
    (Module.clearDomain design m).ctl = m.ctl ∧
    (Module.clearDomain design m).pins = m.pins ∧
    (Module.clearDomain design m).start = m.start ∧
    (Module.clearDomain design m).seq = m.seq ∧
    (Module.clearDomain design m).data = m.data ∧
    (Module.clearDomain design m).image = m.image ∧
    (Module.clearDomain design m).load = m.load ∧
    (Module.clearDomain design m).txn = m.txn ∧
    (Module.clearDomain design m).couriers = m.couriers ∧
    (Module.clearDomain design m).trig = m.trig ∧
    (Module.clearDomain design m).trace = m.trace ∧
    (Module.clearDomain design m).fabric = m.fabric ∧
    (Module.clearDomain design m).lanes = m.lanes ∧
    (Module.clearDomain design m).bundles = m.bundles ∧
    (Module.clearDomain design m).disc = m.disc ∧
    (Module.clearDomain design m).store = m.store ∧
    (Module.clearDomain design m).sec = m.sec ∧
    (Module.clearDomain design m).stew = m.stew ∧
    (Module.clearDomain design m).scrub = m.scrub ∧
    (Module.clearDomain design m).outbox = m.outbox := by
  unfold Module.clearDomain; simp

@[simp] theorem macFail_frame (addr reader kind : Nat) (m : Module) :
    (Module.macFail addr reader kind m).pins = m.pins ∧
    (Module.macFail addr reader kind m).data = m.data ∧
    (Module.macFail addr reader kind m).image = m.image ∧
    (Module.macFail addr reader kind m).txn = m.txn ∧
    (Module.macFail addr reader kind m).trig = m.trig ∧
    (Module.macFail addr reader kind m).trace = m.trace := by
  unfold Module.macFail; simp

@[simp] theorem memCorrected_frame (addr : Nat) (m : Module) :
    (Module.memCorrected addr m).ctl = m.ctl ∧
    (Module.memCorrected addr m).pins = m.pins ∧
    (Module.memCorrected addr m).start = m.start ∧
    (Module.memCorrected addr m).data = m.data ∧
    (Module.memCorrected addr m).image = m.image ∧
    (Module.memCorrected addr m).load = m.load ∧
    (Module.memCorrected addr m).txn = m.txn ∧
    (Module.memCorrected addr m).couriers = m.couriers ∧
    (Module.memCorrected addr m).trig = m.trig ∧
    (Module.memCorrected addr m).trace = m.trace ∧
    (Module.memCorrected addr m).fabric = m.fabric ∧
    (Module.memCorrected addr m).lanes = m.lanes ∧
    (Module.memCorrected addr m).bundles = m.bundles ∧
    (Module.memCorrected addr m).disc = m.disc ∧
    (Module.memCorrected addr m).store = m.store ∧
    (Module.memCorrected addr m).sec = m.sec ∧
    (Module.memCorrected addr m).scrub = m.scrub ∧
    (Module.memCorrected addr m).hbm = m.hbm ∧
    (Module.memCorrected addr m).outbox = m.outbox := by
  unfold Module.memCorrected; simp

@[simp] theorem countPc_frame (m : Module) (s : Nat) :
    (Module.countPc m s).regs = m.regs ∧
    (Module.countPc m s).ctl = m.ctl ∧
    (Module.countPc m s).pins = m.pins ∧
    (Module.countPc m s).start = m.start ∧
    (Module.countPc m s).seq = m.seq ∧
    (Module.countPc m s).data = m.data ∧
    (Module.countPc m s).image = m.image ∧
    (Module.countPc m s).load = m.load ∧
    (Module.countPc m s).txn = m.txn ∧
    (Module.countPc m s).couriers = m.couriers ∧
    (Module.countPc m s).trig = m.trig ∧
    (Module.countPc m s).trace = m.trace ∧
    (Module.countPc m s).lanes = m.lanes ∧
    (Module.countPc m s).bundles = m.bundles ∧
    (Module.countPc m s).disc = m.disc ∧
    (Module.countPc m s).store = m.store ∧
    (Module.countPc m s).sec = m.sec ∧
    (Module.countPc m s).stew = m.stew ∧
    (Module.countPc m s).scrub = m.scrub ∧
    (Module.countPc m s).hbm = m.hbm ∧
    (Module.countPc m s).outbox = m.outbox := by
  unfold Module.countPc; simp

@[simp] theorem freeSector_frame (ss : List Nat) (m : Module) :
    (Module.freeSector ss m).2.regs = m.regs ∧
    (Module.freeSector ss m).2.ctl = m.ctl ∧
    (Module.freeSector ss m).2.pins = m.pins ∧
    (Module.freeSector ss m).2.start = m.start ∧
    (Module.freeSector ss m).2.seq = m.seq ∧
    (Module.freeSector ss m).2.data = m.data ∧
    (Module.freeSector ss m).2.image = m.image ∧
    (Module.freeSector ss m).2.load = m.load ∧
    (Module.freeSector ss m).2.txn = m.txn ∧
    (Module.freeSector ss m).2.couriers = m.couriers ∧
    (Module.freeSector ss m).2.trig = m.trig ∧
    (Module.freeSector ss m).2.trace = m.trace ∧
    (Module.freeSector ss m).2.fabric = m.fabric ∧
    (Module.freeSector ss m).2.lanes = m.lanes ∧
    (Module.freeSector ss m).2.bundles = m.bundles ∧
    (Module.freeSector ss m).2.disc = m.disc ∧
    (Module.freeSector ss m).2.store = m.store ∧
    (Module.freeSector ss m).2.stew = m.stew ∧
    (Module.freeSector ss m).2.scrub = m.scrub ∧
    (Module.freeSector ss m).2.hbm = m.hbm ∧
    (Module.freeSector ss m).2.outbox = m.outbox := by
  unfold Module.freeSector; (try dsimp only); (repeat' split) <;> simp

@[simp] theorem found_frame (chk : SectorCheck) (s reader : Nat) (m : Module) :
    (Module.found chk s reader m).2.pins = m.pins ∧
    (Module.found chk s reader m).2.data = m.data ∧
    (Module.found chk s reader m).2.image = m.image ∧
    (Module.found chk s reader m).2.txn = m.txn ∧
    (Module.found chk s reader m).2.trig = m.trig ∧
    (Module.found chk s reader m).2.trace = m.trace := by
  unfold Module.found; (try dsimp only); (repeat' split) <;> simp

@[simp] theorem checkSectors_frame (outcome : SectorCheck) (ss : List Nat) (reader : Nat) (m : Module) :
    (Module.checkSectors outcome ss reader m).2.pins = m.pins ∧
    (Module.checkSectors outcome ss reader m).2.data = m.data ∧
    (Module.checkSectors outcome ss reader m).2.image = m.image ∧
    (Module.checkSectors outcome ss reader m).2.txn = m.txn ∧
    (Module.checkSectors outcome ss reader m).2.trig = m.trig ∧
    (Module.checkSectors outcome ss reader m).2.trace = m.trace := by
  unfold Module.checkSectors; (try dsimp only); (repeat' split) <;> simp

@[simp] theorem checkAt_frame (chk : SectorCheck) (addr reader : Nat) (m : Module) :
    (Module.checkAt chk addr reader m).2.pins = m.pins ∧
    (Module.checkAt chk addr reader m).2.data = m.data ∧
    (Module.checkAt chk addr reader m).2.image = m.image ∧
    (Module.checkAt chk addr reader m).2.txn = m.txn ∧
    (Module.checkAt chk addr reader m).2.trig = m.trig ∧
    (Module.checkAt chk addr reader m).2.trace = m.trace := by
  unfold Module.checkAt; simp

@[simp] theorem checkRange_frame (chk : SectorCheck) (lo hi reader : Nat) (m : Module) :
    (Module.checkRange chk lo hi reader m).2.pins = m.pins ∧
    (Module.checkRange chk lo hi reader m).2.data = m.data ∧
    (Module.checkRange chk lo hi reader m).2.image = m.image ∧
    (Module.checkRange chk lo hi reader m).2.txn = m.txn ∧
    (Module.checkRange chk lo hi reader m).2.trig = m.trig ∧
    (Module.checkRange chk lo hi reader m).2.trace = m.trace := by
  unfold Module.checkRange; simp

@[simp] theorem lateFind_frame (chk : SectorCheck) (s reader : Nat) (m : Module) :
    (Module.lateFind chk s reader m).pins = m.pins ∧
    (Module.lateFind chk s reader m).data = m.data ∧
    (Module.lateFind chk s reader m).image = m.image ∧
    (Module.lateFind chk s reader m).txn = m.txn ∧
    (Module.lateFind chk s reader m).trig = m.trig ∧
    (Module.lateFind chk s reader m).trace = m.trace := by
  unfold Module.lateFind; (try dsimp only); (repeat' split) <;> simp

@[simp] theorem freeCheck_frame (ss : List Nat) (m : Module) :
    (Module.freeCheck ss m).2.regs = m.regs ∧
    (Module.freeCheck ss m).2.ctl = m.ctl ∧
    (Module.freeCheck ss m).2.pins = m.pins ∧
    (Module.freeCheck ss m).2.start = m.start ∧
    (Module.freeCheck ss m).2.seq = m.seq ∧
    (Module.freeCheck ss m).2.data = m.data ∧
    (Module.freeCheck ss m).2.image = m.image ∧
    (Module.freeCheck ss m).2.load = m.load ∧
    (Module.freeCheck ss m).2.txn = m.txn ∧
    (Module.freeCheck ss m).2.couriers = m.couriers ∧
    (Module.freeCheck ss m).2.trig = m.trig ∧
    (Module.freeCheck ss m).2.trace = m.trace ∧
    (Module.freeCheck ss m).2.fabric = m.fabric ∧
    (Module.freeCheck ss m).2.lanes = m.lanes ∧
    (Module.freeCheck ss m).2.bundles = m.bundles ∧
    (Module.freeCheck ss m).2.disc = m.disc ∧
    (Module.freeCheck ss m).2.store = m.store ∧
    (Module.freeCheck ss m).2.stew = m.stew ∧
    (Module.freeCheck ss m).2.scrub = m.scrub ∧
    (Module.freeCheck ss m).2.hbm = m.hbm ∧
    (Module.freeCheck ss m).2.outbox = m.outbox := by
  unfold Module.freeCheck; (try dsimp only); (repeat' split) <;> simp

@[simp] theorem writeChecked_frame (a : Nat) (bs : List Byte) (reader : Nat) (m : Module) :
    (Module.writeChecked a bs reader m).2.pins = m.pins ∧
    (Module.writeChecked a bs reader m).2.data = m.data ∧
    (Module.writeChecked a bs reader m).2.image = m.image ∧
    (Module.writeChecked a bs reader m).2.txn = m.txn ∧
    (Module.writeChecked a bs reader m).2.trig = m.trig ∧
    (Module.writeChecked a bs reader m).2.trace = m.trace := by
  unfold Module.writeChecked; (try dsimp only); (repeat' split) <;> simp

@[simp] theorem flushSectors_frame (ss : List (Nat × BitVec 512)) (reader : Nat) (m : Module) :
    (Module.flushSectors ss reader m).pins = m.pins ∧
    (Module.flushSectors ss reader m).data = m.data ∧
    (Module.flushSectors ss reader m).image = m.image ∧
    (Module.flushSectors ss reader m).txn = m.txn ∧
    (Module.flushSectors ss reader m).trig = m.trig ∧
    (Module.flushSectors ss reader m).trace = m.trace := by
  unfold Module.flushSectors; simp

@[simp] theorem flushCapture_frame (m : Module) :
    (Module.flushCapture m).pins = m.pins ∧
    (Module.flushCapture m).data = m.data ∧
    (Module.flushCapture m).image = m.image ∧
    (Module.flushCapture m).txn = m.txn ∧
    (Module.flushCapture m).trace = m.trace := by
  unfold Module.flushCapture; simp

@[simp] theorem funnelFlush_frame (ps : List (BitVec 128)) (m : Module) :
    (Module.funnelFlush ps m).pins = m.pins ∧
    (Module.funnelFlush ps m).data = m.data ∧
    (Module.funnelFlush ps m).image = m.image ∧
    (Module.funnelFlush ps m).txn = m.txn ∧
    (Module.funnelFlush ps m).trig = m.trig ∧
    (Module.funnelFlush ps m).trace = m.trace := by
  unfold Module.funnelFlush; simp

@[simp] theorem endRepairs_frame (m : Module) :
    (Module.endRepairs m).ctl = m.ctl ∧
    (Module.endRepairs m).pins = m.pins ∧
    (Module.endRepairs m).start = m.start ∧
    (Module.endRepairs m).seq = m.seq ∧
    (Module.endRepairs m).data = m.data ∧
    (Module.endRepairs m).image = m.image ∧
    (Module.endRepairs m).txn = m.txn ∧
    (Module.endRepairs m).couriers = m.couriers ∧
    (Module.endRepairs m).trig = m.trig ∧
    (Module.endRepairs m).trace = m.trace ∧
    (Module.endRepairs m).fabric = m.fabric ∧
    (Module.endRepairs m).lanes = m.lanes ∧
    (Module.endRepairs m).bundles = m.bundles ∧
    (Module.endRepairs m).disc = m.disc ∧
    (Module.endRepairs m).store = m.store ∧
    (Module.endRepairs m).sec = m.sec ∧
    (Module.endRepairs m).scrub = m.scrub ∧
    (Module.endRepairs m).hbm = m.hbm ∧
    (Module.endRepairs m).outbox = m.outbox := by
  unfold Module.endRepairs; simp

@[simp] theorem startEnds_frame (cold : Bool) (m : Module) :
    (Module.startEnds cold m).pins = m.pins ∧
    (Module.startEnds cold m).image = m.image := by
  unfold Module.startEnds
  dsimp only
  cases cold <;> (repeat' split) <;> simp

@[simp] theorem startSets_frame (m2 : Module) :
    (Module.startSets m2).regs = m2.regs ∧
    (Module.startSets m2).image = m2.image ∧
    (Module.startSets m2).load = m2.load ∧
    (Module.startSets m2).store = m2.store ∧
    (Module.startSets m2).sec = m2.sec ∧
    (Module.startSets m2).scrub = m2.scrub ∧
    (Module.startSets m2).hbm = m2.hbm := by
  unfold Module.startSets; simp

@[simp] theorem lanesQuiet_frame (m : Module) :
    (Module.lanesQuiet m).regs = m.regs ∧
    (Module.lanesQuiet m).ctl = m.ctl ∧
    (Module.lanesQuiet m).pins = m.pins ∧
    (Module.lanesQuiet m).start = m.start ∧
    (Module.lanesQuiet m).seq = m.seq ∧
    (Module.lanesQuiet m).data = m.data ∧
    (Module.lanesQuiet m).image = m.image ∧
    (Module.lanesQuiet m).load = m.load ∧
    (Module.lanesQuiet m).txn = m.txn ∧
    (Module.lanesQuiet m).couriers = m.couriers ∧
    (Module.lanesQuiet m).trig = m.trig ∧
    (Module.lanesQuiet m).trace = m.trace ∧
    (Module.lanesQuiet m).fabric = m.fabric ∧
    (Module.lanesQuiet m).lanes = m.lanes ∧
    (Module.lanesQuiet m).disc = m.disc ∧
    (Module.lanesQuiet m).store = m.store ∧
    (Module.lanesQuiet m).sec = m.sec ∧
    (Module.lanesQuiet m).stew = m.stew ∧
    (Module.lanesQuiet m).scrub = m.scrub ∧
    (Module.lanesQuiet m).hbm = m.hbm ∧
    (Module.lanesQuiet m).outbox = m.outbox := by
  unfold Module.lanesQuiet; simp

@[simp] theorem endZeroise_frame (m : Module) :
    (Module.endZeroise m).ctl = m.ctl ∧
    (Module.endZeroise m).pins = m.pins ∧
    (Module.endZeroise m).start = m.start ∧
    (Module.endZeroise m).seq = m.seq ∧
    (Module.endZeroise m).data = m.data ∧
    (Module.endZeroise m).image = m.image ∧
    (Module.endZeroise m).load = m.load ∧
    (Module.endZeroise m).txn = m.txn ∧
    (Module.endZeroise m).couriers = m.couriers ∧
    (Module.endZeroise m).trig = m.trig ∧
    (Module.endZeroise m).trace = m.trace ∧
    (Module.endZeroise m).fabric = m.fabric ∧
    (Module.endZeroise m).lanes = m.lanes ∧
    (Module.endZeroise m).bundles = m.bundles ∧
    (Module.endZeroise m).disc = m.disc ∧
    (Module.endZeroise m).store = m.store ∧
    (Module.endZeroise m).scrub = m.scrub ∧
    (Module.endZeroise m).hbm = m.hbm ∧
    (Module.endZeroise m).outbox = m.outbox := by
  unfold Module.endZeroise; simp

@[simp] theorem recoverSector_frame (m : Module) (k : Nat) :
    (Module.recoverSector m k).ctl = m.ctl ∧
    (Module.recoverSector m k).pins = m.pins ∧
    (Module.recoverSector m k).start = m.start ∧
    (Module.recoverSector m k).seq = m.seq ∧
    (Module.recoverSector m k).data = m.data ∧
    (Module.recoverSector m k).image = m.image ∧
    (Module.recoverSector m k).load = m.load ∧
    (Module.recoverSector m k).txn = m.txn ∧
    (Module.recoverSector m k).couriers = m.couriers ∧
    (Module.recoverSector m k).trig = m.trig ∧
    (Module.recoverSector m k).trace = m.trace ∧
    (Module.recoverSector m k).lanes = m.lanes ∧
    (Module.recoverSector m k).bundles = m.bundles ∧
    (Module.recoverSector m k).disc = m.disc ∧
    (Module.recoverSector m k).scrub = m.scrub ∧
    (Module.recoverSector m k).hbm = m.hbm := by
  unfold Module.recoverSector; simp

@[simp] theorem journalCheck_frame (m : Module) :
    (Module.journalCheck m).ctl = m.ctl ∧
    (Module.journalCheck m).pins = m.pins ∧
    (Module.journalCheck m).start = m.start ∧
    (Module.journalCheck m).seq = m.seq ∧
    (Module.journalCheck m).data = m.data ∧
    (Module.journalCheck m).image = m.image ∧
    (Module.journalCheck m).load = m.load ∧
    (Module.journalCheck m).txn = m.txn ∧
    (Module.journalCheck m).couriers = m.couriers ∧
    (Module.journalCheck m).trig = m.trig ∧
    (Module.journalCheck m).trace = m.trace ∧
    (Module.journalCheck m).lanes = m.lanes ∧
    (Module.journalCheck m).bundles = m.bundles ∧
    (Module.journalCheck m).disc = m.disc ∧
    (Module.journalCheck m).scrub = m.scrub ∧
    (Module.journalCheck m).hbm = m.hbm := by
  unfold Module.journalCheck; simp

@[simp] theorem xreset_frame (crossing : Nat) (m : Module) :
    (Module.xreset crossing m).ctl = m.ctl ∧
    (Module.xreset crossing m).pins = m.pins ∧
    (Module.xreset crossing m).start = m.start ∧
    (Module.xreset crossing m).seq = m.seq ∧
    (Module.xreset crossing m).data = m.data ∧
    (Module.xreset crossing m).image = m.image ∧
    (Module.xreset crossing m).load = m.load ∧
    (Module.xreset crossing m).txn = m.txn ∧
    (Module.xreset crossing m).couriers = m.couriers ∧
    (Module.xreset crossing m).trig = m.trig ∧
    (Module.xreset crossing m).trace = m.trace ∧
    (Module.xreset crossing m).fabric = m.fabric ∧
    (Module.xreset crossing m).lanes = m.lanes ∧
    (Module.xreset crossing m).bundles = m.bundles ∧
    (Module.xreset crossing m).disc = m.disc ∧
    (Module.xreset crossing m).store = m.store ∧
    (Module.xreset crossing m).sec = m.sec ∧
    (Module.xreset crossing m).scrub = m.scrub ∧
    (Module.xreset crossing m).hbm = m.hbm ∧
    (Module.xreset crossing m).outbox = m.outbox := by
  unfold Module.xreset; simp

@[simp] theorem beginCold_frame (m0 : Module) :
    (Module.beginCold m0).ctl = m0.ctl ∧
    (Module.beginCold m0).txn = m0.txn ∧
    (Module.beginCold m0).trace = m0.trace ∧
    (Module.beginCold m0).scrub = m0.scrub := by
  unfold Module.beginCold; simp

end Sys2Proof.Machine
end

