-- ==== Sys2Proof/Laws/FrameStart.lean ====
section
/-! SUPPORT. Laws/FrameStart.lean: for each operation of the start steps and the checked reads, the parts of the module that it
never changes. -/

namespace Sys2Proof.Machine

@[simp] theorem drbgSeed_frame (init : Bool) (m : Module) :
    (Module.drbgSeed init m).regs = m.regs ∧
    (Module.drbgSeed init m).ctl = m.ctl ∧
    (Module.drbgSeed init m).pins = m.pins ∧
    (Module.drbgSeed init m).start = m.start ∧
    (Module.drbgSeed init m).seq = m.seq ∧
    (Module.drbgSeed init m).data = m.data ∧
    (Module.drbgSeed init m).image = m.image ∧
    (Module.drbgSeed init m).load = m.load ∧
    (Module.drbgSeed init m).txn = m.txn ∧
    (Module.drbgSeed init m).couriers = m.couriers ∧
    (Module.drbgSeed init m).trig = m.trig ∧
    (Module.drbgSeed init m).trace = m.trace ∧
    (Module.drbgSeed init m).fabric = m.fabric ∧
    (Module.drbgSeed init m).lanes = m.lanes ∧
    (Module.drbgSeed init m).bundles = m.bundles ∧
    (Module.drbgSeed init m).disc = m.disc ∧
    (Module.drbgSeed init m).store = m.store ∧
    (Module.drbgSeed init m).stew = m.stew ∧
    (Module.drbgSeed init m).scrub = m.scrub ∧
    (Module.drbgSeed init m).hbm = m.hbm ∧
    (Module.drbgSeed init m).outbox = m.outbox := by
  unfold Module.drbgSeed; simp

@[simp] theorem drbgDraw_frame (m : Module) :
    (Module.drbgDraw m).2.regs = m.regs ∧
    (Module.drbgDraw m).2.ctl = m.ctl ∧
    (Module.drbgDraw m).2.pins = m.pins ∧
    (Module.drbgDraw m).2.start = m.start ∧
    (Module.drbgDraw m).2.seq = m.seq ∧
    (Module.drbgDraw m).2.data = m.data ∧
    (Module.drbgDraw m).2.image = m.image ∧
    (Module.drbgDraw m).2.load = m.load ∧
    (Module.drbgDraw m).2.txn = m.txn ∧
    (Module.drbgDraw m).2.couriers = m.couriers ∧
    (Module.drbgDraw m).2.trig = m.trig ∧
    (Module.drbgDraw m).2.trace = m.trace ∧
    (Module.drbgDraw m).2.fabric = m.fabric ∧
    (Module.drbgDraw m).2.lanes = m.lanes ∧
    (Module.drbgDraw m).2.bundles = m.bundles ∧
    (Module.drbgDraw m).2.disc = m.disc ∧
    (Module.drbgDraw m).2.store = m.store ∧
    (Module.drbgDraw m).2.stew = m.stew ∧
    (Module.drbgDraw m).2.scrub = m.scrub ∧
    (Module.drbgDraw m).2.hbm = m.hbm ∧
    (Module.drbgDraw m).2.outbox = m.outbox := by
  unfold Module.drbgDraw; simp

@[simp] theorem drawEpoch_frame (design : Bool) (m : Module) :
    (Module.drawEpoch design m).regs = m.regs ∧
    (Module.drawEpoch design m).ctl = m.ctl ∧
    (Module.drawEpoch design m).pins = m.pins ∧
    (Module.drawEpoch design m).start = m.start ∧
    (Module.drawEpoch design m).seq = m.seq ∧
    (Module.drawEpoch design m).data = m.data ∧
    (Module.drawEpoch design m).image = m.image ∧
    (Module.drawEpoch design m).load = m.load ∧
    (Module.drawEpoch design m).txn = m.txn ∧
    (Module.drawEpoch design m).couriers = m.couriers ∧
    (Module.drawEpoch design m).trig = m.trig ∧
    (Module.drawEpoch design m).trace = m.trace ∧
    (Module.drawEpoch design m).fabric = m.fabric ∧
    (Module.drawEpoch design m).lanes = m.lanes ∧
    (Module.drawEpoch design m).bundles = m.bundles ∧
    (Module.drawEpoch design m).disc = m.disc ∧
    (Module.drawEpoch design m).store = m.store ∧
    (Module.drawEpoch design m).stew = m.stew ∧
    (Module.drawEpoch design m).scrub = m.scrub ∧
    (Module.drawEpoch design m).hbm = m.hbm ∧
    (Module.drawEpoch design m).outbox = m.outbox := by
  unfold Module.drawEpoch; simp

@[simp] theorem beginEpoch_frame (design : Bool) (m : Module) :
    (Module.beginEpoch design m).regs = m.regs ∧
    (Module.beginEpoch design m).ctl = m.ctl ∧
    (Module.beginEpoch design m).pins = m.pins ∧
    (Module.beginEpoch design m).start = m.start ∧
    (Module.beginEpoch design m).seq = m.seq ∧
    (Module.beginEpoch design m).data = m.data ∧
    (Module.beginEpoch design m).image = m.image ∧
    (Module.beginEpoch design m).txn = m.txn ∧
    (Module.beginEpoch design m).couriers = m.couriers ∧
    (Module.beginEpoch design m).trig = m.trig ∧
    (Module.beginEpoch design m).trace = m.trace ∧
    (Module.beginEpoch design m).fabric = m.fabric ∧
    (Module.beginEpoch design m).lanes = m.lanes ∧
    (Module.beginEpoch design m).bundles = m.bundles ∧
    (Module.beginEpoch design m).disc = m.disc ∧
    (Module.beginEpoch design m).store = m.store ∧
    (Module.beginEpoch design m).stew = m.stew ∧
    (Module.beginEpoch design m).scrub = m.scrub ∧
    (Module.beginEpoch design m).outbox = m.outbox := by
  unfold Module.beginEpoch; simp

@[simp] theorem programImage_frame (m : Module) :
    (Module.programImage m).ctl = m.ctl ∧
    (Module.programImage m).pins = m.pins ∧
    (Module.programImage m).load = m.load ∧
    (Module.programImage m).trig = m.trig ∧
    (Module.programImage m).trace = m.trace ∧
    (Module.programImage m).fabric = m.fabric ∧
    (Module.programImage m).lanes = m.lanes ∧
    (Module.programImage m).bundles = m.bundles ∧
    (Module.programImage m).disc = m.disc ∧
    (Module.programImage m).store = m.store ∧
    (Module.programImage m).sec = m.sec ∧
    (Module.programImage m).stew = m.stew ∧
    (Module.programImage m).scrub = m.scrub ∧
    (Module.programImage m).outbox = m.outbox := by
  unfold Module.programImage; simp

@[simp] theorem loadGenerators_frame (img : Img) (m : Module) :
    (Module.loadGenerators img m).ctl = m.ctl ∧
    (Module.loadGenerators img m).pins = m.pins ∧
    (Module.loadGenerators img m).start = m.start ∧
    (Module.loadGenerators img m).data = m.data ∧
    (Module.loadGenerators img m).image = m.image ∧
    (Module.loadGenerators img m).load = m.load ∧
    (Module.loadGenerators img m).txn = m.txn ∧
    (Module.loadGenerators img m).couriers = m.couriers ∧
    (Module.loadGenerators img m).trig = m.trig ∧
    (Module.loadGenerators img m).trace = m.trace ∧
    (Module.loadGenerators img m).fabric = m.fabric ∧
    (Module.loadGenerators img m).lanes = m.lanes ∧
    (Module.loadGenerators img m).bundles = m.bundles ∧
    (Module.loadGenerators img m).disc = m.disc ∧
    (Module.loadGenerators img m).store = m.store ∧
    (Module.loadGenerators img m).sec = m.sec ∧
    (Module.loadGenerators img m).stew = m.stew ∧
    (Module.loadGenerators img m).scrub = m.scrub ∧
    (Module.loadGenerators img m).hbm = m.hbm ∧
    (Module.loadGenerators img m).outbox = m.outbox := by
  unfold Module.loadGenerators; simp

@[simp] theorem gsr_frame (m : Module) :
    (Module.gsr m).ctl = m.ctl ∧
    (Module.gsr m).pins = m.pins ∧
    (Module.gsr m).start = m.start ∧
    (Module.gsr m).image = m.image ∧
    (Module.gsr m).load = m.load ∧
    (Module.gsr m).txn = m.txn ∧
    (Module.gsr m).couriers = m.couriers ∧
    (Module.gsr m).trig = m.trig ∧
    (Module.gsr m).trace = m.trace ∧
    (Module.gsr m).fabric = m.fabric ∧
    (Module.gsr m).lanes = m.lanes ∧
    (Module.gsr m).bundles = m.bundles ∧
    (Module.gsr m).disc = m.disc ∧
    (Module.gsr m).store = m.store ∧
    (Module.gsr m).sec = m.sec ∧
    (Module.gsr m).stew = m.stew ∧
    (Module.gsr m).scrub = m.scrub ∧
    (Module.gsr m).hbm = m.hbm ∧
    (Module.gsr m).outbox = m.outbox := by
  unfold Module.gsr; simp

@[simp] theorem startStep_frame (code : Nat) (m : Module) :
    (Module.startStep code m).ctl = m.ctl ∧
    (Module.startStep code m).pins = m.pins ∧
    (Module.startStep code m).image = m.image ∧
    (Module.startStep code m).load = m.load ∧
    (Module.startStep code m).txn = m.txn ∧
    (Module.startStep code m).couriers = m.couriers ∧
    (Module.startStep code m).trig = m.trig ∧
    (Module.startStep code m).trace = m.trace ∧
    (Module.startStep code m).fabric = m.fabric ∧
    (Module.startStep code m).lanes = m.lanes ∧
    (Module.startStep code m).bundles = m.bundles ∧
    (Module.startStep code m).disc = m.disc ∧
    (Module.startStep code m).store = m.store ∧
    (Module.startStep code m).sec = m.sec ∧
    (Module.startStep code m).stew = m.stew ∧
    (Module.startStep code m).scrub = m.scrub ∧
    (Module.startStep code m).hbm = m.hbm ∧
    (Module.startStep code m).outbox = m.outbox := by
  unfold Module.startStep; simp

@[simp] theorem runSteps_frame (n0 : List Nat) (m : Module) :
    (Module.runSteps n0 m).ctl = m.ctl ∧
    (Module.runSteps n0 m).image = m.image ∧
    (Module.runSteps n0 m).load = m.load ∧
    (Module.runSteps n0 m).txn = m.txn ∧
    (Module.runSteps n0 m).couriers = m.couriers ∧
    (Module.runSteps n0 m).trig = m.trig ∧
    (Module.runSteps n0 m).trace = m.trace ∧
    (Module.runSteps n0 m).fabric = m.fabric ∧
    (Module.runSteps n0 m).lanes = m.lanes ∧
    (Module.runSteps n0 m).bundles = m.bundles ∧
    (Module.runSteps n0 m).disc = m.disc ∧
    (Module.runSteps n0 m).store = m.store ∧
    (Module.runSteps n0 m).sec = m.sec ∧
    (Module.runSteps n0 m).stew = m.stew ∧
    (Module.runSteps n0 m).scrub = m.scrub ∧
    (Module.runSteps n0 m).hbm = m.hbm ∧
    (Module.runSteps n0 m).outbox = m.outbox := by
  induction n0 generalizing m <;> (unfold Module.runSteps; (try dsimp only); (repeat' split) <;> simp_all)

@[simp] theorem advanceStartup_frame (m : Module) :
    (Module.advanceStartup m).ctl = m.ctl ∧
    (Module.advanceStartup m).image = m.image ∧
    (Module.advanceStartup m).load = m.load ∧
    (Module.advanceStartup m).txn = m.txn ∧
    (Module.advanceStartup m).couriers = m.couriers ∧
    (Module.advanceStartup m).trig = m.trig ∧
    (Module.advanceStartup m).trace = m.trace ∧
    (Module.advanceStartup m).fabric = m.fabric ∧
    (Module.advanceStartup m).lanes = m.lanes ∧
    (Module.advanceStartup m).bundles = m.bundles ∧
    (Module.advanceStartup m).disc = m.disc ∧
    (Module.advanceStartup m).store = m.store ∧
    (Module.advanceStartup m).sec = m.sec ∧
    (Module.advanceStartup m).stew = m.stew ∧
    (Module.advanceStartup m).scrub = m.scrub ∧
    (Module.advanceStartup m).hbm = m.hbm ∧
    (Module.advanceStartup m).outbox = m.outbox := by
  unfold Module.advanceStartup; simp

@[simp] theorem sendIdents_frame (m : Module) :
    (Module.sendIdents m).ctl = m.ctl ∧
    (Module.sendIdents m).image = m.image ∧
    (Module.sendIdents m).load = m.load ∧
    (Module.sendIdents m).txn = m.txn ∧
    (Module.sendIdents m).couriers = m.couriers ∧
    (Module.sendIdents m).trig = m.trig ∧
    (Module.sendIdents m).trace = m.trace ∧
    (Module.sendIdents m).fabric = m.fabric ∧
    (Module.sendIdents m).lanes = m.lanes ∧
    (Module.sendIdents m).store = m.store ∧
    (Module.sendIdents m).scrub = m.scrub ∧
    (Module.sendIdents m).hbm = m.hbm := by
  unfold Module.sendIdents; simp

@[simp] theorem ringBack_frame (size : Nat) (m : Module) :
    (Module.ringBack size m).ctl = m.ctl ∧
    (Module.ringBack size m).image = m.image ∧
    (Module.ringBack size m).load = m.load ∧
    (Module.ringBack size m).txn = m.txn ∧
    (Module.ringBack size m).couriers = m.couriers ∧
    (Module.ringBack size m).trig = m.trig ∧
    (Module.ringBack size m).trace = m.trace ∧
    (Module.ringBack size m).fabric = m.fabric ∧
    (Module.ringBack size m).lanes = m.lanes ∧
    (Module.ringBack size m).store = m.store ∧
    (Module.ringBack size m).scrub = m.scrub ∧
    (Module.ringBack size m).hbm = m.hbm := by
  unfold Module.ringBack; simp

@[simp] theorem openRing_frame (ring : Nat) (m : Module) :
    (Module.openRing ring m).ctl = m.ctl ∧
    (Module.openRing ring m).image = m.image ∧
    (Module.openRing ring m).load = m.load ∧
    (Module.openRing ring m).txn = m.txn ∧
    (Module.openRing ring m).couriers = m.couriers ∧
    (Module.openRing ring m).trig = m.trig ∧
    (Module.openRing ring m).trace = m.trace ∧
    (Module.openRing ring m).fabric = m.fabric ∧
    (Module.openRing ring m).lanes = m.lanes ∧
    (Module.openRing ring m).store = m.store ∧
    (Module.openRing ring m).scrub = m.scrub ∧
    (Module.openRing ring m).hbm = m.hbm := by
  unfold Module.openRing; simp

@[simp] theorem beginDiscovery_frame (m : Module) :
    (Module.beginDiscovery m).ctl = m.ctl ∧
    (Module.beginDiscovery m).image = m.image ∧
    (Module.beginDiscovery m).load = m.load ∧
    (Module.beginDiscovery m).txn = m.txn ∧
    (Module.beginDiscovery m).couriers = m.couriers ∧
    (Module.beginDiscovery m).trig = m.trig ∧
    (Module.beginDiscovery m).trace = m.trace ∧
    (Module.beginDiscovery m).fabric = m.fabric ∧
    (Module.beginDiscovery m).lanes = m.lanes ∧
    (Module.beginDiscovery m).store = m.store ∧
    (Module.beginDiscovery m).scrub = m.scrub ∧
    (Module.beginDiscovery m).hbm = m.hbm := by
  unfold Module.beginDiscovery; simp

@[simp] theorem trainingOver_frame (m : Module) :
    (Module.trainingOver m).ctl = m.ctl ∧
    (Module.trainingOver m).image = m.image ∧
    (Module.trainingOver m).load = m.load ∧
    (Module.trainingOver m).txn = m.txn ∧
    (Module.trainingOver m).couriers = m.couriers ∧
    (Module.trainingOver m).trig = m.trig ∧
    (Module.trainingOver m).trace = m.trace ∧
    (Module.trainingOver m).fabric = m.fabric ∧
    (Module.trainingOver m).lanes = m.lanes ∧
    (Module.trainingOver m).store = m.store ∧
    (Module.trainingOver m).scrub = m.scrub ∧
    (Module.trainingOver m).hbm = m.hbm := by
  unfold Module.trainingOver; simp

@[simp] theorem enterBringup_frame (m : Module) :
    (Module.enterBringup m).image = m.image ∧
    (Module.enterBringup m).load = m.load ∧
    (Module.enterBringup m).txn = m.txn ∧
    (Module.enterBringup m).couriers = m.couriers ∧
    (Module.enterBringup m).trig = m.trig ∧
    (Module.enterBringup m).trace = m.trace ∧
    (Module.enterBringup m).store = m.store ∧
    (Module.enterBringup m).scrub = m.scrub ∧
    (Module.enterBringup m).hbm = m.hbm := by
  unfold Module.enterBringup; simp

end Sys2Proof.Machine
end

