-- ==== Sys2Proof/Laws/FrameNet.lean ====
section
/-! SUPPORT. Laws/FrameNet.lean: for each operation of channels, the packet network and trace, the parts of the module that it
never changes. -/

namespace Sys2Proof.Machine

@[simp] theorem setChan_frame (c : Nat) (x : Channel) (m : Module) :
    (Module.setChan c x m).regs = m.regs ∧
    (Module.setChan c x m).ctl = m.ctl ∧
    (Module.setChan c x m).pins = m.pins ∧
    (Module.setChan c x m).start = m.start ∧
    (Module.setChan c x m).seq = m.seq ∧
    (Module.setChan c x m).data = m.data ∧
    (Module.setChan c x m).image = m.image ∧
    (Module.setChan c x m).load = m.load ∧
    (Module.setChan c x m).txn = m.txn ∧
    (Module.setChan c x m).trig = m.trig ∧
    (Module.setChan c x m).trace = m.trace ∧
    (Module.setChan c x m).fabric = m.fabric ∧
    (Module.setChan c x m).lanes = m.lanes ∧
    (Module.setChan c x m).bundles = m.bundles ∧
    (Module.setChan c x m).disc = m.disc ∧
    (Module.setChan c x m).store = m.store ∧
    (Module.setChan c x m).sec = m.sec ∧
    (Module.setChan c x m).stew = m.stew ∧
    (Module.setChan c x m).scrub = m.scrub ∧
    (Module.setChan c x m).hbm = m.hbm ∧
    (Module.setChan c x m).outbox = m.outbox := by
  unfold Module.setChan; simp

@[simp] theorem setCtx_frame (n : Nat) (x : Ctx) (m : Module) :
    (Module.setCtx n x m).regs = m.regs ∧
    (Module.setCtx n x m).ctl = m.ctl ∧
    (Module.setCtx n x m).pins = m.pins ∧
    (Module.setCtx n x m).start = m.start ∧
    (Module.setCtx n x m).seq = m.seq ∧
    (Module.setCtx n x m).data = m.data ∧
    (Module.setCtx n x m).image = m.image ∧
    (Module.setCtx n x m).load = m.load ∧
    (Module.setCtx n x m).txn = m.txn ∧
    (Module.setCtx n x m).trig = m.trig ∧
    (Module.setCtx n x m).trace = m.trace ∧
    (Module.setCtx n x m).fabric = m.fabric ∧
    (Module.setCtx n x m).lanes = m.lanes ∧
    (Module.setCtx n x m).bundles = m.bundles ∧
    (Module.setCtx n x m).disc = m.disc ∧
    (Module.setCtx n x m).store = m.store ∧
    (Module.setCtx n x m).sec = m.sec ∧
    (Module.setCtx n x m).stew = m.stew ∧
    (Module.setCtx n x m).scrub = m.scrub ∧
    (Module.setCtx n x m).hbm = m.hbm ∧
    (Module.setCtx n x m).outbox = m.outbox := by
  unfold Module.setCtx; simp

@[simp] theorem setReady_frame (k : Nat) (l : List Nat) (m : Module) :
    (Module.setReady k l m).regs = m.regs ∧
    (Module.setReady k l m).ctl = m.ctl ∧
    (Module.setReady k l m).pins = m.pins ∧
    (Module.setReady k l m).start = m.start ∧
    (Module.setReady k l m).seq = m.seq ∧
    (Module.setReady k l m).data = m.data ∧
    (Module.setReady k l m).image = m.image ∧
    (Module.setReady k l m).load = m.load ∧
    (Module.setReady k l m).txn = m.txn ∧
    (Module.setReady k l m).trig = m.trig ∧
    (Module.setReady k l m).trace = m.trace ∧
    (Module.setReady k l m).fabric = m.fabric ∧
    (Module.setReady k l m).lanes = m.lanes ∧
    (Module.setReady k l m).bundles = m.bundles ∧
    (Module.setReady k l m).disc = m.disc ∧
    (Module.setReady k l m).store = m.store ∧
    (Module.setReady k l m).sec = m.sec ∧
    (Module.setReady k l m).stew = m.stew ∧
    (Module.setReady k l m).scrub = m.scrub ∧
    (Module.setReady k l m).hbm = m.hbm ∧
    (Module.setReady k l m).outbox = m.outbox := by
  unfold Module.setReady; simp

@[simp] theorem makeReady_frame (n : Nat) (front : Bool) (m : Module) :
    (Module.makeReady n front m).regs = m.regs ∧
    (Module.makeReady n front m).ctl = m.ctl ∧
    (Module.makeReady n front m).pins = m.pins ∧
    (Module.makeReady n front m).start = m.start ∧
    (Module.makeReady n front m).seq = m.seq ∧
    (Module.makeReady n front m).data = m.data ∧
    (Module.makeReady n front m).image = m.image ∧
    (Module.makeReady n front m).load = m.load ∧
    (Module.makeReady n front m).txn = m.txn ∧
    (Module.makeReady n front m).trig = m.trig ∧
    (Module.makeReady n front m).trace = m.trace ∧
    (Module.makeReady n front m).fabric = m.fabric ∧
    (Module.makeReady n front m).lanes = m.lanes ∧
    (Module.makeReady n front m).bundles = m.bundles ∧
    (Module.makeReady n front m).disc = m.disc ∧
    (Module.makeReady n front m).store = m.store ∧
    (Module.makeReady n front m).sec = m.sec ∧
    (Module.makeReady n front m).stew = m.stew ∧
    (Module.makeReady n front m).scrub = m.scrub ∧
    (Module.makeReady n front m).hbm = m.hbm ∧
    (Module.makeReady n front m).outbox = m.outbox := by
  unfold Module.makeReady; simp

@[simp] theorem dispatch_frame (core prio n : Nat) (m : Module) :
    (Module.dispatch core prio n m).regs = m.regs ∧
    (Module.dispatch core prio n m).ctl = m.ctl ∧
    (Module.dispatch core prio n m).pins = m.pins ∧
    (Module.dispatch core prio n m).start = m.start ∧
    (Module.dispatch core prio n m).seq = m.seq ∧
    (Module.dispatch core prio n m).data = m.data ∧
    (Module.dispatch core prio n m).image = m.image ∧
    (Module.dispatch core prio n m).load = m.load ∧
    (Module.dispatch core prio n m).txn = m.txn ∧
    (Module.dispatch core prio n m).trig = m.trig ∧
    (Module.dispatch core prio n m).trace = m.trace ∧
    (Module.dispatch core prio n m).fabric = m.fabric ∧
    (Module.dispatch core prio n m).lanes = m.lanes ∧
    (Module.dispatch core prio n m).bundles = m.bundles ∧
    (Module.dispatch core prio n m).disc = m.disc ∧
    (Module.dispatch core prio n m).store = m.store ∧
    (Module.dispatch core prio n m).sec = m.sec ∧
    (Module.dispatch core prio n m).stew = m.stew ∧
    (Module.dispatch core prio n m).scrub = m.scrub ∧
    (Module.dispatch core prio n m).hbm = m.hbm ∧
    (Module.dispatch core prio n m).outbox = m.outbox := by
  unfold Module.dispatch; simp

@[simp] theorem schedule_frame (core : Nat) (m : Module) :
    (Module.schedule core m).regs = m.regs ∧
    (Module.schedule core m).ctl = m.ctl ∧
    (Module.schedule core m).pins = m.pins ∧
    (Module.schedule core m).start = m.start ∧
    (Module.schedule core m).seq = m.seq ∧
    (Module.schedule core m).data = m.data ∧
    (Module.schedule core m).image = m.image ∧
    (Module.schedule core m).load = m.load ∧
    (Module.schedule core m).txn = m.txn ∧
    (Module.schedule core m).trig = m.trig ∧
    (Module.schedule core m).trace = m.trace ∧
    (Module.schedule core m).fabric = m.fabric ∧
    (Module.schedule core m).lanes = m.lanes ∧
    (Module.schedule core m).bundles = m.bundles ∧
    (Module.schedule core m).disc = m.disc ∧
    (Module.schedule core m).store = m.store ∧
    (Module.schedule core m).sec = m.sec ∧
    (Module.schedule core m).stew = m.stew ∧
    (Module.schedule core m).scrub = m.scrub ∧
    (Module.schedule core m).hbm = m.hbm ∧
    (Module.schedule core m).outbox = m.outbox := by
  unfold Module.schedule; (try dsimp only); (repeat' split) <;> simp

@[simp] theorem wake_frame (m : Module) :
    (Module.wake m).regs = m.regs ∧
    (Module.wake m).ctl = m.ctl ∧
    (Module.wake m).pins = m.pins ∧
    (Module.wake m).start = m.start ∧
    (Module.wake m).seq = m.seq ∧
    (Module.wake m).data = m.data ∧
    (Module.wake m).image = m.image ∧
    (Module.wake m).load = m.load ∧
    (Module.wake m).txn = m.txn ∧
    (Module.wake m).trig = m.trig ∧
    (Module.wake m).trace = m.trace ∧
    (Module.wake m).fabric = m.fabric ∧
    (Module.wake m).lanes = m.lanes ∧
    (Module.wake m).bundles = m.bundles ∧
    (Module.wake m).disc = m.disc ∧
    (Module.wake m).store = m.store ∧
    (Module.wake m).sec = m.sec ∧
    (Module.wake m).stew = m.stew ∧
    (Module.wake m).scrub = m.scrub ∧
    (Module.wake m).hbm = m.hbm ∧
    (Module.wake m).outbox = m.outbox := by
  unfold Module.wake; simp

@[simp] theorem requestWord_frame (c : Nat) (m : Module) :
    (Module.requestWord c m).regs = m.regs ∧
    (Module.requestWord c m).ctl = m.ctl ∧
    (Module.requestWord c m).pins = m.pins ∧
    (Module.requestWord c m).start = m.start ∧
    (Module.requestWord c m).seq = m.seq ∧
    (Module.requestWord c m).data = m.data ∧
    (Module.requestWord c m).image = m.image ∧
    (Module.requestWord c m).load = m.load ∧
    (Module.requestWord c m).txn = m.txn ∧
    (Module.requestWord c m).trig = m.trig ∧
    (Module.requestWord c m).trace = m.trace ∧
    (Module.requestWord c m).fabric = m.fabric ∧
    (Module.requestWord c m).lanes = m.lanes ∧
    (Module.requestWord c m).bundles = m.bundles ∧
    (Module.requestWord c m).disc = m.disc ∧
    (Module.requestWord c m).store = m.store ∧
    (Module.requestWord c m).sec = m.sec ∧
    (Module.requestWord c m).stew = m.stew ∧
    (Module.requestWord c m).scrub = m.scrub ∧
    (Module.requestWord c m).hbm = m.hbm ∧
    (Module.requestWord c m).outbox = m.outbox := by
  unfold Module.requestWord; simp

theorem retireOne_frame (c : Nat) (m m2 : Module) (h : m.retireOne c = some m2) :
    m2.regs = m.regs ∧ m2.ctl = m.ctl ∧ m2.pins = m.pins ∧ m2.start = m.start ∧ m2.seq = m.seq ∧ m2.image = m.image ∧
    m2.load = m.load ∧ m2.txn = m.txn ∧ m2.trig = m.trig ∧ m2.trace = m.trace ∧ m2.fabric = m.fabric ∧
    m2.lanes = m.lanes ∧ m2.bundles = m.bundles ∧ m2.disc = m.disc ∧ m2.store = m.store ∧ m2.sec = m.sec ∧
    m2.stew = m.stew ∧ m2.scrub = m.scrub ∧ m2.hbm = m.hbm ∧ m2.outbox = m.outbox := by
  unfold Module.retireOne at h
  dsimp only at h
  split at h
  · split at h
    · split at h <;> (cases h; simp)
    · cases h
  · cases h

@[simp] theorem retireAll_frame (c n : Nat) (m : Module) :
    (Module.retireAll c n m).regs = m.regs ∧ (Module.retireAll c n m).ctl = m.ctl ∧ (Module.retireAll c n m).pins = m.pins ∧
    (Module.retireAll c n m).start = m.start ∧ (Module.retireAll c n m).seq = m.seq ∧ (Module.retireAll c n m).image = m.image ∧
    (Module.retireAll c n m).load = m.load ∧ (Module.retireAll c n m).txn = m.txn ∧ (Module.retireAll c n m).trig = m.trig ∧
    (Module.retireAll c n m).trace = m.trace ∧ (Module.retireAll c n m).fabric = m.fabric ∧ (Module.retireAll c n m).lanes = m.lanes ∧
    (Module.retireAll c n m).bundles = m.bundles ∧ (Module.retireAll c n m).disc = m.disc ∧ (Module.retireAll c n m).store = m.store ∧
    (Module.retireAll c n m).sec = m.sec ∧ (Module.retireAll c n m).stew = m.stew ∧ (Module.retireAll c n m).scrub = m.scrub ∧
    (Module.retireAll c n m).hbm = m.hbm ∧ (Module.retireAll c n m).outbox = m.outbox := by
  induction n generalizing m with
  | zero => simp [Module.retireAll]
  | succ n ih =>
    unfold Module.retireAll
    split
    · rename_i m1 h
      have := retireOne_frame c m m1 h
      simp_all
    · simp

@[simp] theorem setDieLink_frame (link dir : Nat) (x : DieLink) (m : Module) :
    (Module.setDieLink link dir x m).regs = m.regs ∧
    (Module.setDieLink link dir x m).ctl = m.ctl ∧
    (Module.setDieLink link dir x m).pins = m.pins ∧
    (Module.setDieLink link dir x m).start = m.start ∧
    (Module.setDieLink link dir x m).seq = m.seq ∧
    (Module.setDieLink link dir x m).data = m.data ∧
    (Module.setDieLink link dir x m).image = m.image ∧
    (Module.setDieLink link dir x m).load = m.load ∧
    (Module.setDieLink link dir x m).txn = m.txn ∧
    (Module.setDieLink link dir x m).couriers = m.couriers ∧
    (Module.setDieLink link dir x m).trig = m.trig ∧
    (Module.setDieLink link dir x m).trace = m.trace ∧
    (Module.setDieLink link dir x m).lanes = m.lanes ∧
    (Module.setDieLink link dir x m).bundles = m.bundles ∧
    (Module.setDieLink link dir x m).disc = m.disc ∧
    (Module.setDieLink link dir x m).store = m.store ∧
    (Module.setDieLink link dir x m).sec = m.sec ∧
    (Module.setDieLink link dir x m).stew = m.stew ∧
    (Module.setDieLink link dir x m).scrub = m.scrub ∧
    (Module.setDieLink link dir x m).hbm = m.hbm ∧
    (Module.setDieLink link dir x m).outbox = m.outbox := by
  unfold Module.setDieLink; simp

@[simp] theorem dieSend_frame (link dir : Nat) (n0 : Nat) (m : Module) :
    (Module.dieSend link dir n0 m).regs = m.regs ∧
    (Module.dieSend link dir n0 m).ctl = m.ctl ∧
    (Module.dieSend link dir n0 m).pins = m.pins ∧
    (Module.dieSend link dir n0 m).start = m.start ∧
    (Module.dieSend link dir n0 m).seq = m.seq ∧
    (Module.dieSend link dir n0 m).data = m.data ∧
    (Module.dieSend link dir n0 m).image = m.image ∧
    (Module.dieSend link dir n0 m).load = m.load ∧
    (Module.dieSend link dir n0 m).txn = m.txn ∧
    (Module.dieSend link dir n0 m).couriers = m.couriers ∧
    (Module.dieSend link dir n0 m).trig = m.trig ∧
    (Module.dieSend link dir n0 m).trace = m.trace ∧
    (Module.dieSend link dir n0 m).lanes = m.lanes ∧
    (Module.dieSend link dir n0 m).bundles = m.bundles ∧
    (Module.dieSend link dir n0 m).disc = m.disc ∧
    (Module.dieSend link dir n0 m).store = m.store ∧
    (Module.dieSend link dir n0 m).sec = m.sec ∧
    (Module.dieSend link dir n0 m).stew = m.stew ∧
    (Module.dieSend link dir n0 m).scrub = m.scrub ∧
    (Module.dieSend link dir n0 m).hbm = m.hbm := by
  induction n0 generalizing m <;> (unfold Module.dieSend; (try dsimp only); (repeat' split) <;> simp_all)

@[simp] theorem carry_frame (r : Router) (p : Packet) (m : Module) :
    (Module.carry r p m).regs = m.regs ∧
    (Module.carry r p m).ctl = m.ctl ∧
    (Module.carry r p m).pins = m.pins ∧
    (Module.carry r p m).start = m.start ∧
    (Module.carry r p m).seq = m.seq ∧
    (Module.carry r p m).data = m.data ∧
    (Module.carry r p m).image = m.image ∧
    (Module.carry r p m).load = m.load ∧
    (Module.carry r p m).txn = m.txn ∧
    (Module.carry r p m).couriers = m.couriers ∧
    (Module.carry r p m).trig = m.trig ∧
    (Module.carry r p m).trace = m.trace ∧
    (Module.carry r p m).lanes = m.lanes ∧
    (Module.carry r p m).bundles = m.bundles ∧
    (Module.carry r p m).disc = m.disc ∧
    (Module.carry r p m).store = m.store ∧
    (Module.carry r p m).sec = m.sec ∧
    (Module.carry r p m).stew = m.stew ∧
    (Module.carry r p m).scrub = m.scrub ∧
    (Module.carry r p m).hbm = m.hbm := by
  unfold Module.carry; (try dsimp only); (repeat' split) <;> simp

@[simp] theorem setStats_frame (ep : Nat) (s : InitStats) (m : Module) :
    (Module.setStats ep s m).regs = m.regs ∧
    (Module.setStats ep s m).ctl = m.ctl ∧
    (Module.setStats ep s m).pins = m.pins ∧
    (Module.setStats ep s m).start = m.start ∧
    (Module.setStats ep s m).seq = m.seq ∧
    (Module.setStats ep s m).data = m.data ∧
    (Module.setStats ep s m).image = m.image ∧
    (Module.setStats ep s m).load = m.load ∧
    (Module.setStats ep s m).txn = m.txn ∧
    (Module.setStats ep s m).couriers = m.couriers ∧
    (Module.setStats ep s m).trig = m.trig ∧
    (Module.setStats ep s m).trace = m.trace ∧
    (Module.setStats ep s m).lanes = m.lanes ∧
    (Module.setStats ep s m).bundles = m.bundles ∧
    (Module.setStats ep s m).disc = m.disc ∧
    (Module.setStats ep s m).store = m.store ∧
    (Module.setStats ep s m).sec = m.sec ∧
    (Module.setStats ep s m).stew = m.stew ∧
    (Module.setStats ep s m).scrub = m.scrub ∧
    (Module.setStats ep s m).hbm = m.hbm ∧
    (Module.setStats ep s m).outbox = m.outbox := by
  unfold Module.setStats; simp

@[simp] theorem startAt_frame (r : Router) (p : Packet) (m : Module) :
    (Module.startAt r p m).regs = m.regs ∧
    (Module.startAt r p m).ctl = m.ctl ∧
    (Module.startAt r p m).pins = m.pins ∧
    (Module.startAt r p m).start = m.start ∧
    (Module.startAt r p m).seq = m.seq ∧
    (Module.startAt r p m).data = m.data ∧
    (Module.startAt r p m).image = m.image ∧
    (Module.startAt r p m).load = m.load ∧
    (Module.startAt r p m).txn = m.txn ∧
    (Module.startAt r p m).couriers = m.couriers ∧
    (Module.startAt r p m).trig = m.trig ∧
    (Module.startAt r p m).trace = m.trace ∧
    (Module.startAt r p m).lanes = m.lanes ∧
    (Module.startAt r p m).bundles = m.bundles ∧
    (Module.startAt r p m).disc = m.disc ∧
    (Module.startAt r p m).store = m.store ∧
    (Module.startAt r p m).sec = m.sec ∧
    (Module.startAt r p m).stew = m.stew ∧
    (Module.startAt r p m).scrub = m.scrub ∧
    (Module.startAt r p m).hbm = m.hbm := by
  unfold Module.startAt; simp

@[simp] theorem inject_frame (p0 : Packet) (m : Module) :
    (Module.inject p0 m).regs = m.regs ∧
    (Module.inject p0 m).ctl = m.ctl ∧
    (Module.inject p0 m).pins = m.pins ∧
    (Module.inject p0 m).start = m.start ∧
    (Module.inject p0 m).seq = m.seq ∧
    (Module.inject p0 m).data = m.data ∧
    (Module.inject p0 m).image = m.image ∧
    (Module.inject p0 m).load = m.load ∧
    (Module.inject p0 m).txn = m.txn ∧
    (Module.inject p0 m).couriers = m.couriers ∧
    (Module.inject p0 m).trig = m.trig ∧
    (Module.inject p0 m).trace = m.trace ∧
    (Module.inject p0 m).lanes = m.lanes ∧
    (Module.inject p0 m).bundles = m.bundles ∧
    (Module.inject p0 m).disc = m.disc ∧
    (Module.inject p0 m).store = m.store ∧
    (Module.inject p0 m).sec = m.sec ∧
    (Module.inject p0 m).stew = m.stew ∧
    (Module.inject p0 m).scrub = m.scrub ∧
    (Module.inject p0 m).hbm = m.hbm := by
  unfold Module.inject; simp

@[simp] theorem countPosted_frame (ep n bytes : Nat) (m : Module) :
    (Module.countPosted ep n bytes m).regs = m.regs ∧
    (Module.countPosted ep n bytes m).ctl = m.ctl ∧
    (Module.countPosted ep n bytes m).pins = m.pins ∧
    (Module.countPosted ep n bytes m).start = m.start ∧
    (Module.countPosted ep n bytes m).seq = m.seq ∧
    (Module.countPosted ep n bytes m).data = m.data ∧
    (Module.countPosted ep n bytes m).image = m.image ∧
    (Module.countPosted ep n bytes m).load = m.load ∧
    (Module.countPosted ep n bytes m).txn = m.txn ∧
    (Module.countPosted ep n bytes m).couriers = m.couriers ∧
    (Module.countPosted ep n bytes m).trig = m.trig ∧
    (Module.countPosted ep n bytes m).trace = m.trace ∧
    (Module.countPosted ep n bytes m).lanes = m.lanes ∧
    (Module.countPosted ep n bytes m).bundles = m.bundles ∧
    (Module.countPosted ep n bytes m).disc = m.disc ∧
    (Module.countPosted ep n bytes m).store = m.store ∧
    (Module.countPosted ep n bytes m).sec = m.sec ∧
    (Module.countPosted ep n bytes m).stew = m.stew ∧
    (Module.countPosted ep n bytes m).scrub = m.scrub ∧
    (Module.countPosted ep n bytes m).hbm = m.hbm ∧
    (Module.countPosted ep n bytes m).outbox = m.outbox := by
  unfold Module.countPosted; simp

@[simp] theorem countDone_frame (ep n bytes : Nat) (read : Bool) (m : Module) :
    (Module.countDone ep n bytes read m).ctl = m.ctl ∧
    (Module.countDone ep n bytes read m).pins = m.pins ∧
    (Module.countDone ep n bytes read m).start = m.start ∧
    (Module.countDone ep n bytes read m).seq = m.seq ∧
    (Module.countDone ep n bytes read m).data = m.data ∧
    (Module.countDone ep n bytes read m).image = m.image ∧
    (Module.countDone ep n bytes read m).load = m.load ∧
    (Module.countDone ep n bytes read m).txn = m.txn ∧
    (Module.countDone ep n bytes read m).couriers = m.couriers ∧
    (Module.countDone ep n bytes read m).trig = m.trig ∧
    (Module.countDone ep n bytes read m).trace = m.trace ∧
    (Module.countDone ep n bytes read m).lanes = m.lanes ∧
    (Module.countDone ep n bytes read m).bundles = m.bundles ∧
    (Module.countDone ep n bytes read m).disc = m.disc ∧
    (Module.countDone ep n bytes read m).store = m.store ∧
    (Module.countDone ep n bytes read m).stew = m.stew ∧
    (Module.countDone ep n bytes read m).scrub = m.scrub ∧
    (Module.countDone ep n bytes read m).hbm = m.hbm ∧
    (Module.countDone ep n bytes read m).outbox = m.outbox := by
  unfold Module.countDone; simp

@[simp] theorem request__frame (use tag : Nat) (p : Packet) (m : Module) :
    (Module.request_ use tag p m).ctl = m.ctl ∧
    (Module.request_ use tag p m).pins = m.pins ∧
    (Module.request_ use tag p m).start = m.start ∧
    (Module.request_ use tag p m).seq = m.seq ∧
    (Module.request_ use tag p m).data = m.data ∧
    (Module.request_ use tag p m).image = m.image ∧
    (Module.request_ use tag p m).load = m.load ∧
    (Module.request_ use tag p m).txn = m.txn ∧
    (Module.request_ use tag p m).couriers = m.couriers ∧
    (Module.request_ use tag p m).trig = m.trig ∧
    (Module.request_ use tag p m).trace = m.trace ∧
    (Module.request_ use tag p m).lanes = m.lanes ∧
    (Module.request_ use tag p m).bundles = m.bundles ∧
    (Module.request_ use tag p m).disc = m.disc ∧
    (Module.request_ use tag p m).store = m.store ∧
    (Module.request_ use tag p m).sec = m.sec ∧
    (Module.request_ use tag p m).stew = m.stew ∧
    (Module.request_ use tag p m).scrub = m.scrub ∧
    (Module.request_ use tag p m).hbm = m.hbm := by
  unfold Module.request_; simp

@[simp] theorem readSectors_frame (chk : SectorCheck) (ss : List Nat) (reader : Nat) (m : Module) :
    (Module.readSectors chk ss reader m).2.pins = m.pins ∧
    (Module.readSectors chk ss reader m).2.data = m.data ∧
    (Module.readSectors chk ss reader m).2.image = m.image ∧
    (Module.readSectors chk ss reader m).2.txn = m.txn ∧
    (Module.readSectors chk ss reader m).2.trig = m.trig ∧
    (Module.readSectors chk ss reader m).2.trace = m.trace := by
  unfold Module.readSectors; simp

@[simp] theorem sendAcc_frame (a : MemAcc) (m : Module) :
    (Module.sendAcc a m).1.ctl = m.ctl ∧
    (Module.sendAcc a m).1.pins = m.pins ∧
    (Module.sendAcc a m).1.start = m.start ∧
    (Module.sendAcc a m).1.seq = m.seq ∧
    (Module.sendAcc a m).1.data = m.data ∧
    (Module.sendAcc a m).1.image = m.image ∧
    (Module.sendAcc a m).1.load = m.load ∧
    (Module.sendAcc a m).1.txn = m.txn ∧
    (Module.sendAcc a m).1.couriers = m.couriers ∧
    (Module.sendAcc a m).1.trig = m.trig ∧
    (Module.sendAcc a m).1.trace = m.trace ∧
    (Module.sendAcc a m).1.lanes = m.lanes ∧
    (Module.sendAcc a m).1.bundles = m.bundles ∧
    (Module.sendAcc a m).1.disc = m.disc ∧
    (Module.sendAcc a m).1.store = m.store ∧
    (Module.sendAcc a m).1.sec = m.sec ∧
    (Module.sendAcc a m).1.stew = m.stew ∧
    (Module.sendAcc a m).1.scrub = m.scrub ∧
    (Module.sendAcc a m).1.hbm = m.hbm := by
  unfold Module.sendAcc; (try dsimp only); (repeat' split) <;> simp

@[simp] theorem numberAcc_frame (a : MemAcc) (m : Module) :
    (Module.numberAcc a m).1.regs = m.regs ∧
    (Module.numberAcc a m).1.ctl = m.ctl ∧
    (Module.numberAcc a m).1.pins = m.pins ∧
    (Module.numberAcc a m).1.start = m.start ∧
    (Module.numberAcc a m).1.seq = m.seq ∧
    (Module.numberAcc a m).1.image = m.image ∧
    (Module.numberAcc a m).1.load = m.load ∧
    (Module.numberAcc a m).1.txn = m.txn ∧
    (Module.numberAcc a m).1.couriers = m.couriers ∧
    (Module.numberAcc a m).1.trig = m.trig ∧
    (Module.numberAcc a m).1.trace = m.trace ∧
    (Module.numberAcc a m).1.fabric = m.fabric ∧
    (Module.numberAcc a m).1.lanes = m.lanes ∧
    (Module.numberAcc a m).1.bundles = m.bundles ∧
    (Module.numberAcc a m).1.disc = m.disc ∧
    (Module.numberAcc a m).1.store = m.store ∧
    (Module.numberAcc a m).1.sec = m.sec ∧
    (Module.numberAcc a m).1.stew = m.stew ∧
    (Module.numberAcc a m).1.scrub = m.scrub ∧
    (Module.numberAcc a m).1.hbm = m.hbm ∧
    (Module.numberAcc a m).1.outbox = m.outbox := by
  unfold Module.numberAcc; (try dsimp only); (repeat' split) <;> simp

@[simp] theorem issueAcc_frame (a0 : MemAcc) (m0 : Module) :
    (Module.issueAcc a0 m0).ctl = m0.ctl ∧
    (Module.issueAcc a0 m0).pins = m0.pins ∧
    (Module.issueAcc a0 m0).start = m0.start ∧
    (Module.issueAcc a0 m0).seq = m0.seq ∧
    (Module.issueAcc a0 m0).image = m0.image ∧
    (Module.issueAcc a0 m0).load = m0.load ∧
    (Module.issueAcc a0 m0).txn = m0.txn ∧
    (Module.issueAcc a0 m0).couriers = m0.couriers ∧
    (Module.issueAcc a0 m0).trig = m0.trig ∧
    (Module.issueAcc a0 m0).trace = m0.trace ∧
    (Module.issueAcc a0 m0).lanes = m0.lanes ∧
    (Module.issueAcc a0 m0).bundles = m0.bundles ∧
    (Module.issueAcc a0 m0).disc = m0.disc ∧
    (Module.issueAcc a0 m0).store = m0.store ∧
    (Module.issueAcc a0 m0).sec = m0.sec ∧
    (Module.issueAcc a0 m0).stew = m0.stew ∧
    (Module.issueAcc a0 m0).scrub = m0.scrub ∧
    (Module.issueAcc a0 m0).hbm = m0.hbm := by
  unfold Module.issueAcc; simp

@[simp] theorem pumpPorts_frame (m : Module) :
    (Module.pumpPorts m).ctl = m.ctl ∧
    (Module.pumpPorts m).pins = m.pins ∧
    (Module.pumpPorts m).start = m.start ∧
    (Module.pumpPorts m).seq = m.seq ∧
    (Module.pumpPorts m).image = m.image ∧
    (Module.pumpPorts m).load = m.load ∧
    (Module.pumpPorts m).txn = m.txn ∧
    (Module.pumpPorts m).couriers = m.couriers ∧
    (Module.pumpPorts m).trig = m.trig ∧
    (Module.pumpPorts m).trace = m.trace ∧
    (Module.pumpPorts m).lanes = m.lanes ∧
    (Module.pumpPorts m).bundles = m.bundles ∧
    (Module.pumpPorts m).disc = m.disc ∧
    (Module.pumpPorts m).store = m.store ∧
    (Module.pumpPorts m).sec = m.sec ∧
    (Module.pumpPorts m).stew = m.stew ∧
    (Module.pumpPorts m).scrub = m.scrub ∧
    (Module.pumpPorts m).hbm = m.hbm := by
  unfold Module.pumpPorts; simp

@[simp] theorem branchA_frame (folio : Nat) (bits : List Bool) (idx : Nat) (m : Module) :
    (Module.branchA folio bits idx m).ctl = m.ctl ∧
    (Module.branchA folio bits idx m).pins = m.pins ∧
    (Module.branchA folio bits idx m).start = m.start ∧
    (Module.branchA folio bits idx m).data = m.data ∧
    (Module.branchA folio bits idx m).image = m.image ∧
    (Module.branchA folio bits idx m).load = m.load ∧
    (Module.branchA folio bits idx m).txn = m.txn ∧
    (Module.branchA folio bits idx m).couriers = m.couriers ∧
    (Module.branchA folio bits idx m).trig = m.trig ∧
    (Module.branchA folio bits idx m).fabric = m.fabric ∧
    (Module.branchA folio bits idx m).lanes = m.lanes ∧
    (Module.branchA folio bits idx m).bundles = m.bundles ∧
    (Module.branchA folio bits idx m).disc = m.disc ∧
    (Module.branchA folio bits idx m).store = m.store ∧
    (Module.branchA folio bits idx m).sec = m.sec ∧
    (Module.branchA folio bits idx m).scrub = m.scrub ∧
    (Module.branchA folio bits idx m).hbm = m.hbm ∧
    (Module.branchA folio bits idx m).outbox = m.outbox := by
  unfold Module.branchA; simp

@[simp] theorem walkPackets_frame (folio : Nat) (n0 : List WalkItem) (n1 : List Bool) (n2 : Nat) (n3 : Bool) (m : Module) :
    (Module.walkPackets folio n0 n1 n2 n3 m).ctl = m.ctl ∧
    (Module.walkPackets folio n0 n1 n2 n3 m).pins = m.pins ∧
    (Module.walkPackets folio n0 n1 n2 n3 m).start = m.start ∧
    (Module.walkPackets folio n0 n1 n2 n3 m).data = m.data ∧
    (Module.walkPackets folio n0 n1 n2 n3 m).image = m.image ∧
    (Module.walkPackets folio n0 n1 n2 n3 m).load = m.load ∧
    (Module.walkPackets folio n0 n1 n2 n3 m).txn = m.txn ∧
    (Module.walkPackets folio n0 n1 n2 n3 m).couriers = m.couriers ∧
    (Module.walkPackets folio n0 n1 n2 n3 m).trig = m.trig ∧
    (Module.walkPackets folio n0 n1 n2 n3 m).fabric = m.fabric ∧
    (Module.walkPackets folio n0 n1 n2 n3 m).lanes = m.lanes ∧
    (Module.walkPackets folio n0 n1 n2 n3 m).bundles = m.bundles ∧
    (Module.walkPackets folio n0 n1 n2 n3 m).disc = m.disc ∧
    (Module.walkPackets folio n0 n1 n2 n3 m).store = m.store ∧
    (Module.walkPackets folio n0 n1 n2 n3 m).sec = m.sec ∧
    (Module.walkPackets folio n0 n1 n2 n3 m).scrub = m.scrub ∧
    (Module.walkPackets folio n0 n1 n2 n3 m).hbm = m.hbm ∧
    (Module.walkPackets folio n0 n1 n2 n3 m).outbox = m.outbox := by
  induction n0 generalizing m n1 n2 n3 with
  | nil =>
    unfold Module.walkPackets
    split <;> simp
  | cons x t ih =>
    cases x <;> unfold Module.walkPackets <;> dsimp only <;> (repeat' split) <;> simp [ih]

@[simp] theorem traceWalk_frame (folio : Nat) (items : List WalkItem) (m : Module) :
    (Module.traceWalk folio items m).ctl = m.ctl ∧
    (Module.traceWalk folio items m).pins = m.pins ∧
    (Module.traceWalk folio items m).start = m.start ∧
    (Module.traceWalk folio items m).data = m.data ∧
    (Module.traceWalk folio items m).image = m.image ∧
    (Module.traceWalk folio items m).load = m.load ∧
    (Module.traceWalk folio items m).txn = m.txn ∧
    (Module.traceWalk folio items m).couriers = m.couriers ∧
    (Module.traceWalk folio items m).trig = m.trig ∧
    (Module.traceWalk folio items m).fabric = m.fabric ∧
    (Module.traceWalk folio items m).lanes = m.lanes ∧
    (Module.traceWalk folio items m).bundles = m.bundles ∧
    (Module.traceWalk folio items m).disc = m.disc ∧
    (Module.traceWalk folio items m).store = m.store ∧
    (Module.traceWalk folio items m).sec = m.sec ∧
    (Module.traceWalk folio items m).scrub = m.scrub ∧
    (Module.traceWalk folio items m).hbm = m.hbm ∧
    (Module.traceWalk folio items m).outbox = m.outbox := by
  unfold Module.traceWalk; simp

@[simp] theorem tracePhase7_frame (f : Nat) (m : Module) :
    (Module.tracePhase7 f m).ctl = m.ctl ∧
    (Module.tracePhase7 f m).pins = m.pins ∧
    (Module.tracePhase7 f m).start = m.start ∧
    (Module.tracePhase7 f m).data = m.data ∧
    (Module.tracePhase7 f m).image = m.image ∧
    (Module.tracePhase7 f m).load = m.load ∧
    (Module.tracePhase7 f m).txn = m.txn ∧
    (Module.tracePhase7 f m).couriers = m.couriers ∧
    (Module.tracePhase7 f m).trig = m.trig ∧
    (Module.tracePhase7 f m).fabric = m.fabric ∧
    (Module.tracePhase7 f m).lanes = m.lanes ∧
    (Module.tracePhase7 f m).bundles = m.bundles ∧
    (Module.tracePhase7 f m).disc = m.disc ∧
    (Module.tracePhase7 f m).store = m.store ∧
    (Module.tracePhase7 f m).scrub = m.scrub ∧
    (Module.tracePhase7 f m).hbm = m.hbm ∧
    (Module.tracePhase7 f m).outbox = m.outbox := by
  unfold Module.tracePhase7; simp

@[simp] theorem traceLines_frame (act : BitVec 16) (t : Nat) (m : Module) :
    (Module.traceLines act t m).ctl = m.ctl ∧
    (Module.traceLines act t m).pins = m.pins ∧
    (Module.traceLines act t m).start = m.start ∧
    (Module.traceLines act t m).data = m.data ∧
    (Module.traceLines act t m).image = m.image ∧
    (Module.traceLines act t m).load = m.load ∧
    (Module.traceLines act t m).txn = m.txn ∧
    (Module.traceLines act t m).couriers = m.couriers ∧
    (Module.traceLines act t m).trig = m.trig ∧
    (Module.traceLines act t m).lanes = m.lanes ∧
    (Module.traceLines act t m).bundles = m.bundles ∧
    (Module.traceLines act t m).disc = m.disc ∧
    (Module.traceLines act t m).store = m.store ∧
    (Module.traceLines act t m).sec = m.sec ∧
    (Module.traceLines act t m).scrub = m.scrub ∧
    (Module.traceLines act t m).hbm = m.hbm := by
  unfold Module.traceLines; simp

@[simp] theorem traceStart_frame (m : Module) :
    (Module.traceStart m).ctl = m.ctl ∧
    (Module.traceStart m).pins = m.pins ∧
    (Module.traceStart m).start = m.start ∧
    (Module.traceStart m).seq = m.seq ∧
    (Module.traceStart m).data = m.data ∧
    (Module.traceStart m).image = m.image ∧
    (Module.traceStart m).load = m.load ∧
    (Module.traceStart m).txn = m.txn ∧
    (Module.traceStart m).couriers = m.couriers ∧
    (Module.traceStart m).trig = m.trig ∧
    (Module.traceStart m).lanes = m.lanes ∧
    (Module.traceStart m).bundles = m.bundles ∧
    (Module.traceStart m).disc = m.disc ∧
    (Module.traceStart m).store = m.store ∧
    (Module.traceStart m).sec = m.sec ∧
    (Module.traceStart m).scrub = m.scrub ∧
    (Module.traceStart m).hbm = m.hbm := by
  unfold Module.traceStart; simp

@[simp] theorem traceStop_frame (m : Module) :
    (Module.traceStop m).regs = m.regs ∧
    (Module.traceStop m).ctl = m.ctl ∧
    (Module.traceStop m).pins = m.pins ∧
    (Module.traceStop m).start = m.start ∧
    (Module.traceStop m).seq = m.seq ∧
    (Module.traceStop m).data = m.data ∧
    (Module.traceStop m).image = m.image ∧
    (Module.traceStop m).load = m.load ∧
    (Module.traceStop m).txn = m.txn ∧
    (Module.traceStop m).couriers = m.couriers ∧
    (Module.traceStop m).trig = m.trig ∧
    (Module.traceStop m).fabric = m.fabric ∧
    (Module.traceStop m).lanes = m.lanes ∧
    (Module.traceStop m).bundles = m.bundles ∧
    (Module.traceStop m).disc = m.disc ∧
    (Module.traceStop m).store = m.store ∧
    (Module.traceStop m).sec = m.sec ∧
    (Module.traceStop m).scrub = m.scrub ∧
    (Module.traceStop m).hbm = m.hbm ∧
    (Module.traceStop m).outbox = m.outbox := by
  unfold Module.traceStop; simp

@[simp] theorem traceSync_frame (m : Module) :
    (Module.traceSync m).regs = m.regs ∧
    (Module.traceSync m).ctl = m.ctl ∧
    (Module.traceSync m).pins = m.pins ∧
    (Module.traceSync m).start = m.start ∧
    (Module.traceSync m).seq = m.seq ∧
    (Module.traceSync m).data = m.data ∧
    (Module.traceSync m).image = m.image ∧
    (Module.traceSync m).load = m.load ∧
    (Module.traceSync m).txn = m.txn ∧
    (Module.traceSync m).couriers = m.couriers ∧
    (Module.traceSync m).trig = m.trig ∧
    (Module.traceSync m).fabric = m.fabric ∧
    (Module.traceSync m).lanes = m.lanes ∧
    (Module.traceSync m).bundles = m.bundles ∧
    (Module.traceSync m).disc = m.disc ∧
    (Module.traceSync m).store = m.store ∧
    (Module.traceSync m).sec = m.sec ∧
    (Module.traceSync m).scrub = m.scrub ∧
    (Module.traceSync m).hbm = m.hbm ∧
    (Module.traceSync m).outbox = m.outbox := by
  unfold Module.traceSync; simp

@[simp] theorem funnelWrite_frame (ps : List (BitVec 128)) (m : Module) :
    (Module.funnelWrite ps m).ctl = m.ctl ∧
    (Module.funnelWrite ps m).pins = m.pins ∧
    (Module.funnelWrite ps m).start = m.start ∧
    (Module.funnelWrite ps m).seq = m.seq ∧
    (Module.funnelWrite ps m).data = m.data ∧
    (Module.funnelWrite ps m).image = m.image ∧
    (Module.funnelWrite ps m).load = m.load ∧
    (Module.funnelWrite ps m).txn = m.txn ∧
    (Module.funnelWrite ps m).couriers = m.couriers ∧
    (Module.funnelWrite ps m).trig = m.trig ∧
    (Module.funnelWrite ps m).trace = m.trace ∧
    (Module.funnelWrite ps m).lanes = m.lanes ∧
    (Module.funnelWrite ps m).bundles = m.bundles ∧
    (Module.funnelWrite ps m).disc = m.disc ∧
    (Module.funnelWrite ps m).store = m.store ∧
    (Module.funnelWrite ps m).sec = m.sec ∧
    (Module.funnelWrite ps m).stew = m.stew ∧
    (Module.funnelWrite ps m).scrub = m.scrub ∧
    (Module.funnelWrite ps m).hbm = m.hbm := by
  unfold Module.funnelWrite; simp

@[simp] theorem funnelDrain_frame (m : Module) :
    (Module.funnelDrain m).ctl = m.ctl ∧
    (Module.funnelDrain m).pins = m.pins ∧
    (Module.funnelDrain m).start = m.start ∧
    (Module.funnelDrain m).seq = m.seq ∧
    (Module.funnelDrain m).data = m.data ∧
    (Module.funnelDrain m).image = m.image ∧
    (Module.funnelDrain m).load = m.load ∧
    (Module.funnelDrain m).txn = m.txn ∧
    (Module.funnelDrain m).couriers = m.couriers ∧
    (Module.funnelDrain m).trig = m.trig ∧
    (Module.funnelDrain m).lanes = m.lanes ∧
    (Module.funnelDrain m).bundles = m.bundles ∧
    (Module.funnelDrain m).disc = m.disc ∧
    (Module.funnelDrain m).store = m.store ∧
    (Module.funnelDrain m).sec = m.sec ∧
    (Module.funnelDrain m).stew = m.stew ∧
    (Module.funnelDrain m).scrub = m.scrub ∧
    (Module.funnelDrain m).hbm = m.hbm := by
  unfold Module.funnelDrain; simp

@[simp] theorem deltaLimit_frame (src : Nat) (m : Module) :
    (Module.deltaLimit src m).ctl = m.ctl ∧
    (Module.deltaLimit src m).pins = m.pins ∧
    (Module.deltaLimit src m).start = m.start ∧
    (Module.deltaLimit src m).data = m.data ∧
    (Module.deltaLimit src m).image = m.image ∧
    (Module.deltaLimit src m).load = m.load ∧
    (Module.deltaLimit src m).txn = m.txn ∧
    (Module.deltaLimit src m).couriers = m.couriers ∧
    (Module.deltaLimit src m).trig = m.trig ∧
    (Module.deltaLimit src m).fabric = m.fabric ∧
    (Module.deltaLimit src m).lanes = m.lanes ∧
    (Module.deltaLimit src m).bundles = m.bundles ∧
    (Module.deltaLimit src m).disc = m.disc ∧
    (Module.deltaLimit src m).store = m.store ∧
    (Module.deltaLimit src m).scrub = m.scrub ∧
    (Module.deltaLimit src m).hbm = m.hbm ∧
    (Module.deltaLimit src m).outbox = m.outbox := by
  unfold Module.deltaLimit; simp

@[simp] theorem classB_frame (core pc : Nat) (ev : CoreEvent) (m : Module) :
    (Module.classB core pc ev m).ctl = m.ctl ∧
    (Module.classB core pc ev m).pins = m.pins ∧
    (Module.classB core pc ev m).start = m.start ∧
    (Module.classB core pc ev m).data = m.data ∧
    (Module.classB core pc ev m).image = m.image ∧
    (Module.classB core pc ev m).load = m.load ∧
    (Module.classB core pc ev m).txn = m.txn ∧
    (Module.classB core pc ev m).couriers = m.couriers ∧
    (Module.classB core pc ev m).trig = m.trig ∧
    (Module.classB core pc ev m).fabric = m.fabric ∧
    (Module.classB core pc ev m).lanes = m.lanes ∧
    (Module.classB core pc ev m).bundles = m.bundles ∧
    (Module.classB core pc ev m).disc = m.disc ∧
    (Module.classB core pc ev m).store = m.store ∧
    (Module.classB core pc ev m).sec = m.sec ∧
    (Module.classB core pc ev m).scrub = m.scrub ∧
    (Module.classB core pc ev m).hbm = m.hbm ∧
    (Module.classB core pc ev m).outbox = m.outbox := by
  unfold Module.classB; (try dsimp only); (repeat' split) <;> simp

end Sys2Proof.Machine
end

