-- ==== Sys2Proof/Laws/FrameSteps.lean ====
section
/-! SUPPORT. Laws/FrameSteps.lean: for each operation of a step, transaction actions, capture and repair, the parts of the module that it
never changes. -/

namespace Sys2Proof.Machine

@[simp] theorem movePads_frame (m : Module) :
    (Module.movePads m).regs = m.regs ∧
    (Module.movePads m).ctl = m.ctl ∧
    (Module.movePads m).pins = m.pins ∧
    (Module.movePads m).start = m.start ∧
    (Module.movePads m).seq = m.seq ∧
    (Module.movePads m).image = m.image ∧
    (Module.movePads m).load = m.load ∧
    (Module.movePads m).txn = m.txn ∧
    (Module.movePads m).couriers = m.couriers ∧
    (Module.movePads m).trig = m.trig ∧
    (Module.movePads m).trace = m.trace ∧
    (Module.movePads m).fabric = m.fabric ∧
    (Module.movePads m).lanes = m.lanes ∧
    (Module.movePads m).bundles = m.bundles ∧
    (Module.movePads m).disc = m.disc ∧
    (Module.movePads m).store = m.store ∧
    (Module.movePads m).sec = m.sec ∧
    (Module.movePads m).stew = m.stew ∧
    (Module.movePads m).scrub = m.scrub ∧
    (Module.movePads m).hbm = m.hbm ∧
    (Module.movePads m).outbox = m.outbox := by
  unfold Module.movePads; simp

@[simp] theorem returnSoon_frame (k : Nat) (w : Word) (m : Module) :
    (Module.returnSoon k w m).regs = m.regs ∧
    (Module.returnSoon k w m).ctl = m.ctl ∧
    (Module.returnSoon k w m).pins = m.pins ∧
    (Module.returnSoon k w m).start = m.start ∧
    (Module.returnSoon k w m).seq = m.seq ∧
    (Module.returnSoon k w m).image = m.image ∧
    (Module.returnSoon k w m).load = m.load ∧
    (Module.returnSoon k w m).txn = m.txn ∧
    (Module.returnSoon k w m).couriers = m.couriers ∧
    (Module.returnSoon k w m).trig = m.trig ∧
    (Module.returnSoon k w m).trace = m.trace ∧
    (Module.returnSoon k w m).fabric = m.fabric ∧
    (Module.returnSoon k w m).lanes = m.lanes ∧
    (Module.returnSoon k w m).bundles = m.bundles ∧
    (Module.returnSoon k w m).disc = m.disc ∧
    (Module.returnSoon k w m).store = m.store ∧
    (Module.returnSoon k w m).sec = m.sec ∧
    (Module.returnSoon k w m).stew = m.stew ∧
    (Module.returnSoon k w m).scrub = m.scrub ∧
    (Module.returnSoon k w m).hbm = m.hbm ∧
    (Module.returnSoon k w m).outbox = m.outbox := by
  unfold Module.returnSoon; simp

@[simp] theorem dmbParity_frame (g dmb addr : Nat) (m : Module) :
    (Module.dmbParity g dmb addr m).scrub = m.scrub := by
  unfold Module.dmbParity; simp

@[simp] theorem queueEvent_frame (reg code g dmb : Nat) (m : Module) :
    (Module.queueEvent reg code g dmb m).ctl = m.ctl ∧
    (Module.queueEvent reg code g dmb m).pins = m.pins ∧
    (Module.queueEvent reg code g dmb m).data = m.data ∧
    (Module.queueEvent reg code g dmb m).image = m.image ∧
    (Module.queueEvent reg code g dmb m).load = m.load ∧
    (Module.queueEvent reg code g dmb m).txn = m.txn ∧
    (Module.queueEvent reg code g dmb m).couriers = m.couriers ∧
    (Module.queueEvent reg code g dmb m).trig = m.trig ∧
    (Module.queueEvent reg code g dmb m).trace = m.trace ∧
    (Module.queueEvent reg code g dmb m).fabric = m.fabric ∧
    (Module.queueEvent reg code g dmb m).lanes = m.lanes ∧
    (Module.queueEvent reg code g dmb m).bundles = m.bundles ∧
    (Module.queueEvent reg code g dmb m).disc = m.disc ∧
    (Module.queueEvent reg code g dmb m).store = m.store ∧
    (Module.queueEvent reg code g dmb m).sec = m.sec ∧
    (Module.queueEvent reg code g dmb m).scrub = m.scrub ∧
    (Module.queueEvent reg code g dmb m).hbm = m.hbm ∧
    (Module.queueEvent reg code g dmb m).outbox = m.outbox := by
  unfold Module.queueEvent; simp

@[simp] theorem dmbRead_frame (d0 : Data) (ws : SMap Nat) (free : Bool) (g tt : Nat) (m : Module) :
    (Module.dmbRead d0 ws free g tt m).scrub = m.scrub := by
  unfold Module.dmbRead; simp

@[simp] theorem dmbWrite_frame (d0 : Data) (ws : SMap Nat) (free : Bool) (g tt : Nat) (m : Module) :
    (Module.dmbWrite d0 ws free g tt m).ctl = m.ctl ∧
    (Module.dmbWrite d0 ws free g tt m).pins = m.pins ∧
    (Module.dmbWrite d0 ws free g tt m).image = m.image ∧
    (Module.dmbWrite d0 ws free g tt m).load = m.load ∧
    (Module.dmbWrite d0 ws free g tt m).txn = m.txn ∧
    (Module.dmbWrite d0 ws free g tt m).trig = m.trig ∧
    (Module.dmbWrite d0 ws free g tt m).trace = m.trace ∧
    (Module.dmbWrite d0 ws free g tt m).fabric = m.fabric ∧
    (Module.dmbWrite d0 ws free g tt m).lanes = m.lanes ∧
    (Module.dmbWrite d0 ws free g tt m).bundles = m.bundles ∧
    (Module.dmbWrite d0 ws free g tt m).disc = m.disc ∧
    (Module.dmbWrite d0 ws free g tt m).store = m.store ∧
    (Module.dmbWrite d0 ws free g tt m).sec = m.sec ∧
    (Module.dmbWrite d0 ws free g tt m).scrub = m.scrub ∧
    (Module.dmbWrite d0 ws free g tt m).hbm = m.hbm ∧
    (Module.dmbWrite d0 ws free g tt m).outbox = m.outbox := by
  unfold Module.dmbWrite; simp

@[simp] theorem memRequest_frame (d0 : Data) (ws : SMap Nat) (s : Nat) (rest : List Nat) (g tt : Nat) (m : Module) :
    (Module.memRequest d0 ws s rest g tt m).ctl = m.ctl ∧
    (Module.memRequest d0 ws s rest g tt m).pins = m.pins ∧
    (Module.memRequest d0 ws s rest g tt m).start = m.start ∧
    (Module.memRequest d0 ws s rest g tt m).image = m.image ∧
    (Module.memRequest d0 ws s rest g tt m).load = m.load ∧
    (Module.memRequest d0 ws s rest g tt m).txn = m.txn ∧
    (Module.memRequest d0 ws s rest g tt m).couriers = m.couriers ∧
    (Module.memRequest d0 ws s rest g tt m).trig = m.trig ∧
    (Module.memRequest d0 ws s rest g tt m).trace = m.trace ∧
    (Module.memRequest d0 ws s rest g tt m).lanes = m.lanes ∧
    (Module.memRequest d0 ws s rest g tt m).bundles = m.bundles ∧
    (Module.memRequest d0 ws s rest g tt m).disc = m.disc ∧
    (Module.memRequest d0 ws s rest g tt m).store = m.store ∧
    (Module.memRequest d0 ws s rest g tt m).sec = m.sec ∧
    (Module.memRequest d0 ws s rest g tt m).scrub = m.scrub ∧
    (Module.memRequest d0 ws s rest g tt m).hbm = m.hbm := by
  unfold Module.memRequest; simp

@[simp] theorem runRequests_frame (d0 : Data) (ws : SMap Nat) (s : Nat) (rest : List Nat) (m : Module) :
    (Module.runRequests d0 ws s rest m).scrub = m.scrub := by
  unfold Module.runRequests; simp

@[simp] theorem sendStatic_frame (b : Nat) (bits : List Bool) (last : Bool) (m : Module) :
    (Module.sendStatic b bits last m).regs = m.regs ∧
    (Module.sendStatic b bits last m).ctl = m.ctl ∧
    (Module.sendStatic b bits last m).pins = m.pins ∧
    (Module.sendStatic b bits last m).start = m.start ∧
    (Module.sendStatic b bits last m).seq = m.seq ∧
    (Module.sendStatic b bits last m).data = m.data ∧
    (Module.sendStatic b bits last m).image = m.image ∧
    (Module.sendStatic b bits last m).load = m.load ∧
    (Module.sendStatic b bits last m).txn = m.txn ∧
    (Module.sendStatic b bits last m).couriers = m.couriers ∧
    (Module.sendStatic b bits last m).trig = m.trig ∧
    (Module.sendStatic b bits last m).trace = m.trace ∧
    (Module.sendStatic b bits last m).fabric = m.fabric ∧
    (Module.sendStatic b bits last m).lanes = m.lanes ∧
    (Module.sendStatic b bits last m).disc = m.disc ∧
    (Module.sendStatic b bits last m).store = m.store ∧
    (Module.sendStatic b bits last m).sec = m.sec ∧
    (Module.sendStatic b bits last m).stew = m.stew ∧
    (Module.sendStatic b bits last m).scrub = m.scrub ∧
    (Module.sendStatic b bits last m).hbm = m.hbm := by
  unfold Module.sendStatic; simp

@[simp] theorem swapTip_frame (q : Nat) (quires : List Nat) (mark : Shadow) (key : Nat) (m : Module) :
    (Module.swapTip q quires mark key m).regs = m.regs ∧
    (Module.swapTip q quires mark key m).ctl = m.ctl ∧
    (Module.swapTip q quires mark key m).pins = m.pins ∧
    (Module.swapTip q quires mark key m).start = m.start ∧
    (Module.swapTip q quires mark key m).image = m.image ∧
    (Module.swapTip q quires mark key m).load = m.load ∧
    (Module.swapTip q quires mark key m).txn = m.txn ∧
    (Module.swapTip q quires mark key m).couriers = m.couriers ∧
    (Module.swapTip q quires mark key m).trig = m.trig ∧
    (Module.swapTip q quires mark key m).trace = m.trace ∧
    (Module.swapTip q quires mark key m).fabric = m.fabric ∧
    (Module.swapTip q quires mark key m).lanes = m.lanes ∧
    (Module.swapTip q quires mark key m).bundles = m.bundles ∧
    (Module.swapTip q quires mark key m).disc = m.disc ∧
    (Module.swapTip q quires mark key m).store = m.store ∧
    (Module.swapTip q quires mark key m).sec = m.sec ∧
    (Module.swapTip q quires mark key m).stew = m.stew ∧
    (Module.swapTip q quires mark key m).scrub = m.scrub ∧
    (Module.swapTip q quires mark key m).hbm = m.hbm ∧
    (Module.swapTip q quires mark key m).outbox = m.outbox := by
  unfold Module.swapTip; simp

@[simp] theorem applyTip_frame (r : Nat) (m : Module) :
    (Module.applyTip r m).regs = m.regs ∧
    (Module.applyTip r m).ctl = m.ctl ∧
    (Module.applyTip r m).pins = m.pins ∧
    (Module.applyTip r m).start = m.start ∧
    (Module.applyTip r m).image = m.image ∧
    (Module.applyTip r m).load = m.load ∧
    (Module.applyTip r m).txn = m.txn ∧
    (Module.applyTip r m).couriers = m.couriers ∧
    (Module.applyTip r m).trig = m.trig ∧
    (Module.applyTip r m).trace = m.trace ∧
    (Module.applyTip r m).fabric = m.fabric ∧
    (Module.applyTip r m).lanes = m.lanes ∧
    (Module.applyTip r m).bundles = m.bundles ∧
    (Module.applyTip r m).disc = m.disc ∧
    (Module.applyTip r m).store = m.store ∧
    (Module.applyTip r m).sec = m.sec ∧
    (Module.applyTip r m).stew = m.stew ∧
    (Module.applyTip r m).scrub = m.scrub ∧
    (Module.applyTip r m).hbm = m.hbm ∧
    (Module.applyTip r m).outbox = m.outbox := by
  unfold Module.applyTip; (try dsimp only); (repeat' split) <;> simp

@[simp] theorem tipView_frame (m : Module) (commit : Option Nat) (others : List (Option Nat × Nat)) :
    (Module.tipView m commit others).regs = m.regs ∧
    (Module.tipView m commit others).ctl = m.ctl ∧
    (Module.tipView m commit others).pins = m.pins ∧
    (Module.tipView m commit others).start = m.start ∧
    (Module.tipView m commit others).image = m.image ∧
    (Module.tipView m commit others).load = m.load ∧
    (Module.tipView m commit others).txn = m.txn ∧
    (Module.tipView m commit others).couriers = m.couriers ∧
    (Module.tipView m commit others).trig = m.trig ∧
    (Module.tipView m commit others).trace = m.trace ∧
    (Module.tipView m commit others).fabric = m.fabric ∧
    (Module.tipView m commit others).lanes = m.lanes ∧
    (Module.tipView m commit others).bundles = m.bundles ∧
    (Module.tipView m commit others).disc = m.disc ∧
    (Module.tipView m commit others).store = m.store ∧
    (Module.tipView m commit others).sec = m.sec ∧
    (Module.tipView m commit others).stew = m.stew ∧
    (Module.tipView m commit others).scrub = m.scrub ∧
    (Module.tipView m commit others).hbm = m.hbm ∧
    (Module.tipView m commit others).outbox = m.outbox := by
  unfold Module.tipView; (try dsimp only); (repeat' split) <;> simp

@[simp] theorem setClock_frame (k : Nat) (isTime : Bool) (v : Nat) (m : Module) :
    (Module.setClock k isTime v m).ctl = m.ctl ∧
    (Module.setClock k isTime v m).pins = m.pins ∧
    (Module.setClock k isTime v m).start = m.start ∧
    (Module.setClock k isTime v m).data = m.data ∧
    (Module.setClock k isTime v m).image = m.image ∧
    (Module.setClock k isTime v m).load = m.load ∧
    (Module.setClock k isTime v m).txn = m.txn ∧
    (Module.setClock k isTime v m).couriers = m.couriers ∧
    (Module.setClock k isTime v m).trig = m.trig ∧
    (Module.setClock k isTime v m).trace = m.trace ∧
    (Module.setClock k isTime v m).fabric = m.fabric ∧
    (Module.setClock k isTime v m).lanes = m.lanes ∧
    (Module.setClock k isTime v m).bundles = m.bundles ∧
    (Module.setClock k isTime v m).disc = m.disc ∧
    (Module.setClock k isTime v m).store = m.store ∧
    (Module.setClock k isTime v m).sec = m.sec ∧
    (Module.setClock k isTime v m).stew = m.stew ∧
    (Module.setClock k isTime v m).scrub = m.scrub ∧
    (Module.setClock k isTime v m).hbm = m.hbm ∧
    (Module.setClock k isTime v m).outbox = m.outbox := by
  unfold Module.setClock; simp

@[simp] theorem pulse_frame (k : Nat) (m : Module) :
    (Module.pulse k m).ctl = m.ctl ∧
    (Module.pulse k m).pins = m.pins ∧
    (Module.pulse k m).start = m.start ∧
    (Module.pulse k m).seq = m.seq ∧
    (Module.pulse k m).data = m.data ∧
    (Module.pulse k m).image = m.image ∧
    (Module.pulse k m).load = m.load ∧
    (Module.pulse k m).couriers = m.couriers ∧
    (Module.pulse k m).trig = m.trig ∧
    (Module.pulse k m).trace = m.trace ∧
    (Module.pulse k m).fabric = m.fabric ∧
    (Module.pulse k m).lanes = m.lanes ∧
    (Module.pulse k m).bundles = m.bundles ∧
    (Module.pulse k m).disc = m.disc ∧
    (Module.pulse k m).store = m.store ∧
    (Module.pulse k m).sec = m.sec ∧
    (Module.pulse k m).stew = m.stew ∧
    (Module.pulse k m).scrub = m.scrub ∧
    (Module.pulse k m).hbm = m.hbm ∧
    (Module.pulse k m).outbox = m.outbox := by
  unfold Module.pulse; simp

@[simp] theorem applyAction_frame (i : Nat) (m : Module) (r : Nat) :
    (Module.applyAction i m r).ctl = m.ctl ∧
    (Module.applyAction i m r).pins = m.pins ∧
    (Module.applyAction i m r).start = m.start ∧
    (Module.applyAction i m r).image = m.image ∧
    (Module.applyAction i m r).load = m.load ∧
    (Module.applyAction i m r).couriers = m.couriers ∧
    (Module.applyAction i m r).trace = m.trace ∧
    (Module.applyAction i m r).fabric = m.fabric ∧
    (Module.applyAction i m r).lanes = m.lanes ∧
    (Module.applyAction i m r).bundles = m.bundles ∧
    (Module.applyAction i m r).disc = m.disc ∧
    (Module.applyAction i m r).store = m.store ∧
    (Module.applyAction i m r).sec = m.sec ∧
    (Module.applyAction i m r).stew = m.stew ∧
    (Module.applyAction i m r).scrub = m.scrub ∧
    (Module.applyAction i m r).hbm = m.hbm ∧
    (Module.applyAction i m r).outbox = m.outbox := by
  unfold Module.applyAction; (try dsimp only); (repeat' split) <;> simp

@[simp] theorem applySlot_frame (folio : Nat) (m : Module) (i : Nat) :
    (Module.applySlot folio m i).ctl = m.ctl ∧
    (Module.applySlot folio m i).pins = m.pins ∧
    (Module.applySlot folio m i).start = m.start ∧
    (Module.applySlot folio m i).image = m.image ∧
    (Module.applySlot folio m i).load = m.load ∧
    (Module.applySlot folio m i).couriers = m.couriers ∧
    (Module.applySlot folio m i).trace = m.trace ∧
    (Module.applySlot folio m i).lanes = m.lanes ∧
    (Module.applySlot folio m i).bundles = m.bundles ∧
    (Module.applySlot folio m i).disc = m.disc ∧
    (Module.applySlot folio m i).store = m.store ∧
    (Module.applySlot folio m i).sec = m.sec ∧
    (Module.applySlot folio m i).scrub = m.scrub ∧
    (Module.applySlot folio m i).hbm = m.hbm := by
  unfold Module.applySlot; simp

@[simp] theorem requestPulse_frame (k : Nat) (m : Module) :
    (Module.requestPulse k m).ctl = m.ctl ∧
    (Module.requestPulse k m).pins = m.pins ∧
    (Module.requestPulse k m).start = m.start ∧
    (Module.requestPulse k m).seq = m.seq ∧
    (Module.requestPulse k m).data = m.data ∧
    (Module.requestPulse k m).image = m.image ∧
    (Module.requestPulse k m).load = m.load ∧
    (Module.requestPulse k m).couriers = m.couriers ∧
    (Module.requestPulse k m).trig = m.trig ∧
    (Module.requestPulse k m).trace = m.trace ∧
    (Module.requestPulse k m).fabric = m.fabric ∧
    (Module.requestPulse k m).lanes = m.lanes ∧
    (Module.requestPulse k m).bundles = m.bundles ∧
    (Module.requestPulse k m).disc = m.disc ∧
    (Module.requestPulse k m).store = m.store ∧
    (Module.requestPulse k m).sec = m.sec ∧
    (Module.requestPulse k m).stew = m.stew ∧
    (Module.requestPulse k m).scrub = m.scrub ∧
    (Module.requestPulse k m).hbm = m.hbm ∧
    (Module.requestPulse k m).outbox = m.outbox := by
  unfold Module.requestPulse; simp

@[simp] theorem applyPulses_frame (folio : Nat) (m : Module) :
    (Module.applyPulses folio m).ctl = m.ctl ∧
    (Module.applyPulses folio m).pins = m.pins ∧
    (Module.applyPulses folio m).start = m.start ∧
    (Module.applyPulses folio m).seq = m.seq ∧
    (Module.applyPulses folio m).data = m.data ∧
    (Module.applyPulses folio m).image = m.image ∧
    (Module.applyPulses folio m).load = m.load ∧
    (Module.applyPulses folio m).couriers = m.couriers ∧
    (Module.applyPulses folio m).trig = m.trig ∧
    (Module.applyPulses folio m).trace = m.trace ∧
    (Module.applyPulses folio m).fabric = m.fabric ∧
    (Module.applyPulses folio m).lanes = m.lanes ∧
    (Module.applyPulses folio m).bundles = m.bundles ∧
    (Module.applyPulses folio m).disc = m.disc ∧
    (Module.applyPulses folio m).store = m.store ∧
    (Module.applyPulses folio m).sec = m.sec ∧
    (Module.applyPulses folio m).stew = m.stew ∧
    (Module.applyPulses folio m).scrub = m.scrub ∧
    (Module.applyPulses folio m).hbm = m.hbm ∧
    (Module.applyPulses folio m).outbox = m.outbox := by
  unfold Module.applyPulses; simp

@[simp] theorem setTrig_frame (f : Trigger → Trigger) (m : Module) :
    (Module.setTrig f m).regs = m.regs ∧
    (Module.setTrig f m).ctl = m.ctl ∧
    (Module.setTrig f m).pins = m.pins ∧
    (Module.setTrig f m).start = m.start ∧
    (Module.setTrig f m).seq = m.seq ∧
    (Module.setTrig f m).data = m.data ∧
    (Module.setTrig f m).image = m.image ∧
    (Module.setTrig f m).load = m.load ∧
    (Module.setTrig f m).txn = m.txn ∧
    (Module.setTrig f m).couriers = m.couriers ∧
    (Module.setTrig f m).trace = m.trace ∧
    (Module.setTrig f m).fabric = m.fabric ∧
    (Module.setTrig f m).lanes = m.lanes ∧
    (Module.setTrig f m).bundles = m.bundles ∧
    (Module.setTrig f m).disc = m.disc ∧
    (Module.setTrig f m).store = m.store ∧
    (Module.setTrig f m).sec = m.sec ∧
    (Module.setTrig f m).stew = m.stew ∧
    (Module.setTrig f m).scrub = m.scrub ∧
    (Module.setTrig f m).hbm = m.hbm ∧
    (Module.setTrig f m).outbox = m.outbox := by
  unfold Module.setTrig; simp

@[simp] theorem capTo_frame (st : Nat) (m : Module) :
    (Module.capTo st m).regs = m.regs ∧
    (Module.capTo st m).ctl = m.ctl ∧
    (Module.capTo st m).pins = m.pins ∧
    (Module.capTo st m).start = m.start ∧
    (Module.capTo st m).seq = m.seq ∧
    (Module.capTo st m).data = m.data ∧
    (Module.capTo st m).image = m.image ∧
    (Module.capTo st m).load = m.load ∧
    (Module.capTo st m).txn = m.txn ∧
    (Module.capTo st m).couriers = m.couriers ∧
    (Module.capTo st m).trace = m.trace ∧
    (Module.capTo st m).lanes = m.lanes ∧
    (Module.capTo st m).bundles = m.bundles ∧
    (Module.capTo st m).disc = m.disc ∧
    (Module.capTo st m).store = m.store ∧
    (Module.capTo st m).sec = m.sec ∧
    (Module.capTo st m).stew = m.stew ∧
    (Module.capTo st m).scrub = m.scrub ∧
    (Module.capTo st m).hbm = m.hbm := by
  unfold Module.capTo; simp

@[simp] theorem capPush_frame (slot : Nat) (header : BitVec 512) (body : Nat) (m : Module) :
    (Module.capPush slot header body m).regs = m.regs ∧
    (Module.capPush slot header body m).ctl = m.ctl ∧
    (Module.capPush slot header body m).pins = m.pins ∧
    (Module.capPush slot header body m).start = m.start ∧
    (Module.capPush slot header body m).seq = m.seq ∧
    (Module.capPush slot header body m).data = m.data ∧
    (Module.capPush slot header body m).image = m.image ∧
    (Module.capPush slot header body m).load = m.load ∧
    (Module.capPush slot header body m).txn = m.txn ∧
    (Module.capPush slot header body m).couriers = m.couriers ∧
    (Module.capPush slot header body m).trace = m.trace ∧
    (Module.capPush slot header body m).fabric = m.fabric ∧
    (Module.capPush slot header body m).lanes = m.lanes ∧
    (Module.capPush slot header body m).bundles = m.bundles ∧
    (Module.capPush slot header body m).disc = m.disc ∧
    (Module.capPush slot header body m).store = m.store ∧
    (Module.capPush slot header body m).sec = m.sec ∧
    (Module.capPush slot header body m).stew = m.stew ∧
    (Module.capPush slot header body m).scrub = m.scrub ∧
    (Module.capPush slot header body m).hbm = m.hbm ∧
    (Module.capPush slot header body m).outbox = m.outbox := by
  unfold Module.capPush; simp

@[simp] theorem capLoss_frame (folio : Nat) (m : Module) :
    (Module.capLoss folio m).ctl = m.ctl ∧
    (Module.capLoss folio m).pins = m.pins ∧
    (Module.capLoss folio m).start = m.start ∧
    (Module.capLoss folio m).seq = m.seq ∧
    (Module.capLoss folio m).data = m.data ∧
    (Module.capLoss folio m).image = m.image ∧
    (Module.capLoss folio m).load = m.load ∧
    (Module.capLoss folio m).txn = m.txn ∧
    (Module.capLoss folio m).couriers = m.couriers ∧
    (Module.capLoss folio m).trace = m.trace ∧
    (Module.capLoss folio m).lanes = m.lanes ∧
    (Module.capLoss folio m).bundles = m.bundles ∧
    (Module.capLoss folio m).disc = m.disc ∧
    (Module.capLoss folio m).store = m.store ∧
    (Module.capLoss folio m).sec = m.sec ∧
    (Module.capLoss folio m).scrub = m.scrub ∧
    (Module.capLoss folio m).hbm = m.hbm := by
  unfold Module.capLoss; simp

@[simp] theorem capPut_frame (folio slot : Nat) (header : BitVec 512) (body : Nat) (m : Module) :
    (Module.capPut folio slot header body m).ctl = m.ctl ∧
    (Module.capPut folio slot header body m).pins = m.pins ∧
    (Module.capPut folio slot header body m).start = m.start ∧
    (Module.capPut folio slot header body m).seq = m.seq ∧
    (Module.capPut folio slot header body m).data = m.data ∧
    (Module.capPut folio slot header body m).image = m.image ∧
    (Module.capPut folio slot header body m).load = m.load ∧
    (Module.capPut folio slot header body m).txn = m.txn ∧
    (Module.capPut folio slot header body m).couriers = m.couriers ∧
    (Module.capPut folio slot header body m).trace = m.trace ∧
    (Module.capPut folio slot header body m).lanes = m.lanes ∧
    (Module.capPut folio slot header body m).bundles = m.bundles ∧
    (Module.capPut folio slot header body m).disc = m.disc ∧
    (Module.capPut folio slot header body m).store = m.store ∧
    (Module.capPut folio slot header body m).sec = m.sec ∧
    (Module.capPut folio slot header body m).scrub = m.scrub ∧
    (Module.capPut folio slot header body m).hbm = m.hbm := by
  unfold Module.capPut; simp

@[simp] theorem capTrigger_frame (act : BitVec 16) (t : Nat) (m : Module) :
    (Module.capTrigger act t m).regs = m.regs ∧
    (Module.capTrigger act t m).ctl = m.ctl ∧
    (Module.capTrigger act t m).pins = m.pins ∧
    (Module.capTrigger act t m).start = m.start ∧
    (Module.capTrigger act t m).seq = m.seq ∧
    (Module.capTrigger act t m).data = m.data ∧
    (Module.capTrigger act t m).image = m.image ∧
    (Module.capTrigger act t m).load = m.load ∧
    (Module.capTrigger act t m).txn = m.txn ∧
    (Module.capTrigger act t m).couriers = m.couriers ∧
    (Module.capTrigger act t m).trace = m.trace ∧
    (Module.capTrigger act t m).fabric = m.fabric ∧
    (Module.capTrigger act t m).lanes = m.lanes ∧
    (Module.capTrigger act t m).bundles = m.bundles ∧
    (Module.capTrigger act t m).disc = m.disc ∧
    (Module.capTrigger act t m).store = m.store ∧
    (Module.capTrigger act t m).sec = m.sec ∧
    (Module.capTrigger act t m).stew = m.stew ∧
    (Module.capTrigger act t m).scrub = m.scrub ∧
    (Module.capTrigger act t m).hbm = m.hbm ∧
    (Module.capTrigger act t m).outbox = m.outbox := by
  unfold Module.capTrigger; simp

@[simp] theorem capClose_frame (m : Module) :
    (Module.capClose m).ctl = m.ctl ∧
    (Module.capClose m).pins = m.pins ∧
    (Module.capClose m).start = m.start ∧
    (Module.capClose m).seq = m.seq ∧
    (Module.capClose m).data = m.data ∧
    (Module.capClose m).image = m.image ∧
    (Module.capClose m).load = m.load ∧
    (Module.capClose m).txn = m.txn ∧
    (Module.capClose m).couriers = m.couriers ∧
    (Module.capClose m).trace = m.trace ∧
    (Module.capClose m).lanes = m.lanes ∧
    (Module.capClose m).bundles = m.bundles ∧
    (Module.capClose m).disc = m.disc ∧
    (Module.capClose m).store = m.store ∧
    (Module.capClose m).sec = m.sec ∧
    (Module.capClose m).scrub = m.scrub ∧
    (Module.capClose m).hbm = m.hbm := by
  unfold Module.capClose; simp

@[simp] theorem capRearm_frame (a : Nat) (m : Module) :
    (Module.capRearm a m).regs = m.regs ∧
    (Module.capRearm a m).ctl = m.ctl ∧
    (Module.capRearm a m).pins = m.pins ∧
    (Module.capRearm a m).start = m.start ∧
    (Module.capRearm a m).seq = m.seq ∧
    (Module.capRearm a m).data = m.data ∧
    (Module.capRearm a m).image = m.image ∧
    (Module.capRearm a m).load = m.load ∧
    (Module.capRearm a m).txn = m.txn ∧
    (Module.capRearm a m).couriers = m.couriers ∧
    (Module.capRearm a m).trace = m.trace ∧
    (Module.capRearm a m).lanes = m.lanes ∧
    (Module.capRearm a m).bundles = m.bundles ∧
    (Module.capRearm a m).disc = m.disc ∧
    (Module.capRearm a m).store = m.store ∧
    (Module.capRearm a m).sec = m.sec ∧
    (Module.capRearm a m).stew = m.stew ∧
    (Module.capRearm a m).scrub = m.scrub ∧
    (Module.capRearm a m).hbm = m.hbm := by
  unfold Module.capRearm; simp

@[simp] theorem capRecord_frame (n : Nat) (m : Module) :
    (Module.capRecord n m).ctl = m.ctl ∧
    (Module.capRecord n m).pins = m.pins ∧
    (Module.capRecord n m).start = m.start ∧
    (Module.capRecord n m).seq = m.seq ∧
    (Module.capRecord n m).data = m.data ∧
    (Module.capRecord n m).image = m.image ∧
    (Module.capRecord n m).load = m.load ∧
    (Module.capRecord n m).txn = m.txn ∧
    (Module.capRecord n m).couriers = m.couriers ∧
    (Module.capRecord n m).trace = m.trace ∧
    (Module.capRecord n m).lanes = m.lanes ∧
    (Module.capRecord n m).bundles = m.bundles ∧
    (Module.capRecord n m).disc = m.disc ∧
    (Module.capRecord n m).store = m.store ∧
    (Module.capRecord n m).sec = m.sec ∧
    (Module.capRecord n m).scrub = m.scrub ∧
    (Module.capRecord n m).hbm = m.hbm := by
  unfold Module.capRecord; simp

@[simp] theorem capDrain_frame (m : Module) :
    (Module.capDrain m).regs = m.regs ∧
    (Module.capDrain m).ctl = m.ctl ∧
    (Module.capDrain m).pins = m.pins ∧
    (Module.capDrain m).start = m.start ∧
    (Module.capDrain m).seq = m.seq ∧
    (Module.capDrain m).data = m.data ∧
    (Module.capDrain m).image = m.image ∧
    (Module.capDrain m).load = m.load ∧
    (Module.capDrain m).txn = m.txn ∧
    (Module.capDrain m).couriers = m.couriers ∧
    (Module.capDrain m).trace = m.trace ∧
    (Module.capDrain m).lanes = m.lanes ∧
    (Module.capDrain m).bundles = m.bundles ∧
    (Module.capDrain m).disc = m.disc ∧
    (Module.capDrain m).store = m.store ∧
    (Module.capDrain m).sec = m.sec ∧
    (Module.capDrain m).stew = m.stew ∧
    (Module.capDrain m).scrub = m.scrub ∧
    (Module.capDrain m).hbm = m.hbm := by
  unfold Module.capDrain; (try dsimp only); (repeat' split) <;> simp

@[simp] theorem capAcked_frame (addr : Nat) (m : Module) :
    (Module.capAcked addr m).ctl = m.ctl ∧
    (Module.capAcked addr m).pins = m.pins ∧
    (Module.capAcked addr m).start = m.start ∧
    (Module.capAcked addr m).seq = m.seq ∧
    (Module.capAcked addr m).data = m.data ∧
    (Module.capAcked addr m).image = m.image ∧
    (Module.capAcked addr m).load = m.load ∧
    (Module.capAcked addr m).txn = m.txn ∧
    (Module.capAcked addr m).couriers = m.couriers ∧
    (Module.capAcked addr m).trace = m.trace ∧
    (Module.capAcked addr m).lanes = m.lanes ∧
    (Module.capAcked addr m).bundles = m.bundles ∧
    (Module.capAcked addr m).disc = m.disc ∧
    (Module.capAcked addr m).store = m.store ∧
    (Module.capAcked addr m).sec = m.sec ∧
    (Module.capAcked addr m).stew = m.stew ∧
    (Module.capAcked addr m).scrub = m.scrub ∧
    (Module.capAcked addr m).hbm = m.hbm := by
  unfold Module.capAcked; (try dsimp only); (repeat' split) <;> simp

@[simp] theorem capStart_frame (m : Module) :
    (Module.capStart m).ctl = m.ctl ∧
    (Module.capStart m).pins = m.pins ∧
    (Module.capStart m).start = m.start ∧
    (Module.capStart m).seq = m.seq ∧
    (Module.capStart m).data = m.data ∧
    (Module.capStart m).image = m.image ∧
    (Module.capStart m).load = m.load ∧
    (Module.capStart m).txn = m.txn ∧
    (Module.capStart m).couriers = m.couriers ∧
    (Module.capStart m).trace = m.trace ∧
    (Module.capStart m).lanes = m.lanes ∧
    (Module.capStart m).bundles = m.bundles ∧
    (Module.capStart m).disc = m.disc ∧
    (Module.capStart m).store = m.store ∧
    (Module.capStart m).sec = m.sec ∧
    (Module.capStart m).scrub = m.scrub ∧
    (Module.capStart m).hbm = m.hbm := by
  unfold Module.capStart; simp

@[simp] theorem capStopReq_frame (m : Module) :
    (Module.capStopReq m).regs = m.regs ∧
    (Module.capStopReq m).ctl = m.ctl ∧
    (Module.capStopReq m).pins = m.pins ∧
    (Module.capStopReq m).start = m.start ∧
    (Module.capStopReq m).seq = m.seq ∧
    (Module.capStopReq m).data = m.data ∧
    (Module.capStopReq m).image = m.image ∧
    (Module.capStopReq m).load = m.load ∧
    (Module.capStopReq m).txn = m.txn ∧
    (Module.capStopReq m).couriers = m.couriers ∧
    (Module.capStopReq m).trace = m.trace ∧
    (Module.capStopReq m).fabric = m.fabric ∧
    (Module.capStopReq m).lanes = m.lanes ∧
    (Module.capStopReq m).bundles = m.bundles ∧
    (Module.capStopReq m).disc = m.disc ∧
    (Module.capStopReq m).store = m.store ∧
    (Module.capStopReq m).sec = m.sec ∧
    (Module.capStopReq m).scrub = m.scrub ∧
    (Module.capStopReq m).hbm = m.hbm ∧
    (Module.capStopReq m).outbox = m.outbox := by
  unfold Module.capStopReq; simp

@[simp] theorem maskPump_frame (m : Module) :
    (Module.maskPump m).ctl = m.ctl ∧
    (Module.maskPump m).pins = m.pins ∧
    (Module.maskPump m).start = m.start ∧
    (Module.maskPump m).seq = m.seq ∧
    (Module.maskPump m).data = m.data ∧
    (Module.maskPump m).image = m.image ∧
    (Module.maskPump m).load = m.load ∧
    (Module.maskPump m).txn = m.txn ∧
    (Module.maskPump m).couriers = m.couriers ∧
    (Module.maskPump m).trace = m.trace ∧
    (Module.maskPump m).lanes = m.lanes ∧
    (Module.maskPump m).bundles = m.bundles ∧
    (Module.maskPump m).disc = m.disc ∧
    (Module.maskPump m).store = m.store ∧
    (Module.maskPump m).sec = m.sec ∧
    (Module.maskPump m).stew = m.stew ∧
    (Module.maskPump m).scrub = m.scrub ∧
    (Module.maskPump m).hbm = m.hbm := by
  unfold Module.maskPump; (try dsimp only); (repeat' split) <;> simp (disch := (intros; (try dsimp only); (repeat' split) <;> simp))

@[simp] theorem maskFetch_frame (f : Nat) (m : Module) :
    (Module.maskFetch f m).ctl = m.ctl ∧
    (Module.maskFetch f m).pins = m.pins ∧
    (Module.maskFetch f m).start = m.start ∧
    (Module.maskFetch f m).seq = m.seq ∧
    (Module.maskFetch f m).data = m.data ∧
    (Module.maskFetch f m).image = m.image ∧
    (Module.maskFetch f m).load = m.load ∧
    (Module.maskFetch f m).txn = m.txn ∧
    (Module.maskFetch f m).couriers = m.couriers ∧
    (Module.maskFetch f m).trace = m.trace ∧
    (Module.maskFetch f m).lanes = m.lanes ∧
    (Module.maskFetch f m).bundles = m.bundles ∧
    (Module.maskFetch f m).disc = m.disc ∧
    (Module.maskFetch f m).store = m.store ∧
    (Module.maskFetch f m).sec = m.sec ∧
    (Module.maskFetch f m).stew = m.stew ∧
    (Module.maskFetch f m).scrub = m.scrub ∧
    (Module.maskFetch f m).hbm = m.hbm := by
  unfold Module.maskFetch; (try dsimp only); (repeat' split) <;> simp

@[simp] theorem maskArrive_frame (addr : Nat) (bs : List Byte) (m : Module) :
    (Module.maskArrive addr bs m).regs = m.regs ∧
    (Module.maskArrive addr bs m).ctl = m.ctl ∧
    (Module.maskArrive addr bs m).pins = m.pins ∧
    (Module.maskArrive addr bs m).start = m.start ∧
    (Module.maskArrive addr bs m).seq = m.seq ∧
    (Module.maskArrive addr bs m).data = m.data ∧
    (Module.maskArrive addr bs m).image = m.image ∧
    (Module.maskArrive addr bs m).load = m.load ∧
    (Module.maskArrive addr bs m).txn = m.txn ∧
    (Module.maskArrive addr bs m).couriers = m.couriers ∧
    (Module.maskArrive addr bs m).trace = m.trace ∧
    (Module.maskArrive addr bs m).fabric = m.fabric ∧
    (Module.maskArrive addr bs m).lanes = m.lanes ∧
    (Module.maskArrive addr bs m).bundles = m.bundles ∧
    (Module.maskArrive addr bs m).disc = m.disc ∧
    (Module.maskArrive addr bs m).store = m.store ∧
    (Module.maskArrive addr bs m).sec = m.sec ∧
    (Module.maskArrive addr bs m).stew = m.stew ∧
    (Module.maskArrive addr bs m).scrub = m.scrub ∧
    (Module.maskArrive addr bs m).hbm = m.hbm ∧
    (Module.maskArrive addr bs m).outbox = m.outbox := by
  unfold Module.maskArrive; (try dsimp only); (repeat' split) <;> simp

@[simp] theorem maskLaunch_frame (f : Nat) (m : Module) :
    (Module.maskLaunch f m).regs = m.regs ∧
    (Module.maskLaunch f m).ctl = m.ctl ∧
    (Module.maskLaunch f m).pins = m.pins ∧
    (Module.maskLaunch f m).start = m.start ∧
    (Module.maskLaunch f m).seq = m.seq ∧
    (Module.maskLaunch f m).data = m.data ∧
    (Module.maskLaunch f m).image = m.image ∧
    (Module.maskLaunch f m).load = m.load ∧
    (Module.maskLaunch f m).txn = m.txn ∧
    (Module.maskLaunch f m).couriers = m.couriers ∧
    (Module.maskLaunch f m).trace = m.trace ∧
    (Module.maskLaunch f m).fabric = m.fabric ∧
    (Module.maskLaunch f m).lanes = m.lanes ∧
    (Module.maskLaunch f m).bundles = m.bundles ∧
    (Module.maskLaunch f m).disc = m.disc ∧
    (Module.maskLaunch f m).store = m.store ∧
    (Module.maskLaunch f m).sec = m.sec ∧
    (Module.maskLaunch f m).stew = m.stew ∧
    (Module.maskLaunch f m).scrub = m.scrub ∧
    (Module.maskLaunch f m).hbm = m.hbm ∧
    (Module.maskLaunch f m).outbox = m.outbox := by
  unfold Module.maskLaunch; simp

@[simp] theorem maskViolation_frame (n bits : Nat) (m : Module) :
    (Module.maskViolation n bits m).pins = m.pins ∧
    (Module.maskViolation n bits m).start = m.start ∧
    (Module.maskViolation n bits m).data = m.data ∧
    (Module.maskViolation n bits m).image = m.image ∧
    (Module.maskViolation n bits m).load = m.load ∧
    (Module.maskViolation n bits m).txn = m.txn ∧
    (Module.maskViolation n bits m).couriers = m.couriers ∧
    (Module.maskViolation n bits m).trace = m.trace ∧
    (Module.maskViolation n bits m).fabric = m.fabric ∧
    (Module.maskViolation n bits m).lanes = m.lanes ∧
    (Module.maskViolation n bits m).bundles = m.bundles ∧
    (Module.maskViolation n bits m).disc = m.disc ∧
    (Module.maskViolation n bits m).store = m.store ∧
    (Module.maskViolation n bits m).sec = m.sec ∧
    (Module.maskViolation n bits m).scrub = m.scrub ∧
    (Module.maskViolation n bits m).hbm = m.hbm ∧
    (Module.maskViolation n bits m).outbox = m.outbox := by
  unfold Module.maskViolation; simp

@[simp] theorem maskCompare_frame (n : Nat) (m : Module) :
    (Module.maskCompare n m).pins = m.pins ∧
    (Module.maskCompare n m).start = m.start ∧
    (Module.maskCompare n m).data = m.data ∧
    (Module.maskCompare n m).image = m.image ∧
    (Module.maskCompare n m).load = m.load ∧
    (Module.maskCompare n m).txn = m.txn ∧
    (Module.maskCompare n m).couriers = m.couriers ∧
    (Module.maskCompare n m).trace = m.trace ∧
    (Module.maskCompare n m).fabric = m.fabric ∧
    (Module.maskCompare n m).lanes = m.lanes ∧
    (Module.maskCompare n m).bundles = m.bundles ∧
    (Module.maskCompare n m).disc = m.disc ∧
    (Module.maskCompare n m).store = m.store ∧
    (Module.maskCompare n m).sec = m.sec ∧
    (Module.maskCompare n m).scrub = m.scrub ∧
    (Module.maskCompare n m).hbm = m.hbm ∧
    (Module.maskCompare n m).outbox = m.outbox := by
  unfold Module.maskCompare; (try dsimp only); (repeat' split) <;> simp

@[simp] theorem maskCtrl_frame (v : Nat) (m : Module) :
    (Module.maskCtrl v m).ctl = m.ctl ∧
    (Module.maskCtrl v m).pins = m.pins ∧
    (Module.maskCtrl v m).start = m.start ∧
    (Module.maskCtrl v m).seq = m.seq ∧
    (Module.maskCtrl v m).data = m.data ∧
    (Module.maskCtrl v m).image = m.image ∧
    (Module.maskCtrl v m).load = m.load ∧
    (Module.maskCtrl v m).txn = m.txn ∧
    (Module.maskCtrl v m).couriers = m.couriers ∧
    (Module.maskCtrl v m).trace = m.trace ∧
    (Module.maskCtrl v m).lanes = m.lanes ∧
    (Module.maskCtrl v m).bundles = m.bundles ∧
    (Module.maskCtrl v m).disc = m.disc ∧
    (Module.maskCtrl v m).store = m.store ∧
    (Module.maskCtrl v m).sec = m.sec ∧
    (Module.maskCtrl v m).scrub = m.scrub ∧
    (Module.maskCtrl v m).hbm = m.hbm := by
  unfold Module.maskCtrl; simp

@[simp] theorem settle_frame (m : Module) :
    (Module.settle m).ctl = m.ctl ∧
    (Module.settle m).pins = m.pins ∧
    (Module.settle m).start = m.start ∧
    (Module.settle m).image = m.image ∧
    (Module.settle m).load = m.load ∧
    (Module.settle m).txn = m.txn ∧
    (Module.settle m).couriers = m.couriers ∧
    (Module.settle m).trig = m.trig ∧
    (Module.settle m).trace = m.trace ∧
    (Module.settle m).lanes = m.lanes ∧
    (Module.settle m).bundles = m.bundles ∧
    (Module.settle m).disc = m.disc ∧
    (Module.settle m).store = m.store ∧
    (Module.settle m).sec = m.sec ∧
    (Module.settle m).stew = m.stew ∧
    (Module.settle m).scrub = m.scrub ∧
    (Module.settle m).hbm = m.hbm := by
  unfold Module.settle; simp

@[simp] theorem putUnit_frame (u : RepairUnit) (key v : Nat) (m : Module) :
    (Module.putUnit u key v m).regs = m.regs ∧
    (Module.putUnit u key v m).ctl = m.ctl ∧
    (Module.putUnit u key v m).pins = m.pins ∧
    (Module.putUnit u key v m).start = m.start ∧
    (Module.putUnit u key v m).image = m.image ∧
    (Module.putUnit u key v m).load = m.load ∧
    (Module.putUnit u key v m).txn = m.txn ∧
    (Module.putUnit u key v m).couriers = m.couriers ∧
    (Module.putUnit u key v m).trig = m.trig ∧
    (Module.putUnit u key v m).trace = m.trace ∧
    (Module.putUnit u key v m).fabric = m.fabric ∧
    (Module.putUnit u key v m).lanes = m.lanes ∧
    (Module.putUnit u key v m).bundles = m.bundles ∧
    (Module.putUnit u key v m).disc = m.disc ∧
    (Module.putUnit u key v m).store = m.store ∧
    (Module.putUnit u key v m).sec = m.sec ∧
    (Module.putUnit u key v m).stew = m.stew ∧
    (Module.putUnit u key v m).scrub = m.scrub ∧
    (Module.putUnit u key v m).hbm = m.hbm ∧
    (Module.putUnit u key v m).outbox = m.outbox := by
  unfold Module.putUnit; (try dsimp only); (repeat' split) <;> simp

@[simp] theorem unrepairable_frame (u : RepairUnit) (key : Nat) (m : Module) :
    (Module.unrepairable u key m).scrub = m.scrub := by
  unfold Module.unrepairable; simp

@[simp] theorem logRepair_frame (u : RepairUnit) (key : Nat) (m : Module) :
    (Module.logRepair u key m).ctl = m.ctl ∧
    (Module.logRepair u key m).pins = m.pins ∧
    (Module.logRepair u key m).start = m.start ∧
    (Module.logRepair u key m).data = m.data ∧
    (Module.logRepair u key m).image = m.image ∧
    (Module.logRepair u key m).load = m.load ∧
    (Module.logRepair u key m).txn = m.txn ∧
    (Module.logRepair u key m).couriers = m.couriers ∧
    (Module.logRepair u key m).trig = m.trig ∧
    (Module.logRepair u key m).trace = m.trace ∧
    (Module.logRepair u key m).fabric = m.fabric ∧
    (Module.logRepair u key m).lanes = m.lanes ∧
    (Module.logRepair u key m).bundles = m.bundles ∧
    (Module.logRepair u key m).disc = m.disc ∧
    (Module.logRepair u key m).store = m.store ∧
    (Module.logRepair u key m).sec = m.sec ∧
    (Module.logRepair u key m).scrub = m.scrub ∧
    (Module.logRepair u key m).hbm = m.hbm ∧
    (Module.logRepair u key m).outbox = m.outbox := by
  unfold Module.logRepair; (try dsimp only); (repeat' split) <;> simp

@[simp] theorem logParity_frame (u : RepairUnit) (key : Nat) (m : Module) :
    (Module.logParity u key m).ctl = m.ctl ∧
    (Module.logParity u key m).pins = m.pins ∧
    (Module.logParity u key m).start = m.start ∧
    (Module.logParity u key m).seq = m.seq ∧
    (Module.logParity u key m).data = m.data ∧
    (Module.logParity u key m).image = m.image ∧
    (Module.logParity u key m).load = m.load ∧
    (Module.logParity u key m).txn = m.txn ∧
    (Module.logParity u key m).couriers = m.couriers ∧
    (Module.logParity u key m).trig = m.trig ∧
    (Module.logParity u key m).trace = m.trace ∧
    (Module.logParity u key m).fabric = m.fabric ∧
    (Module.logParity u key m).lanes = m.lanes ∧
    (Module.logParity u key m).bundles = m.bundles ∧
    (Module.logParity u key m).disc = m.disc ∧
    (Module.logParity u key m).store = m.store ∧
    (Module.logParity u key m).sec = m.sec ∧
    (Module.logParity u key m).scrub = m.scrub ∧
    (Module.logParity u key m).hbm = m.hbm ∧
    (Module.logParity u key m).outbox = m.outbox := by
  unfold Module.logParity; (try dsimp only); (repeat' split) <;> simp

@[simp] theorem readSource_frame (u : RepairUnit) (key : Nat) (chk : SectorCheck) (m : Module) :
    (Module.readSource u key chk m).2.2.pins = m.pins ∧
    (Module.readSource u key chk m).2.2.data = m.data ∧
    (Module.readSource u key chk m).2.2.image = m.image ∧
    (Module.readSource u key chk m).2.2.txn = m.txn ∧
    (Module.readSource u key chk m).2.2.trig = m.trig ∧
    (Module.readSource u key chk m).2.2.trace = m.trace := by
  unfold Module.readSource; simp

@[simp] theorem startRepair_frame (u : RepairUnit) (key step : Nat) (m : Module) :
    (Module.startRepair u key step m).scrub = m.scrub := by
  unfold Module.startRepair; simp

@[simp] theorem fetched_frame (u : RepairUnit) (step : Nat) (m : Module) (key : Nat) :
    (Module.fetched u step m key).scrub = m.scrub := by
  unfold Module.fetched; simp

@[simp] theorem fetchCheck_frame (step : Nat) (m : Module) :
    (Module.fetchCheck step m).scrub = m.scrub := by
  unfold Module.fetchCheck; simp

@[simp] theorem presenceCheck_frame (t : Nat) (m : Module) :
    (Module.presenceCheck t m).regs = m.regs ∧
    (Module.presenceCheck t m).ctl = m.ctl ∧
    (Module.presenceCheck t m).pins = m.pins ∧
    (Module.presenceCheck t m).start = m.start ∧
    (Module.presenceCheck t m).data = m.data ∧
    (Module.presenceCheck t m).image = m.image ∧
    (Module.presenceCheck t m).load = m.load ∧
    (Module.presenceCheck t m).txn = m.txn ∧
    (Module.presenceCheck t m).couriers = m.couriers ∧
    (Module.presenceCheck t m).trig = m.trig ∧
    (Module.presenceCheck t m).trace = m.trace ∧
    (Module.presenceCheck t m).fabric = m.fabric ∧
    (Module.presenceCheck t m).lanes = m.lanes ∧
    (Module.presenceCheck t m).bundles = m.bundles ∧
    (Module.presenceCheck t m).disc = m.disc ∧
    (Module.presenceCheck t m).store = m.store ∧
    (Module.presenceCheck t m).sec = m.sec ∧
    (Module.presenceCheck t m).stew = m.stew ∧
    (Module.presenceCheck t m).scrub = m.scrub ∧
    (Module.presenceCheck t m).hbm = m.hbm ∧
    (Module.presenceCheck t m).outbox = m.outbox := by
  unfold Module.presenceCheck; simp

@[simp] theorem afterRepair_frame (m : Module) :
    (Module.afterRepair m).ctl = m.ctl ∧
    (Module.afterRepair m).pins = m.pins ∧
    (Module.afterRepair m).start = m.start ∧
    (Module.afterRepair m).seq = m.seq ∧
    (Module.afterRepair m).data = m.data ∧
    (Module.afterRepair m).image = m.image ∧
    (Module.afterRepair m).txn = m.txn ∧
    (Module.afterRepair m).couriers = m.couriers ∧
    (Module.afterRepair m).trig = m.trig ∧
    (Module.afterRepair m).trace = m.trace ∧
    (Module.afterRepair m).fabric = m.fabric ∧
    (Module.afterRepair m).lanes = m.lanes ∧
    (Module.afterRepair m).bundles = m.bundles ∧
    (Module.afterRepair m).disc = m.disc ∧
    (Module.afterRepair m).store = m.store ∧
    (Module.afterRepair m).sec = m.sec ∧
    (Module.afterRepair m).scrub = m.scrub ∧
    (Module.afterRepair m).hbm = m.hbm ∧
    (Module.afterRepair m).outbox = m.outbox := by
  unfold Module.afterRepair; simp

@[simp] theorem walkEnd_frame (m : Module) :
    (Module.walkEnd m).ctl = m.ctl ∧
    (Module.walkEnd m).pins = m.pins ∧
    (Module.walkEnd m).seq = m.seq ∧
    (Module.walkEnd m).data = m.data ∧
    (Module.walkEnd m).image = m.image ∧
    (Module.walkEnd m).load = m.load ∧
    (Module.walkEnd m).txn = m.txn ∧
    (Module.walkEnd m).couriers = m.couriers ∧
    (Module.walkEnd m).trig = m.trig ∧
    (Module.walkEnd m).trace = m.trace ∧
    (Module.walkEnd m).fabric = m.fabric ∧
    (Module.walkEnd m).lanes = m.lanes ∧
    (Module.walkEnd m).bundles = m.bundles ∧
    (Module.walkEnd m).disc = m.disc ∧
    (Module.walkEnd m).store = m.store ∧
    (Module.walkEnd m).sec = m.sec ∧
    (Module.walkEnd m).stew = m.stew ∧
    (Module.walkEnd m).scrub = m.scrub ∧
    (Module.walkEnd m).hbm = m.hbm ∧
    (Module.walkEnd m).outbox = m.outbox := by
  unfold Module.walkEnd; simp

@[simp] theorem walkerLate_frame (u : RepairUnit) (key : Nat) (chk : SectorCheck) (m : Module) :
    (Module.walkerLate u key chk m).pins = m.pins ∧
    (Module.walkerLate u key chk m).data = m.data ∧
    (Module.walkerLate u key chk m).image = m.image ∧
    (Module.walkerLate u key chk m).txn = m.txn ∧
    (Module.walkerLate u key chk m).trig = m.trig ∧
    (Module.walkerLate u key chk m).trace = m.trace := by
  unfold Module.walkerLate; simp

end Sys2Proof.Machine
end

