-- ==== Sys2Proof/Laws/FrameCouriers.lean ====
section
/-! SUPPORT. Laws/FrameCouriers.lean: for each operation of couriers, the parts of the module that it
never changes. -/

namespace Sys2Proof.Machine

@[simp] theorem coreRead_frame (v : Nat) (m : Module) :
    (Module.coreRead v m).regs = m.regs ∧
    (Module.coreRead v m).ctl = m.ctl ∧
    (Module.coreRead v m).pins = m.pins ∧
    (Module.coreRead v m).start = m.start ∧
    (Module.coreRead v m).seq = m.seq ∧
    (Module.coreRead v m).data = m.data ∧
    (Module.coreRead v m).image = m.image ∧
    (Module.coreRead v m).load = m.load ∧
    (Module.coreRead v m).txn = m.txn ∧
    (Module.coreRead v m).trig = m.trig ∧
    (Module.coreRead v m).trace = m.trace ∧
    (Module.coreRead v m).fabric = m.fabric ∧
    (Module.coreRead v m).lanes = m.lanes ∧
    (Module.coreRead v m).bundles = m.bundles ∧
    (Module.coreRead v m).disc = m.disc ∧
    (Module.coreRead v m).store = m.store ∧
    (Module.coreRead v m).sec = m.sec ∧
    (Module.coreRead v m).stew = m.stew ∧
    (Module.coreRead v m).scrub = m.scrub ∧
    (Module.coreRead v m).hbm = m.hbm ∧
    (Module.coreRead v m).outbox = m.outbox := by
  unfold Module.coreRead; simp

@[simp] theorem setSchArg_frame (core : Nat) (arg : Word) (m : Module) :
    (Module.setSchArg core arg m).regs = m.regs ∧
    (Module.setSchArg core arg m).ctl = m.ctl ∧
    (Module.setSchArg core arg m).pins = m.pins ∧
    (Module.setSchArg core arg m).start = m.start ∧
    (Module.setSchArg core arg m).seq = m.seq ∧
    (Module.setSchArg core arg m).data = m.data ∧
    (Module.setSchArg core arg m).image = m.image ∧
    (Module.setSchArg core arg m).load = m.load ∧
    (Module.setSchArg core arg m).txn = m.txn ∧
    (Module.setSchArg core arg m).trig = m.trig ∧
    (Module.setSchArg core arg m).trace = m.trace ∧
    (Module.setSchArg core arg m).fabric = m.fabric ∧
    (Module.setSchArg core arg m).lanes = m.lanes ∧
    (Module.setSchArg core arg m).bundles = m.bundles ∧
    (Module.setSchArg core arg m).disc = m.disc ∧
    (Module.setSchArg core arg m).store = m.store ∧
    (Module.setSchArg core arg m).sec = m.sec ∧
    (Module.setSchArg core arg m).stew = m.stew ∧
    (Module.setSchArg core arg m).scrub = m.scrub ∧
    (Module.setSchArg core arg m).hbm = m.hbm ∧
    (Module.setSchArg core arg m).outbox = m.outbox := by
  unfold Module.setSchArg; simp

@[simp] theorem schWait_frame (core obj : Nat) (arg : Word) (m : Module) :
    (Module.schWait core obj arg m).regs = m.regs ∧
    (Module.schWait core obj arg m).ctl = m.ctl ∧
    (Module.schWait core obj arg m).pins = m.pins ∧
    (Module.schWait core obj arg m).start = m.start ∧
    (Module.schWait core obj arg m).seq = m.seq ∧
    (Module.schWait core obj arg m).data = m.data ∧
    (Module.schWait core obj arg m).image = m.image ∧
    (Module.schWait core obj arg m).load = m.load ∧
    (Module.schWait core obj arg m).txn = m.txn ∧
    (Module.schWait core obj arg m).trig = m.trig ∧
    (Module.schWait core obj arg m).trace = m.trace ∧
    (Module.schWait core obj arg m).fabric = m.fabric ∧
    (Module.schWait core obj arg m).lanes = m.lanes ∧
    (Module.schWait core obj arg m).bundles = m.bundles ∧
    (Module.schWait core obj arg m).disc = m.disc ∧
    (Module.schWait core obj arg m).store = m.store ∧
    (Module.schWait core obj arg m).sec = m.sec ∧
    (Module.schWait core obj arg m).stew = m.stew ∧
    (Module.schWait core obj arg m).scrub = m.scrub ∧
    (Module.schWait core obj arg m).hbm = m.hbm ∧
    (Module.schWait core obj arg m).outbox = m.outbox := by
  unfold Module.schWait; (try dsimp only); (repeat' split) <;> simp

@[simp] theorem schSignal_frame (core n : Nat) (m : Module) :
    (Module.schSignal core n m).regs = m.regs ∧
    (Module.schSignal core n m).ctl = m.ctl ∧
    (Module.schSignal core n m).pins = m.pins ∧
    (Module.schSignal core n m).start = m.start ∧
    (Module.schSignal core n m).seq = m.seq ∧
    (Module.schSignal core n m).data = m.data ∧
    (Module.schSignal core n m).image = m.image ∧
    (Module.schSignal core n m).load = m.load ∧
    (Module.schSignal core n m).txn = m.txn ∧
    (Module.schSignal core n m).trig = m.trig ∧
    (Module.schSignal core n m).trace = m.trace ∧
    (Module.schSignal core n m).fabric = m.fabric ∧
    (Module.schSignal core n m).lanes = m.lanes ∧
    (Module.schSignal core n m).bundles = m.bundles ∧
    (Module.schSignal core n m).disc = m.disc ∧
    (Module.schSignal core n m).store = m.store ∧
    (Module.schSignal core n m).sec = m.sec ∧
    (Module.schSignal core n m).stew = m.stew ∧
    (Module.schSignal core n m).scrub = m.scrub ∧
    (Module.schSignal core n m).hbm = m.hbm ∧
    (Module.schSignal core n m).outbox = m.outbox := by
  unfold Module.schSignal; (try dsimp only); (repeat' split) <;> simp

@[simp] theorem reprio_frame (n prio : Nat) (m : Module) :
    (Module.reprio n prio m).regs = m.regs ∧
    (Module.reprio n prio m).ctl = m.ctl ∧
    (Module.reprio n prio m).pins = m.pins ∧
    (Module.reprio n prio m).start = m.start ∧
    (Module.reprio n prio m).seq = m.seq ∧
    (Module.reprio n prio m).data = m.data ∧
    (Module.reprio n prio m).image = m.image ∧
    (Module.reprio n prio m).load = m.load ∧
    (Module.reprio n prio m).txn = m.txn ∧
    (Module.reprio n prio m).trig = m.trig ∧
    (Module.reprio n prio m).trace = m.trace ∧
    (Module.reprio n prio m).fabric = m.fabric ∧
    (Module.reprio n prio m).lanes = m.lanes ∧
    (Module.reprio n prio m).bundles = m.bundles ∧
    (Module.reprio n prio m).disc = m.disc ∧
    (Module.reprio n prio m).store = m.store ∧
    (Module.reprio n prio m).sec = m.sec ∧
    (Module.reprio n prio m).stew = m.stew ∧
    (Module.reprio n prio m).scrub = m.scrub ∧
    (Module.reprio n prio m).hbm = m.hbm ∧
    (Module.reprio n prio m).outbox = m.outbox := by
  unfold Module.reprio; simp

@[simp] theorem schSetup_frame (core v : Nat) (arg : Word) (m : Module) :
    (Module.schSetup core v arg m).regs = m.regs ∧
    (Module.schSetup core v arg m).ctl = m.ctl ∧
    (Module.schSetup core v arg m).pins = m.pins ∧
    (Module.schSetup core v arg m).start = m.start ∧
    (Module.schSetup core v arg m).seq = m.seq ∧
    (Module.schSetup core v arg m).data = m.data ∧
    (Module.schSetup core v arg m).image = m.image ∧
    (Module.schSetup core v arg m).load = m.load ∧
    (Module.schSetup core v arg m).txn = m.txn ∧
    (Module.schSetup core v arg m).trig = m.trig ∧
    (Module.schSetup core v arg m).trace = m.trace ∧
    (Module.schSetup core v arg m).fabric = m.fabric ∧
    (Module.schSetup core v arg m).lanes = m.lanes ∧
    (Module.schSetup core v arg m).bundles = m.bundles ∧
    (Module.schSetup core v arg m).disc = m.disc ∧
    (Module.schSetup core v arg m).store = m.store ∧
    (Module.schSetup core v arg m).sec = m.sec ∧
    (Module.schSetup core v arg m).stew = m.stew ∧
    (Module.schSetup core v arg m).scrub = m.scrub ∧
    (Module.schSetup core v arg m).hbm = m.hbm ∧
    (Module.schSetup core v arg m).outbox = m.outbox := by
  unfold Module.schSetup; (try dsimp only); (repeat' split) <;> simp

@[simp] theorem schExit_frame (core : Nat) (m : Module) :
    (Module.schExit core m).regs = m.regs ∧
    (Module.schExit core m).ctl = m.ctl ∧
    (Module.schExit core m).pins = m.pins ∧
    (Module.schExit core m).start = m.start ∧
    (Module.schExit core m).seq = m.seq ∧
    (Module.schExit core m).data = m.data ∧
    (Module.schExit core m).image = m.image ∧
    (Module.schExit core m).load = m.load ∧
    (Module.schExit core m).txn = m.txn ∧
    (Module.schExit core m).trig = m.trig ∧
    (Module.schExit core m).trace = m.trace ∧
    (Module.schExit core m).fabric = m.fabric ∧
    (Module.schExit core m).lanes = m.lanes ∧
    (Module.schExit core m).bundles = m.bundles ∧
    (Module.schExit core m).disc = m.disc ∧
    (Module.schExit core m).store = m.store ∧
    (Module.schExit core m).sec = m.sec ∧
    (Module.schExit core m).stew = m.stew ∧
    (Module.schExit core m).scrub = m.scrub ∧
    (Module.schExit core m).hbm = m.hbm ∧
    (Module.schExit core m).outbox = m.outbox := by
  unfold Module.schExit; (try dsimp only); (repeat' split) <;> simp

@[simp] theorem schPulse_frame (core gen : Nat) (m : Module) :
    (Module.schPulse core gen m).ctl = m.ctl ∧
    (Module.schPulse core gen m).pins = m.pins ∧
    (Module.schPulse core gen m).start = m.start ∧
    (Module.schPulse core gen m).seq = m.seq ∧
    (Module.schPulse core gen m).data = m.data ∧
    (Module.schPulse core gen m).image = m.image ∧
    (Module.schPulse core gen m).load = m.load ∧
    (Module.schPulse core gen m).couriers = m.couriers ∧
    (Module.schPulse core gen m).trig = m.trig ∧
    (Module.schPulse core gen m).trace = m.trace ∧
    (Module.schPulse core gen m).fabric = m.fabric ∧
    (Module.schPulse core gen m).lanes = m.lanes ∧
    (Module.schPulse core gen m).bundles = m.bundles ∧
    (Module.schPulse core gen m).disc = m.disc ∧
    (Module.schPulse core gen m).store = m.store ∧
    (Module.schPulse core gen m).sec = m.sec ∧
    (Module.schPulse core gen m).stew = m.stew ∧
    (Module.schPulse core gen m).scrub = m.scrub ∧
    (Module.schPulse core gen m).hbm = m.hbm ∧
    (Module.schPulse core gen m).outbox = m.outbox := by
  unfold Module.schPulse; (try dsimp only); (repeat' split) <;> simp

@[simp] theorem schFailRead_frame (core : Nat) (m : Module) :
    (Module.schFailRead core m).regs = m.regs ∧
    (Module.schFailRead core m).ctl = m.ctl ∧
    (Module.schFailRead core m).pins = m.pins ∧
    (Module.schFailRead core m).start = m.start ∧
    (Module.schFailRead core m).seq = m.seq ∧
    (Module.schFailRead core m).data = m.data ∧
    (Module.schFailRead core m).image = m.image ∧
    (Module.schFailRead core m).load = m.load ∧
    (Module.schFailRead core m).txn = m.txn ∧
    (Module.schFailRead core m).trig = m.trig ∧
    (Module.schFailRead core m).trace = m.trace ∧
    (Module.schFailRead core m).fabric = m.fabric ∧
    (Module.schFailRead core m).lanes = m.lanes ∧
    (Module.schFailRead core m).bundles = m.bundles ∧
    (Module.schFailRead core m).disc = m.disc ∧
    (Module.schFailRead core m).store = m.store ∧
    (Module.schFailRead core m).sec = m.sec ∧
    (Module.schFailRead core m).stew = m.stew ∧
    (Module.schFailRead core m).scrub = m.scrub ∧
    (Module.schFailRead core m).hbm = m.hbm ∧
    (Module.schFailRead core m).outbox = m.outbox := by
  unfold Module.schFailRead; (try dsimp only); (repeat' split) <;> simp

@[simp] theorem courierPop_frame (c dmb : Nat) (m : Module) :
    (Module.courierPop c dmb m).2.ctl = m.ctl ∧
    (Module.courierPop c dmb m).2.pins = m.pins ∧
    (Module.courierPop c dmb m).2.start = m.start ∧
    (Module.courierPop c dmb m).2.seq = m.seq ∧
    (Module.courierPop c dmb m).2.image = m.image ∧
    (Module.courierPop c dmb m).2.load = m.load ∧
    (Module.courierPop c dmb m).2.txn = m.txn ∧
    (Module.courierPop c dmb m).2.trig = m.trig ∧
    (Module.courierPop c dmb m).2.trace = m.trace ∧
    (Module.courierPop c dmb m).2.fabric = m.fabric ∧
    (Module.courierPop c dmb m).2.lanes = m.lanes ∧
    (Module.courierPop c dmb m).2.bundles = m.bundles ∧
    (Module.courierPop c dmb m).2.disc = m.disc ∧
    (Module.courierPop c dmb m).2.store = m.store ∧
    (Module.courierPop c dmb m).2.sec = m.sec ∧
    (Module.courierPop c dmb m).2.scrub = m.scrub ∧
    (Module.courierPop c dmb m).2.hbm = m.hbm ∧
    (Module.courierPop c dmb m).2.outbox = m.outbox := by
  unfold Module.courierPop; (try dsimp only); (repeat' split) <;> simp

@[simp] theorem courierPops_frame (c dmb : Nat) (n0 : Nat) (m : Module) :
    (Module.courierPops c dmb n0 m).2.ctl = m.ctl ∧
    (Module.courierPops c dmb n0 m).2.pins = m.pins ∧
    (Module.courierPops c dmb n0 m).2.start = m.start ∧
    (Module.courierPops c dmb n0 m).2.seq = m.seq ∧
    (Module.courierPops c dmb n0 m).2.image = m.image ∧
    (Module.courierPops c dmb n0 m).2.load = m.load ∧
    (Module.courierPops c dmb n0 m).2.txn = m.txn ∧
    (Module.courierPops c dmb n0 m).2.trig = m.trig ∧
    (Module.courierPops c dmb n0 m).2.trace = m.trace ∧
    (Module.courierPops c dmb n0 m).2.fabric = m.fabric ∧
    (Module.courierPops c dmb n0 m).2.lanes = m.lanes ∧
    (Module.courierPops c dmb n0 m).2.bundles = m.bundles ∧
    (Module.courierPops c dmb n0 m).2.disc = m.disc ∧
    (Module.courierPops c dmb n0 m).2.store = m.store ∧
    (Module.courierPops c dmb n0 m).2.sec = m.sec ∧
    (Module.courierPops c dmb n0 m).2.scrub = m.scrub ∧
    (Module.courierPops c dmb n0 m).2.hbm = m.hbm ∧
    (Module.courierPops c dmb n0 m).2.outbox = m.outbox := by
  induction n0 generalizing m <;> (unfold Module.courierPops; (try dsimp only); (repeat' split) <;> simp_all)

@[simp] theorem takeMessage_frame (c : Nat) (m : Module) :
    (Module.takeMessage c m).2.2.ctl = m.ctl ∧
    (Module.takeMessage c m).2.2.pins = m.pins ∧
    (Module.takeMessage c m).2.2.start = m.start ∧
    (Module.takeMessage c m).2.2.seq = m.seq ∧
    (Module.takeMessage c m).2.2.image = m.image ∧
    (Module.takeMessage c m).2.2.load = m.load ∧
    (Module.takeMessage c m).2.2.txn = m.txn ∧
    (Module.takeMessage c m).2.2.trig = m.trig ∧
    (Module.takeMessage c m).2.2.trace = m.trace ∧
    (Module.takeMessage c m).2.2.fabric = m.fabric ∧
    (Module.takeMessage c m).2.2.lanes = m.lanes ∧
    (Module.takeMessage c m).2.2.bundles = m.bundles ∧
    (Module.takeMessage c m).2.2.disc = m.disc ∧
    (Module.takeMessage c m).2.2.store = m.store ∧
    (Module.takeMessage c m).2.2.sec = m.sec ∧
    (Module.takeMessage c m).2.2.scrub = m.scrub ∧
    (Module.takeMessage c m).2.2.hbm = m.hbm ∧
    (Module.takeMessage c m).2.2.outbox = m.outbox := by
  unfold Module.takeMessage; (try dsimp only); (repeat' split) <;> simp

@[simp] theorem takeIngress_frame (c : Nat) (m : Module) :
    (Module.takeIngress c m).ctl = m.ctl ∧
    (Module.takeIngress c m).pins = m.pins ∧
    (Module.takeIngress c m).start = m.start ∧
    (Module.takeIngress c m).image = m.image ∧
    (Module.takeIngress c m).load = m.load ∧
    (Module.takeIngress c m).txn = m.txn ∧
    (Module.takeIngress c m).trig = m.trig ∧
    (Module.takeIngress c m).trace = m.trace ∧
    (Module.takeIngress c m).lanes = m.lanes ∧
    (Module.takeIngress c m).bundles = m.bundles ∧
    (Module.takeIngress c m).disc = m.disc ∧
    (Module.takeIngress c m).store = m.store ∧
    (Module.takeIngress c m).sec = m.sec ∧
    (Module.takeIngress c m).scrub = m.scrub ∧
    (Module.takeIngress c m).hbm = m.hbm := by
  unfold Module.takeIngress; (try dsimp only); (repeat' split) <;> simp

@[simp] theorem chanDone_frame (c v : Nat) (buffer : List Word) (m : Module) :
    (Module.chanDone c v buffer m).regs = m.regs ∧
    (Module.chanDone c v buffer m).ctl = m.ctl ∧
    (Module.chanDone c v buffer m).pins = m.pins ∧
    (Module.chanDone c v buffer m).start = m.start ∧
    (Module.chanDone c v buffer m).seq = m.seq ∧
    (Module.chanDone c v buffer m).data = m.data ∧
    (Module.chanDone c v buffer m).image = m.image ∧
    (Module.chanDone c v buffer m).load = m.load ∧
    (Module.chanDone c v buffer m).txn = m.txn ∧
    (Module.chanDone c v buffer m).trig = m.trig ∧
    (Module.chanDone c v buffer m).trace = m.trace ∧
    (Module.chanDone c v buffer m).fabric = m.fabric ∧
    (Module.chanDone c v buffer m).lanes = m.lanes ∧
    (Module.chanDone c v buffer m).bundles = m.bundles ∧
    (Module.chanDone c v buffer m).disc = m.disc ∧
    (Module.chanDone c v buffer m).store = m.store ∧
    (Module.chanDone c v buffer m).sec = m.sec ∧
    (Module.chanDone c v buffer m).stew = m.stew ∧
    (Module.chanDone c v buffer m).scrub = m.scrub ∧
    (Module.chanDone c v buffer m).hbm = m.hbm ∧
    (Module.chanDone c v buffer m).outbox = m.outbox := by
  unfold Module.chanDone; simp

@[simp] theorem chanPop_frame (c : Nat) (m : Module) :
    (Module.chanPop c m).ctl = m.ctl ∧
    (Module.chanPop c m).pins = m.pins ∧
    (Module.chanPop c m).start = m.start ∧
    (Module.chanPop c m).image = m.image ∧
    (Module.chanPop c m).load = m.load ∧
    (Module.chanPop c m).txn = m.txn ∧
    (Module.chanPop c m).trig = m.trig ∧
    (Module.chanPop c m).trace = m.trace ∧
    (Module.chanPop c m).lanes = m.lanes ∧
    (Module.chanPop c m).bundles = m.bundles ∧
    (Module.chanPop c m).disc = m.disc ∧
    (Module.chanPop c m).store = m.store ∧
    (Module.chanPop c m).sec = m.sec ∧
    (Module.chanPop c m).scrub = m.scrub ∧
    (Module.chanPop c m).hbm = m.hbm := by
  unfold Module.chanPop; (try dsimp only); (repeat' split) <;> simp

@[simp] theorem c2hAllocRead_frame (c : Nat) (m : Module) :
    (Module.c2hAllocRead c m).regs = m.regs ∧
    (Module.c2hAllocRead c m).ctl = m.ctl ∧
    (Module.c2hAllocRead c m).pins = m.pins ∧
    (Module.c2hAllocRead c m).start = m.start ∧
    (Module.c2hAllocRead c m).seq = m.seq ∧
    (Module.c2hAllocRead c m).data = m.data ∧
    (Module.c2hAllocRead c m).image = m.image ∧
    (Module.c2hAllocRead c m).load = m.load ∧
    (Module.c2hAllocRead c m).txn = m.txn ∧
    (Module.c2hAllocRead c m).trig = m.trig ∧
    (Module.c2hAllocRead c m).trace = m.trace ∧
    (Module.c2hAllocRead c m).fabric = m.fabric ∧
    (Module.c2hAllocRead c m).lanes = m.lanes ∧
    (Module.c2hAllocRead c m).bundles = m.bundles ∧
    (Module.c2hAllocRead c m).disc = m.disc ∧
    (Module.c2hAllocRead c m).store = m.store ∧
    (Module.c2hAllocRead c m).sec = m.sec ∧
    (Module.c2hAllocRead c m).stew = m.stew ∧
    (Module.c2hAllocRead c m).scrub = m.scrub ∧
    (Module.c2hAllocRead c m).hbm = m.hbm ∧
    (Module.c2hAllocRead c m).outbox = m.outbox := by
  unfold Module.c2hAllocRead; simp

@[simp] theorem csig_frame (c : Nat) (m : Module) :
    (Module.csig c m).regs = m.regs ∧
    (Module.csig c m).ctl = m.ctl ∧
    (Module.csig c m).pins = m.pins ∧
    (Module.csig c m).start = m.start ∧
    (Module.csig c m).data = m.data ∧
    (Module.csig c m).image = m.image ∧
    (Module.csig c m).load = m.load ∧
    (Module.csig c m).txn = m.txn ∧
    (Module.csig c m).couriers = m.couriers ∧
    (Module.csig c m).trig = m.trig ∧
    (Module.csig c m).trace = m.trace ∧
    (Module.csig c m).fabric = m.fabric ∧
    (Module.csig c m).lanes = m.lanes ∧
    (Module.csig c m).bundles = m.bundles ∧
    (Module.csig c m).disc = m.disc ∧
    (Module.csig c m).store = m.store ∧
    (Module.csig c m).sec = m.sec ∧
    (Module.csig c m).stew = m.stew ∧
    (Module.csig c m).scrub = m.scrub ∧
    (Module.csig c m).hbm = m.hbm ∧
    (Module.csig c m).outbox = m.outbox := by
  unfold Module.csig
  dsimp only
  simp only [foldl_regs, foldl_ctl, foldl_pins, foldl_start, foldl_data, foldl_image, foldl_load, foldl_txn, foldl_couriers, foldl_trig, foldl_trace, foldl_fabric, foldl_lanes, foldl_bundles, foldl_disc, foldl_store, foldl_sec, foldl_stew, foldl_scrub, foldl_hbm, foldl_outbox, ite_regs, ite_ctl, ite_pins, ite_start, ite_data, ite_image, ite_load, ite_txn, ite_couriers, ite_trig, ite_trace, ite_fabric, ite_lanes, ite_bundles, ite_disc, ite_store, ite_sec, ite_stew, ite_scrub, ite_hbm, ite_outbox, happen_frame, ite_self, and_self, implies_true]

@[simp] theorem c2hPost_frame (c slot : Nat) (image : List Byte) (m : Module) :
    (Module.c2hPost c slot image m).regs = m.regs ∧
    (Module.c2hPost c slot image m).ctl = m.ctl ∧
    (Module.c2hPost c slot image m).pins = m.pins ∧
    (Module.c2hPost c slot image m).start = m.start ∧
    (Module.c2hPost c slot image m).data = m.data ∧
    (Module.c2hPost c slot image m).image = m.image ∧
    (Module.c2hPost c slot image m).load = m.load ∧
    (Module.c2hPost c slot image m).txn = m.txn ∧
    (Module.c2hPost c slot image m).trig = m.trig ∧
    (Module.c2hPost c slot image m).trace = m.trace ∧
    (Module.c2hPost c slot image m).lanes = m.lanes ∧
    (Module.c2hPost c slot image m).bundles = m.bundles ∧
    (Module.c2hPost c slot image m).disc = m.disc ∧
    (Module.c2hPost c slot image m).store = m.store ∧
    (Module.c2hPost c slot image m).sec = m.sec ∧
    (Module.c2hPost c slot image m).stew = m.stew ∧
    (Module.c2hPost c slot image m).scrub = m.scrub ∧
    (Module.c2hPost c slot image m).hbm = m.hbm := by
  unfold Module.c2hPost
  extract_lets ch slot1
  split
  · simp only [setChan_frame, and_self, and_true]
  · extract_lets ch1 m1
    split <;> simp only [msix_frame, m1, csig_frame, setChan_frame, and_self, and_true]

@[simp] theorem chanErr_frame (c : Nat) (m : Module) :
    (Module.chanErr c m).regs = m.regs ∧
    (Module.chanErr c m).ctl = m.ctl ∧
    (Module.chanErr c m).pins = m.pins ∧
    (Module.chanErr c m).start = m.start ∧
    (Module.chanErr c m).seq = m.seq ∧
    (Module.chanErr c m).data = m.data ∧
    (Module.chanErr c m).image = m.image ∧
    (Module.chanErr c m).load = m.load ∧
    (Module.chanErr c m).txn = m.txn ∧
    (Module.chanErr c m).trig = m.trig ∧
    (Module.chanErr c m).trace = m.trace ∧
    (Module.chanErr c m).fabric = m.fabric ∧
    (Module.chanErr c m).lanes = m.lanes ∧
    (Module.chanErr c m).bundles = m.bundles ∧
    (Module.chanErr c m).disc = m.disc ∧
    (Module.chanErr c m).store = m.store ∧
    (Module.chanErr c m).sec = m.sec ∧
    (Module.chanErr c m).stew = m.stew ∧
    (Module.chanErr c m).scrub = m.scrub ∧
    (Module.chanErr c m).hbm = m.hbm ∧
    (Module.chanErr c m).outbox = m.outbox := by
  unfold Module.chanErr; simp

@[simp] theorem retire_frame (c : Nat) (m : Module) :
    (Module.retire c m).ctl = m.ctl ∧
    (Module.retire c m).pins = m.pins ∧
    (Module.retire c m).start = m.start ∧
    (Module.retire c m).image = m.image ∧
    (Module.retire c m).load = m.load ∧
    (Module.retire c m).txn = m.txn ∧
    (Module.retire c m).trig = m.trig ∧
    (Module.retire c m).trace = m.trace ∧
    (Module.retire c m).lanes = m.lanes ∧
    (Module.retire c m).bundles = m.bundles ∧
    (Module.retire c m).disc = m.disc ∧
    (Module.retire c m).store = m.store ∧
    (Module.retire c m).sec = m.sec ∧
    (Module.retire c m).stew = m.stew ∧
    (Module.retire c m).scrub = m.scrub ∧
    (Module.retire c m).hbm = m.hbm := by
  unfold Module.retire
  split
  · rename_i m1 h
    have := retireOne_frame c m m1 h
    simp_all
  · simp

@[simp] theorem h2cPush_frame (c : Nat) (m : Module) :
    (Module.h2cPush c m).ctl = m.ctl ∧
    (Module.h2cPush c m).pins = m.pins ∧
    (Module.h2cPush c m).start = m.start ∧
    (Module.h2cPush c m).seq = m.seq ∧
    (Module.h2cPush c m).data = m.data ∧
    (Module.h2cPush c m).image = m.image ∧
    (Module.h2cPush c m).load = m.load ∧
    (Module.h2cPush c m).txn = m.txn ∧
    (Module.h2cPush c m).trig = m.trig ∧
    (Module.h2cPush c m).trace = m.trace ∧
    (Module.h2cPush c m).fabric = m.fabric ∧
    (Module.h2cPush c m).lanes = m.lanes ∧
    (Module.h2cPush c m).bundles = m.bundles ∧
    (Module.h2cPush c m).disc = m.disc ∧
    (Module.h2cPush c m).store = m.store ∧
    (Module.h2cPush c m).sec = m.sec ∧
    (Module.h2cPush c m).scrub = m.scrub ∧
    (Module.h2cPush c m).hbm = m.hbm ∧
    (Module.h2cPush c m).outbox = m.outbox := by
  unfold Module.h2cPush; simp

@[simp] theorem c2hConsume_frame (c v : Nat) (m : Module) :
    (Module.c2hConsume c v m).regs = m.regs ∧
    (Module.c2hConsume c v m).ctl = m.ctl ∧
    (Module.c2hConsume c v m).pins = m.pins ∧
    (Module.c2hConsume c v m).start = m.start ∧
    (Module.c2hConsume c v m).seq = m.seq ∧
    (Module.c2hConsume c v m).data = m.data ∧
    (Module.c2hConsume c v m).image = m.image ∧
    (Module.c2hConsume c v m).load = m.load ∧
    (Module.c2hConsume c v m).txn = m.txn ∧
    (Module.c2hConsume c v m).trig = m.trig ∧
    (Module.c2hConsume c v m).trace = m.trace ∧
    (Module.c2hConsume c v m).fabric = m.fabric ∧
    (Module.c2hConsume c v m).lanes = m.lanes ∧
    (Module.c2hConsume c v m).bundles = m.bundles ∧
    (Module.c2hConsume c v m).disc = m.disc ∧
    (Module.c2hConsume c v m).store = m.store ∧
    (Module.c2hConsume c v m).sec = m.sec ∧
    (Module.c2hConsume c v m).stew = m.stew ∧
    (Module.c2hConsume c v m).scrub = m.scrub ∧
    (Module.c2hConsume c v m).hbm = m.hbm ∧
    (Module.c2hConsume c v m).outbox = m.outbox := by
  unfold Module.c2hConsume; simp

@[simp] theorem deadlineMiss_frame (c : Nat) (m : Module) :
    (Module.deadlineMiss c m).ctl = m.ctl ∧
    (Module.deadlineMiss c m).pins = m.pins ∧
    (Module.deadlineMiss c m).start = m.start ∧
    (Module.deadlineMiss c m).data = m.data ∧
    (Module.deadlineMiss c m).image = m.image ∧
    (Module.deadlineMiss c m).load = m.load ∧
    (Module.deadlineMiss c m).txn = m.txn ∧
    (Module.deadlineMiss c m).trig = m.trig ∧
    (Module.deadlineMiss c m).trace = m.trace ∧
    (Module.deadlineMiss c m).fabric = m.fabric ∧
    (Module.deadlineMiss c m).lanes = m.lanes ∧
    (Module.deadlineMiss c m).bundles = m.bundles ∧
    (Module.deadlineMiss c m).disc = m.disc ∧
    (Module.deadlineMiss c m).store = m.store ∧
    (Module.deadlineMiss c m).sec = m.sec ∧
    (Module.deadlineMiss c m).scrub = m.scrub ∧
    (Module.deadlineMiss c m).hbm = m.hbm ∧
    (Module.deadlineMiss c m).outbox = m.outbox := by
  unfold Module.deadlineMiss; (try dsimp only); (repeat' split) <;> simp

@[simp] theorem replyTimeout_frame (c : Nat) (m : Module) :
    (Module.replyTimeout c m).scrub = m.scrub := by
  unfold Module.replyTimeout; simp

@[simp] theorem lastTrace_frame (core : Nat) (m : Module) :
    (Module.lastTrace core m).ctl = m.ctl ∧
    (Module.lastTrace core m).pins = m.pins ∧
    (Module.lastTrace core m).start = m.start ∧
    (Module.lastTrace core m).data = m.data ∧
    (Module.lastTrace core m).image = m.image ∧
    (Module.lastTrace core m).load = m.load ∧
    (Module.lastTrace core m).txn = m.txn ∧
    (Module.lastTrace core m).couriers = m.couriers ∧
    (Module.lastTrace core m).trig = m.trig ∧
    (Module.lastTrace core m).fabric = m.fabric ∧
    (Module.lastTrace core m).lanes = m.lanes ∧
    (Module.lastTrace core m).bundles = m.bundles ∧
    (Module.lastTrace core m).disc = m.disc ∧
    (Module.lastTrace core m).store = m.store ∧
    (Module.lastTrace core m).scrub = m.scrub ∧
    (Module.lastTrace core m).hbm = m.hbm ∧
    (Module.lastTrace core m).outbox = m.outbox := by
  unfold Module.lastTrace; simp

@[simp] theorem courierTrap_frame (core pc cause : Nat) (m : Module) :
    (Module.courierTrap core pc cause m).ctl = m.ctl ∧
    (Module.courierTrap core pc cause m).pins = m.pins ∧
    (Module.courierTrap core pc cause m).start = m.start ∧
    (Module.courierTrap core pc cause m).data = m.data ∧
    (Module.courierTrap core pc cause m).image = m.image ∧
    (Module.courierTrap core pc cause m).load = m.load ∧
    (Module.courierTrap core pc cause m).txn = m.txn ∧
    (Module.courierTrap core pc cause m).trig = m.trig ∧
    (Module.courierTrap core pc cause m).fabric = m.fabric ∧
    (Module.courierTrap core pc cause m).lanes = m.lanes ∧
    (Module.courierTrap core pc cause m).bundles = m.bundles ∧
    (Module.courierTrap core pc cause m).disc = m.disc ∧
    (Module.courierTrap core pc cause m).store = m.store ∧
    (Module.courierTrap core pc cause m).scrub = m.scrub ∧
    (Module.courierTrap core pc cause m).hbm = m.hbm ∧
    (Module.courierTrap core pc cause m).outbox = m.outbox := by
  unfold Module.courierTrap; simp

@[simp] theorem chanLoad_frame (core c off : Nat) (m : Module) :
    (Module.chanLoad core c off m).ctl = m.ctl ∧
    (Module.chanLoad core c off m).pins = m.pins ∧
    (Module.chanLoad core c off m).start = m.start ∧
    (Module.chanLoad core c off m).image = m.image ∧
    (Module.chanLoad core c off m).load = m.load ∧
    (Module.chanLoad core c off m).txn = m.txn ∧
    (Module.chanLoad core c off m).trig = m.trig ∧
    (Module.chanLoad core c off m).trace = m.trace ∧
    (Module.chanLoad core c off m).lanes = m.lanes ∧
    (Module.chanLoad core c off m).bundles = m.bundles ∧
    (Module.chanLoad core c off m).disc = m.disc ∧
    (Module.chanLoad core c off m).store = m.store ∧
    (Module.chanLoad core c off m).scrub = m.scrub ∧
    (Module.chanLoad core c off m).hbm = m.hbm := by
  unfold Module.chanLoad Module.chanPage Module.courierReads
  repeat' split
  all_goals first | rfl | simp

end Sys2Proof.Machine
end

