-- ==== Sys2Proof/Laws/FrameTxn.lean ====
section
/-! SUPPORT. Laws/FrameTxn.lean: for each operation of transactions and inspection, the parts of the module that it
never changes. -/

namespace Sys2Proof.Machine

@[simp] theorem refuseSlot_frame (i : Nat) (m : Module) :
    (Module.refuseSlot i m).regs = m.regs ∧
    (Module.refuseSlot i m).ctl = m.ctl ∧
    (Module.refuseSlot i m).pins = m.pins ∧
    (Module.refuseSlot i m).start = m.start ∧
    (Module.refuseSlot i m).seq = m.seq ∧
    (Module.refuseSlot i m).data = m.data ∧
    (Module.refuseSlot i m).image = m.image ∧
    (Module.refuseSlot i m).load = m.load ∧
    (Module.refuseSlot i m).couriers = m.couriers ∧
    (Module.refuseSlot i m).trig = m.trig ∧
    (Module.refuseSlot i m).trace = m.trace ∧
    (Module.refuseSlot i m).fabric = m.fabric ∧
    (Module.refuseSlot i m).lanes = m.lanes ∧
    (Module.refuseSlot i m).bundles = m.bundles ∧
    (Module.refuseSlot i m).disc = m.disc ∧
    (Module.refuseSlot i m).store = m.store ∧
    (Module.refuseSlot i m).sec = m.sec ∧
    (Module.refuseSlot i m).stew = m.stew ∧
    (Module.refuseSlot i m).scrub = m.scrub ∧
    (Module.refuseSlot i m).hbm = m.hbm ∧
    (Module.refuseSlot i m).outbox = m.outbox := by
  unfold Module.refuseSlot; simp

@[simp] theorem txnOpen_frame (i : Nat) (scope : Bool) (m : Module) :
    (Module.txnOpen i scope m).regs = m.regs ∧
    (Module.txnOpen i scope m).ctl = m.ctl ∧
    (Module.txnOpen i scope m).pins = m.pins ∧
    (Module.txnOpen i scope m).start = m.start ∧
    (Module.txnOpen i scope m).seq = m.seq ∧
    (Module.txnOpen i scope m).data = m.data ∧
    (Module.txnOpen i scope m).image = m.image ∧
    (Module.txnOpen i scope m).load = m.load ∧
    (Module.txnOpen i scope m).couriers = m.couriers ∧
    (Module.txnOpen i scope m).trig = m.trig ∧
    (Module.txnOpen i scope m).trace = m.trace ∧
    (Module.txnOpen i scope m).fabric = m.fabric ∧
    (Module.txnOpen i scope m).lanes = m.lanes ∧
    (Module.txnOpen i scope m).bundles = m.bundles ∧
    (Module.txnOpen i scope m).disc = m.disc ∧
    (Module.txnOpen i scope m).store = m.store ∧
    (Module.txnOpen i scope m).sec = m.sec ∧
    (Module.txnOpen i scope m).stew = m.stew ∧
    (Module.txnOpen i scope m).scrub = m.scrub ∧
    (Module.txnOpen i scope m).hbm = m.hbm ∧
    (Module.txnOpen i scope m).outbox = m.outbox := by
  unfold Module.txnOpen; simp

@[simp] theorem txnSubmit_frame (i whenMode count : Nat) (m : Module) :
    (Module.txnSubmit i whenMode count m).regs = m.regs ∧
    (Module.txnSubmit i whenMode count m).ctl = m.ctl ∧
    (Module.txnSubmit i whenMode count m).pins = m.pins ∧
    (Module.txnSubmit i whenMode count m).start = m.start ∧
    (Module.txnSubmit i whenMode count m).seq = m.seq ∧
    (Module.txnSubmit i whenMode count m).data = m.data ∧
    (Module.txnSubmit i whenMode count m).image = m.image ∧
    (Module.txnSubmit i whenMode count m).load = m.load ∧
    (Module.txnSubmit i whenMode count m).couriers = m.couriers ∧
    (Module.txnSubmit i whenMode count m).trig = m.trig ∧
    (Module.txnSubmit i whenMode count m).trace = m.trace ∧
    (Module.txnSubmit i whenMode count m).fabric = m.fabric ∧
    (Module.txnSubmit i whenMode count m).lanes = m.lanes ∧
    (Module.txnSubmit i whenMode count m).bundles = m.bundles ∧
    (Module.txnSubmit i whenMode count m).disc = m.disc ∧
    (Module.txnSubmit i whenMode count m).store = m.store ∧
    (Module.txnSubmit i whenMode count m).sec = m.sec ∧
    (Module.txnSubmit i whenMode count m).stew = m.stew ∧
    (Module.txnSubmit i whenMode count m).scrub = m.scrub ∧
    (Module.txnSubmit i whenMode count m).hbm = m.hbm ∧
    (Module.txnSubmit i whenMode count m).outbox = m.outbox := by
  unfold Module.txnSubmit; simp

@[simp] theorem txnCancel_frame (i : Nat) (m : Module) :
    (Module.txnCancel i m).ctl = m.ctl ∧
    (Module.txnCancel i m).pins = m.pins ∧
    (Module.txnCancel i m).start = m.start ∧
    (Module.txnCancel i m).seq = m.seq ∧
    (Module.txnCancel i m).data = m.data ∧
    (Module.txnCancel i m).image = m.image ∧
    (Module.txnCancel i m).load = m.load ∧
    (Module.txnCancel i m).couriers = m.couriers ∧
    (Module.txnCancel i m).trig = m.trig ∧
    (Module.txnCancel i m).trace = m.trace ∧
    (Module.txnCancel i m).lanes = m.lanes ∧
    (Module.txnCancel i m).bundles = m.bundles ∧
    (Module.txnCancel i m).disc = m.disc ∧
    (Module.txnCancel i m).store = m.store ∧
    (Module.txnCancel i m).sec = m.sec ∧
    (Module.txnCancel i m).scrub = m.scrub := by
  unfold Module.txnCancel; simp

@[simp] theorem txnClose_frame (i : Nat) (m : Module) :
    (Module.txnClose i m).regs = m.regs ∧
    (Module.txnClose i m).ctl = m.ctl ∧
    (Module.txnClose i m).pins = m.pins ∧
    (Module.txnClose i m).start = m.start ∧
    (Module.txnClose i m).seq = m.seq ∧
    (Module.txnClose i m).data = m.data ∧
    (Module.txnClose i m).image = m.image ∧
    (Module.txnClose i m).load = m.load ∧
    (Module.txnClose i m).couriers = m.couriers ∧
    (Module.txnClose i m).trig = m.trig ∧
    (Module.txnClose i m).trace = m.trace ∧
    (Module.txnClose i m).fabric = m.fabric ∧
    (Module.txnClose i m).lanes = m.lanes ∧
    (Module.txnClose i m).bundles = m.bundles ∧
    (Module.txnClose i m).disc = m.disc ∧
    (Module.txnClose i m).store = m.store ∧
    (Module.txnClose i m).sec = m.sec ∧
    (Module.txnClose i m).stew = m.stew ∧
    (Module.txnClose i m).scrub = m.scrub ∧
    (Module.txnClose i m).hbm = m.hbm ∧
    (Module.txnClose i m).outbox = m.outbox := by
  unfold Module.txnClose; simp

@[simp] theorem txnValidated_frame (i : Nat) (m : Module) :
    (Module.txnValidated i m).ctl = m.ctl ∧
    (Module.txnValidated i m).pins = m.pins ∧
    (Module.txnValidated i m).start = m.start ∧
    (Module.txnValidated i m).seq = m.seq ∧
    (Module.txnValidated i m).data = m.data ∧
    (Module.txnValidated i m).image = m.image ∧
    (Module.txnValidated i m).load = m.load ∧
    (Module.txnValidated i m).couriers = m.couriers ∧
    (Module.txnValidated i m).trig = m.trig ∧
    (Module.txnValidated i m).trace = m.trace ∧
    (Module.txnValidated i m).lanes = m.lanes ∧
    (Module.txnValidated i m).bundles = m.bundles ∧
    (Module.txnValidated i m).disc = m.disc ∧
    (Module.txnValidated i m).store = m.store ∧
    (Module.txnValidated i m).sec = m.sec ∧
    (Module.txnValidated i m).scrub = m.scrub := by
  unfold Module.txnValidated; (try dsimp only); (repeat' split) <;> simp

@[simp] theorem tipStatus_frame (key state : Nat) (m : Module) :
    (Module.tipStatus key state m).ctl = m.ctl ∧
    (Module.tipStatus key state m).pins = m.pins ∧
    (Module.tipStatus key state m).start = m.start ∧
    (Module.tipStatus key state m).seq = m.seq ∧
    (Module.tipStatus key state m).data = m.data ∧
    (Module.tipStatus key state m).image = m.image ∧
    (Module.tipStatus key state m).load = m.load ∧
    (Module.tipStatus key state m).txn = m.txn ∧
    (Module.tipStatus key state m).couriers = m.couriers ∧
    (Module.tipStatus key state m).trig = m.trig ∧
    (Module.tipStatus key state m).trace = m.trace ∧
    (Module.tipStatus key state m).fabric = m.fabric ∧
    (Module.tipStatus key state m).lanes = m.lanes ∧
    (Module.tipStatus key state m).bundles = m.bundles ∧
    (Module.tipStatus key state m).disc = m.disc ∧
    (Module.tipStatus key state m).store = m.store ∧
    (Module.tipStatus key state m).sec = m.sec ∧
    (Module.tipStatus key state m).stew = m.stew ∧
    (Module.tipStatus key state m).scrub = m.scrub ∧
    (Module.tipStatus key state m).hbm = m.hbm ∧
    (Module.tipStatus key state m).outbox = m.outbox := by
  unfold Module.tipStatus; simp

@[simp] theorem setShadows_frame (quires : List Nat) (v : Shadow) (m : Module) :
    (Module.setShadows quires v m).regs = m.regs ∧
    (Module.setShadows quires v m).ctl = m.ctl ∧
    (Module.setShadows quires v m).pins = m.pins ∧
    (Module.setShadows quires v m).start = m.start ∧
    (Module.setShadows quires v m).seq = m.seq ∧
    (Module.setShadows quires v m).image = m.image ∧
    (Module.setShadows quires v m).load = m.load ∧
    (Module.setShadows quires v m).txn = m.txn ∧
    (Module.setShadows quires v m).couriers = m.couriers ∧
    (Module.setShadows quires v m).trig = m.trig ∧
    (Module.setShadows quires v m).trace = m.trace ∧
    (Module.setShadows quires v m).fabric = m.fabric ∧
    (Module.setShadows quires v m).lanes = m.lanes ∧
    (Module.setShadows quires v m).bundles = m.bundles ∧
    (Module.setShadows quires v m).disc = m.disc ∧
    (Module.setShadows quires v m).store = m.store ∧
    (Module.setShadows quires v m).sec = m.sec ∧
    (Module.setShadows quires v m).stew = m.stew ∧
    (Module.setShadows quires v m).scrub = m.scrub ∧
    (Module.setShadows quires v m).hbm = m.hbm ∧
    (Module.setShadows quires v m).outbox = m.outbox := by
  unfold Module.setShadows; simp

@[simp] theorem startPreload_frame (key quarter : Nat) (quires : List Nat) (discard : Bool) (m : Module) :
    (Module.startPreload key quarter quires discard m).ctl = m.ctl ∧
    (Module.startPreload key quarter quires discard m).pins = m.pins ∧
    (Module.startPreload key quarter quires discard m).start = m.start ∧
    (Module.startPreload key quarter quires discard m).seq = m.seq ∧
    (Module.startPreload key quarter quires discard m).image = m.image ∧
    (Module.startPreload key quarter quires discard m).load = m.load ∧
    (Module.startPreload key quarter quires discard m).couriers = m.couriers ∧
    (Module.startPreload key quarter quires discard m).trig = m.trig ∧
    (Module.startPreload key quarter quires discard m).trace = m.trace ∧
    (Module.startPreload key quarter quires discard m).fabric = m.fabric ∧
    (Module.startPreload key quarter quires discard m).lanes = m.lanes ∧
    (Module.startPreload key quarter quires discard m).bundles = m.bundles ∧
    (Module.startPreload key quarter quires discard m).disc = m.disc ∧
    (Module.startPreload key quarter quires discard m).store = m.store ∧
    (Module.startPreload key quarter quires discard m).sec = m.sec ∧
    (Module.startPreload key quarter quires discard m).scrub = m.scrub ∧
    (Module.startPreload key quarter quires discard m).hbm = m.hbm ∧
    (Module.startPreload key quarter quires discard m).outbox = m.outbox := by
  unfold Module.startPreload; simp

@[simp] theorem tipPreload_frame (key : Nat) (discard : Bool) (m : Module) :
    (Module.tipPreload key discard m).ctl = m.ctl ∧
    (Module.tipPreload key discard m).pins = m.pins ∧
    (Module.tipPreload key discard m).start = m.start ∧
    (Module.tipPreload key discard m).seq = m.seq ∧
    (Module.tipPreload key discard m).image = m.image ∧
    (Module.tipPreload key discard m).load = m.load ∧
    (Module.tipPreload key discard m).couriers = m.couriers ∧
    (Module.tipPreload key discard m).trig = m.trig ∧
    (Module.tipPreload key discard m).trace = m.trace ∧
    (Module.tipPreload key discard m).fabric = m.fabric ∧
    (Module.tipPreload key discard m).lanes = m.lanes ∧
    (Module.tipPreload key discard m).bundles = m.bundles ∧
    (Module.tipPreload key discard m).disc = m.disc ∧
    (Module.tipPreload key discard m).store = m.store ∧
    (Module.tipPreload key discard m).sec = m.sec ∧
    (Module.tipPreload key discard m).scrub = m.scrub ∧
    (Module.tipPreload key discard m).hbm = m.hbm ∧
    (Module.tipPreload key discard m).outbox = m.outbox := by
  unfold Module.tipPreload; (try dsimp only); (repeat' split) <;> simp

@[simp] theorem tipPreloadImage_frame (quarter : Nat) (discard : Bool) (m : Module) :
    (Module.tipPreloadImage quarter discard m).ctl = m.ctl ∧
    (Module.tipPreloadImage quarter discard m).pins = m.pins ∧
    (Module.tipPreloadImage quarter discard m).start = m.start ∧
    (Module.tipPreloadImage quarter discard m).seq = m.seq ∧
    (Module.tipPreloadImage quarter discard m).image = m.image ∧
    (Module.tipPreloadImage quarter discard m).load = m.load ∧
    (Module.tipPreloadImage quarter discard m).couriers = m.couriers ∧
    (Module.tipPreloadImage quarter discard m).trig = m.trig ∧
    (Module.tipPreloadImage quarter discard m).trace = m.trace ∧
    (Module.tipPreloadImage quarter discard m).fabric = m.fabric ∧
    (Module.tipPreloadImage quarter discard m).lanes = m.lanes ∧
    (Module.tipPreloadImage quarter discard m).bundles = m.bundles ∧
    (Module.tipPreloadImage quarter discard m).disc = m.disc ∧
    (Module.tipPreloadImage quarter discard m).store = m.store ∧
    (Module.tipPreloadImage quarter discard m).sec = m.sec ∧
    (Module.tipPreloadImage quarter discard m).scrub = m.scrub ∧
    (Module.tipPreloadImage quarter discard m).hbm = m.hbm ∧
    (Module.tipPreloadImage quarter discard m).outbox = m.outbox := by
  unfold Module.tipPreloadImage; (try dsimp only); (repeat' split) <;> simp

@[simp] theorem preloadFail_frame (p : Preload) (check : Nat) (m : Module) :
    (Module.preloadFail p check m).ctl = m.ctl ∧
    (Module.preloadFail p check m).pins = m.pins ∧
    (Module.preloadFail p check m).start = m.start ∧
    (Module.preloadFail p check m).seq = m.seq ∧
    (Module.preloadFail p check m).image = m.image ∧
    (Module.preloadFail p check m).load = m.load ∧
    (Module.preloadFail p check m).couriers = m.couriers ∧
    (Module.preloadFail p check m).trig = m.trig ∧
    (Module.preloadFail p check m).trace = m.trace ∧
    (Module.preloadFail p check m).fabric = m.fabric ∧
    (Module.preloadFail p check m).lanes = m.lanes ∧
    (Module.preloadFail p check m).bundles = m.bundles ∧
    (Module.preloadFail p check m).disc = m.disc ∧
    (Module.preloadFail p check m).store = m.store ∧
    (Module.preloadFail p check m).sec = m.sec ∧
    (Module.preloadFail p check m).scrub = m.scrub ∧
    (Module.preloadFail p check m).hbm = m.hbm ∧
    (Module.preloadFail p check m).outbox = m.outbox := by
  unfold Module.preloadFail; simp

@[simp] theorem preloadOk_frame (p : Preload) (m : Module) :
    (Module.preloadOk p m).ctl = m.ctl ∧
    (Module.preloadOk p m).pins = m.pins ∧
    (Module.preloadOk p m).start = m.start ∧
    (Module.preloadOk p m).seq = m.seq ∧
    (Module.preloadOk p m).image = m.image ∧
    (Module.preloadOk p m).load = m.load ∧
    (Module.preloadOk p m).couriers = m.couriers ∧
    (Module.preloadOk p m).trig = m.trig ∧
    (Module.preloadOk p m).trace = m.trace ∧
    (Module.preloadOk p m).fabric = m.fabric ∧
    (Module.preloadOk p m).lanes = m.lanes ∧
    (Module.preloadOk p m).bundles = m.bundles ∧
    (Module.preloadOk p m).disc = m.disc ∧
    (Module.preloadOk p m).store = m.store ∧
    (Module.preloadOk p m).sec = m.sec ∧
    (Module.preloadOk p m).scrub = m.scrub ∧
    (Module.preloadOk p m).hbm = m.hbm ∧
    (Module.preloadOk p m).outbox = m.outbox := by
  unfold Module.preloadOk; simp

@[simp] theorem preloadDone_frame (chk : SectorCheck) (p : Preload) (m : Module) :
    (Module.preloadDone chk p m).pins = m.pins ∧
    (Module.preloadDone chk p m).image = m.image ∧
    (Module.preloadDone chk p m).trig = m.trig ∧
    (Module.preloadDone chk p m).trace = m.trace := by
  unfold Module.preloadDone; (try dsimp only); (repeat' split) <;> simp

@[simp] theorem respond_frame (st value : Nat) (m : Module) :
    (Module.respond st value m).regs = m.regs ∧
    (Module.respond st value m).ctl = m.ctl ∧
    (Module.respond st value m).pins = m.pins ∧
    (Module.respond st value m).start = m.start ∧
    (Module.respond st value m).seq = m.seq ∧
    (Module.respond st value m).data = m.data ∧
    (Module.respond st value m).image = m.image ∧
    (Module.respond st value m).load = m.load ∧
    (Module.respond st value m).couriers = m.couriers ∧
    (Module.respond st value m).trig = m.trig ∧
    (Module.respond st value m).trace = m.trace ∧
    (Module.respond st value m).fabric = m.fabric ∧
    (Module.respond st value m).lanes = m.lanes ∧
    (Module.respond st value m).bundles = m.bundles ∧
    (Module.respond st value m).disc = m.disc ∧
    (Module.respond st value m).store = m.store ∧
    (Module.respond st value m).sec = m.sec ∧
    (Module.respond st value m).stew = m.stew ∧
    (Module.respond st value m).scrub = m.scrub ∧
    (Module.respond st value m).hbm = m.hbm ∧
    (Module.respond st value m).outbox = m.outbox := by
  unfold Module.respond; simp

@[simp] theorem inspIm_frame (key : Nat) (m : Module) :
    (Module.inspIm key m).regs = m.regs ∧
    (Module.inspIm key m).ctl = m.ctl ∧
    (Module.inspIm key m).pins = m.pins ∧
    (Module.inspIm key m).start = m.start ∧
    (Module.inspIm key m).seq = m.seq ∧
    (Module.inspIm key m).data = m.data ∧
    (Module.inspIm key m).image = m.image ∧
    (Module.inspIm key m).load = m.load ∧
    (Module.inspIm key m).couriers = m.couriers ∧
    (Module.inspIm key m).trig = m.trig ∧
    (Module.inspIm key m).trace = m.trace ∧
    (Module.inspIm key m).fabric = m.fabric ∧
    (Module.inspIm key m).lanes = m.lanes ∧
    (Module.inspIm key m).bundles = m.bundles ∧
    (Module.inspIm key m).disc = m.disc ∧
    (Module.inspIm key m).store = m.store ∧
    (Module.inspIm key m).sec = m.sec ∧
    (Module.inspIm key m).stew = m.stew ∧
    (Module.inspIm key m).scrub = m.scrub ∧
    (Module.inspIm key m).hbm = m.hbm ∧
    (Module.inspIm key m).outbox = m.outbox := by
  unfold Module.inspIm; simp

@[simp] theorem inspDmb_frame (addr : Nat) (stored : Bool) (m : Module) :
    (Module.inspDmb addr stored m).ctl = m.ctl ∧
    (Module.inspDmb addr stored m).pins = m.pins ∧
    (Module.inspDmb addr stored m).start = m.start ∧
    (Module.inspDmb addr stored m).seq = m.seq ∧
    (Module.inspDmb addr stored m).data = m.data ∧
    (Module.inspDmb addr stored m).image = m.image ∧
    (Module.inspDmb addr stored m).load = m.load ∧
    (Module.inspDmb addr stored m).couriers = m.couriers ∧
    (Module.inspDmb addr stored m).trig = m.trig ∧
    (Module.inspDmb addr stored m).trace = m.trace ∧
    (Module.inspDmb addr stored m).fabric = m.fabric ∧
    (Module.inspDmb addr stored m).lanes = m.lanes ∧
    (Module.inspDmb addr stored m).bundles = m.bundles ∧
    (Module.inspDmb addr stored m).disc = m.disc ∧
    (Module.inspDmb addr stored m).store = m.store ∧
    (Module.inspDmb addr stored m).sec = m.sec ∧
    (Module.inspDmb addr stored m).scrub = m.scrub ∧
    (Module.inspDmb addr stored m).hbm = m.hbm ∧
    (Module.inspDmb addr stored m).outbox = m.outbox := by
  unfold Module.inspDmb; simp

@[simp] theorem freePad_frame (m : Module) :
    (Module.freePad m).2.regs = m.regs ∧
    (Module.freePad m).2.ctl = m.ctl ∧
    (Module.freePad m).2.pins = m.pins ∧
    (Module.freePad m).2.start = m.start ∧
    (Module.freePad m).2.seq = m.seq ∧
    (Module.freePad m).2.data = m.data ∧
    (Module.freePad m).2.image = m.image ∧
    (Module.freePad m).2.load = m.load ∧
    (Module.freePad m).2.txn = m.txn ∧
    (Module.freePad m).2.couriers = m.couriers ∧
    (Module.freePad m).2.trig = m.trig ∧
    (Module.freePad m).2.trace = m.trace ∧
    (Module.freePad m).2.fabric = m.fabric ∧
    (Module.freePad m).2.lanes = m.lanes ∧
    (Module.freePad m).2.bundles = m.bundles ∧
    (Module.freePad m).2.disc = m.disc ∧
    (Module.freePad m).2.store = m.store ∧
    (Module.freePad m).2.stew = m.stew ∧
    (Module.freePad m).2.scrub = m.scrub ∧
    (Module.freePad m).2.hbm = m.hbm ∧
    (Module.freePad m).2.outbox = m.outbox := by
  unfold Module.freePad; simp

@[simp] theorem inspRead_frame (op t d : Nat) (m : Module) :
    (Module.inspRead op t d m).ctl = m.ctl ∧
    (Module.inspRead op t d m).pins = m.pins ∧
    (Module.inspRead op t d m).start = m.start ∧
    (Module.inspRead op t d m).seq = m.seq ∧
    (Module.inspRead op t d m).data = m.data ∧
    (Module.inspRead op t d m).image = m.image ∧
    (Module.inspRead op t d m).load = m.load ∧
    (Module.inspRead op t d m).couriers = m.couriers ∧
    (Module.inspRead op t d m).trig = m.trig ∧
    (Module.inspRead op t d m).trace = m.trace ∧
    (Module.inspRead op t d m).fabric = m.fabric ∧
    (Module.inspRead op t d m).lanes = m.lanes ∧
    (Module.inspRead op t d m).bundles = m.bundles ∧
    (Module.inspRead op t d m).disc = m.disc ∧
    (Module.inspRead op t d m).store = m.store ∧
    (Module.inspRead op t d m).sec = m.sec ∧
    (Module.inspRead op t d m).scrub = m.scrub ∧
    (Module.inspRead op t d m).hbm = m.hbm ∧
    (Module.inspRead op t d m).outbox = m.outbox := by
  unfold Module.inspRead; (try dsimp only); (repeat' split) <;> simp

@[simp] theorem inspWaited_frame (m : Module) (op t d : Nat) :
    (Module.inspWaited m op t d).ctl = m.ctl ∧
    (Module.inspWaited m op t d).pins = m.pins ∧
    (Module.inspWaited m op t d).start = m.start ∧
    (Module.inspWaited m op t d).seq = m.seq ∧
    (Module.inspWaited m op t d).data = m.data ∧
    (Module.inspWaited m op t d).image = m.image ∧
    (Module.inspWaited m op t d).load = m.load ∧
    (Module.inspWaited m op t d).couriers = m.couriers ∧
    (Module.inspWaited m op t d).trig = m.trig ∧
    (Module.inspWaited m op t d).trace = m.trace ∧
    (Module.inspWaited m op t d).fabric = m.fabric ∧
    (Module.inspWaited m op t d).lanes = m.lanes ∧
    (Module.inspWaited m op t d).bundles = m.bundles ∧
    (Module.inspWaited m op t d).disc = m.disc ∧
    (Module.inspWaited m op t d).store = m.store ∧
    (Module.inspWaited m op t d).scrub = m.scrub ∧
    (Module.inspWaited m op t d).hbm = m.hbm ∧
    (Module.inspWaited m op t d).outbox = m.outbox := by
  unfold Module.inspWaited; simp

@[simp] theorem inspServe_frame (m : Module) :
    (Module.inspServe m).ctl = m.ctl ∧
    (Module.inspServe m).pins = m.pins ∧
    (Module.inspServe m).start = m.start ∧
    (Module.inspServe m).seq = m.seq ∧
    (Module.inspServe m).data = m.data ∧
    (Module.inspServe m).image = m.image ∧
    (Module.inspServe m).load = m.load ∧
    (Module.inspServe m).couriers = m.couriers ∧
    (Module.inspServe m).trig = m.trig ∧
    (Module.inspServe m).trace = m.trace ∧
    (Module.inspServe m).fabric = m.fabric ∧
    (Module.inspServe m).lanes = m.lanes ∧
    (Module.inspServe m).bundles = m.bundles ∧
    (Module.inspServe m).disc = m.disc ∧
    (Module.inspServe m).store = m.store ∧
    (Module.inspServe m).scrub = m.scrub ∧
    (Module.inspServe m).hbm = m.hbm ∧
    (Module.inspServe m).outbox = m.outbox := by
  unfold Module.inspServe; simp

@[simp] theorem inspWrite_frame (op t d : Nat) (m : Module) :
    (Module.inspWrite op t d m).regs = m.regs ∧
    (Module.inspWrite op t d m).ctl = m.ctl ∧
    (Module.inspWrite op t d m).pins = m.pins ∧
    (Module.inspWrite op t d m).start = m.start ∧
    (Module.inspWrite op t d m).seq = m.seq ∧
    (Module.inspWrite op t d m).image = m.image ∧
    (Module.inspWrite op t d m).load = m.load ∧
    (Module.inspWrite op t d m).couriers = m.couriers ∧
    (Module.inspWrite op t d m).trig = m.trig ∧
    (Module.inspWrite op t d m).trace = m.trace ∧
    (Module.inspWrite op t d m).fabric = m.fabric ∧
    (Module.inspWrite op t d m).lanes = m.lanes ∧
    (Module.inspWrite op t d m).bundles = m.bundles ∧
    (Module.inspWrite op t d m).disc = m.disc ∧
    (Module.inspWrite op t d m).store = m.store ∧
    (Module.inspWrite op t d m).sec = m.sec ∧
    (Module.inspWrite op t d m).stew = m.stew ∧
    (Module.inspWrite op t d m).scrub = m.scrub ∧
    (Module.inspWrite op t d m).hbm = m.hbm ∧
    (Module.inspWrite op t d m).outbox = m.outbox := by
  unfold Module.inspWrite; (try dsimp only); (repeat' split) <;> simp

@[simp] theorem inspAppend_frame (op t d : Nat) (m : Module) :
    (Module.inspAppend op t d m).regs = m.regs ∧
    (Module.inspAppend op t d m).ctl = m.ctl ∧
    (Module.inspAppend op t d m).pins = m.pins ∧
    (Module.inspAppend op t d m).start = m.start ∧
    (Module.inspAppend op t d m).seq = m.seq ∧
    (Module.inspAppend op t d m).data = m.data ∧
    (Module.inspAppend op t d m).image = m.image ∧
    (Module.inspAppend op t d m).load = m.load ∧
    (Module.inspAppend op t d m).couriers = m.couriers ∧
    (Module.inspAppend op t d m).trig = m.trig ∧
    (Module.inspAppend op t d m).trace = m.trace ∧
    (Module.inspAppend op t d m).fabric = m.fabric ∧
    (Module.inspAppend op t d m).lanes = m.lanes ∧
    (Module.inspAppend op t d m).bundles = m.bundles ∧
    (Module.inspAppend op t d m).disc = m.disc ∧
    (Module.inspAppend op t d m).store = m.store ∧
    (Module.inspAppend op t d m).sec = m.sec ∧
    (Module.inspAppend op t d m).stew = m.stew ∧
    (Module.inspAppend op t d m).scrub = m.scrub ∧
    (Module.inspAppend op t d m).hbm = m.hbm ∧
    (Module.inspAppend op t d m).outbox = m.outbox := by
  unfold Module.inspAppend; simp

@[simp] theorem inspReadCmd_frame (op : Nat) (t d : Nat) (m : Module) :
    (Module.inspReadCmd op t d m).ctl = m.ctl ∧
    (Module.inspReadCmd op t d m).pins = m.pins ∧
    (Module.inspReadCmd op t d m).start = m.start ∧
    (Module.inspReadCmd op t d m).seq = m.seq ∧
    (Module.inspReadCmd op t d m).data = m.data ∧
    (Module.inspReadCmd op t d m).image = m.image ∧
    (Module.inspReadCmd op t d m).load = m.load ∧
    (Module.inspReadCmd op t d m).couriers = m.couriers ∧
    (Module.inspReadCmd op t d m).trig = m.trig ∧
    (Module.inspReadCmd op t d m).trace = m.trace ∧
    (Module.inspReadCmd op t d m).fabric = m.fabric ∧
    (Module.inspReadCmd op t d m).lanes = m.lanes ∧
    (Module.inspReadCmd op t d m).bundles = m.bundles ∧
    (Module.inspReadCmd op t d m).disc = m.disc ∧
    (Module.inspReadCmd op t d m).store = m.store ∧
    (Module.inspReadCmd op t d m).sec = m.sec ∧
    (Module.inspReadCmd op t d m).scrub = m.scrub ∧
    (Module.inspReadCmd op t d m).hbm = m.hbm ∧
    (Module.inspReadCmd op t d m).outbox = m.outbox := by
  unfold Module.inspReadCmd; simp

@[simp] theorem inspWriteCmd_frame (op : Nat) (t d : Nat) (m : Module) :
    (Module.inspWriteCmd op t d m).regs = m.regs ∧
    (Module.inspWriteCmd op t d m).ctl = m.ctl ∧
    (Module.inspWriteCmd op t d m).pins = m.pins ∧
    (Module.inspWriteCmd op t d m).start = m.start ∧
    (Module.inspWriteCmd op t d m).seq = m.seq ∧
    (Module.inspWriteCmd op t d m).image = m.image ∧
    (Module.inspWriteCmd op t d m).load = m.load ∧
    (Module.inspWriteCmd op t d m).couriers = m.couriers ∧
    (Module.inspWriteCmd op t d m).trig = m.trig ∧
    (Module.inspWriteCmd op t d m).trace = m.trace ∧
    (Module.inspWriteCmd op t d m).fabric = m.fabric ∧
    (Module.inspWriteCmd op t d m).lanes = m.lanes ∧
    (Module.inspWriteCmd op t d m).bundles = m.bundles ∧
    (Module.inspWriteCmd op t d m).disc = m.disc ∧
    (Module.inspWriteCmd op t d m).store = m.store ∧
    (Module.inspWriteCmd op t d m).sec = m.sec ∧
    (Module.inspWriteCmd op t d m).stew = m.stew ∧
    (Module.inspWriteCmd op t d m).scrub = m.scrub ∧
    (Module.inspWriteCmd op t d m).hbm = m.hbm ∧
    (Module.inspWriteCmd op t d m).outbox = m.outbox := by
  unfold Module.inspWriteCmd; simp

@[simp] theorem inspR_frame (op : Nat) (rsv : BitVec 24) (target : BitVec 32) (data : Word) (m : Module) :
    (Module.inspR op rsv target data m).ctl = m.ctl ∧
    (Module.inspR op rsv target data m).pins = m.pins ∧
    (Module.inspR op rsv target data m).start = m.start ∧
    (Module.inspR op rsv target data m).seq = m.seq ∧
    (Module.inspR op rsv target data m).data = m.data ∧
    (Module.inspR op rsv target data m).image = m.image ∧
    (Module.inspR op rsv target data m).load = m.load ∧
    (Module.inspR op rsv target data m).couriers = m.couriers ∧
    (Module.inspR op rsv target data m).trig = m.trig ∧
    (Module.inspR op rsv target data m).trace = m.trace ∧
    (Module.inspR op rsv target data m).fabric = m.fabric ∧
    (Module.inspR op rsv target data m).lanes = m.lanes ∧
    (Module.inspR op rsv target data m).bundles = m.bundles ∧
    (Module.inspR op rsv target data m).disc = m.disc ∧
    (Module.inspR op rsv target data m).store = m.store ∧
    (Module.inspR op rsv target data m).sec = m.sec ∧
    (Module.inspR op rsv target data m).scrub = m.scrub ∧
    (Module.inspR op rsv target data m).hbm = m.hbm ∧
    (Module.inspR op rsv target data m).outbox = m.outbox := by
  unfold Module.inspR Module.inspStart
  dsimp only
  (repeat' split) <;> simp

@[simp] theorem inspW_frame (op : Nat) (rsv : BitVec 24) (target : BitVec 32) (data : Word) (m : Module) :
    (Module.inspW op rsv target data m).regs = m.regs ∧
    (Module.inspW op rsv target data m).ctl = m.ctl ∧
    (Module.inspW op rsv target data m).pins = m.pins ∧
    (Module.inspW op rsv target data m).start = m.start ∧
    (Module.inspW op rsv target data m).seq = m.seq ∧
    (Module.inspW op rsv target data m).image = m.image ∧
    (Module.inspW op rsv target data m).load = m.load ∧
    (Module.inspW op rsv target data m).couriers = m.couriers ∧
    (Module.inspW op rsv target data m).trig = m.trig ∧
    (Module.inspW op rsv target data m).trace = m.trace ∧
    (Module.inspW op rsv target data m).fabric = m.fabric ∧
    (Module.inspW op rsv target data m).lanes = m.lanes ∧
    (Module.inspW op rsv target data m).bundles = m.bundles ∧
    (Module.inspW op rsv target data m).disc = m.disc ∧
    (Module.inspW op rsv target data m).store = m.store ∧
    (Module.inspW op rsv target data m).sec = m.sec ∧
    (Module.inspW op rsv target data m).stew = m.stew ∧
    (Module.inspW op rsv target data m).scrub = m.scrub ∧
    (Module.inspW op rsv target data m).hbm = m.hbm ∧
    (Module.inspW op rsv target data m).outbox = m.outbox := by
  unfold Module.inspW Module.inspStart
  dsimp only
  (repeat' split) <;> simp

@[simp] theorem inspReserved_frame (op : Nat) (m : Module) :
    (Module.inspReserved op m).regs = m.regs ∧
    (Module.inspReserved op m).ctl = m.ctl ∧
    (Module.inspReserved op m).pins = m.pins ∧
    (Module.inspReserved op m).start = m.start ∧
    (Module.inspReserved op m).seq = m.seq ∧
    (Module.inspReserved op m).data = m.data ∧
    (Module.inspReserved op m).image = m.image ∧
    (Module.inspReserved op m).load = m.load ∧
    (Module.inspReserved op m).couriers = m.couriers ∧
    (Module.inspReserved op m).trig = m.trig ∧
    (Module.inspReserved op m).trace = m.trace ∧
    (Module.inspReserved op m).fabric = m.fabric ∧
    (Module.inspReserved op m).lanes = m.lanes ∧
    (Module.inspReserved op m).bundles = m.bundles ∧
    (Module.inspReserved op m).disc = m.disc ∧
    (Module.inspReserved op m).store = m.store ∧
    (Module.inspReserved op m).sec = m.sec ∧
    (Module.inspReserved op m).stew = m.stew ∧
    (Module.inspReserved op m).scrub = m.scrub ∧
    (Module.inspReserved op m).hbm = m.hbm ∧
    (Module.inspReserved op m).outbox = m.outbox := by
  unfold Module.inspReserved; (try dsimp only); (repeat' split) <;> simp

end Sys2Proof.Machine
end

