-- ==== Sys2Proof/Laws/FrameStitch.lean ====
section
/-! SUPPORT. Laws/FrameStitch.lean: for each operation of the stitch and the issue of a step, the parts of the module that it
never changes. -/

namespace Sys2Proof.Machine

@[simp] theorem setSeq_frame (f : Seq → Seq) (m : Module) :
    (Module.setSeq f m).regs = m.regs ∧
    (Module.setSeq f m).ctl = m.ctl ∧
    (Module.setSeq f m).pins = m.pins ∧
    (Module.setSeq f m).start = m.start ∧
    (Module.setSeq f m).data = m.data ∧
    (Module.setSeq f m).image = m.image ∧
    (Module.setSeq f m).load = m.load ∧
    (Module.setSeq f m).txn = m.txn ∧
    (Module.setSeq f m).couriers = m.couriers ∧
    (Module.setSeq f m).trig = m.trig ∧
    (Module.setSeq f m).trace = m.trace ∧
    (Module.setSeq f m).fabric = m.fabric ∧
    (Module.setSeq f m).lanes = m.lanes ∧
    (Module.setSeq f m).bundles = m.bundles ∧
    (Module.setSeq f m).disc = m.disc ∧
    (Module.setSeq f m).store = m.store ∧
    (Module.setSeq f m).sec = m.sec ∧
    (Module.setSeq f m).stew = m.stew ∧
    (Module.setSeq f m).scrub = m.scrub ∧
    (Module.setSeq f m).hbm = m.hbm ∧
    (Module.setSeq f m).outbox = m.outbox := by
  unfold Module.setSeq; simp

@[simp] theorem postSector_frame (a tag : Nat) (v : BitVec 512) (m : Module) :
    (Module.postSector a tag v m).regs = m.regs ∧
    (Module.postSector a tag v m).ctl = m.ctl ∧
    (Module.postSector a tag v m).pins = m.pins ∧
    (Module.postSector a tag v m).start = m.start ∧
    (Module.postSector a tag v m).seq = m.seq ∧
    (Module.postSector a tag v m).data = m.data ∧
    (Module.postSector a tag v m).image = m.image ∧
    (Module.postSector a tag v m).load = m.load ∧
    (Module.postSector a tag v m).txn = m.txn ∧
    (Module.postSector a tag v m).couriers = m.couriers ∧
    (Module.postSector a tag v m).trig = m.trig ∧
    (Module.postSector a tag v m).trace = m.trace ∧
    (Module.postSector a tag v m).lanes = m.lanes ∧
    (Module.postSector a tag v m).bundles = m.bundles ∧
    (Module.postSector a tag v m).disc = m.disc ∧
    (Module.postSector a tag v m).store = m.store ∧
    (Module.postSector a tag v m).sec = m.sec ∧
    (Module.postSector a tag v m).stew = m.stew ∧
    (Module.postSector a tag v m).scrub = m.scrub ∧
    (Module.postSector a tag v m).hbm = m.hbm := by
  unfold Module.postSector; simp

@[simp] theorem askPre_frame (i : Nat) (m : Module) (k : Nat) :
    (Module.askPre i m k).ctl = m.ctl ∧
    (Module.askPre i m k).pins = m.pins ∧
    (Module.askPre i m k).start = m.start ∧
    (Module.askPre i m k).seq = m.seq ∧
    (Module.askPre i m k).data = m.data ∧
    (Module.askPre i m k).image = m.image ∧
    (Module.askPre i m k).load = m.load ∧
    (Module.askPre i m k).couriers = m.couriers ∧
    (Module.askPre i m k).trig = m.trig ∧
    (Module.askPre i m k).trace = m.trace ∧
    (Module.askPre i m k).lanes = m.lanes ∧
    (Module.askPre i m k).bundles = m.bundles ∧
    (Module.askPre i m k).disc = m.disc ∧
    (Module.askPre i m k).store = m.store ∧
    (Module.askPre i m k).sec = m.sec ∧
    (Module.askPre i m k).stew = m.stew ∧
    (Module.askPre i m k).scrub = m.scrub ∧
    (Module.askPre i m k).hbm = m.hbm := by
  unfold Module.askPre; (try dsimp only); (repeat' split) <;> simp

@[simp] theorem txnPump_frame (m : Module) :
    (Module.txnPump m).ctl = m.ctl ∧
    (Module.txnPump m).pins = m.pins ∧
    (Module.txnPump m).start = m.start ∧
    (Module.txnPump m).seq = m.seq ∧
    (Module.txnPump m).data = m.data ∧
    (Module.txnPump m).image = m.image ∧
    (Module.txnPump m).load = m.load ∧
    (Module.txnPump m).couriers = m.couriers ∧
    (Module.txnPump m).trig = m.trig ∧
    (Module.txnPump m).trace = m.trace ∧
    (Module.txnPump m).lanes = m.lanes ∧
    (Module.txnPump m).bundles = m.bundles ∧
    (Module.txnPump m).disc = m.disc ∧
    (Module.txnPump m).store = m.store ∧
    (Module.txnPump m).sec = m.sec ∧
    (Module.txnPump m).stew = m.stew ∧
    (Module.txnPump m).scrub = m.scrub ∧
    (Module.txnPump m).hbm = m.hbm := by
  unfold Module.txnPump; simp

@[simp] theorem startWrites_frame (m : Module) (i : Nat) :
    (Module.startWrites m i).ctl = m.ctl ∧
    (Module.startWrites m i).pins = m.pins ∧
    (Module.startWrites m i).start = m.start ∧
    (Module.startWrites m i).seq = m.seq ∧
    (Module.startWrites m i).data = m.data ∧
    (Module.startWrites m i).image = m.image ∧
    (Module.startWrites m i).load = m.load ∧
    (Module.startWrites m i).couriers = m.couriers ∧
    (Module.startWrites m i).trig = m.trig ∧
    (Module.startWrites m i).trace = m.trace ∧
    (Module.startWrites m i).lanes = m.lanes ∧
    (Module.startWrites m i).bundles = m.bundles ∧
    (Module.startWrites m i).disc = m.disc ∧
    (Module.startWrites m i).store = m.store ∧
    (Module.startWrites m i).sec = m.sec ∧
    (Module.startWrites m i).stew = m.stew ∧
    (Module.startWrites m i).scrub = m.scrub ∧
    (Module.startWrites m i).hbm = m.hbm := by
  unfold Module.startWrites; simp

@[simp] theorem rollOn_frame (i : Nat) (m : Module) :
    (Module.rollOn i m).ctl = m.ctl ∧
    (Module.rollOn i m).pins = m.pins ∧
    (Module.rollOn i m).start = m.start ∧
    (Module.rollOn i m).seq = m.seq ∧
    (Module.rollOn i m).data = m.data ∧
    (Module.rollOn i m).image = m.image ∧
    (Module.rollOn i m).load = m.load ∧
    (Module.rollOn i m).couriers = m.couriers ∧
    (Module.rollOn i m).trig = m.trig ∧
    (Module.rollOn i m).trace = m.trace ∧
    (Module.rollOn i m).lanes = m.lanes ∧
    (Module.rollOn i m).bundles = m.bundles ∧
    (Module.rollOn i m).disc = m.disc ∧
    (Module.rollOn i m).store = m.store ∧
    (Module.rollOn i m).sec = m.sec ∧
    (Module.rollOn i m).scrub = m.scrub := by
  unfold Module.rollOn; simp

@[simp] theorem preArrived_frame (tag status : Nat) (v : BitVec 512) (m : Module) :
    (Module.preArrived tag status v m).ctl = m.ctl ∧
    (Module.preArrived tag status v m).pins = m.pins ∧
    (Module.preArrived tag status v m).start = m.start ∧
    (Module.preArrived tag status v m).seq = m.seq ∧
    (Module.preArrived tag status v m).data = m.data ∧
    (Module.preArrived tag status v m).image = m.image ∧
    (Module.preArrived tag status v m).load = m.load ∧
    (Module.preArrived tag status v m).couriers = m.couriers ∧
    (Module.preArrived tag status v m).trig = m.trig ∧
    (Module.preArrived tag status v m).trace = m.trace ∧
    (Module.preArrived tag status v m).lanes = m.lanes ∧
    (Module.preArrived tag status v m).bundles = m.bundles ∧
    (Module.preArrived tag status v m).disc = m.disc ∧
    (Module.preArrived tag status v m).store = m.store ∧
    (Module.preArrived tag status v m).sec = m.sec ∧
    (Module.preArrived tag status v m).scrub = m.scrub := by
  unfold Module.preArrived; (try dsimp only); (repeat' split) <;> simp

@[simp] theorem holdCycles_frame (n : Nat) (m : Module) :
    (Module.holdCycles n m).ctl = m.ctl ∧
    (Module.holdCycles n m).pins = m.pins ∧
    (Module.holdCycles n m).start = m.start ∧
    (Module.holdCycles n m).data = m.data ∧
    (Module.holdCycles n m).image = m.image ∧
    (Module.holdCycles n m).load = m.load ∧
    (Module.holdCycles n m).txn = m.txn ∧
    (Module.holdCycles n m).couriers = m.couriers ∧
    (Module.holdCycles n m).trig = m.trig ∧
    (Module.holdCycles n m).trace = m.trace ∧
    (Module.holdCycles n m).fabric = m.fabric ∧
    (Module.holdCycles n m).lanes = m.lanes ∧
    (Module.holdCycles n m).bundles = m.bundles ∧
    (Module.holdCycles n m).disc = m.disc ∧
    (Module.holdCycles n m).store = m.store ∧
    (Module.holdCycles n m).sec = m.sec ∧
    (Module.holdCycles n m).stew = m.stew ∧
    (Module.holdCycles n m).scrub = m.scrub ∧
    (Module.holdCycles n m).hbm = m.hbm ∧
    (Module.holdCycles n m).outbox = m.outbox := by
  unfold Module.holdCycles; simp

@[simp] theorem hear_frame (t : Token) (m : Module) :
    (Module.hear t m).regs = m.regs ∧
    (Module.hear t m).ctl = m.ctl ∧
    (Module.hear t m).pins = m.pins ∧
    (Module.hear t m).start = m.start ∧
    (Module.hear t m).data = m.data ∧
    (Module.hear t m).image = m.image ∧
    (Module.hear t m).load = m.load ∧
    (Module.hear t m).txn = m.txn ∧
    (Module.hear t m).couriers = m.couriers ∧
    (Module.hear t m).trig = m.trig ∧
    (Module.hear t m).trace = m.trace ∧
    (Module.hear t m).fabric = m.fabric ∧
    (Module.hear t m).lanes = m.lanes ∧
    (Module.hear t m).bundles = m.bundles ∧
    (Module.hear t m).disc = m.disc ∧
    (Module.hear t m).store = m.store ∧
    (Module.hear t m).sec = m.sec ∧
    (Module.hear t m).stew = m.stew ∧
    (Module.hear t m).scrub = m.scrub ∧
    (Module.hear t m).hbm = m.hbm ∧
    (Module.hear t m).outbox = m.outbox := by
  unfold Module.hear; simp

@[simp] theorem headForward_frame (t r : Token) (m : Module) :
    (Module.headForward t r m).regs = m.regs ∧
    (Module.headForward t r m).ctl = m.ctl ∧
    (Module.headForward t r m).pins = m.pins ∧
    (Module.headForward t r m).start = m.start ∧
    (Module.headForward t r m).data = m.data ∧
    (Module.headForward t r m).image = m.image ∧
    (Module.headForward t r m).load = m.load ∧
    (Module.headForward t r m).txn = m.txn ∧
    (Module.headForward t r m).couriers = m.couriers ∧
    (Module.headForward t r m).trig = m.trig ∧
    (Module.headForward t r m).trace = m.trace ∧
    (Module.headForward t r m).fabric = m.fabric ∧
    (Module.headForward t r m).lanes = m.lanes ∧
    (Module.headForward t r m).disc = m.disc ∧
    (Module.headForward t r m).store = m.store ∧
    (Module.headForward t r m).sec = m.sec ∧
    (Module.headForward t r m).stew = m.stew ∧
    (Module.headForward t r m).scrub = m.scrub ∧
    (Module.headForward t r m).hbm = m.hbm := by
  unfold Module.headForward; simp

@[simp] theorem ringDone_frame (r : Token) (m : Module) :
    (Module.ringDone r m).regs = m.regs ∧
    (Module.ringDone r m).ctl = m.ctl ∧
    (Module.ringDone r m).pins = m.pins ∧
    (Module.ringDone r m).start = m.start ∧
    (Module.ringDone r m).data = m.data ∧
    (Module.ringDone r m).image = m.image ∧
    (Module.ringDone r m).load = m.load ∧
    (Module.ringDone r m).txn = m.txn ∧
    (Module.ringDone r m).couriers = m.couriers ∧
    (Module.ringDone r m).trig = m.trig ∧
    (Module.ringDone r m).trace = m.trace ∧
    (Module.ringDone r m).fabric = m.fabric ∧
    (Module.ringDone r m).lanes = m.lanes ∧
    (Module.ringDone r m).disc = m.disc ∧
    (Module.ringDone r m).store = m.store ∧
    (Module.ringDone r m).sec = m.sec ∧
    (Module.ringDone r m).stew = m.stew ∧
    (Module.ringDone r m).scrub = m.scrub ∧
    (Module.ringDone r m).hbm = m.hbm := by
  unfold Module.ringDone; (try dsimp only); (repeat' split) <;> simp

@[simp] theorem beginRound_frame (m : Module) :
    (Module.beginRound m).regs = m.regs ∧
    (Module.beginRound m).ctl = m.ctl ∧
    (Module.beginRound m).pins = m.pins ∧
    (Module.beginRound m).start = m.start ∧
    (Module.beginRound m).data = m.data ∧
    (Module.beginRound m).image = m.image ∧
    (Module.beginRound m).load = m.load ∧
    (Module.beginRound m).txn = m.txn ∧
    (Module.beginRound m).couriers = m.couriers ∧
    (Module.beginRound m).trig = m.trig ∧
    (Module.beginRound m).trace = m.trace ∧
    (Module.beginRound m).fabric = m.fabric ∧
    (Module.beginRound m).lanes = m.lanes ∧
    (Module.beginRound m).disc = m.disc ∧
    (Module.beginRound m).store = m.store ∧
    (Module.beginRound m).sec = m.sec ∧
    (Module.beginRound m).stew = m.stew ∧
    (Module.beginRound m).scrub = m.scrub ∧
    (Module.beginRound m).hbm = m.hbm := by
  unfold Module.beginRound; (try dsimp only); (repeat' split) <;> simp

@[simp] theorem linesAct_frame (act : BitVec 16) (m : Module) :
    (Module.linesAct act m).ctl = m.ctl ∧
    (Module.linesAct act m).pins = m.pins ∧
    (Module.linesAct act m).start = m.start ∧
    (Module.linesAct act m).data = m.data ∧
    (Module.linesAct act m).image = m.image ∧
    (Module.linesAct act m).load = m.load ∧
    (Module.linesAct act m).txn = m.txn ∧
    (Module.linesAct act m).couriers = m.couriers ∧
    (Module.linesAct act m).lanes = m.lanes ∧
    (Module.linesAct act m).bundles = m.bundles ∧
    (Module.linesAct act m).disc = m.disc ∧
    (Module.linesAct act m).store = m.store ∧
    (Module.linesAct act m).sec = m.sec ∧
    (Module.linesAct act m).scrub = m.scrub ∧
    (Module.linesAct act m).hbm = m.hbm := by
  unfold Module.linesAct; simp

@[simp] theorem releaseSlot_frame (t : Token) (c : Nat) (m : Module) (i : Nat) :
    (Module.releaseSlot t c m i).ctl = m.ctl ∧
    (Module.releaseSlot t c m i).pins = m.pins ∧
    (Module.releaseSlot t c m i).start = m.start ∧
    (Module.releaseSlot t c m i).seq = m.seq ∧
    (Module.releaseSlot t c m i).data = m.data ∧
    (Module.releaseSlot t c m i).image = m.image ∧
    (Module.releaseSlot t c m i).load = m.load ∧
    (Module.releaseSlot t c m i).couriers = m.couriers ∧
    (Module.releaseSlot t c m i).trig = m.trig ∧
    (Module.releaseSlot t c m i).trace = m.trace ∧
    (Module.releaseSlot t c m i).lanes = m.lanes ∧
    (Module.releaseSlot t c m i).bundles = m.bundles ∧
    (Module.releaseSlot t c m i).disc = m.disc ∧
    (Module.releaseSlot t c m i).store = m.store ∧
    (Module.releaseSlot t c m i).sec = m.sec ∧
    (Module.releaseSlot t c m i).scrub = m.scrub := by
  unfold Module.releaseSlot; simp

@[simp] theorem releasePulses_frame (t : Token) (c : Nat) (m : Module) :
    (Module.releasePulses t c m).regs = m.regs ∧
    (Module.releasePulses t c m).ctl = m.ctl ∧
    (Module.releasePulses t c m).pins = m.pins ∧
    (Module.releasePulses t c m).start = m.start ∧
    (Module.releasePulses t c m).seq = m.seq ∧
    (Module.releasePulses t c m).data = m.data ∧
    (Module.releasePulses t c m).image = m.image ∧
    (Module.releasePulses t c m).load = m.load ∧
    (Module.releasePulses t c m).couriers = m.couriers ∧
    (Module.releasePulses t c m).trig = m.trig ∧
    (Module.releasePulses t c m).trace = m.trace ∧
    (Module.releasePulses t c m).fabric = m.fabric ∧
    (Module.releasePulses t c m).lanes = m.lanes ∧
    (Module.releasePulses t c m).bundles = m.bundles ∧
    (Module.releasePulses t c m).disc = m.disc ∧
    (Module.releasePulses t c m).store = m.store ∧
    (Module.releasePulses t c m).sec = m.sec ∧
    (Module.releasePulses t c m).stew = m.stew ∧
    (Module.releasePulses t c m).scrub = m.scrub ∧
    (Module.releasePulses t c m).hbm = m.hbm ∧
    (Module.releasePulses t c m).outbox = m.outbox := by
  unfold Module.releasePulses; simp

@[simp] theorem takeRequest_frame (t : Token) (m : Module) :
    (Module.takeRequest t m).regs = m.regs ∧
    (Module.takeRequest t m).pins = m.pins ∧
    (Module.takeRequest t m).start = m.start ∧
    (Module.takeRequest t m).data = m.data ∧
    (Module.takeRequest t m).image = m.image ∧
    (Module.takeRequest t m).load = m.load ∧
    (Module.takeRequest t m).txn = m.txn ∧
    (Module.takeRequest t m).couriers = m.couriers ∧
    (Module.takeRequest t m).trig = m.trig ∧
    (Module.takeRequest t m).trace = m.trace ∧
    (Module.takeRequest t m).lanes = m.lanes ∧
    (Module.takeRequest t m).bundles = m.bundles ∧
    (Module.takeRequest t m).disc = m.disc ∧
    (Module.takeRequest t m).store = m.store ∧
    (Module.takeRequest t m).sec = m.sec ∧
    (Module.takeRequest t m).stew = m.stew ∧
    (Module.takeRequest t m).scrub = m.scrub ∧
    (Module.takeRequest t m).hbm = m.hbm := by
  unfold Module.takeRequest; (try dsimp only); (repeat' split) <;> simp

@[simp] theorem haltCause_frame (t : Token) (m : Module) :
    (Module.haltCause t m).2.regs = m.regs ∧
    (Module.haltCause t m).2.ctl = m.ctl ∧
    (Module.haltCause t m).2.pins = m.pins ∧
    (Module.haltCause t m).2.start = m.start ∧
    (Module.haltCause t m).2.seq = m.seq ∧
    (Module.haltCause t m).2.data = m.data ∧
    (Module.haltCause t m).2.image = m.image ∧
    (Module.haltCause t m).2.load = m.load ∧
    (Module.haltCause t m).2.txn = m.txn ∧
    (Module.haltCause t m).2.couriers = m.couriers ∧
    (Module.haltCause t m).2.trig = m.trig ∧
    (Module.haltCause t m).2.trace = m.trace ∧
    (Module.haltCause t m).2.fabric = m.fabric ∧
    (Module.haltCause t m).2.lanes = m.lanes ∧
    (Module.haltCause t m).2.bundles = m.bundles ∧
    (Module.haltCause t m).2.disc = m.disc ∧
    (Module.haltCause t m).2.store = m.store ∧
    (Module.haltCause t m).2.stew = m.stew ∧
    (Module.haltCause t m).2.scrub = m.scrub ∧
    (Module.haltCause t m).2.hbm = m.hbm ∧
    (Module.haltCause t m).2.outbox = m.outbox := by
  unfold Module.haltCause; (try dsimp only); (repeat' split) <;> simp

@[simp] theorem stopped_frame (m : Module) :
    (Module.stopped m).ctl = m.ctl ∧
    (Module.stopped m).pins = m.pins ∧
    (Module.stopped m).start = m.start ∧
    (Module.stopped m).seq = m.seq ∧
    (Module.stopped m).data = m.data ∧
    (Module.stopped m).image = m.image ∧
    (Module.stopped m).load = m.load ∧
    (Module.stopped m).couriers = m.couriers ∧
    (Module.stopped m).trig = m.trig ∧
    (Module.stopped m).trace = m.trace ∧
    (Module.stopped m).fabric = m.fabric ∧
    (Module.stopped m).lanes = m.lanes ∧
    (Module.stopped m).bundles = m.bundles ∧
    (Module.stopped m).disc = m.disc ∧
    (Module.stopped m).store = m.store ∧
    (Module.stopped m).scrub = m.scrub ∧
    (Module.stopped m).hbm = m.hbm ∧
    (Module.stopped m).outbox = m.outbox := by
  unfold Module.stopped; simp

@[simp] theorem holdWrites_frame (m : Module) :
    (Module.holdWrites m).ctl = m.ctl ∧
    (Module.holdWrites m).pins = m.pins ∧
    (Module.holdWrites m).start = m.start ∧
    (Module.holdWrites m).data = m.data ∧
    (Module.holdWrites m).image = m.image ∧
    (Module.holdWrites m).load = m.load ∧
    (Module.holdWrites m).couriers = m.couriers ∧
    (Module.holdWrites m).trig = m.trig ∧
    (Module.holdWrites m).trace = m.trace ∧
    (Module.holdWrites m).lanes = m.lanes ∧
    (Module.holdWrites m).bundles = m.bundles ∧
    (Module.holdWrites m).disc = m.disc ∧
    (Module.holdWrites m).store = m.store ∧
    (Module.holdWrites m).sec = m.sec ∧
    (Module.holdWrites m).stew = m.stew ∧
    (Module.holdWrites m).scrub = m.scrub ∧
    (Module.holdWrites m).hbm = m.hbm := by
  unfold Module.holdWrites; simp

@[simp] theorem applyRelease_frame (t : Token) (elapsed : Nat) (m : Module) :
    (Module.applyRelease t elapsed m).scrub = m.scrub := by
  unfold Module.applyRelease; simp

@[simp] theorem finishRelease_frame (t : Token) (elapsed : Nat) (m : Module) :
    (Module.finishRelease t elapsed m).scrub = m.scrub := by
  unfold Module.finishRelease; simp

@[simp] theorem decide__frame (t : Token) (m : Module) :
    (Module.decide_ t m).2.regs = m.regs ∧
    (Module.decide_ t m).2.ctl = m.ctl ∧
    (Module.decide_ t m).2.pins = m.pins ∧
    (Module.decide_ t m).2.start = m.start ∧
    (Module.decide_ t m).2.seq = m.seq ∧
    (Module.decide_ t m).2.data = m.data ∧
    (Module.decide_ t m).2.image = m.image ∧
    (Module.decide_ t m).2.load = m.load ∧
    (Module.decide_ t m).2.txn = m.txn ∧
    (Module.decide_ t m).2.couriers = m.couriers ∧
    (Module.decide_ t m).2.trace = m.trace ∧
    (Module.decide_ t m).2.fabric = m.fabric ∧
    (Module.decide_ t m).2.lanes = m.lanes ∧
    (Module.decide_ t m).2.bundles = m.bundles ∧
    (Module.decide_ t m).2.disc = m.disc ∧
    (Module.decide_ t m).2.store = m.store ∧
    (Module.decide_ t m).2.sec = m.sec ∧
    (Module.decide_ t m).2.stew = m.stew ∧
    (Module.decide_ t m).2.scrub = m.scrub ∧
    (Module.decide_ t m).2.hbm = m.hbm ∧
    (Module.decide_ t m).2.outbox = m.outbox := by
  unfold Module.decide_; simp

@[simp] theorem headDecides_frame (t : Token) (m : Module) :
    (Module.headDecides t m).scrub = m.scrub := by
  unfold Module.headDecides; simp

@[simp] theorem staticParity_frame (bad : List (Nat × Nat × Nat)) (pos : Nat) (m : Module) :
    (Module.staticParity bad pos m).scrub = m.scrub := by
  unfold Module.staticParity; simp

@[simp] theorem cutFrames_frame (b : Nat) (m : Module) :
    (Module.cutFrames b m).regs = m.regs ∧
    (Module.cutFrames b m).ctl = m.ctl ∧
    (Module.cutFrames b m).pins = m.pins ∧
    (Module.cutFrames b m).start = m.start ∧
    (Module.cutFrames b m).seq = m.seq ∧
    (Module.cutFrames b m).data = m.data ∧
    (Module.cutFrames b m).image = m.image ∧
    (Module.cutFrames b m).load = m.load ∧
    (Module.cutFrames b m).txn = m.txn ∧
    (Module.cutFrames b m).couriers = m.couriers ∧
    (Module.cutFrames b m).trig = m.trig ∧
    (Module.cutFrames b m).trace = m.trace ∧
    (Module.cutFrames b m).fabric = m.fabric ∧
    (Module.cutFrames b m).lanes = m.lanes ∧
    (Module.cutFrames b m).disc = m.disc ∧
    (Module.cutFrames b m).store = m.store ∧
    (Module.cutFrames b m).sec = m.sec ∧
    (Module.cutFrames b m).stew = m.stew ∧
    (Module.cutFrames b m).scrub = m.scrub ∧
    (Module.cutFrames b m).hbm = m.hbm := by
  unfold Module.cutFrames; simp

@[simp] theorem peakSkew_frame (b : Nat) (m : Module) :
    (Module.peakSkew b m).ctl = m.ctl ∧
    (Module.peakSkew b m).pins = m.pins ∧
    (Module.peakSkew b m).start = m.start ∧
    (Module.peakSkew b m).seq = m.seq ∧
    (Module.peakSkew b m).data = m.data ∧
    (Module.peakSkew b m).image = m.image ∧
    (Module.peakSkew b m).load = m.load ∧
    (Module.peakSkew b m).txn = m.txn ∧
    (Module.peakSkew b m).couriers = m.couriers ∧
    (Module.peakSkew b m).trig = m.trig ∧
    (Module.peakSkew b m).trace = m.trace ∧
    (Module.peakSkew b m).fabric = m.fabric ∧
    (Module.peakSkew b m).lanes = m.lanes ∧
    (Module.peakSkew b m).bundles = m.bundles ∧
    (Module.peakSkew b m).disc = m.disc ∧
    (Module.peakSkew b m).store = m.store ∧
    (Module.peakSkew b m).sec = m.sec ∧
    (Module.peakSkew b m).stew = m.stew ∧
    (Module.peakSkew b m).scrub = m.scrub ∧
    (Module.peakSkew b m).hbm = m.hbm ∧
    (Module.peakSkew b m).outbox = m.outbox := by
  unfold Module.peakSkew; simp

@[simp] theorem skewEntry_frame (s : Nat) (rest : List Nat) (m : Module) (b : Nat) :
    (Module.skewEntry s rest m b).ctl = m.ctl ∧
    (Module.skewEntry s rest m b).pins = m.pins ∧
    (Module.skewEntry s rest m b).start = m.start ∧
    (Module.skewEntry s rest m b).seq = m.seq ∧
    (Module.skewEntry s rest m b).data = m.data ∧
    (Module.skewEntry s rest m b).image = m.image ∧
    (Module.skewEntry s rest m b).load = m.load ∧
    (Module.skewEntry s rest m b).txn = m.txn ∧
    (Module.skewEntry s rest m b).couriers = m.couriers ∧
    (Module.skewEntry s rest m b).trig = m.trig ∧
    (Module.skewEntry s rest m b).trace = m.trace ∧
    (Module.skewEntry s rest m b).fabric = m.fabric ∧
    (Module.skewEntry s rest m b).lanes = m.lanes ∧
    (Module.skewEntry s rest m b).disc = m.disc ∧
    (Module.skewEntry s rest m b).store = m.store ∧
    (Module.skewEntry s rest m b).sec = m.sec ∧
    (Module.skewEntry s rest m b).stew = m.stew ∧
    (Module.skewEntry s rest m b).scrub = m.scrub ∧
    (Module.skewEntry s rest m b).hbm = m.hbm ∧
    (Module.skewEntry s rest m b).outbox = m.outbox := by
  unfold Module.skewEntry; simp

@[simp] theorem streamBits_frame (b : Nat) (bits : List Bool) (origins : List (Option Nat)) (m : Module) :
    (Module.streamBits b bits origins m).regs = m.regs ∧
    (Module.streamBits b bits origins m).ctl = m.ctl ∧
    (Module.streamBits b bits origins m).pins = m.pins ∧
    (Module.streamBits b bits origins m).start = m.start ∧
    (Module.streamBits b bits origins m).seq = m.seq ∧
    (Module.streamBits b bits origins m).data = m.data ∧
    (Module.streamBits b bits origins m).image = m.image ∧
    (Module.streamBits b bits origins m).load = m.load ∧
    (Module.streamBits b bits origins m).txn = m.txn ∧
    (Module.streamBits b bits origins m).couriers = m.couriers ∧
    (Module.streamBits b bits origins m).trig = m.trig ∧
    (Module.streamBits b bits origins m).trace = m.trace ∧
    (Module.streamBits b bits origins m).fabric = m.fabric ∧
    (Module.streamBits b bits origins m).lanes = m.lanes ∧
    (Module.streamBits b bits origins m).disc = m.disc ∧
    (Module.streamBits b bits origins m).store = m.store ∧
    (Module.streamBits b bits origins m).sec = m.sec ∧
    (Module.streamBits b bits origins m).stew = m.stew ∧
    (Module.streamBits b bits origins m).scrub = m.scrub ∧
    (Module.streamBits b bits origins m).hbm = m.hbm := by
  unfold Module.streamBits; simp

@[simp] theorem endStream_frame (m : Module) (b : Nat) :
    (Module.endStream m b).regs = m.regs ∧
    (Module.endStream m b).ctl = m.ctl ∧
    (Module.endStream m b).pins = m.pins ∧
    (Module.endStream m b).start = m.start ∧
    (Module.endStream m b).seq = m.seq ∧
    (Module.endStream m b).data = m.data ∧
    (Module.endStream m b).image = m.image ∧
    (Module.endStream m b).load = m.load ∧
    (Module.endStream m b).txn = m.txn ∧
    (Module.endStream m b).couriers = m.couriers ∧
    (Module.endStream m b).trig = m.trig ∧
    (Module.endStream m b).trace = m.trace ∧
    (Module.endStream m b).fabric = m.fabric ∧
    (Module.endStream m b).lanes = m.lanes ∧
    (Module.endStream m b).disc = m.disc ∧
    (Module.endStream m b).store = m.store ∧
    (Module.endStream m b).sec = m.sec ∧
    (Module.endStream m b).stew = m.stew ∧
    (Module.endStream m b).scrub = m.scrub ∧
    (Module.endStream m b).hbm = m.hbm := by
  unfold Module.endStream; simp

@[simp] theorem release_frame (step : Nat) (m : Module) (b : Nat) :
    (Module.release step m b).regs = m.regs ∧
    (Module.release step m b).ctl = m.ctl ∧
    (Module.release step m b).pins = m.pins ∧
    (Module.release step m b).start = m.start ∧
    (Module.release step m b).seq = m.seq ∧
    (Module.release step m b).data = m.data ∧
    (Module.release step m b).image = m.image ∧
    (Module.release step m b).load = m.load ∧
    (Module.release step m b).txn = m.txn ∧
    (Module.release step m b).couriers = m.couriers ∧
    (Module.release step m b).trig = m.trig ∧
    (Module.release step m b).trace = m.trace ∧
    (Module.release step m b).fabric = m.fabric ∧
    (Module.release step m b).lanes = m.lanes ∧
    (Module.release step m b).disc = m.disc ∧
    (Module.release step m b).store = m.store ∧
    (Module.release step m b).sec = m.sec ∧
    (Module.release step m b).stew = m.stew ∧
    (Module.release step m b).scrub = m.scrub ∧
    (Module.release step m b).hbm = m.hbm ∧
    (Module.release step m b).outbox = m.outbox := by
  unfold Module.release; simp

@[simp] theorem copyLatches_frame (m : Module) :
    (Module.copyLatches m).regs = m.regs ∧
    (Module.copyLatches m).ctl = m.ctl ∧
    (Module.copyLatches m).pins = m.pins ∧
    (Module.copyLatches m).start = m.start ∧
    (Module.copyLatches m).seq = m.seq ∧
    (Module.copyLatches m).image = m.image ∧
    (Module.copyLatches m).load = m.load ∧
    (Module.copyLatches m).txn = m.txn ∧
    (Module.copyLatches m).couriers = m.couriers ∧
    (Module.copyLatches m).trig = m.trig ∧
    (Module.copyLatches m).trace = m.trace ∧
    (Module.copyLatches m).fabric = m.fabric ∧
    (Module.copyLatches m).lanes = m.lanes ∧
    (Module.copyLatches m).bundles = m.bundles ∧
    (Module.copyLatches m).disc = m.disc ∧
    (Module.copyLatches m).store = m.store ∧
    (Module.copyLatches m).sec = m.sec ∧
    (Module.copyLatches m).stew = m.stew ∧
    (Module.copyLatches m).scrub = m.scrub ∧
    (Module.copyLatches m).hbm = m.hbm ∧
    (Module.copyLatches m).outbox = m.outbox := by
  unfold Module.copyLatches; simp

@[simp] theorem startBoundary_frame (m : Module) :
    (Module.startBoundary m).regs = m.regs ∧
    (Module.startBoundary m).ctl = m.ctl ∧
    (Module.startBoundary m).pins = m.pins ∧
    (Module.startBoundary m).start = m.start ∧
    (Module.startBoundary m).image = m.image ∧
    (Module.startBoundary m).load = m.load ∧
    (Module.startBoundary m).txn = m.txn ∧
    (Module.startBoundary m).couriers = m.couriers ∧
    (Module.startBoundary m).trig = m.trig ∧
    (Module.startBoundary m).trace = m.trace ∧
    (Module.startBoundary m).fabric = m.fabric ∧
    (Module.startBoundary m).lanes = m.lanes ∧
    (Module.startBoundary m).disc = m.disc ∧
    (Module.startBoundary m).store = m.store ∧
    (Module.startBoundary m).sec = m.sec ∧
    (Module.startBoundary m).stew = m.stew ∧
    (Module.startBoundary m).scrub = m.scrub ∧
    (Module.startBoundary m).hbm = m.hbm := by
  unfold Module.startBoundary; simp

@[simp] theorem endEmpty_frame (m : Module) :
    (Module.endEmpty m).regs = m.regs ∧
    (Module.endEmpty m).ctl = m.ctl ∧
    (Module.endEmpty m).pins = m.pins ∧
    (Module.endEmpty m).start = m.start ∧
    (Module.endEmpty m).image = m.image ∧
    (Module.endEmpty m).load = m.load ∧
    (Module.endEmpty m).txn = m.txn ∧
    (Module.endEmpty m).couriers = m.couriers ∧
    (Module.endEmpty m).trig = m.trig ∧
    (Module.endEmpty m).trace = m.trace ∧
    (Module.endEmpty m).fabric = m.fabric ∧
    (Module.endEmpty m).lanes = m.lanes ∧
    (Module.endEmpty m).disc = m.disc ∧
    (Module.endEmpty m).store = m.store ∧
    (Module.endEmpty m).sec = m.sec ∧
    (Module.endEmpty m).stew = m.stew ∧
    (Module.endEmpty m).scrub = m.scrub ∧
    (Module.endEmpty m).hbm = m.hbm := by
  unfold Module.endEmpty; simp

@[simp] theorem countStep_frame (rest : List Nat) (m : Module) :
    (Module.countStep rest m).ctl = m.ctl ∧
    (Module.countStep rest m).pins = m.pins ∧
    (Module.countStep rest m).start = m.start ∧
    (Module.countStep rest m).data = m.data ∧
    (Module.countStep rest m).image = m.image ∧
    (Module.countStep rest m).load = m.load ∧
    (Module.countStep rest m).txn = m.txn ∧
    (Module.countStep rest m).couriers = m.couriers ∧
    (Module.countStep rest m).trig = m.trig ∧
    (Module.countStep rest m).trace = m.trace ∧
    (Module.countStep rest m).fabric = m.fabric ∧
    (Module.countStep rest m).lanes = m.lanes ∧
    (Module.countStep rest m).bundles = m.bundles ∧
    (Module.countStep rest m).disc = m.disc ∧
    (Module.countStep rest m).store = m.store ∧
    (Module.countStep rest m).sec = m.sec ∧
    (Module.countStep rest m).scrub = m.scrub ∧
    (Module.countStep rest m).hbm = m.hbm ∧
    (Module.countStep rest m).outbox = m.outbox := by
  unfold Module.countStep; simp

@[simp] theorem haltsAt_frame (s : Nat) (bps : List Nat) (m : Module) :
    (Module.haltsAt s bps m).regs = m.regs ∧
    (Module.haltsAt s bps m).ctl = m.ctl ∧
    (Module.haltsAt s bps m).pins = m.pins ∧
    (Module.haltsAt s bps m).start = m.start ∧
    (Module.haltsAt s bps m).data = m.data ∧
    (Module.haltsAt s bps m).image = m.image ∧
    (Module.haltsAt s bps m).load = m.load ∧
    (Module.haltsAt s bps m).txn = m.txn ∧
    (Module.haltsAt s bps m).couriers = m.couriers ∧
    (Module.haltsAt s bps m).trig = m.trig ∧
    (Module.haltsAt s bps m).trace = m.trace ∧
    (Module.haltsAt s bps m).fabric = m.fabric ∧
    (Module.haltsAt s bps m).lanes = m.lanes ∧
    (Module.haltsAt s bps m).bundles = m.bundles ∧
    (Module.haltsAt s bps m).disc = m.disc ∧
    (Module.haltsAt s bps m).store = m.store ∧
    (Module.haltsAt s bps m).sec = m.sec ∧
    (Module.haltsAt s bps m).stew = m.stew ∧
    (Module.haltsAt s bps m).scrub = m.scrub ∧
    (Module.haltsAt s bps m).hbm = m.hbm ∧
    (Module.haltsAt s bps m).outbox = m.outbox := by
  unfold Module.haltsAt; (try dsimp only); (repeat' split) <;> simp

@[simp] theorem beginStep_frame (s : Nat) (rest : List Nat) (padsHigh : List Nat) (m : Module) :
    (Module.beginStep s rest padsHigh m).scrub = m.scrub := by
  unfold Module.beginStep; (try dsimp only); (repeat' split) <;> simp

@[simp] theorem issueStep_frame (s : Nat) (rest : List Nat) (padsHigh : List Nat) (bad : List (Nat × Nat × Nat)) (m : Module) :
    (Module.issueStep s rest padsHigh bad m).scrub = m.scrub := by
  unfold Module.issueStep; simp

@[simp] theorem stepIssue_frame (padsHigh : List Nat) (bad : List (Nat × Nat × Nat)) (m : Module) :
    (Module.stepIssue padsHigh bad m).scrub = m.scrub := by
  unfold Module.stepIssue; (try dsimp only); (repeat' split) <;> simp

@[simp] theorem memTimeout_frame (k n : Nat) (m : Module) :
    (Module.memTimeout k n m).scrub = m.scrub := by
  unfold Module.memTimeout; (try dsimp only); (repeat' split) <;> simp

@[simp] theorem starveTimeout_frame (b : Nat) (m : Module) :
    (Module.starveTimeout b m).scrub = m.scrub := by
  unfold Module.starveTimeout; simp

end Sys2Proof.Machine
end

