-- ==== Sys2Proof/Laws/FrameBoundary.lean ====
section
/-! SUPPORT. Laws/FrameBoundary.lean: for each operation of the boundary, the parts of the module that it
never changes. -/

namespace Sys2Proof.Machine

@[simp] theorem netHigh_frame (m : Module) :
    (Module.netHigh m).regs = m.regs ∧
    (Module.netHigh m).data = m.data ∧
    (Module.netHigh m).image = m.image ∧
    (Module.netHigh m).load = m.load ∧
    (Module.netHigh m).txn = m.txn ∧
    (Module.netHigh m).couriers = m.couriers ∧
    (Module.netHigh m).trig = m.trig ∧
    (Module.netHigh m).trace = m.trace ∧
    (Module.netHigh m).lanes = m.lanes ∧
    (Module.netHigh m).disc = m.disc ∧
    (Module.netHigh m).store = m.store ∧
    (Module.netHigh m).sec = m.sec ∧
    (Module.netHigh m).stew = m.stew ∧
    (Module.netHigh m).scrub = m.scrub ∧
    (Module.netHigh m).hbm = m.hbm := by
  unfold Module.netHigh; simp

@[simp] theorem evalTrigger_frame (n : Nat) (m : Module) :
    (Module.evalTrigger n m).ctl = m.ctl ∧
    (Module.evalTrigger n m).pins = m.pins ∧
    (Module.evalTrigger n m).start = m.start ∧
    (Module.evalTrigger n m).data = m.data ∧
    (Module.evalTrigger n m).image = m.image ∧
    (Module.evalTrigger n m).load = m.load ∧
    (Module.evalTrigger n m).txn = m.txn ∧
    (Module.evalTrigger n m).couriers = m.couriers ∧
    (Module.evalTrigger n m).trace = m.trace ∧
    (Module.evalTrigger n m).fabric = m.fabric ∧
    (Module.evalTrigger n m).lanes = m.lanes ∧
    (Module.evalTrigger n m).bundles = m.bundles ∧
    (Module.evalTrigger n m).disc = m.disc ∧
    (Module.evalTrigger n m).store = m.store ∧
    (Module.evalTrigger n m).sec = m.sec ∧
    (Module.evalTrigger n m).scrub = m.scrub ∧
    (Module.evalTrigger n m).hbm = m.hbm ∧
    (Module.evalTrigger n m).outbox = m.outbox := by
  unfold Module.evalTrigger; simp

@[simp] theorem startDeadlines_frame (n : Nat) (m : Module) :
    (Module.startDeadlines n m).regs = m.regs ∧
    (Module.startDeadlines n m).ctl = m.ctl ∧
    (Module.startDeadlines n m).pins = m.pins ∧
    (Module.startDeadlines n m).start = m.start ∧
    (Module.startDeadlines n m).seq = m.seq ∧
    (Module.startDeadlines n m).data = m.data ∧
    (Module.startDeadlines n m).image = m.image ∧
    (Module.startDeadlines n m).load = m.load ∧
    (Module.startDeadlines n m).txn = m.txn ∧
    (Module.startDeadlines n m).trig = m.trig ∧
    (Module.startDeadlines n m).trace = m.trace ∧
    (Module.startDeadlines n m).fabric = m.fabric ∧
    (Module.startDeadlines n m).lanes = m.lanes ∧
    (Module.startDeadlines n m).bundles = m.bundles ∧
    (Module.startDeadlines n m).disc = m.disc ∧
    (Module.startDeadlines n m).store = m.store ∧
    (Module.startDeadlines n m).sec = m.sec ∧
    (Module.startDeadlines n m).stew = m.stew ∧
    (Module.startDeadlines n m).scrub = m.scrub ∧
    (Module.startDeadlines n m).hbm = m.hbm ∧
    (Module.startDeadlines n m).outbox = m.outbox := by
  unfold Module.startDeadlines; simp

@[simp] theorem haltPoint_frame (m : Module) :
    (Module.haltPoint m).pins = m.pins ∧
    (Module.haltPoint m).start = m.start ∧
    (Module.haltPoint m).data = m.data ∧
    (Module.haltPoint m).image = m.image ∧
    (Module.haltPoint m).load = m.load ∧
    (Module.haltPoint m).txn = m.txn ∧
    (Module.haltPoint m).couriers = m.couriers ∧
    (Module.haltPoint m).trig = m.trig ∧
    (Module.haltPoint m).trace = m.trace ∧
    (Module.haltPoint m).fabric = m.fabric ∧
    (Module.haltPoint m).lanes = m.lanes ∧
    (Module.haltPoint m).bundles = m.bundles ∧
    (Module.haltPoint m).disc = m.disc ∧
    (Module.haltPoint m).store = m.store ∧
    (Module.haltPoint m).sec = m.sec ∧
    (Module.haltPoint m).scrub = m.scrub ∧
    (Module.haltPoint m).hbm = m.hbm ∧
    (Module.haltPoint m).outbox = m.outbox := by
  unfold Module.haltPoint; simp

@[simp] theorem openApply_frame (m : Module) :
    (Module.openApply m).regs = m.regs ∧
    (Module.openApply m).ctl = m.ctl ∧
    (Module.openApply m).pins = m.pins ∧
    (Module.openApply m).start = m.start ∧
    (Module.openApply m).data = m.data ∧
    (Module.openApply m).image = m.image ∧
    (Module.openApply m).load = m.load ∧
    (Module.openApply m).couriers = m.couriers ∧
    (Module.openApply m).trig = m.trig ∧
    (Module.openApply m).trace = m.trace ∧
    (Module.openApply m).fabric = m.fabric ∧
    (Module.openApply m).lanes = m.lanes ∧
    (Module.openApply m).bundles = m.bundles ∧
    (Module.openApply m).disc = m.disc ∧
    (Module.openApply m).store = m.store ∧
    (Module.openApply m).sec = m.sec ∧
    (Module.openApply m).stew = m.stew ∧
    (Module.openApply m).scrub = m.scrub ∧
    (Module.openApply m).hbm = m.hbm ∧
    (Module.openApply m).outbox = m.outbox := by
  unfold Module.openApply; simp

@[simp] theorem boundaryCycles_frame (n : Nat) (m : Module) :
    (Module.boundaryCycles n m).ctl = m.ctl ∧
    (Module.boundaryCycles n m).pins = m.pins ∧
    (Module.boundaryCycles n m).start = m.start ∧
    (Module.boundaryCycles n m).data = m.data ∧
    (Module.boundaryCycles n m).image = m.image ∧
    (Module.boundaryCycles n m).load = m.load ∧
    (Module.boundaryCycles n m).txn = m.txn ∧
    (Module.boundaryCycles n m).couriers = m.couriers ∧
    (Module.boundaryCycles n m).trig = m.trig ∧
    (Module.boundaryCycles n m).trace = m.trace ∧
    (Module.boundaryCycles n m).fabric = m.fabric ∧
    (Module.boundaryCycles n m).lanes = m.lanes ∧
    (Module.boundaryCycles n m).bundles = m.bundles ∧
    (Module.boundaryCycles n m).disc = m.disc ∧
    (Module.boundaryCycles n m).store = m.store ∧
    (Module.boundaryCycles n m).sec = m.sec ∧
    (Module.boundaryCycles n m).scrub = m.scrub ∧
    (Module.boundaryCycles n m).hbm = m.hbm ∧
    (Module.boundaryCycles n m).outbox = m.outbox := by
  unfold Module.boundaryCycles; simp

@[simp] theorem drainComplete_frame (bad : List (Nat × Nat × Nat)) (m : Module) :
    (Module.drainComplete bad m).scrub = m.scrub := by
  unfold Module.drainComplete; simp

@[simp] theorem stuckInput_frame (pin : Nat) (m : Module) :
    (Module.stuckInput pin m).ctl = m.ctl ∧
    (Module.stuckInput pin m).pins = m.pins ∧
    (Module.stuckInput pin m).start = m.start ∧
    (Module.stuckInput pin m).seq = m.seq ∧
    (Module.stuckInput pin m).data = m.data ∧
    (Module.stuckInput pin m).image = m.image ∧
    (Module.stuckInput pin m).load = m.load ∧
    (Module.stuckInput pin m).txn = m.txn ∧
    (Module.stuckInput pin m).couriers = m.couriers ∧
    (Module.stuckInput pin m).trig = m.trig ∧
    (Module.stuckInput pin m).trace = m.trace ∧
    (Module.stuckInput pin m).fabric = m.fabric ∧
    (Module.stuckInput pin m).lanes = m.lanes ∧
    (Module.stuckInput pin m).bundles = m.bundles ∧
    (Module.stuckInput pin m).disc = m.disc ∧
    (Module.stuckInput pin m).store = m.store ∧
    (Module.stuckInput pin m).sec = m.sec ∧
    (Module.stuckInput pin m).scrub = m.scrub ∧
    (Module.stuckInput pin m).hbm = m.hbm ∧
    (Module.stuckInput pin m).outbox = m.outbox := by
  unfold Module.stuckInput; simp

@[simp] theorem holdToken_frame (t : Token) (m : Module) :
    (Module.holdToken t m).regs = m.regs ∧
    (Module.holdToken t m).ctl = m.ctl ∧
    (Module.holdToken t m).pins = m.pins ∧
    (Module.holdToken t m).start = m.start ∧
    (Module.holdToken t m).data = m.data ∧
    (Module.holdToken t m).image = m.image ∧
    (Module.holdToken t m).load = m.load ∧
    (Module.holdToken t m).txn = m.txn ∧
    (Module.holdToken t m).couriers = m.couriers ∧
    (Module.holdToken t m).trig = m.trig ∧
    (Module.holdToken t m).trace = m.trace ∧
    (Module.holdToken t m).fabric = m.fabric ∧
    (Module.holdToken t m).lanes = m.lanes ∧
    (Module.holdToken t m).bundles = m.bundles ∧
    (Module.holdToken t m).disc = m.disc ∧
    (Module.holdToken t m).store = m.store ∧
    (Module.holdToken t m).sec = m.sec ∧
    (Module.holdToken t m).stew = m.stew ∧
    (Module.holdToken t m).scrub = m.scrub ∧
    (Module.holdToken t m).hbm = m.hbm ∧
    (Module.holdToken t m).outbox = m.outbox := by
  unfold Module.holdToken; simp

@[simp] theorem ringGather_frame (t : Token) (m : Module) :
    (Module.ringGather t m).scrub = m.scrub := by
  unfold Module.ringGather; simp

@[simp] theorem headGather_frame (t : Token) (m : Module) :
    (Module.headGather t m).scrub = m.scrub := by
  unfold Module.headGather; (try dsimp only); (repeat' split) <;> simp

@[simp] theorem headRelease_frame (t : Token) (m : Module) :
    (Module.headRelease t m).scrub = m.scrub := by
  unfold Module.headRelease; simp

@[simp] theorem loneRelease_frame (m : Module) :
    (Module.loneRelease m).scrub = m.scrub := by
  unfold Module.loneRelease; simp

@[simp] theorem ringRelease_frame (t : Token) (m : Module) :
    (Module.ringRelease t m).scrub = m.scrub := by
  unfold Module.ringRelease; simp

@[simp] theorem stepDone_frame (m : Module) :
    (Module.stepDone m).pins = m.pins ∧
    (Module.stepDone m).start = m.start ∧
    (Module.stepDone m).seq = m.seq ∧
    (Module.stepDone m).data = m.data ∧
    (Module.stepDone m).image = m.image ∧
    (Module.stepDone m).load = m.load ∧
    (Module.stepDone m).couriers = m.couriers ∧
    (Module.stepDone m).trig = m.trig ∧
    (Module.stepDone m).trace = m.trace ∧
    (Module.stepDone m).lanes = m.lanes ∧
    (Module.stepDone m).bundles = m.bundles ∧
    (Module.stepDone m).disc = m.disc ∧
    (Module.stepDone m).store = m.store ∧
    (Module.stepDone m).scrub = m.scrub ∧
    (Module.stepDone m).hbm = m.hbm := by
  unfold Module.stepDone; simp

@[simp] theorem freezeFlood_frame (t : Token) (m : Module) :
    (Module.freezeFlood t m).scrub = m.scrub := by
  unfold Module.freezeFlood
  dsimp only
  split
  · simp
  · split <;> rw [freezeBy_scrub] <;> simp

@[simp] theorem partition_frame (m : Module) :
    (Module.partition m).scrub = m.scrub := by
  unfold Module.partition
  split
  · dsimp only
    split <;> simp [freezeBy_scrub]
  · split <;> simp

@[simp] theorem grant_frame (m : Module) :
    (Module.grant m).ctl = m.ctl ∧
    (Module.grant m).pins = m.pins ∧
    (Module.grant m).start = m.start ∧
    (Module.grant m).data = m.data ∧
    (Module.grant m).image = m.image ∧
    (Module.grant m).load = m.load ∧
    (Module.grant m).txn = m.txn ∧
    (Module.grant m).couriers = m.couriers ∧
    (Module.grant m).trig = m.trig ∧
    (Module.grant m).trace = m.trace ∧
    (Module.grant m).fabric = m.fabric ∧
    (Module.grant m).lanes = m.lanes ∧
    (Module.grant m).bundles = m.bundles ∧
    (Module.grant m).disc = m.disc ∧
    (Module.grant m).store = m.store ∧
    (Module.grant m).sec = m.sec ∧
    (Module.grant m).scrub = m.scrub ∧
    (Module.grant m).hbm = m.hbm ∧
    (Module.grant m).outbox = m.outbox := by
  unfold Module.grant; simp

@[simp] theorem xmerge_frame (crossing : Nat) (m : Module) :
    (Module.xmerge crossing m).ctl = m.ctl ∧
    (Module.xmerge crossing m).pins = m.pins ∧
    (Module.xmerge crossing m).start = m.start ∧
    (Module.xmerge crossing m).seq = m.seq ∧
    (Module.xmerge crossing m).data = m.data ∧
    (Module.xmerge crossing m).image = m.image ∧
    (Module.xmerge crossing m).load = m.load ∧
    (Module.xmerge crossing m).txn = m.txn ∧
    (Module.xmerge crossing m).couriers = m.couriers ∧
    (Module.xmerge crossing m).trig = m.trig ∧
    (Module.xmerge crossing m).trace = m.trace ∧
    (Module.xmerge crossing m).fabric = m.fabric ∧
    (Module.xmerge crossing m).lanes = m.lanes ∧
    (Module.xmerge crossing m).bundles = m.bundles ∧
    (Module.xmerge crossing m).disc = m.disc ∧
    (Module.xmerge crossing m).store = m.store ∧
    (Module.xmerge crossing m).sec = m.sec ∧
    (Module.xmerge crossing m).scrub = m.scrub ∧
    (Module.xmerge crossing m).hbm = m.hbm ∧
    (Module.xmerge crossing m).outbox = m.outbox := by
  unfold Module.xmerge; simp

@[simp] theorem cadAccept_frame (m : Module) :
    (Module.cadAccept m).ctl = m.ctl ∧
    (Module.cadAccept m).start = m.start ∧
    (Module.cadAccept m).data = m.data ∧
    (Module.cadAccept m).image = m.image ∧
    (Module.cadAccept m).load = m.load ∧
    (Module.cadAccept m).txn = m.txn ∧
    (Module.cadAccept m).couriers = m.couriers ∧
    (Module.cadAccept m).trig = m.trig ∧
    (Module.cadAccept m).trace = m.trace ∧
    (Module.cadAccept m).fabric = m.fabric ∧
    (Module.cadAccept m).lanes = m.lanes ∧
    (Module.cadAccept m).bundles = m.bundles ∧
    (Module.cadAccept m).disc = m.disc ∧
    (Module.cadAccept m).store = m.store ∧
    (Module.cadAccept m).scrub = m.scrub ∧
    (Module.cadAccept m).hbm = m.hbm ∧
    (Module.cadAccept m).outbox = m.outbox := by
  unfold Module.cadAccept Module.crossPtp
  dsimp only
  (repeat' split) <;> simp

@[simp] theorem cadInEdge_frame (m : Module) :
    (Module.cadInEdge m).ctl = m.ctl ∧
    (Module.cadInEdge m).start = m.start ∧
    (Module.cadInEdge m).data = m.data ∧
    (Module.cadInEdge m).image = m.image ∧
    (Module.cadInEdge m).load = m.load ∧
    (Module.cadInEdge m).txn = m.txn ∧
    (Module.cadInEdge m).couriers = m.couriers ∧
    (Module.cadInEdge m).trig = m.trig ∧
    (Module.cadInEdge m).trace = m.trace ∧
    (Module.cadInEdge m).fabric = m.fabric ∧
    (Module.cadInEdge m).lanes = m.lanes ∧
    (Module.cadInEdge m).bundles = m.bundles ∧
    (Module.cadInEdge m).disc = m.disc ∧
    (Module.cadInEdge m).store = m.store ∧
    (Module.cadInEdge m).scrub = m.scrub ∧
    (Module.cadInEdge m).hbm = m.hbm ∧
    (Module.cadInEdge m).outbox = m.outbox := by
  unfold Module.cadInEdge; (try dsimp only); (repeat' split) <;> simp

@[simp] theorem ptpCadence_frame (m : Module) :
    (Module.ptpCadence m).ctl = m.ctl ∧
    (Module.ptpCadence m).start = m.start ∧
    (Module.ptpCadence m).data = m.data ∧
    (Module.ptpCadence m).image = m.image ∧
    (Module.ptpCadence m).load = m.load ∧
    (Module.ptpCadence m).txn = m.txn ∧
    (Module.ptpCadence m).couriers = m.couriers ∧
    (Module.ptpCadence m).trig = m.trig ∧
    (Module.ptpCadence m).trace = m.trace ∧
    (Module.ptpCadence m).fabric = m.fabric ∧
    (Module.ptpCadence m).lanes = m.lanes ∧
    (Module.ptpCadence m).bundles = m.bundles ∧
    (Module.ptpCadence m).disc = m.disc ∧
    (Module.ptpCadence m).store = m.store ∧
    (Module.ptpCadence m).scrub = m.scrub ∧
    (Module.ptpCadence m).hbm = m.hbm ∧
    (Module.ptpCadence m).outbox = m.outbox := by
  unfold Module.ptpCadence; simp

@[simp] theorem pinPulses_frame (pin : Nat) (rising : Bool) (m : Module) :
    (Module.pinPulses pin rising m).ctl = m.ctl ∧
    (Module.pinPulses pin rising m).pins = m.pins ∧
    (Module.pinPulses pin rising m).start = m.start ∧
    (Module.pinPulses pin rising m).seq = m.seq ∧
    (Module.pinPulses pin rising m).data = m.data ∧
    (Module.pinPulses pin rising m).image = m.image ∧
    (Module.pinPulses pin rising m).load = m.load ∧
    (Module.pinPulses pin rising m).couriers = m.couriers ∧
    (Module.pinPulses pin rising m).trig = m.trig ∧
    (Module.pinPulses pin rising m).trace = m.trace ∧
    (Module.pinPulses pin rising m).fabric = m.fabric ∧
    (Module.pinPulses pin rising m).lanes = m.lanes ∧
    (Module.pinPulses pin rising m).bundles = m.bundles ∧
    (Module.pinPulses pin rising m).disc = m.disc ∧
    (Module.pinPulses pin rising m).store = m.store ∧
    (Module.pinPulses pin rising m).sec = m.sec ∧
    (Module.pinPulses pin rising m).stew = m.stew ∧
    (Module.pinPulses pin rising m).scrub = m.scrub ∧
    (Module.pinPulses pin rising m).hbm = m.hbm ∧
    (Module.pinPulses pin rising m).outbox = m.outbox := by
  unfold Module.pinPulses; simp

@[simp] theorem pinEdge_frame (k : Nat) (rising : Bool) (m : Module) :
    (Module.pinEdge k rising m).ctl = m.ctl ∧
    (Module.pinEdge k rising m).pins = m.pins ∧
    (Module.pinEdge k rising m).start = m.start ∧
    (Module.pinEdge k rising m).seq = m.seq ∧
    (Module.pinEdge k rising m).data = m.data ∧
    (Module.pinEdge k rising m).image = m.image ∧
    (Module.pinEdge k rising m).load = m.load ∧
    (Module.pinEdge k rising m).couriers = m.couriers ∧
    (Module.pinEdge k rising m).trace = m.trace ∧
    (Module.pinEdge k rising m).fabric = m.fabric ∧
    (Module.pinEdge k rising m).lanes = m.lanes ∧
    (Module.pinEdge k rising m).bundles = m.bundles ∧
    (Module.pinEdge k rising m).disc = m.disc ∧
    (Module.pinEdge k rising m).store = m.store ∧
    (Module.pinEdge k rising m).sec = m.sec ∧
    (Module.pinEdge k rising m).stew = m.stew ∧
    (Module.pinEdge k rising m).scrub = m.scrub ∧
    (Module.pinEdge k rising m).hbm = m.hbm ∧
    (Module.pinEdge k rising m).outbox = m.outbox := by
  unfold Module.pinEdge; simp

@[simp] theorem trigInEdge_frame (pin : Nat) (rising : Bool) (m : Module) :
    (Module.trigInEdge pin rising m).ctl = m.ctl ∧
    (Module.trigInEdge pin rising m).start = m.start ∧
    (Module.trigInEdge pin rising m).seq = m.seq ∧
    (Module.trigInEdge pin rising m).data = m.data ∧
    (Module.trigInEdge pin rising m).image = m.image ∧
    (Module.trigInEdge pin rising m).load = m.load ∧
    (Module.trigInEdge pin rising m).couriers = m.couriers ∧
    (Module.trigInEdge pin rising m).trace = m.trace ∧
    (Module.trigInEdge pin rising m).fabric = m.fabric ∧
    (Module.trigInEdge pin rising m).lanes = m.lanes ∧
    (Module.trigInEdge pin rising m).bundles = m.bundles ∧
    (Module.trigInEdge pin rising m).disc = m.disc ∧
    (Module.trigInEdge pin rising m).store = m.store ∧
    (Module.trigInEdge pin rising m).scrub = m.scrub ∧
    (Module.trigInEdge pin rising m).hbm = m.hbm ∧
    (Module.trigInEdge pin rising m).outbox = m.outbox := by
  unfold Module.trigInEdge Module.crossPtp
  dsimp only
  (repeat' split) <;> simp

@[simp] theorem trigClear_frame (m : Module) :
    (Module.trigClear m).regs = m.regs ∧
    (Module.trigClear m).ctl = m.ctl ∧
    (Module.trigClear m).pins = m.pins ∧
    (Module.trigClear m).start = m.start ∧
    (Module.trigClear m).seq = m.seq ∧
    (Module.trigClear m).data = m.data ∧
    (Module.trigClear m).image = m.image ∧
    (Module.trigClear m).load = m.load ∧
    (Module.trigClear m).txn = m.txn ∧
    (Module.trigClear m).couriers = m.couriers ∧
    (Module.trigClear m).trace = m.trace ∧
    (Module.trigClear m).fabric = m.fabric ∧
    (Module.trigClear m).lanes = m.lanes ∧
    (Module.trigClear m).bundles = m.bundles ∧
    (Module.trigClear m).disc = m.disc ∧
    (Module.trigClear m).store = m.store ∧
    (Module.trigClear m).sec = m.sec ∧
    (Module.trigClear m).scrub = m.scrub ∧
    (Module.trigClear m).hbm = m.hbm ∧
    (Module.trigClear m).outbox = m.outbox := by
  unfold Module.trigClear; (try dsimp only); (repeat' split) <;> simp

@[simp] theorem effWindow_frame (m : Module) :
    (Module.effWindow m).ctl = m.ctl ∧
    (Module.effWindow m).pins = m.pins ∧
    (Module.effWindow m).start = m.start ∧
    (Module.effWindow m).data = m.data ∧
    (Module.effWindow m).image = m.image ∧
    (Module.effWindow m).load = m.load ∧
    (Module.effWindow m).txn = m.txn ∧
    (Module.effWindow m).couriers = m.couriers ∧
    (Module.effWindow m).trig = m.trig ∧
    (Module.effWindow m).trace = m.trace ∧
    (Module.effWindow m).fabric = m.fabric ∧
    (Module.effWindow m).lanes = m.lanes ∧
    (Module.effWindow m).bundles = m.bundles ∧
    (Module.effWindow m).disc = m.disc ∧
    (Module.effWindow m).store = m.store ∧
    (Module.effWindow m).sec = m.sec ∧
    (Module.effWindow m).stew = m.stew ∧
    (Module.effWindow m).scrub = m.scrub ∧
    (Module.effWindow m).hbm = m.hbm ∧
    (Module.effWindow m).outbox = m.outbox := by
  unfold Module.effWindow; simp

end Sys2Proof.Machine
end

