-- ==== Sys2Proof/Laws/FrameModes.lean ====
section
/-! SUPPORT. Laws/FrameModes.lean: for each operation of start, load, training and mode requests, the parts of the module that it
never changes. -/

namespace Sys2Proof.Machine

@[simp] theorem pktPump_frame (b : Nat) (m : Module) :
    (Module.pktPump b m).regs = m.regs ∧
    (Module.pktPump b m).ctl = m.ctl ∧
    (Module.pktPump b m).pins = m.pins ∧
    (Module.pktPump b m).start = m.start ∧
    (Module.pktPump b m).seq = m.seq ∧
    (Module.pktPump b m).data = m.data ∧
    (Module.pktPump b m).image = m.image ∧
    (Module.pktPump b m).load = m.load ∧
    (Module.pktPump b m).txn = m.txn ∧
    (Module.pktPump b m).couriers = m.couriers ∧
    (Module.pktPump b m).trig = m.trig ∧
    (Module.pktPump b m).trace = m.trace ∧
    (Module.pktPump b m).fabric = m.fabric ∧
    (Module.pktPump b m).lanes = m.lanes ∧
    (Module.pktPump b m).disc = m.disc ∧
    (Module.pktPump b m).store = m.store ∧
    (Module.pktPump b m).sec = m.sec ∧
    (Module.pktPump b m).stew = m.stew ∧
    (Module.pktPump b m).scrub = m.scrub ∧
    (Module.pktPump b m).hbm = m.hbm := by
  unfold Module.pktPump; (try dsimp only); (repeat' split) <;> simp

@[simp] theorem resume_frame (b : Nat) (m : Module) :
    (Module.resume b m).regs = m.regs ∧
    (Module.resume b m).ctl = m.ctl ∧
    (Module.resume b m).pins = m.pins ∧
    (Module.resume b m).start = m.start ∧
    (Module.resume b m).seq = m.seq ∧
    (Module.resume b m).data = m.data ∧
    (Module.resume b m).image = m.image ∧
    (Module.resume b m).load = m.load ∧
    (Module.resume b m).txn = m.txn ∧
    (Module.resume b m).couriers = m.couriers ∧
    (Module.resume b m).trig = m.trig ∧
    (Module.resume b m).trace = m.trace ∧
    (Module.resume b m).fabric = m.fabric ∧
    (Module.resume b m).lanes = m.lanes ∧
    (Module.resume b m).disc = m.disc ∧
    (Module.resume b m).store = m.store ∧
    (Module.resume b m).sec = m.sec ∧
    (Module.resume b m).stew = m.stew ∧
    (Module.resume b m).scrub = m.scrub ∧
    (Module.resume b m).hbm = m.hbm := by
  unfold Module.resume; simp

@[simp] theorem sendOnBundle_frame (b : Nat) (p : Packet) (m0 : Module) :
    (Module.sendOnBundle b p m0).regs = m0.regs ∧
    (Module.sendOnBundle b p m0).ctl = m0.ctl ∧
    (Module.sendOnBundle b p m0).pins = m0.pins ∧
    (Module.sendOnBundle b p m0).start = m0.start ∧
    (Module.sendOnBundle b p m0).seq = m0.seq ∧
    (Module.sendOnBundle b p m0).data = m0.data ∧
    (Module.sendOnBundle b p m0).image = m0.image ∧
    (Module.sendOnBundle b p m0).load = m0.load ∧
    (Module.sendOnBundle b p m0).txn = m0.txn ∧
    (Module.sendOnBundle b p m0).couriers = m0.couriers ∧
    (Module.sendOnBundle b p m0).trig = m0.trig ∧
    (Module.sendOnBundle b p m0).trace = m0.trace ∧
    (Module.sendOnBundle b p m0).fabric = m0.fabric ∧
    (Module.sendOnBundle b p m0).lanes = m0.lanes ∧
    (Module.sendOnBundle b p m0).disc = m0.disc ∧
    (Module.sendOnBundle b p m0).store = m0.store ∧
    (Module.sendOnBundle b p m0).sec = m0.sec ∧
    (Module.sendOnBundle b p m0).stew = m0.stew ∧
    (Module.sendOnBundle b p m0).scrub = m0.scrub ∧
    (Module.sendOnBundle b p m0).hbm = m0.hbm := by
  unfold Module.sendOnBundle; simp

@[simp] theorem tryCold_frame (m : Module) :
    (Module.tryCold m).ctl = m.ctl ∧
    (Module.tryCold m).txn = m.txn ∧
    (Module.tryCold m).trace = m.trace ∧
    (Module.tryCold m).scrub = m.scrub := by
  unfold Module.tryCold; simp

@[simp] theorem tearSector_frame (m : Module) (k : Nat) :
    (Module.tearSector m k).regs = m.regs ∧
    (Module.tearSector m k).ctl = m.ctl ∧
    (Module.tearSector m k).pins = m.pins ∧
    (Module.tearSector m k).start = m.start ∧
    (Module.tearSector m k).seq = m.seq ∧
    (Module.tearSector m k).data = m.data ∧
    (Module.tearSector m k).image = m.image ∧
    (Module.tearSector m k).load = m.load ∧
    (Module.tearSector m k).txn = m.txn ∧
    (Module.tearSector m k).couriers = m.couriers ∧
    (Module.tearSector m k).trig = m.trig ∧
    (Module.tearSector m k).trace = m.trace ∧
    (Module.tearSector m k).fabric = m.fabric ∧
    (Module.tearSector m k).lanes = m.lanes ∧
    (Module.tearSector m k).bundles = m.bundles ∧
    (Module.tearSector m k).disc = m.disc ∧
    (Module.tearSector m k).stew = m.stew ∧
    (Module.tearSector m k).scrub = m.scrub ∧
    (Module.tearSector m k).hbm = m.hbm ∧
    (Module.tearSector m k).outbox = m.outbox := by
  unfold Module.tearSector; simp

@[simp] theorem tearStore_frame (m : Module) :
    (Module.tearStore m).regs = m.regs ∧
    (Module.tearStore m).ctl = m.ctl ∧
    (Module.tearStore m).pins = m.pins ∧
    (Module.tearStore m).start = m.start ∧
    (Module.tearStore m).seq = m.seq ∧
    (Module.tearStore m).data = m.data ∧
    (Module.tearStore m).image = m.image ∧
    (Module.tearStore m).load = m.load ∧
    (Module.tearStore m).txn = m.txn ∧
    (Module.tearStore m).couriers = m.couriers ∧
    (Module.tearStore m).trig = m.trig ∧
    (Module.tearStore m).trace = m.trace ∧
    (Module.tearStore m).fabric = m.fabric ∧
    (Module.tearStore m).lanes = m.lanes ∧
    (Module.tearStore m).bundles = m.bundles ∧
    (Module.tearStore m).disc = m.disc ∧
    (Module.tearStore m).stew = m.stew ∧
    (Module.tearStore m).scrub = m.scrub ∧
    (Module.tearStore m).hbm = m.hbm ∧
    (Module.tearStore m).outbox = m.outbox := by
  unfold Module.tearStore; simp

@[simp] theorem porstRise_frame (m : Module) :
    (Module.porstRise m).ctl = m.ctl ∧
    (Module.porstRise m).txn = m.txn ∧
    (Module.porstRise m).trace = m.trace ∧
    (Module.porstRise m).scrub = m.scrub := by
  unfold Module.porstRise; simp

@[simp] theorem vstbyLoss_frame (m : Module) :
    (Module.vstbyLoss m).seq = m.seq ∧
    (Module.vstbyLoss m).data = m.data ∧
    (Module.vstbyLoss m).image = m.image ∧
    (Module.vstbyLoss m).txn = m.txn ∧
    (Module.vstbyLoss m).couriers = m.couriers ∧
    (Module.vstbyLoss m).trig = m.trig ∧
    (Module.vstbyLoss m).trace = m.trace ∧
    (Module.vstbyLoss m).lanes = m.lanes ∧
    (Module.vstbyLoss m).bundles = m.bundles ∧
    (Module.vstbyLoss m).disc = m.disc ∧
    (Module.vstbyLoss m).scrub = m.scrub ∧
    (Module.vstbyLoss m).hbm = m.hbm := by
  unfold Module.vstbyLoss; simp

@[simp] theorem hostReset_frame (m : Module) :
    (Module.hostReset m).ctl = m.ctl ∧
    (Module.hostReset m).pins = m.pins ∧
    (Module.hostReset m).start = m.start ∧
    (Module.hostReset m).seq = m.seq ∧
    (Module.hostReset m).data = m.data ∧
    (Module.hostReset m).image = m.image ∧
    (Module.hostReset m).load = m.load ∧
    (Module.hostReset m).txn = m.txn ∧
    (Module.hostReset m).couriers = m.couriers ∧
    (Module.hostReset m).trig = m.trig ∧
    (Module.hostReset m).trace = m.trace ∧
    (Module.hostReset m).lanes = m.lanes ∧
    (Module.hostReset m).bundles = m.bundles ∧
    (Module.hostReset m).disc = m.disc ∧
    (Module.hostReset m).store = m.store ∧
    (Module.hostReset m).sec = m.sec ∧
    (Module.hostReset m).scrub = m.scrub ∧
    (Module.hostReset m).hbm = m.hbm ∧
    (Module.hostReset m).outbox = m.outbox := by
  unfold Module.hostReset; simp

@[simp] theorem loadSettings_frame (m : Module) :
    (Module.loadSettings m).ctl = m.ctl ∧
    (Module.loadSettings m).pins = m.pins ∧
    (Module.loadSettings m).start = m.start ∧
    (Module.loadSettings m).seq = m.seq ∧
    (Module.loadSettings m).data = m.data ∧
    (Module.loadSettings m).image = m.image ∧
    (Module.loadSettings m).load = m.load ∧
    (Module.loadSettings m).txn = m.txn ∧
    (Module.loadSettings m).couriers = m.couriers ∧
    (Module.loadSettings m).trig = m.trig ∧
    (Module.loadSettings m).trace = m.trace ∧
    (Module.loadSettings m).fabric = m.fabric ∧
    (Module.loadSettings m).lanes = m.lanes ∧
    (Module.loadSettings m).bundles = m.bundles ∧
    (Module.loadSettings m).disc = m.disc ∧
    (Module.loadSettings m).store = m.store ∧
    (Module.loadSettings m).scrub = m.scrub ∧
    (Module.loadSettings m).hbm = m.hbm ∧
    (Module.loadSettings m).outbox = m.outbox := by
  unfold Module.loadSettings; (try dsimp only); (repeat' split) <;> simp (disch := (intros; (try dsimp only); (repeat' split) <;> simp))

@[simp] theorem storeMounted_frame (fails : List Nat) (m : Module) :
    (Module.storeMounted fails m).ctl = m.ctl ∧
    (Module.storeMounted fails m).pins = m.pins ∧
    (Module.storeMounted fails m).seq = m.seq ∧
    (Module.storeMounted fails m).data = m.data ∧
    (Module.storeMounted fails m).image = m.image ∧
    (Module.storeMounted fails m).load = m.load ∧
    (Module.storeMounted fails m).txn = m.txn ∧
    (Module.storeMounted fails m).couriers = m.couriers ∧
    (Module.storeMounted fails m).trig = m.trig ∧
    (Module.storeMounted fails m).trace = m.trace ∧
    (Module.storeMounted fails m).lanes = m.lanes ∧
    (Module.storeMounted fails m).bundles = m.bundles ∧
    (Module.storeMounted fails m).disc = m.disc ∧
    (Module.storeMounted fails m).scrub = m.scrub ∧
    (Module.storeMounted fails m).hbm = m.hbm := by
  unfold Module.storeMounted; simp

@[simp] theorem bistComplete_frame (dies : List BistDie) (m : Module) :
    (Module.bistComplete dies m).ctl = m.ctl ∧
    (Module.bistComplete dies m).pins = m.pins ∧
    (Module.bistComplete dies m).seq = m.seq ∧
    (Module.bistComplete dies m).data = m.data ∧
    (Module.bistComplete dies m).image = m.image ∧
    (Module.bistComplete dies m).load = m.load ∧
    (Module.bistComplete dies m).txn = m.txn ∧
    (Module.bistComplete dies m).couriers = m.couriers ∧
    (Module.bistComplete dies m).trig = m.trig ∧
    (Module.bistComplete dies m).trace = m.trace ∧
    (Module.bistComplete dies m).lanes = m.lanes ∧
    (Module.bistComplete dies m).bundles = m.bundles ∧
    (Module.bistComplete dies m).disc = m.disc ∧
    (Module.bistComplete dies m).scrub = m.scrub ∧
    (Module.bistComplete dies m).hbm = m.hbm := by
  unfold Module.bistComplete; simp

@[simp] theorem rejectStream_frame (code ty inst off : Nat) (m : Module) :
    (Module.rejectStream code ty inst off m).pins = m.pins ∧
    (Module.rejectStream code ty inst off m).start = m.start ∧
    (Module.rejectStream code ty inst off m).seq = m.seq ∧
    (Module.rejectStream code ty inst off m).data = m.data ∧
    (Module.rejectStream code ty inst off m).image = m.image ∧
    (Module.rejectStream code ty inst off m).txn = m.txn ∧
    (Module.rejectStream code ty inst off m).couriers = m.couriers ∧
    (Module.rejectStream code ty inst off m).trig = m.trig ∧
    (Module.rejectStream code ty inst off m).trace = m.trace ∧
    (Module.rejectStream code ty inst off m).lanes = m.lanes ∧
    (Module.rejectStream code ty inst off m).bundles = m.bundles ∧
    (Module.rejectStream code ty inst off m).disc = m.disc ∧
    (Module.rejectStream code ty inst off m).store = m.store ∧
    (Module.rejectStream code ty inst off m).scrub = m.scrub ∧
    (Module.rejectStream code ty inst off m).hbm = m.hbm := by
  unfold Module.rejectStream; simp

@[simp] theorem holdBlock_frame (off : Nat) (block : List Byte) (m : Module) :
    (Module.holdBlock off block m).pins = m.pins ∧
    (Module.holdBlock off block m).data = m.data ∧
    (Module.holdBlock off block m).image = m.image ∧
    (Module.holdBlock off block m).txn = m.txn ∧
    (Module.holdBlock off block m).trig = m.trig ∧
    (Module.holdBlock off block m).trace = m.trace := by
  unfold Module.holdBlock; simp

@[simp] theorem writeHeld_frame (m : Module) :
    (Module.writeHeld m).regs = m.regs ∧
    (Module.writeHeld m).ctl = m.ctl ∧
    (Module.writeHeld m).pins = m.pins ∧
    (Module.writeHeld m).start = m.start ∧
    (Module.writeHeld m).seq = m.seq ∧
    (Module.writeHeld m).data = m.data ∧
    (Module.writeHeld m).image = m.image ∧
    (Module.writeHeld m).txn = m.txn ∧
    (Module.writeHeld m).couriers = m.couriers ∧
    (Module.writeHeld m).trig = m.trig ∧
    (Module.writeHeld m).trace = m.trace ∧
    (Module.writeHeld m).fabric = m.fabric ∧
    (Module.writeHeld m).lanes = m.lanes ∧
    (Module.writeHeld m).bundles = m.bundles ∧
    (Module.writeHeld m).disc = m.disc ∧
    (Module.writeHeld m).store = m.store ∧
    (Module.writeHeld m).sec = m.sec ∧
    (Module.writeHeld m).stew = m.stew ∧
    (Module.writeHeld m).scrub = m.scrub ∧
    (Module.writeHeld m).outbox = m.outbox := by
  unfold Module.writeHeld; simp

@[simp] theorem epochDone_frame (design : Bool) (m : Module) :
    (Module.epochDone design m).regs = m.regs ∧
    (Module.epochDone design m).ctl = m.ctl ∧
    (Module.epochDone design m).pins = m.pins ∧
    (Module.epochDone design m).start = m.start ∧
    (Module.epochDone design m).seq = m.seq ∧
    (Module.epochDone design m).data = m.data ∧
    (Module.epochDone design m).image = m.image ∧
    (Module.epochDone design m).txn = m.txn ∧
    (Module.epochDone design m).couriers = m.couriers ∧
    (Module.epochDone design m).trig = m.trig ∧
    (Module.epochDone design m).trace = m.trace ∧
    (Module.epochDone design m).fabric = m.fabric ∧
    (Module.epochDone design m).lanes = m.lanes ∧
    (Module.epochDone design m).bundles = m.bundles ∧
    (Module.epochDone design m).disc = m.disc ∧
    (Module.epochDone design m).store = m.store ∧
    (Module.epochDone design m).stew = m.stew ∧
    (Module.epochDone design m).scrub = m.scrub ∧
    (Module.epochDone design m).outbox = m.outbox := by
  unfold Module.epochDone; (try dsimp only); (repeat' split) <;> simp

@[simp] theorem acceptHeader_frame (h : Nat) (block : List Byte) (m : Module) :
    (Module.acceptHeader h block m).pins = m.pins ∧
    (Module.acceptHeader h block m).data = m.data ∧
    (Module.acceptHeader h block m).image = m.image ∧
    (Module.acceptHeader h block m).txn = m.txn ∧
    (Module.acceptHeader h block m).trig = m.trig ∧
    (Module.acceptHeader h block m).trace = m.trace := by
  unfold Module.acceptHeader; simp

@[simp] theorem firstBlock_frame (block : List Byte) (m : Module) :
    (Module.firstBlock block m).pins = m.pins ∧
    (Module.firstBlock block m).data = m.data ∧
    (Module.firstBlock block m).image = m.image ∧
    (Module.firstBlock block m).txn = m.txn ∧
    (Module.firstBlock block m).trig = m.trig ∧
    (Module.firstBlock block m).trace = m.trace := by
  unfold Module.firstBlock; (try dsimp only); (repeat' split) <;> simp

@[simp] theorem loadData_frame (block : List Byte) (m : Module) :
    (Module.loadData block m).pins = m.pins ∧
    (Module.loadData block m).data = m.data ∧
    (Module.loadData block m).image = m.image ∧
    (Module.loadData block m).txn = m.txn ∧
    (Module.loadData block m).trig = m.trig ∧
    (Module.loadData block m).trace = m.trace := by
  unfold Module.loadData; simp

@[simp] theorem entropyFill_frame (m : Module) :
    (Module.entropyFill m).pins = m.pins ∧
    (Module.entropyFill m).data = m.data ∧
    (Module.entropyFill m).image = m.image ∧
    (Module.entropyFill m).txn = m.txn ∧
    (Module.entropyFill m).trig = m.trig ∧
    (Module.entropyFill m).trace = m.trace := by
  unfold Module.entropyFill; (try dsimp only); (repeat' split) <;> simp

@[simp] theorem loadVerify_frame (m : Module) :
    (Module.loadVerify m).regs = m.regs ∧
    (Module.loadVerify m).ctl = m.ctl ∧
    (Module.loadVerify m).pins = m.pins ∧
    (Module.loadVerify m).start = m.start ∧
    (Module.loadVerify m).seq = m.seq ∧
    (Module.loadVerify m).data = m.data ∧
    (Module.loadVerify m).image = m.image ∧
    (Module.loadVerify m).txn = m.txn ∧
    (Module.loadVerify m).couriers = m.couriers ∧
    (Module.loadVerify m).trig = m.trig ∧
    (Module.loadVerify m).trace = m.trace ∧
    (Module.loadVerify m).fabric = m.fabric ∧
    (Module.loadVerify m).lanes = m.lanes ∧
    (Module.loadVerify m).bundles = m.bundles ∧
    (Module.loadVerify m).disc = m.disc ∧
    (Module.loadVerify m).store = m.store ∧
    (Module.loadVerify m).scrub = m.scrub ∧
    (Module.loadVerify m).hbm = m.hbm ∧
    (Module.loadVerify m).outbox = m.outbox := by
  unfold Module.loadVerify; simp

@[simp] theorem loadAbandon_frame (m : Module) :
    (Module.loadAbandon m).regs = m.regs ∧
    (Module.loadAbandon m).ctl = m.ctl ∧
    (Module.loadAbandon m).pins = m.pins ∧
    (Module.loadAbandon m).start = m.start ∧
    (Module.loadAbandon m).seq = m.seq ∧
    (Module.loadAbandon m).data = m.data ∧
    (Module.loadAbandon m).image = m.image ∧
    (Module.loadAbandon m).txn = m.txn ∧
    (Module.loadAbandon m).couriers = m.couriers ∧
    (Module.loadAbandon m).trig = m.trig ∧
    (Module.loadAbandon m).trace = m.trace ∧
    (Module.loadAbandon m).fabric = m.fabric ∧
    (Module.loadAbandon m).lanes = m.lanes ∧
    (Module.loadAbandon m).bundles = m.bundles ∧
    (Module.loadAbandon m).disc = m.disc ∧
    (Module.loadAbandon m).store = m.store ∧
    (Module.loadAbandon m).sec = m.sec ∧
    (Module.loadAbandon m).scrub = m.scrub ∧
    (Module.loadAbandon m).hbm = m.hbm ∧
    (Module.loadAbandon m).outbox = m.outbox := by
  unfold Module.loadAbandon; simp

@[simp] theorem stageDiscard_frame (m : Module) :
    (Module.stageDiscard m).ctl = m.ctl ∧
    (Module.stageDiscard m).pins = m.pins ∧
    (Module.stageDiscard m).start = m.start ∧
    (Module.stageDiscard m).seq = m.seq ∧
    (Module.stageDiscard m).data = m.data ∧
    (Module.stageDiscard m).image = m.image ∧
    (Module.stageDiscard m).txn = m.txn ∧
    (Module.stageDiscard m).couriers = m.couriers ∧
    (Module.stageDiscard m).trig = m.trig ∧
    (Module.stageDiscard m).trace = m.trace ∧
    (Module.stageDiscard m).fabric = m.fabric ∧
    (Module.stageDiscard m).lanes = m.lanes ∧
    (Module.stageDiscard m).bundles = m.bundles ∧
    (Module.stageDiscard m).disc = m.disc ∧
    (Module.stageDiscard m).store = m.store ∧
    (Module.stageDiscard m).sec = m.sec ∧
    (Module.stageDiscard m).scrub = m.scrub ∧
    (Module.stageDiscard m).hbm = m.hbm ∧
    (Module.stageDiscard m).outbox = m.outbox := by
  unfold Module.stageDiscard; simp

@[simp] theorem rejectImage_frame (code ty inst off count : Nat) (m : Module) :
    (Module.rejectImage code ty inst off count m).pins = m.pins ∧
    (Module.rejectImage code ty inst off count m).start = m.start ∧
    (Module.rejectImage code ty inst off count m).seq = m.seq ∧
    (Module.rejectImage code ty inst off count m).data = m.data ∧
    (Module.rejectImage code ty inst off count m).txn = m.txn ∧
    (Module.rejectImage code ty inst off count m).couriers = m.couriers ∧
    (Module.rejectImage code ty inst off count m).trig = m.trig ∧
    (Module.rejectImage code ty inst off count m).trace = m.trace ∧
    (Module.rejectImage code ty inst off count m).lanes = m.lanes ∧
    (Module.rejectImage code ty inst off count m).bundles = m.bundles ∧
    (Module.rejectImage code ty inst off count m).disc = m.disc ∧
    (Module.rejectImage code ty inst off count m).store = m.store ∧
    (Module.rejectImage code ty inst off count m).sec = m.sec ∧
    (Module.rejectImage code ty inst off count m).scrub = m.scrub ∧
    (Module.rejectImage code ty inst off count m).hbm = m.hbm := by
  unfold Module.rejectImage
  dsimp only
  simp only [setRegs_frame, enter_frame, log_frame, and_self]

@[simp] theorem pass1_frame (m : Module) :
    (Module.pass1 m).pins = m.pins ∧
    (Module.pass1 m).start = m.start ∧
    (Module.pass1 m).seq = m.seq ∧
    (Module.pass1 m).data = m.data ∧
    (Module.pass1 m).image = m.image ∧
    (Module.pass1 m).txn = m.txn ∧
    (Module.pass1 m).couriers = m.couriers ∧
    (Module.pass1 m).trig = m.trig ∧
    (Module.pass1 m).trace = m.trace ∧
    (Module.pass1 m).lanes = m.lanes ∧
    (Module.pass1 m).bundles = m.bundles ∧
    (Module.pass1 m).disc = m.disc ∧
    (Module.pass1 m).store = m.store ∧
    (Module.pass1 m).scrub = m.scrub ∧
    (Module.pass1 m).hbm = m.hbm := by
  unfold Module.pass1; (try dsimp only); (repeat' split) <;> simp

@[simp] theorem pass2_frame (m : Module) :
    (Module.pass2 m).pins = m.pins ∧
    (Module.pass2 m).start = m.start ∧
    (Module.pass2 m).seq = m.seq ∧
    (Module.pass2 m).data = m.data ∧
    (Module.pass2 m).image = m.image ∧
    (Module.pass2 m).txn = m.txn ∧
    (Module.pass2 m).couriers = m.couriers ∧
    (Module.pass2 m).trig = m.trig ∧
    (Module.pass2 m).trace = m.trace ∧
    (Module.pass2 m).lanes = m.lanes ∧
    (Module.pass2 m).bundles = m.bundles ∧
    (Module.pass2 m).disc = m.disc ∧
    (Module.pass2 m).store = m.store ∧
    (Module.pass2 m).scrub = m.scrub ∧
    (Module.pass2 m).hbm = m.hbm := by
  unfold Module.pass2; simp

@[simp] theorem pass3_frame (m : Module) :
    (Module.pass3 m).regs = m.regs ∧
    (Module.pass3 m).ctl = m.ctl ∧
    (Module.pass3 m).pins = m.pins ∧
    (Module.pass3 m).start = m.start ∧
    (Module.pass3 m).seq = m.seq ∧
    (Module.pass3 m).data = m.data ∧
    (Module.pass3 m).image = m.image ∧
    (Module.pass3 m).txn = m.txn ∧
    (Module.pass3 m).couriers = m.couriers ∧
    (Module.pass3 m).trig = m.trig ∧
    (Module.pass3 m).trace = m.trace ∧
    (Module.pass3 m).fabric = m.fabric ∧
    (Module.pass3 m).lanes = m.lanes ∧
    (Module.pass3 m).bundles = m.bundles ∧
    (Module.pass3 m).disc = m.disc ∧
    (Module.pass3 m).store = m.store ∧
    (Module.pass3 m).stew = m.stew ∧
    (Module.pass3 m).scrub = m.scrub ∧
    (Module.pass3 m).outbox = m.outbox := by
  unfold Module.pass3
  dsimp only
  simp only [and_self]

@[simp] theorem pass4_frame (m : Module) :
    (Module.pass4 m).pins = m.pins ∧
    (Module.pass4 m).start = m.start ∧
    (Module.pass4 m).seq = m.seq ∧
    (Module.pass4 m).data = m.data ∧
    (Module.pass4 m).txn = m.txn ∧
    (Module.pass4 m).couriers = m.couriers ∧
    (Module.pass4 m).trig = m.trig ∧
    (Module.pass4 m).trace = m.trace ∧
    (Module.pass4 m).lanes = m.lanes ∧
    (Module.pass4 m).bundles = m.bundles ∧
    (Module.pass4 m).disc = m.disc ∧
    (Module.pass4 m).store = m.store ∧
    (Module.pass4 m).scrub = m.scrub := by
  unfold Module.pass4
  dsimp only
  split <;> simp only [rejectImage_frame, setRegs_frame, beginEpoch_frame, and_self, and_true]

@[simp] theorem pass5_frame (m : Module) :
    (Module.pass5 m).trig = m.trig ∧
    (Module.pass5 m).trace = m.trace ∧
    (Module.pass5 m).store = m.store ∧
    (Module.pass5 m).scrub = m.scrub := by
  unfold Module.pass5; simp

@[simp] theorem reuseImage_frame (m : Module) :
    (Module.reuseImage m).image = m.image ∧
    (Module.reuseImage m).load = m.load ∧
    (Module.reuseImage m).txn = m.txn ∧
    (Module.reuseImage m).trig = m.trig ∧
    (Module.reuseImage m).trace = m.trace ∧
    (Module.reuseImage m).store = m.store ∧
    (Module.reuseImage m).scrub = m.scrub ∧
    (Module.reuseImage m).hbm = m.hbm := by
  unfold Module.reuseImage; simp

@[simp] theorem digestCheck_frame (chk : SectorCheck) (m : Module) :
    (Module.digestCheck chk m).image = m.image ∧
    (Module.digestCheck chk m).txn = m.txn ∧
    (Module.digestCheck chk m).trig = m.trig ∧
    (Module.digestCheck chk m).trace = m.trace := by
  unfold Module.digestCheck; simp

@[simp] theorem retrain_frame (b : Nat) (m : Module) :
    (Module.retrain b m).regs = m.regs ∧
    (Module.retrain b m).ctl = m.ctl ∧
    (Module.retrain b m).pins = m.pins ∧
    (Module.retrain b m).start = m.start ∧
    (Module.retrain b m).seq = m.seq ∧
    (Module.retrain b m).data = m.data ∧
    (Module.retrain b m).image = m.image ∧
    (Module.retrain b m).load = m.load ∧
    (Module.retrain b m).txn = m.txn ∧
    (Module.retrain b m).couriers = m.couriers ∧
    (Module.retrain b m).trig = m.trig ∧
    (Module.retrain b m).trace = m.trace ∧
    (Module.retrain b m).fabric = m.fabric ∧
    (Module.retrain b m).disc = m.disc ∧
    (Module.retrain b m).store = m.store ∧
    (Module.retrain b m).sec = m.sec ∧
    (Module.retrain b m).stew = m.stew ∧
    (Module.retrain b m).scrub = m.scrub ∧
    (Module.retrain b m).hbm = m.hbm ∧
    (Module.retrain b m).outbox = m.outbox := by
  unfold Module.retrain; simp

@[simp] theorem bundleTrained_frame (b : Nat) (m : Module) :
    (Module.bundleTrained b m).ctl = m.ctl ∧
    (Module.bundleTrained b m).image = m.image ∧
    (Module.bundleTrained b m).load = m.load ∧
    (Module.bundleTrained b m).txn = m.txn ∧
    (Module.bundleTrained b m).couriers = m.couriers ∧
    (Module.bundleTrained b m).trig = m.trig ∧
    (Module.bundleTrained b m).trace = m.trace ∧
    (Module.bundleTrained b m).fabric = m.fabric ∧
    (Module.bundleTrained b m).lanes = m.lanes ∧
    (Module.bundleTrained b m).store = m.store ∧
    (Module.bundleTrained b m).scrub = m.scrub ∧
    (Module.bundleTrained b m).hbm = m.hbm := by
  unfold Module.bundleTrained; simp

@[simp] theorem sendSymbol_frame (lane : Nat) (p : TrainPhase) (m : Module) :
    (Module.sendSymbol lane p m).regs = m.regs ∧
    (Module.sendSymbol lane p m).ctl = m.ctl ∧
    (Module.sendSymbol lane p m).pins = m.pins ∧
    (Module.sendSymbol lane p m).start = m.start ∧
    (Module.sendSymbol lane p m).seq = m.seq ∧
    (Module.sendSymbol lane p m).data = m.data ∧
    (Module.sendSymbol lane p m).image = m.image ∧
    (Module.sendSymbol lane p m).load = m.load ∧
    (Module.sendSymbol lane p m).txn = m.txn ∧
    (Module.sendSymbol lane p m).couriers = m.couriers ∧
    (Module.sendSymbol lane p m).trig = m.trig ∧
    (Module.sendSymbol lane p m).trace = m.trace ∧
    (Module.sendSymbol lane p m).fabric = m.fabric ∧
    (Module.sendSymbol lane p m).lanes = m.lanes ∧
    (Module.sendSymbol lane p m).bundles = m.bundles ∧
    (Module.sendSymbol lane p m).disc = m.disc ∧
    (Module.sendSymbol lane p m).store = m.store ∧
    (Module.sendSymbol lane p m).stew = m.stew ∧
    (Module.sendSymbol lane p m).scrub = m.scrub ∧
    (Module.sendSymbol lane p m).hbm = m.hbm := by
  unfold Module.sendSymbol; simp

@[simp] theorem laneUp_frame (lane : Nat) (x : Lane) (m : Module) :
    (Module.laneUp lane x m).ctl = m.ctl ∧
    (Module.laneUp lane x m).image = m.image ∧
    (Module.laneUp lane x m).load = m.load ∧
    (Module.laneUp lane x m).txn = m.txn ∧
    (Module.laneUp lane x m).couriers = m.couriers ∧
    (Module.laneUp lane x m).trig = m.trig ∧
    (Module.laneUp lane x m).trace = m.trace ∧
    (Module.laneUp lane x m).fabric = m.fabric ∧
    (Module.laneUp lane x m).store = m.store ∧
    (Module.laneUp lane x m).scrub = m.scrub ∧
    (Module.laneUp lane x m).hbm = m.hbm := by
  unfold Module.laneUp; simp

@[simp] theorem phaseDone_frame (lane : Nat) (symbol : BitVec 128) (m : Module) :
    (Module.phaseDone lane symbol m).ctl = m.ctl ∧
    (Module.phaseDone lane symbol m).image = m.image ∧
    (Module.phaseDone lane symbol m).load = m.load ∧
    (Module.phaseDone lane symbol m).txn = m.txn ∧
    (Module.phaseDone lane symbol m).couriers = m.couriers ∧
    (Module.phaseDone lane symbol m).trig = m.trig ∧
    (Module.phaseDone lane symbol m).trace = m.trace ∧
    (Module.phaseDone lane symbol m).fabric = m.fabric ∧
    (Module.phaseDone lane symbol m).store = m.store ∧
    (Module.phaseDone lane symbol m).scrub = m.scrub ∧
    (Module.phaseDone lane symbol m).hbm = m.hbm := by
  unfold Module.phaseDone; (try dsimp only); (repeat' split) <;> simp

@[simp] theorem limitExpiry_frame (lane : Nat) (m : Module) :
    (Module.limitExpiry lane m).ctl = m.ctl ∧
    (Module.limitExpiry lane m).image = m.image ∧
    (Module.limitExpiry lane m).load = m.load ∧
    (Module.limitExpiry lane m).txn = m.txn ∧
    (Module.limitExpiry lane m).couriers = m.couriers ∧
    (Module.limitExpiry lane m).trig = m.trig ∧
    (Module.limitExpiry lane m).trace = m.trace ∧
    (Module.limitExpiry lane m).fabric = m.fabric ∧
    (Module.limitExpiry lane m).store = m.store ∧
    (Module.limitExpiry lane m).scrub = m.scrub ∧
    (Module.limitExpiry lane m).hbm = m.hbm := by
  unfold Module.limitExpiry; (try dsimp only); (repeat' split) <;> simp

@[simp] theorem takePlace_frame (ring pos : Nat) (m : Module) :
    (Module.takePlace ring pos m).regs = m.regs ∧
    (Module.takePlace ring pos m).ctl = m.ctl ∧
    (Module.takePlace ring pos m).pins = m.pins ∧
    (Module.takePlace ring pos m).start = m.start ∧
    (Module.takePlace ring pos m).seq = m.seq ∧
    (Module.takePlace ring pos m).data = m.data ∧
    (Module.takePlace ring pos m).image = m.image ∧
    (Module.takePlace ring pos m).load = m.load ∧
    (Module.takePlace ring pos m).txn = m.txn ∧
    (Module.takePlace ring pos m).couriers = m.couriers ∧
    (Module.takePlace ring pos m).trig = m.trig ∧
    (Module.takePlace ring pos m).trace = m.trace ∧
    (Module.takePlace ring pos m).fabric = m.fabric ∧
    (Module.takePlace ring pos m).lanes = m.lanes ∧
    (Module.takePlace ring pos m).bundles = m.bundles ∧
    (Module.takePlace ring pos m).store = m.store ∧
    (Module.takePlace ring pos m).sec = m.sec ∧
    (Module.takePlace ring pos m).stew = m.stew ∧
    (Module.takePlace ring pos m).scrub = m.scrub ∧
    (Module.takePlace ring pos m).hbm = m.hbm ∧
    (Module.takePlace ring pos m).outbox = m.outbox := by
  unfold Module.takePlace; simp

@[simp] theorem mismatch_frame (m : Module) :
    (Module.mismatch m).ctl = m.ctl ∧
    (Module.mismatch m).pins = m.pins ∧
    (Module.mismatch m).seq = m.seq ∧
    (Module.mismatch m).data = m.data ∧
    (Module.mismatch m).image = m.image ∧
    (Module.mismatch m).load = m.load ∧
    (Module.mismatch m).txn = m.txn ∧
    (Module.mismatch m).couriers = m.couriers ∧
    (Module.mismatch m).trig = m.trig ∧
    (Module.mismatch m).trace = m.trace ∧
    (Module.mismatch m).fabric = m.fabric ∧
    (Module.mismatch m).lanes = m.lanes ∧
    (Module.mismatch m).bundles = m.bundles ∧
    (Module.mismatch m).disc = m.disc ∧
    (Module.mismatch m).store = m.store ∧
    (Module.mismatch m).sec = m.sec ∧
    (Module.mismatch m).scrub = m.scrub ∧
    (Module.mismatch m).hbm = m.hbm ∧
    (Module.mismatch m).outbox = m.outbox := by
  unfold Module.mismatch; simp

@[simp] theorem discoveryFail_frame (m : Module) :
    (Module.discoveryFail m).ctl = m.ctl ∧
    (Module.discoveryFail m).image = m.image ∧
    (Module.discoveryFail m).load = m.load ∧
    (Module.discoveryFail m).txn = m.txn ∧
    (Module.discoveryFail m).couriers = m.couriers ∧
    (Module.discoveryFail m).trig = m.trig ∧
    (Module.discoveryFail m).trace = m.trace ∧
    (Module.discoveryFail m).fabric = m.fabric ∧
    (Module.discoveryFail m).lanes = m.lanes ∧
    (Module.discoveryFail m).bundles = m.bundles ∧
    (Module.discoveryFail m).store = m.store ∧
    (Module.discoveryFail m).sec = m.sec ∧
    (Module.discoveryFail m).scrub = m.scrub ∧
    (Module.discoveryFail m).hbm = m.hbm ∧
    (Module.discoveryFail m).outbox = m.outbox := by
  unfold Module.discoveryFail; simp

@[simp] theorem ringDisc_frame (ring count : Nat) (m : Module) :
    (Module.ringDisc ring count m).ctl = m.ctl ∧
    (Module.ringDisc ring count m).image = m.image ∧
    (Module.ringDisc ring count m).load = m.load ∧
    (Module.ringDisc ring count m).txn = m.txn ∧
    (Module.ringDisc ring count m).couriers = m.couriers ∧
    (Module.ringDisc ring count m).trig = m.trig ∧
    (Module.ringDisc ring count m).trace = m.trace ∧
    (Module.ringDisc ring count m).fabric = m.fabric ∧
    (Module.ringDisc ring count m).lanes = m.lanes ∧
    (Module.ringDisc ring count m).store = m.store ∧
    (Module.ringDisc ring count m).scrub = m.scrub ∧
    (Module.ringDisc ring count m).hbm = m.hbm := by
  unfold Module.ringDisc; simp

@[simp] theorem headDisc_frame (ring : Nat) (m : Module) :
    (Module.headDisc ring m).ctl = m.ctl ∧
    (Module.headDisc ring m).image = m.image ∧
    (Module.headDisc ring m).load = m.load ∧
    (Module.headDisc ring m).txn = m.txn ∧
    (Module.headDisc ring m).couriers = m.couriers ∧
    (Module.headDisc ring m).trig = m.trig ∧
    (Module.headDisc ring m).trace = m.trace ∧
    (Module.headDisc ring m).fabric = m.fabric ∧
    (Module.headDisc ring m).lanes = m.lanes ∧
    (Module.headDisc ring m).store = m.store ∧
    (Module.headDisc ring m).scrub = m.scrub ∧
    (Module.headDisc ring m).hbm = m.hbm := by
  unfold Module.headDisc; simp

@[simp] theorem calibrate_frame (m : Module) :
    (Module.calibrate m).ctl = m.ctl ∧
    (Module.calibrate m).pins = m.pins ∧
    (Module.calibrate m).start = m.start ∧
    (Module.calibrate m).seq = m.seq ∧
    (Module.calibrate m).data = m.data ∧
    (Module.calibrate m).image = m.image ∧
    (Module.calibrate m).load = m.load ∧
    (Module.calibrate m).txn = m.txn ∧
    (Module.calibrate m).couriers = m.couriers ∧
    (Module.calibrate m).trig = m.trig ∧
    (Module.calibrate m).trace = m.trace ∧
    (Module.calibrate m).fabric = m.fabric ∧
    (Module.calibrate m).lanes = m.lanes ∧
    (Module.calibrate m).bundles = m.bundles ∧
    (Module.calibrate m).disc = m.disc ∧
    (Module.calibrate m).store = m.store ∧
    (Module.calibrate m).stew = m.stew ∧
    (Module.calibrate m).scrub = m.scrub ∧
    (Module.calibrate m).hbm = m.hbm ∧
    (Module.calibrate m).outbox = m.outbox := by
  unfold Module.calibrate; simp

@[simp] theorem distributed_frame (m : Module) :
    (Module.distributed m).ctl = m.ctl ∧
    (Module.distributed m).pins = m.pins ∧
    (Module.distributed m).start = m.start ∧
    (Module.distributed m).seq = m.seq ∧
    (Module.distributed m).data = m.data ∧
    (Module.distributed m).image = m.image ∧
    (Module.distributed m).load = m.load ∧
    (Module.distributed m).txn = m.txn ∧
    (Module.distributed m).couriers = m.couriers ∧
    (Module.distributed m).trig = m.trig ∧
    (Module.distributed m).trace = m.trace ∧
    (Module.distributed m).fabric = m.fabric ∧
    (Module.distributed m).lanes = m.lanes ∧
    (Module.distributed m).bundles = m.bundles ∧
    (Module.distributed m).disc = m.disc ∧
    (Module.distributed m).store = m.store ∧
    (Module.distributed m).stew = m.stew ∧
    (Module.distributed m).scrub = m.scrub ∧
    (Module.distributed m).hbm = m.hbm ∧
    (Module.distributed m).outbox = m.outbox := by
  unfold Module.distributed; simp

@[simp] theorem newSlot_frame (m : Module) :
    (Module.newSlot m).ctl = m.ctl ∧
    (Module.newSlot m).pins = m.pins ∧
    (Module.newSlot m).start = m.start ∧
    (Module.newSlot m).seq = m.seq ∧
    (Module.newSlot m).data = m.data ∧
    (Module.newSlot m).image = m.image ∧
    (Module.newSlot m).load = m.load ∧
    (Module.newSlot m).txn = m.txn ∧
    (Module.newSlot m).couriers = m.couriers ∧
    (Module.newSlot m).trig = m.trig ∧
    (Module.newSlot m).trace = m.trace ∧
    (Module.newSlot m).fabric = m.fabric ∧
    (Module.newSlot m).lanes = m.lanes ∧
    (Module.newSlot m).bundles = m.bundles ∧
    (Module.newSlot m).disc = m.disc ∧
    (Module.newSlot m).store = m.store ∧
    (Module.newSlot m).stew = m.stew ∧
    (Module.newSlot m).scrub = m.scrub ∧
    (Module.newSlot m).hbm = m.hbm ∧
    (Module.newSlot m).outbox = m.outbox := by
  unfold Module.newSlot; simp

@[simp] theorem discoveryDone_frame (m : Module) :
    (Module.discoveryDone m).ctl = m.ctl ∧
    (Module.discoveryDone m).image = m.image ∧
    (Module.discoveryDone m).load = m.load ∧
    (Module.discoveryDone m).txn = m.txn ∧
    (Module.discoveryDone m).couriers = m.couriers ∧
    (Module.discoveryDone m).trig = m.trig ∧
    (Module.discoveryDone m).trace = m.trace ∧
    (Module.discoveryDone m).fabric = m.fabric ∧
    (Module.discoveryDone m).lanes = m.lanes ∧
    (Module.discoveryDone m).bundles = m.bundles ∧
    (Module.discoveryDone m).store = m.store ∧
    (Module.discoveryDone m).stew = m.stew ∧
    (Module.discoveryDone m).scrub = m.scrub ∧
    (Module.discoveryDone m).hbm = m.hbm ∧
    (Module.discoveryDone m).outbox = m.outbox := by
  unfold Module.discoveryDone; simp

@[simp] theorem sendEchoes_frame (m : Module) :
    (Module.sendEchoes m).ctl = m.ctl ∧
    (Module.sendEchoes m).image = m.image ∧
    (Module.sendEchoes m).load = m.load ∧
    (Module.sendEchoes m).txn = m.txn ∧
    (Module.sendEchoes m).couriers = m.couriers ∧
    (Module.sendEchoes m).trig = m.trig ∧
    (Module.sendEchoes m).trace = m.trace ∧
    (Module.sendEchoes m).fabric = m.fabric ∧
    (Module.sendEchoes m).lanes = m.lanes ∧
    (Module.sendEchoes m).store = m.store ∧
    (Module.sendEchoes m).stew = m.stew ∧
    (Module.sendEchoes m).scrub = m.scrub ∧
    (Module.sendEchoes m).hbm = m.hbm := by
  unfold Module.sendEchoes; simp

@[simp] theorem adjDone_frame (m : Module) :
    (Module.adjDone m).ctl = m.ctl ∧
    (Module.adjDone m).image = m.image ∧
    (Module.adjDone m).load = m.load ∧
    (Module.adjDone m).txn = m.txn ∧
    (Module.adjDone m).couriers = m.couriers ∧
    (Module.adjDone m).trig = m.trig ∧
    (Module.adjDone m).trace = m.trace ∧
    (Module.adjDone m).fabric = m.fabric ∧
    (Module.adjDone m).lanes = m.lanes ∧
    (Module.adjDone m).store = m.store ∧
    (Module.adjDone m).scrub = m.scrub ∧
    (Module.adjDone m).hbm = m.hbm := by
  unfold Module.adjDone; (try dsimp only); (repeat' split) <;> simp (disch := (intros; (try dsimp only); (repeat' split) <;> (try simp)))

@[simp] theorem holdAdj_frame (from_ : Option Nat) (module : Nat) (nbr : List (Option Nat)) (m : Module) :
    (Module.holdAdj from_ module nbr m).ctl = m.ctl ∧
    (Module.holdAdj from_ module nbr m).image = m.image ∧
    (Module.holdAdj from_ module nbr m).load = m.load ∧
    (Module.holdAdj from_ module nbr m).txn = m.txn ∧
    (Module.holdAdj from_ module nbr m).couriers = m.couriers ∧
    (Module.holdAdj from_ module nbr m).trig = m.trig ∧
    (Module.holdAdj from_ module nbr m).trace = m.trace ∧
    (Module.holdAdj from_ module nbr m).fabric = m.fabric ∧
    (Module.holdAdj from_ module nbr m).lanes = m.lanes ∧
    (Module.holdAdj from_ module nbr m).store = m.store ∧
    (Module.holdAdj from_ module nbr m).scrub = m.scrub ∧
    (Module.holdAdj from_ module nbr m).hbm = m.hbm := by
  unfold Module.holdAdj; simp

@[simp] theorem ident_frame (bundle sender : Nat) (sysid : Word) (mods : Nat) (m : Module) :
    (Module.ident bundle sender sysid mods m).ctl = m.ctl ∧
    (Module.ident bundle sender sysid mods m).image = m.image ∧
    (Module.ident bundle sender sysid mods m).load = m.load ∧
    (Module.ident bundle sender sysid mods m).txn = m.txn ∧
    (Module.ident bundle sender sysid mods m).couriers = m.couriers ∧
    (Module.ident bundle sender sysid mods m).trig = m.trig ∧
    (Module.ident bundle sender sysid mods m).trace = m.trace ∧
    (Module.ident bundle sender sysid mods m).fabric = m.fabric ∧
    (Module.ident bundle sender sysid mods m).lanes = m.lanes ∧
    (Module.ident bundle sender sysid mods m).store = m.store ∧
    (Module.ident bundle sender sysid mods m).scrub = m.scrub ∧
    (Module.ident bundle sender sysid mods m).hbm = m.hbm := by
  unfold Module.ident; simp

@[simp] theorem adj_frame (bundle module : Nat) (nbr : List (Option Nat)) (m : Module) :
    (Module.adj bundle module nbr m).ctl = m.ctl ∧
    (Module.adj bundle module nbr m).image = m.image ∧
    (Module.adj bundle module nbr m).load = m.load ∧
    (Module.adj bundle module nbr m).txn = m.txn ∧
    (Module.adj bundle module nbr m).couriers = m.couriers ∧
    (Module.adj bundle module nbr m).trig = m.trig ∧
    (Module.adj bundle module nbr m).trace = m.trace ∧
    (Module.adj bundle module nbr m).fabric = m.fabric ∧
    (Module.adj bundle module nbr m).lanes = m.lanes ∧
    (Module.adj bundle module nbr m).store = m.store ∧
    (Module.adj bundle module nbr m).scrub = m.scrub ∧
    (Module.adj bundle module nbr m).hbm = m.hbm := by
  unfold Module.adj; simp

@[simp] theorem echoReq_frame (bundle : Nat) (m : Module) :
    (Module.echoReq bundle m).ctl = m.ctl ∧
    (Module.echoReq bundle m).image = m.image ∧
    (Module.echoReq bundle m).load = m.load ∧
    (Module.echoReq bundle m).txn = m.txn ∧
    (Module.echoReq bundle m).couriers = m.couriers ∧
    (Module.echoReq bundle m).trig = m.trig ∧
    (Module.echoReq bundle m).trace = m.trace ∧
    (Module.echoReq bundle m).fabric = m.fabric ∧
    (Module.echoReq bundle m).lanes = m.lanes ∧
    (Module.echoReq bundle m).store = m.store ∧
    (Module.echoReq bundle m).stew = m.stew ∧
    (Module.echoReq bundle m).scrub = m.scrub ∧
    (Module.echoReq bundle m).hbm = m.hbm := by
  unfold Module.echoReq; simp

@[simp] theorem echoDue_frame (bundle : Nat) (m : Module) :
    (Module.echoDue bundle m).ctl = m.ctl ∧
    (Module.echoDue bundle m).image = m.image ∧
    (Module.echoDue bundle m).load = m.load ∧
    (Module.echoDue bundle m).txn = m.txn ∧
    (Module.echoDue bundle m).couriers = m.couriers ∧
    (Module.echoDue bundle m).trig = m.trig ∧
    (Module.echoDue bundle m).trace = m.trace ∧
    (Module.echoDue bundle m).fabric = m.fabric ∧
    (Module.echoDue bundle m).lanes = m.lanes ∧
    (Module.echoDue bundle m).store = m.store ∧
    (Module.echoDue bundle m).stew = m.stew ∧
    (Module.echoDue bundle m).scrub = m.scrub ∧
    (Module.echoDue bundle m).hbm = m.hbm := by
  unfold Module.echoDue; simp

@[simp] theorem echoRsp_frame (bundle roundTrip : Nat) (m : Module) :
    (Module.echoRsp bundle roundTrip m).ctl = m.ctl ∧
    (Module.echoRsp bundle roundTrip m).image = m.image ∧
    (Module.echoRsp bundle roundTrip m).load = m.load ∧
    (Module.echoRsp bundle roundTrip m).txn = m.txn ∧
    (Module.echoRsp bundle roundTrip m).couriers = m.couriers ∧
    (Module.echoRsp bundle roundTrip m).trig = m.trig ∧
    (Module.echoRsp bundle roundTrip m).trace = m.trace ∧
    (Module.echoRsp bundle roundTrip m).fabric = m.fabric ∧
    (Module.echoRsp bundle roundTrip m).lanes = m.lanes ∧
    (Module.echoRsp bundle roundTrip m).bundles = m.bundles ∧
    (Module.echoRsp bundle roundTrip m).store = m.store ∧
    (Module.echoRsp bundle roundTrip m).stew = m.stew ∧
    (Module.echoRsp bundle roundTrip m).scrub = m.scrub ∧
    (Module.echoRsp bundle roundTrip m).hbm = m.hbm ∧
    (Module.echoRsp bundle roundTrip m).outbox = m.outbox := by
  unfold Module.echoRsp; simp

@[simp] theorem startupLock_frame (m : Module) :
    (Module.startupLock m).ctl = m.ctl ∧
    (Module.startupLock m).image = m.image ∧
    (Module.startupLock m).load = m.load ∧
    (Module.startupLock m).txn = m.txn ∧
    (Module.startupLock m).couriers = m.couriers ∧
    (Module.startupLock m).trig = m.trig ∧
    (Module.startupLock m).trace = m.trace ∧
    (Module.startupLock m).fabric = m.fabric ∧
    (Module.startupLock m).lanes = m.lanes ∧
    (Module.startupLock m).bundles = m.bundles ∧
    (Module.startupLock m).disc = m.disc ∧
    (Module.startupLock m).store = m.store ∧
    (Module.startupLock m).sec = m.sec ∧
    (Module.startupLock m).stew = m.stew ∧
    (Module.startupLock m).scrub = m.scrub ∧
    (Module.startupLock m).hbm = m.hbm ∧
    (Module.startupLock m).outbox = m.outbox := by
  unfold Module.startupLock; simp

@[simp] theorem pllUnlock_frame (m : Module) :
    (Module.pllUnlock m).ctl = m.ctl ∧
    (Module.pllUnlock m).image = m.image ∧
    (Module.pllUnlock m).load = m.load ∧
    (Module.pllUnlock m).txn = m.txn ∧
    (Module.pllUnlock m).couriers = m.couriers ∧
    (Module.pllUnlock m).trig = m.trig ∧
    (Module.pllUnlock m).trace = m.trace ∧
    (Module.pllUnlock m).fabric = m.fabric ∧
    (Module.pllUnlock m).lanes = m.lanes ∧
    (Module.pllUnlock m).bundles = m.bundles ∧
    (Module.pllUnlock m).disc = m.disc ∧
    (Module.pllUnlock m).store = m.store ∧
    (Module.pllUnlock m).sec = m.sec ∧
    (Module.pllUnlock m).scrub = m.scrub ∧
    (Module.pllUnlock m).hbm = m.hbm ∧
    (Module.pllUnlock m).outbox = m.outbox := by
  unfold Module.pllUnlock; simp

@[simp] theorem doneTimeout_frame (m : Module) :
    (Module.doneTimeout m).scrub = m.scrub := by
  unfold Module.doneTimeout; simp

@[simp] theorem reqEntry_frame (target stepn : Nat) (m : Module) :
    (Module.reqEntry target stepn m).regs = m.regs ∧
    (Module.reqEntry target stepn m).pins = m.pins ∧
    (Module.reqEntry target stepn m).start = m.start ∧
    (Module.reqEntry target stepn m).seq = m.seq ∧
    (Module.reqEntry target stepn m).data = m.data ∧
    (Module.reqEntry target stepn m).image = m.image ∧
    (Module.reqEntry target stepn m).load = m.load ∧
    (Module.reqEntry target stepn m).txn = m.txn ∧
    (Module.reqEntry target stepn m).couriers = m.couriers ∧
    (Module.reqEntry target stepn m).trig = m.trig ∧
    (Module.reqEntry target stepn m).trace = m.trace ∧
    (Module.reqEntry target stepn m).fabric = m.fabric ∧
    (Module.reqEntry target stepn m).lanes = m.lanes ∧
    (Module.reqEntry target stepn m).bundles = m.bundles ∧
    (Module.reqEntry target stepn m).disc = m.disc ∧
    (Module.reqEntry target stepn m).store = m.store ∧
    (Module.reqEntry target stepn m).sec = m.sec ∧
    (Module.reqEntry target stepn m).scrub = m.scrub ∧
    (Module.reqEntry target stepn m).hbm = m.hbm ∧
    (Module.reqEntry target stepn m).outbox = m.outbox := by
  unfold Module.reqEntry; simp

@[simp] theorem enterKept_frame (mode : Mode) (m : Module) :
    (Module.enterKept mode m).regs = m.regs ∧
    (Module.enterKept mode m).pins = m.pins ∧
    (Module.enterKept mode m).start = m.start ∧
    (Module.enterKept mode m).seq = m.seq ∧
    (Module.enterKept mode m).data = m.data ∧
    (Module.enterKept mode m).image = m.image ∧
    (Module.enterKept mode m).load = m.load ∧
    (Module.enterKept mode m).txn = m.txn ∧
    (Module.enterKept mode m).couriers = m.couriers ∧
    (Module.enterKept mode m).trig = m.trig ∧
    (Module.enterKept mode m).trace = m.trace ∧
    (Module.enterKept mode m).lanes = m.lanes ∧
    (Module.enterKept mode m).bundles = m.bundles ∧
    (Module.enterKept mode m).disc = m.disc ∧
    (Module.enterKept mode m).store = m.store ∧
    (Module.enterKept mode m).sec = m.sec ∧
    (Module.enterKept mode m).stew = m.stew ∧
    (Module.enterKept mode m).scrub = m.scrub ∧
    (Module.enterKept mode m).hbm = m.hbm := by
  unfold Module.enterKept; simp

@[simp] theorem reqFreeze_frame (m : Module) :
    (Module.reqFreeze m).pins = m.pins ∧
    (Module.reqFreeze m).start = m.start ∧
    (Module.reqFreeze m).data = m.data ∧
    (Module.reqFreeze m).image = m.image ∧
    (Module.reqFreeze m).load = m.load ∧
    (Module.reqFreeze m).couriers = m.couriers ∧
    (Module.reqFreeze m).trig = m.trig ∧
    (Module.reqFreeze m).trace = m.trace ∧
    (Module.reqFreeze m).lanes = m.lanes ∧
    (Module.reqFreeze m).bundles = m.bundles ∧
    (Module.reqFreeze m).disc = m.disc ∧
    (Module.reqFreeze m).store = m.store ∧
    (Module.reqFreeze m).scrub = m.scrub ∧
    (Module.reqFreeze m).hbm = m.hbm := by
  unfold Module.reqFreeze; (try dsimp only); (repeat' split) <;> simp

@[simp] theorem reqInspect_frame (m : Module) :
    (Module.reqInspect m).regs = m.regs ∧
    (Module.reqInspect m).pins = m.pins ∧
    (Module.reqInspect m).start = m.start ∧
    (Module.reqInspect m).seq = m.seq ∧
    (Module.reqInspect m).data = m.data ∧
    (Module.reqInspect m).image = m.image ∧
    (Module.reqInspect m).load = m.load ∧
    (Module.reqInspect m).txn = m.txn ∧
    (Module.reqInspect m).couriers = m.couriers ∧
    (Module.reqInspect m).trig = m.trig ∧
    (Module.reqInspect m).trace = m.trace ∧
    (Module.reqInspect m).lanes = m.lanes ∧
    (Module.reqInspect m).bundles = m.bundles ∧
    (Module.reqInspect m).disc = m.disc ∧
    (Module.reqInspect m).store = m.store ∧
    (Module.reqInspect m).sec = m.sec ∧
    (Module.reqInspect m).scrub = m.scrub ∧
    (Module.reqInspect m).hbm = m.hbm := by
  unfold Module.reqInspect; (try dsimp only); (repeat' split) <;> simp

@[simp] theorem reqService_frame (mode : Mode) (m : Module) :
    (Module.reqService mode m).pins = m.pins ∧
    (Module.reqService mode m).start = m.start ∧
    (Module.reqService mode m).seq = m.seq ∧
    (Module.reqService mode m).image = m.image ∧
    (Module.reqService mode m).load = m.load ∧
    (Module.reqService mode m).trig = m.trig ∧
    (Module.reqService mode m).trace = m.trace ∧
    (Module.reqService mode m).lanes = m.lanes ∧
    (Module.reqService mode m).bundles = m.bundles ∧
    (Module.reqService mode m).disc = m.disc ∧
    (Module.reqService mode m).store = m.store := by
  unfold Module.reqService; simp

end Sys2Proof.Machine
end

