-- ==== Sys2Proof/Laws/FrameFabric.lean ====
section
/-! SUPPORT. Laws/FrameFabric.lean: for each operation of the packet network at its targets, the parts of the module that it
never changes. -/

namespace Sys2Proof.Machine

@[simp] theorem takeNet_frame (p : Packet) (m : Module) :
    (Module.takeNet p m).regs = m.regs ∧
    (Module.takeNet p m).ctl = m.ctl ∧
    (Module.takeNet p m).pins = m.pins ∧
    (Module.takeNet p m).start = m.start ∧
    (Module.takeNet p m).seq = m.seq ∧
    (Module.takeNet p m).data = m.data ∧
    (Module.takeNet p m).image = m.image ∧
    (Module.takeNet p m).load = m.load ∧
    (Module.takeNet p m).txn = m.txn ∧
    (Module.takeNet p m).couriers = m.couriers ∧
    (Module.takeNet p m).trig = m.trig ∧
    (Module.takeNet p m).trace = m.trace ∧
    (Module.takeNet p m).lanes = m.lanes ∧
    (Module.takeNet p m).bundles = m.bundles ∧
    (Module.takeNet p m).disc = m.disc ∧
    (Module.takeNet p m).store = m.store ∧
    (Module.takeNet p m).sec = m.sec ∧
    (Module.takeNet p m).stew = m.stew ∧
    (Module.takeNet p m).scrub = m.scrub ∧
    (Module.takeNet p m).hbm = m.hbm ∧
    (Module.takeNet p m).outbox = m.outbox := by
  unfold Module.takeNet; simp

@[simp] theorem nocParity_frame (r : Nat) (m : Module) :
    (Module.nocParity r m).ctl = m.ctl ∧
    (Module.nocParity r m).pins = m.pins ∧
    (Module.nocParity r m).start = m.start ∧
    (Module.nocParity r m).seq = m.seq ∧
    (Module.nocParity r m).data = m.data ∧
    (Module.nocParity r m).image = m.image ∧
    (Module.nocParity r m).load = m.load ∧
    (Module.nocParity r m).txn = m.txn ∧
    (Module.nocParity r m).couriers = m.couriers ∧
    (Module.nocParity r m).trig = m.trig ∧
    (Module.nocParity r m).trace = m.trace ∧
    (Module.nocParity r m).fabric = m.fabric ∧
    (Module.nocParity r m).lanes = m.lanes ∧
    (Module.nocParity r m).bundles = m.bundles ∧
    (Module.nocParity r m).disc = m.disc ∧
    (Module.nocParity r m).store = m.store ∧
    (Module.nocParity r m).sec = m.sec ∧
    (Module.nocParity r m).scrub = m.scrub ∧
    (Module.nocParity r m).hbm = m.hbm ∧
    (Module.nocParity r m).outbox = m.outbox := by
  unfold Module.nocParity; simp

@[simp] theorem deadAnswer_frame (r : Router) (p : Packet) (m : Module) :
    (Module.deadAnswer r p m).regs = m.regs ∧
    (Module.deadAnswer r p m).ctl = m.ctl ∧
    (Module.deadAnswer r p m).pins = m.pins ∧
    (Module.deadAnswer r p m).start = m.start ∧
    (Module.deadAnswer r p m).seq = m.seq ∧
    (Module.deadAnswer r p m).data = m.data ∧
    (Module.deadAnswer r p m).image = m.image ∧
    (Module.deadAnswer r p m).load = m.load ∧
    (Module.deadAnswer r p m).txn = m.txn ∧
    (Module.deadAnswer r p m).couriers = m.couriers ∧
    (Module.deadAnswer r p m).trig = m.trig ∧
    (Module.deadAnswer r p m).trace = m.trace ∧
    (Module.deadAnswer r p m).lanes = m.lanes ∧
    (Module.deadAnswer r p m).bundles = m.bundles ∧
    (Module.deadAnswer r p m).disc = m.disc ∧
    (Module.deadAnswer r p m).store = m.store ∧
    (Module.deadAnswer r p m).sec = m.sec ∧
    (Module.deadAnswer r p m).stew = m.stew ∧
    (Module.deadAnswer r p m).scrub = m.scrub ∧
    (Module.deadAnswer r p m).hbm = m.hbm := by
  unfold Module.deadAnswer; simp

@[simp] theorem countAbsorbed_frame (p : Packet) (m : Module) :
    (Module.countAbsorbed p m).regs = m.regs ∧
    (Module.countAbsorbed p m).ctl = m.ctl ∧
    (Module.countAbsorbed p m).pins = m.pins ∧
    (Module.countAbsorbed p m).start = m.start ∧
    (Module.countAbsorbed p m).seq = m.seq ∧
    (Module.countAbsorbed p m).data = m.data ∧
    (Module.countAbsorbed p m).image = m.image ∧
    (Module.countAbsorbed p m).load = m.load ∧
    (Module.countAbsorbed p m).txn = m.txn ∧
    (Module.countAbsorbed p m).couriers = m.couriers ∧
    (Module.countAbsorbed p m).trig = m.trig ∧
    (Module.countAbsorbed p m).trace = m.trace ∧
    (Module.countAbsorbed p m).lanes = m.lanes ∧
    (Module.countAbsorbed p m).bundles = m.bundles ∧
    (Module.countAbsorbed p m).disc = m.disc ∧
    (Module.countAbsorbed p m).store = m.store ∧
    (Module.countAbsorbed p m).sec = m.sec ∧
    (Module.countAbsorbed p m).stew = m.stew ∧
    (Module.countAbsorbed p m).scrub = m.scrub ∧
    (Module.countAbsorbed p m).hbm = m.hbm ∧
    (Module.countAbsorbed p m).outbox = m.outbox := by
  unfold Module.countAbsorbed; simp

@[simp] theorem absorb_frame (r : Router) (p : Packet) (m : Module) :
    (Module.absorb r p m).regs = m.regs ∧
    (Module.absorb r p m).ctl = m.ctl ∧
    (Module.absorb r p m).pins = m.pins ∧
    (Module.absorb r p m).start = m.start ∧
    (Module.absorb r p m).seq = m.seq ∧
    (Module.absorb r p m).data = m.data ∧
    (Module.absorb r p m).image = m.image ∧
    (Module.absorb r p m).load = m.load ∧
    (Module.absorb r p m).txn = m.txn ∧
    (Module.absorb r p m).couriers = m.couriers ∧
    (Module.absorb r p m).trig = m.trig ∧
    (Module.absorb r p m).trace = m.trace ∧
    (Module.absorb r p m).lanes = m.lanes ∧
    (Module.absorb r p m).bundles = m.bundles ∧
    (Module.absorb r p m).disc = m.disc ∧
    (Module.absorb r p m).store = m.store ∧
    (Module.absorb r p m).sec = m.sec ∧
    (Module.absorb r p m).stew = m.stew ∧
    (Module.absorb r p m).scrub = m.scrub ∧
    (Module.absorb r p m).hbm = m.hbm := by
  unfold Module.absorb; simp

@[simp] theorem forward_frame (from_ : Router) (p : Packet) (m : Module) :
    (Module.forward from_ p m).ctl = m.ctl ∧
    (Module.forward from_ p m).pins = m.pins ∧
    (Module.forward from_ p m).seq = m.seq ∧
    (Module.forward from_ p m).data = m.data ∧
    (Module.forward from_ p m).image = m.image ∧
    (Module.forward from_ p m).load = m.load ∧
    (Module.forward from_ p m).txn = m.txn ∧
    (Module.forward from_ p m).couriers = m.couriers ∧
    (Module.forward from_ p m).trig = m.trig ∧
    (Module.forward from_ p m).trace = m.trace ∧
    (Module.forward from_ p m).lanes = m.lanes ∧
    (Module.forward from_ p m).disc = m.disc ∧
    (Module.forward from_ p m).store = m.store ∧
    (Module.forward from_ p m).sec = m.sec ∧
    (Module.forward from_ p m).scrub = m.scrub ∧
    (Module.forward from_ p m).hbm = m.hbm := by
  unfold Module.forward; simp

@[simp] theorem lateCheck_frame (p : Packet) (chk : SectorCheck) (m : Module) :
    (Module.lateCheck p chk m).pins = m.pins ∧
    (Module.lateCheck p chk m).data = m.data ∧
    (Module.lateCheck p chk m).image = m.image ∧
    (Module.lateCheck p chk m).txn = m.txn ∧
    (Module.lateCheck p chk m).trig = m.trig ∧
    (Module.lateCheck p chk m).trace = m.trace := by
  unfold Module.lateCheck; simp

@[simp] theorem hbmCheck_frame (p : Packet) (chk : SectorCheck) (m : Module) :
    (Module.hbmCheck p chk m).2.pins = m.pins ∧
    (Module.hbmCheck p chk m).2.data = m.data ∧
    (Module.hbmCheck p chk m).2.image = m.image ∧
    (Module.hbmCheck p chk m).2.txn = m.txn ∧
    (Module.hbmCheck p chk m).2.trig = m.trig ∧
    (Module.hbmCheck p chk m).2.trace = m.trace := by
  unfold Module.hbmCheck; simp

@[simp] theorem hbmStore_frame (p : Packet) (m : Module) :
    (Module.hbmStore p m).regs = m.regs ∧
    (Module.hbmStore p m).ctl = m.ctl ∧
    (Module.hbmStore p m).pins = m.pins ∧
    (Module.hbmStore p m).start = m.start ∧
    (Module.hbmStore p m).seq = m.seq ∧
    (Module.hbmStore p m).data = m.data ∧
    (Module.hbmStore p m).image = m.image ∧
    (Module.hbmStore p m).load = m.load ∧
    (Module.hbmStore p m).txn = m.txn ∧
    (Module.hbmStore p m).couriers = m.couriers ∧
    (Module.hbmStore p m).trig = m.trig ∧
    (Module.hbmStore p m).trace = m.trace ∧
    (Module.hbmStore p m).fabric = m.fabric ∧
    (Module.hbmStore p m).lanes = m.lanes ∧
    (Module.hbmStore p m).bundles = m.bundles ∧
    (Module.hbmStore p m).disc = m.disc ∧
    (Module.hbmStore p m).store = m.store ∧
    (Module.hbmStore p m).sec = m.sec ∧
    (Module.hbmStore p m).stew = m.stew ∧
    (Module.hbmStore p m).scrub = m.scrub ∧
    (Module.hbmStore p m).outbox = m.outbox := by
  unfold Module.hbmStore; simp

@[simp] theorem serveRead_frame (p : Packet) (chk : SectorCheck) (m : Module) :
    (Module.serveRead p chk m).pins = m.pins ∧
    (Module.serveRead p chk m).data = m.data ∧
    (Module.serveRead p chk m).image = m.image ∧
    (Module.serveRead p chk m).txn = m.txn ∧
    (Module.serveRead p chk m).trig = m.trig ∧
    (Module.serveRead p chk m).trace = m.trace := by
  unfold Module.serveRead; simp

@[simp] theorem serveWrite_frame (p : Packet) (chk : SectorCheck) (stored : Bool) (m : Module) :
    (Module.serveWrite p chk stored m).2.pins = m.pins ∧
    (Module.serveWrite p chk stored m).2.data = m.data ∧
    (Module.serveWrite p chk stored m).2.image = m.image ∧
    (Module.serveWrite p chk stored m).2.txn = m.txn ∧
    (Module.serveWrite p chk stored m).2.trig = m.trig ∧
    (Module.serveWrite p chk stored m).2.trace = m.trace := by
  unfold Module.serveWrite; (try dsimp only); (repeat' split) <;> simp

@[simp] theorem writeNP_frame (p : Packet) (chk : SectorCheck) (stored : Bool) (m : Module) :
    (Module.writeNP p chk stored m).pins = m.pins ∧
    (Module.writeNP p chk stored m).data = m.data ∧
    (Module.writeNP p chk stored m).image = m.image ∧
    (Module.writeNP p chk stored m).txn = m.txn ∧
    (Module.writeNP p chk stored m).trig = m.trig ∧
    (Module.writeNP p chk stored m).trace = m.trace := by
  unfold Module.writeNP
  split
  · simp
  · split <;> rename_i h <;> (have h2 := congrArg Prod.snd h; simp at h2; subst h2; simp)

@[simp] theorem writeP_frame (p : Packet) (chk : SectorCheck) (stored : Bool) (m : Module) :
    (Module.writeP p chk stored m).pins = m.pins ∧
    (Module.writeP p chk stored m).data = m.data ∧
    (Module.writeP p chk stored m).image = m.image ∧
    (Module.writeP p chk stored m).txn = m.txn ∧
    (Module.writeP p chk stored m).trig = m.trig ∧
    (Module.writeP p chk stored m).trace = m.trace := by
  unfold Module.writeP
  split
  · simp
  · split <;> rename_i h <;> (have h2 := congrArg Prod.snd h; simp at h2; subst h2; (repeat' split) <;> simp)

@[simp] theorem message_frame (p : Packet) (m : Module) :
    (Module.message p m).ctl = m.ctl ∧
    (Module.message p m).pins = m.pins ∧
    (Module.message p m).seq = m.seq ∧
    (Module.message p m).data = m.data ∧
    (Module.message p m).image = m.image ∧
    (Module.message p m).load = m.load ∧
    (Module.message p m).txn = m.txn ∧
    (Module.message p m).couriers = m.couriers ∧
    (Module.message p m).trig = m.trig ∧
    (Module.message p m).trace = m.trace ∧
    (Module.message p m).lanes = m.lanes ∧
    (Module.message p m).bundles = m.bundles ∧
    (Module.message p m).disc = m.disc ∧
    (Module.message p m).store = m.store ∧
    (Module.message p m).sec = m.sec ∧
    (Module.message p m).scrub = m.scrub ∧
    (Module.message p m).hbm = m.hbm ∧
    (Module.message p m).outbox = m.outbox := by
  unfold Module.message; simp

@[simp] theorem drainMessages_frame (m : Module) :
    (Module.drainMessages m).ctl = m.ctl ∧
    (Module.drainMessages m).pins = m.pins ∧
    (Module.drainMessages m).seq = m.seq ∧
    (Module.drainMessages m).data = m.data ∧
    (Module.drainMessages m).image = m.image ∧
    (Module.drainMessages m).load = m.load ∧
    (Module.drainMessages m).txn = m.txn ∧
    (Module.drainMessages m).couriers = m.couriers ∧
    (Module.drainMessages m).trig = m.trig ∧
    (Module.drainMessages m).trace = m.trace ∧
    (Module.drainMessages m).lanes = m.lanes ∧
    (Module.drainMessages m).bundles = m.bundles ∧
    (Module.drainMessages m).disc = m.disc ∧
    (Module.drainMessages m).store = m.store ∧
    (Module.drainMessages m).sec = m.sec ∧
    (Module.drainMessages m).scrub = m.scrub ∧
    (Module.drainMessages m).hbm = m.hbm := by
  unfold Module.drainMessages; (try dsimp only); (repeat' split) <;> simp (disch := (intros; (try dsimp only); (repeat' split) <;> simp))

@[simp] theorem badOp_frame (p : Packet) (bad : Option Nat) (m : Module) :
    (Module.badOp p bad m).ctl = m.ctl ∧
    (Module.badOp p bad m).pins = m.pins ∧
    (Module.badOp p bad m).start = m.start ∧
    (Module.badOp p bad m).seq = m.seq ∧
    (Module.badOp p bad m).data = m.data ∧
    (Module.badOp p bad m).image = m.image ∧
    (Module.badOp p bad m).load = m.load ∧
    (Module.badOp p bad m).txn = m.txn ∧
    (Module.badOp p bad m).couriers = m.couriers ∧
    (Module.badOp p bad m).trig = m.trig ∧
    (Module.badOp p bad m).trace = m.trace ∧
    (Module.badOp p bad m).lanes = m.lanes ∧
    (Module.badOp p bad m).bundles = m.bundles ∧
    (Module.badOp p bad m).disc = m.disc ∧
    (Module.badOp p bad m).store = m.store ∧
    (Module.badOp p bad m).sec = m.sec ∧
    (Module.badOp p bad m).scrub = m.scrub ∧
    (Module.badOp p bad m).hbm = m.hbm ∧
    (Module.badOp p bad m).outbox = m.outbox := by
  unfold Module.badOp; (try dsimp only); (repeat' split) <;> simp

@[simp] theorem countCpl_frame (t : TagUse) (p : Packet) (m : Module) :
    (Module.countCpl t p m).regs = m.regs ∧
    (Module.countCpl t p m).ctl = m.ctl ∧
    (Module.countCpl t p m).pins = m.pins ∧
    (Module.countCpl t p m).start = m.start ∧
    (Module.countCpl t p m).seq = m.seq ∧
    (Module.countCpl t p m).data = m.data ∧
    (Module.countCpl t p m).image = m.image ∧
    (Module.countCpl t p m).load = m.load ∧
    (Module.countCpl t p m).txn = m.txn ∧
    (Module.countCpl t p m).couriers = m.couriers ∧
    (Module.countCpl t p m).trig = m.trig ∧
    (Module.countCpl t p m).trace = m.trace ∧
    (Module.countCpl t p m).lanes = m.lanes ∧
    (Module.countCpl t p m).bundles = m.bundles ∧
    (Module.countCpl t p m).disc = m.disc ∧
    (Module.countCpl t p m).store = m.store ∧
    (Module.countCpl t p m).sec = m.sec ∧
    (Module.countCpl t p m).stew = m.stew ∧
    (Module.countCpl t p m).scrub = m.scrub ∧
    (Module.countCpl t p m).hbm = m.hbm ∧
    (Module.countCpl t p m).outbox = m.outbox := by
  unfold Module.countCpl; simp

@[simp] theorem dropTag_frame (tag : Nat) (m : Module) :
    (Module.dropTag tag m).regs = m.regs ∧
    (Module.dropTag tag m).ctl = m.ctl ∧
    (Module.dropTag tag m).pins = m.pins ∧
    (Module.dropTag tag m).start = m.start ∧
    (Module.dropTag tag m).seq = m.seq ∧
    (Module.dropTag tag m).data = m.data ∧
    (Module.dropTag tag m).image = m.image ∧
    (Module.dropTag tag m).load = m.load ∧
    (Module.dropTag tag m).txn = m.txn ∧
    (Module.dropTag tag m).couriers = m.couriers ∧
    (Module.dropTag tag m).trig = m.trig ∧
    (Module.dropTag tag m).trace = m.trace ∧
    (Module.dropTag tag m).lanes = m.lanes ∧
    (Module.dropTag tag m).bundles = m.bundles ∧
    (Module.dropTag tag m).disc = m.disc ∧
    (Module.dropTag tag m).store = m.store ∧
    (Module.dropTag tag m).sec = m.sec ∧
    (Module.dropTag tag m).stew = m.stew ∧
    (Module.dropTag tag m).scrub = m.scrub ∧
    (Module.dropTag tag m).hbm = m.hbm ∧
    (Module.dropTag tag m).outbox = m.outbox := by
  unfold Module.dropTag; simp

@[simp] theorem portArrive_frame (tag status : Nat) (w : Word) (m : Module) :
    (Module.portArrive tag status w m).scrub = m.scrub := by
  unfold Module.portArrive; (try dsimp only); (repeat' split) <;> simp

@[simp] theorem hostArrive_frame (tag addr status : Nat) (bs : List Byte) (m : Module) :
    (Module.hostArrive tag addr status bs m).regs = m.regs ∧
    (Module.hostArrive tag addr status bs m).ctl = m.ctl ∧
    (Module.hostArrive tag addr status bs m).pins = m.pins ∧
    (Module.hostArrive tag addr status bs m).start = m.start ∧
    (Module.hostArrive tag addr status bs m).seq = m.seq ∧
    (Module.hostArrive tag addr status bs m).data = m.data ∧
    (Module.hostArrive tag addr status bs m).image = m.image ∧
    (Module.hostArrive tag addr status bs m).load = m.load ∧
    (Module.hostArrive tag addr status bs m).txn = m.txn ∧
    (Module.hostArrive tag addr status bs m).couriers = m.couriers ∧
    (Module.hostArrive tag addr status bs m).trig = m.trig ∧
    (Module.hostArrive tag addr status bs m).trace = m.trace ∧
    (Module.hostArrive tag addr status bs m).lanes = m.lanes ∧
    (Module.hostArrive tag addr status bs m).bundles = m.bundles ∧
    (Module.hostArrive tag addr status bs m).disc = m.disc ∧
    (Module.hostArrive tag addr status bs m).store = m.store ∧
    (Module.hostArrive tag addr status bs m).sec = m.sec ∧
    (Module.hostArrive tag addr status bs m).stew = m.stew ∧
    (Module.hostArrive tag addr status bs m).scrub = m.scrub ∧
    (Module.hostArrive tag addr status bs m).hbm = m.hbm := by
  unfold Module.hostArrive; (try dsimp only); (repeat' split) <;> simp

@[simp] theorem hostIssue_frame (h : HostRead) (m : Module) :
    (Module.hostIssue h m).ctl = m.ctl ∧
    (Module.hostIssue h m).pins = m.pins ∧
    (Module.hostIssue h m).start = m.start ∧
    (Module.hostIssue h m).seq = m.seq ∧
    (Module.hostIssue h m).data = m.data ∧
    (Module.hostIssue h m).image = m.image ∧
    (Module.hostIssue h m).load = m.load ∧
    (Module.hostIssue h m).txn = m.txn ∧
    (Module.hostIssue h m).couriers = m.couriers ∧
    (Module.hostIssue h m).trig = m.trig ∧
    (Module.hostIssue h m).trace = m.trace ∧
    (Module.hostIssue h m).lanes = m.lanes ∧
    (Module.hostIssue h m).bundles = m.bundles ∧
    (Module.hostIssue h m).disc = m.disc ∧
    (Module.hostIssue h m).store = m.store ∧
    (Module.hostIssue h m).sec = m.sec ∧
    (Module.hostIssue h m).stew = m.stew ∧
    (Module.hostIssue h m).scrub = m.scrub ∧
    (Module.hostIssue h m).hbm = m.hbm := by
  unfold Module.hostIssue; simp

@[simp] theorem hostPump_frame (m : Module) :
    (Module.hostPump m).ctl = m.ctl ∧
    (Module.hostPump m).pins = m.pins ∧
    (Module.hostPump m).start = m.start ∧
    (Module.hostPump m).seq = m.seq ∧
    (Module.hostPump m).data = m.data ∧
    (Module.hostPump m).image = m.image ∧
    (Module.hostPump m).load = m.load ∧
    (Module.hostPump m).txn = m.txn ∧
    (Module.hostPump m).couriers = m.couriers ∧
    (Module.hostPump m).trig = m.trig ∧
    (Module.hostPump m).trace = m.trace ∧
    (Module.hostPump m).lanes = m.lanes ∧
    (Module.hostPump m).bundles = m.bundles ∧
    (Module.hostPump m).disc = m.disc ∧
    (Module.hostPump m).store = m.store ∧
    (Module.hostPump m).sec = m.sec ∧
    (Module.hostPump m).stew = m.stew ∧
    (Module.hostPump m).scrub = m.scrub ∧
    (Module.hostPump m).hbm = m.hbm := by
  unfold Module.hostPump; simp

@[simp] theorem deliverCpl_frame (t : TagUse) (p : Packet) (m : Module) :
    (Module.deliverCpl t p m).scrub = m.scrub := by
  unfold Module.deliverCpl; simp

@[simp] theorem completion_frame (p : Packet) (m : Module) :
    (Module.completion p m).scrub = m.scrub := by
  unfold Module.completion; (try dsimp only); (repeat' split) <;> simp

@[simp] theorem acked_frame (p : Packet) (m : Module) :
    (Module.acked p m).ctl = m.ctl ∧
    (Module.acked p m).pins = m.pins ∧
    (Module.acked p m).start = m.start ∧
    (Module.acked p m).image = m.image ∧
    (Module.acked p m).load = m.load ∧
    (Module.acked p m).couriers = m.couriers ∧
    (Module.acked p m).trace = m.trace ∧
    (Module.acked p m).lanes = m.lanes ∧
    (Module.acked p m).bundles = m.bundles ∧
    (Module.acked p m).disc = m.disc ∧
    (Module.acked p m).store = m.store ∧
    (Module.acked p m).sec = m.sec ∧
    (Module.acked p m).scrub = m.scrub := by
  unfold Module.acked; (try dsimp only); (repeat' split) <;> simp

@[simp] theorem writeFailed_frame (i addr tag : Nat) (m : Module) :
    (Module.writeFailed i addr tag m).scrub = m.scrub := by
  unfold Module.writeFailed; simp

@[simp] theorem errNoted_frame (p : Packet) (m : Module) :
    (Module.errNoted p m).scrub = m.scrub := by
  unfold Module.errNoted; (try dsimp only); (repeat' split) <;> simp

@[simp] theorem reportTimeout_frame (ep : Nat) (m : Module) :
    (Module.reportTimeout ep m).ctl = m.ctl ∧
    (Module.reportTimeout ep m).pins = m.pins ∧
    (Module.reportTimeout ep m).start = m.start ∧
    (Module.reportTimeout ep m).seq = m.seq ∧
    (Module.reportTimeout ep m).data = m.data ∧
    (Module.reportTimeout ep m).image = m.image ∧
    (Module.reportTimeout ep m).load = m.load ∧
    (Module.reportTimeout ep m).txn = m.txn ∧
    (Module.reportTimeout ep m).couriers = m.couriers ∧
    (Module.reportTimeout ep m).trig = m.trig ∧
    (Module.reportTimeout ep m).trace = m.trace ∧
    (Module.reportTimeout ep m).lanes = m.lanes ∧
    (Module.reportTimeout ep m).bundles = m.bundles ∧
    (Module.reportTimeout ep m).disc = m.disc ∧
    (Module.reportTimeout ep m).store = m.store ∧
    (Module.reportTimeout ep m).sec = m.sec ∧
    (Module.reportTimeout ep m).scrub = m.scrub ∧
    (Module.reportTimeout ep m).hbm = m.hbm ∧
    (Module.reportTimeout ep m).outbox = m.outbox := by
  unfold Module.reportTimeout; simp

@[simp] theorem npTimeout_frame (tag : Nat) (m : Module) :
    (Module.npTimeout tag m).ctl = m.ctl ∧
    (Module.npTimeout tag m).pins = m.pins ∧
    (Module.npTimeout tag m).start = m.start ∧
    (Module.npTimeout tag m).seq = m.seq ∧
    (Module.npTimeout tag m).data = m.data ∧
    (Module.npTimeout tag m).image = m.image ∧
    (Module.npTimeout tag m).load = m.load ∧
    (Module.npTimeout tag m).couriers = m.couriers ∧
    (Module.npTimeout tag m).trig = m.trig ∧
    (Module.npTimeout tag m).trace = m.trace ∧
    (Module.npTimeout tag m).lanes = m.lanes ∧
    (Module.npTimeout tag m).bundles = m.bundles ∧
    (Module.npTimeout tag m).disc = m.disc ∧
    (Module.npTimeout tag m).store = m.store ∧
    (Module.npTimeout tag m).sec = m.sec ∧
    (Module.npTimeout tag m).scrub = m.scrub := by
  unfold Module.npTimeout; (try dsimp only); (repeat' split) <;> simp

@[simp] theorem quarantineEnd_frame (tag : Nat) (m : Module) :
    (Module.quarantineEnd tag m).ctl = m.ctl ∧
    (Module.quarantineEnd tag m).pins = m.pins ∧
    (Module.quarantineEnd tag m).start = m.start ∧
    (Module.quarantineEnd tag m).image = m.image ∧
    (Module.quarantineEnd tag m).load = m.load ∧
    (Module.quarantineEnd tag m).couriers = m.couriers ∧
    (Module.quarantineEnd tag m).trace = m.trace ∧
    (Module.quarantineEnd tag m).lanes = m.lanes ∧
    (Module.quarantineEnd tag m).bundles = m.bundles ∧
    (Module.quarantineEnd tag m).disc = m.disc ∧
    (Module.quarantineEnd tag m).store = m.store ∧
    (Module.quarantineEnd tag m).sec = m.sec ∧
    (Module.quarantineEnd tag m).stew = m.stew ∧
    (Module.quarantineEnd tag m).scrub = m.scrub ∧
    (Module.quarantineEnd tag m).hbm = m.hbm := by
  unfold Module.quarantineEnd; simp

@[simp] theorem ageLimit_frame (output : Nat) (m : Module) :
    (Module.ageLimit output m).regs = m.regs ∧
    (Module.ageLimit output m).ctl = m.ctl ∧
    (Module.ageLimit output m).pins = m.pins ∧
    (Module.ageLimit output m).start = m.start ∧
    (Module.ageLimit output m).seq = m.seq ∧
    (Module.ageLimit output m).data = m.data ∧
    (Module.ageLimit output m).image = m.image ∧
    (Module.ageLimit output m).load = m.load ∧
    (Module.ageLimit output m).txn = m.txn ∧
    (Module.ageLimit output m).couriers = m.couriers ∧
    (Module.ageLimit output m).trig = m.trig ∧
    (Module.ageLimit output m).trace = m.trace ∧
    (Module.ageLimit output m).lanes = m.lanes ∧
    (Module.ageLimit output m).disc = m.disc ∧
    (Module.ageLimit output m).store = m.store ∧
    (Module.ageLimit output m).sec = m.sec ∧
    (Module.ageLimit output m).stew = m.stew ∧
    (Module.ageLimit output m).scrub = m.scrub ∧
    (Module.ageLimit output m).hbm = m.hbm ∧
    (Module.ageLimit output m).outbox = m.outbox := by
  unfold Module.ageLimit; (try dsimp only); (repeat' split) <;> simp

@[simp] theorem takeControl_frame (link dir : Nat) (f : DieFrame) (m : Module) :
    (Module.takeControl link dir f m).regs = m.regs ∧
    (Module.takeControl link dir f m).ctl = m.ctl ∧
    (Module.takeControl link dir f m).pins = m.pins ∧
    (Module.takeControl link dir f m).start = m.start ∧
    (Module.takeControl link dir f m).seq = m.seq ∧
    (Module.takeControl link dir f m).data = m.data ∧
    (Module.takeControl link dir f m).image = m.image ∧
    (Module.takeControl link dir f m).load = m.load ∧
    (Module.takeControl link dir f m).txn = m.txn ∧
    (Module.takeControl link dir f m).couriers = m.couriers ∧
    (Module.takeControl link dir f m).trig = m.trig ∧
    (Module.takeControl link dir f m).trace = m.trace ∧
    (Module.takeControl link dir f m).lanes = m.lanes ∧
    (Module.takeControl link dir f m).bundles = m.bundles ∧
    (Module.takeControl link dir f m).disc = m.disc ∧
    (Module.takeControl link dir f m).store = m.store ∧
    (Module.takeControl link dir f m).sec = m.sec ∧
    (Module.takeControl link dir f m).stew = m.stew ∧
    (Module.takeControl link dir f m).scrub = m.scrub ∧
    (Module.takeControl link dir f m).hbm = m.hbm := by
  unfold Module.takeControl
  dsimp only
  have h := dieSend_frame link dir
  simp [h]

@[simp] theorem dieNak_frame (link dir : Nat) (m : Module) :
    (Module.dieNak link dir m).regs = m.regs ∧
    (Module.dieNak link dir m).ctl = m.ctl ∧
    (Module.dieNak link dir m).pins = m.pins ∧
    (Module.dieNak link dir m).start = m.start ∧
    (Module.dieNak link dir m).seq = m.seq ∧
    (Module.dieNak link dir m).data = m.data ∧
    (Module.dieNak link dir m).image = m.image ∧
    (Module.dieNak link dir m).load = m.load ∧
    (Module.dieNak link dir m).txn = m.txn ∧
    (Module.dieNak link dir m).couriers = m.couriers ∧
    (Module.dieNak link dir m).trig = m.trig ∧
    (Module.dieNak link dir m).trace = m.trace ∧
    (Module.dieNak link dir m).lanes = m.lanes ∧
    (Module.dieNak link dir m).bundles = m.bundles ∧
    (Module.dieNak link dir m).disc = m.disc ∧
    (Module.dieNak link dir m).store = m.store ∧
    (Module.dieNak link dir m).sec = m.sec ∧
    (Module.dieNak link dir m).stew = m.stew ∧
    (Module.dieNak link dir m).scrub = m.scrub ∧
    (Module.dieNak link dir m).hbm = m.hbm := by
  unfold Module.dieNak; simp

@[simp] theorem dieAccept_frame (link dir : Nat) (f : DieFrame) (m : Module) :
    (Module.dieAccept link dir f m).regs = m.regs ∧
    (Module.dieAccept link dir f m).ctl = m.ctl ∧
    (Module.dieAccept link dir f m).pins = m.pins ∧
    (Module.dieAccept link dir f m).start = m.start ∧
    (Module.dieAccept link dir f m).seq = m.seq ∧
    (Module.dieAccept link dir f m).data = m.data ∧
    (Module.dieAccept link dir f m).image = m.image ∧
    (Module.dieAccept link dir f m).load = m.load ∧
    (Module.dieAccept link dir f m).txn = m.txn ∧
    (Module.dieAccept link dir f m).couriers = m.couriers ∧
    (Module.dieAccept link dir f m).trig = m.trig ∧
    (Module.dieAccept link dir f m).trace = m.trace ∧
    (Module.dieAccept link dir f m).lanes = m.lanes ∧
    (Module.dieAccept link dir f m).bundles = m.bundles ∧
    (Module.dieAccept link dir f m).disc = m.disc ∧
    (Module.dieAccept link dir f m).store = m.store ∧
    (Module.dieAccept link dir f m).sec = m.sec ∧
    (Module.dieAccept link dir f m).stew = m.stew ∧
    (Module.dieAccept link dir f m).scrub = m.scrub ∧
    (Module.dieAccept link dir f m).hbm = m.hbm := by
  unfold Module.dieAccept; simp

@[simp] theorem dieData_frame (link dir : Nat) (f : DieFrame) (m : Module) :
    (Module.dieData link dir f m).regs = m.regs ∧
    (Module.dieData link dir f m).ctl = m.ctl ∧
    (Module.dieData link dir f m).pins = m.pins ∧
    (Module.dieData link dir f m).start = m.start ∧
    (Module.dieData link dir f m).seq = m.seq ∧
    (Module.dieData link dir f m).data = m.data ∧
    (Module.dieData link dir f m).image = m.image ∧
    (Module.dieData link dir f m).load = m.load ∧
    (Module.dieData link dir f m).txn = m.txn ∧
    (Module.dieData link dir f m).couriers = m.couriers ∧
    (Module.dieData link dir f m).trig = m.trig ∧
    (Module.dieData link dir f m).trace = m.trace ∧
    (Module.dieData link dir f m).lanes = m.lanes ∧
    (Module.dieData link dir f m).bundles = m.bundles ∧
    (Module.dieData link dir f m).disc = m.disc ∧
    (Module.dieData link dir f m).store = m.store ∧
    (Module.dieData link dir f m).sec = m.sec ∧
    (Module.dieData link dir f m).stew = m.stew ∧
    (Module.dieData link dir f m).scrub = m.scrub ∧
    (Module.dieData link dir f m).hbm = m.hbm := by
  unfold Module.dieData; simp

@[simp] theorem resendPass_frame (link dir : Nat) (nak : Bool) (m : Module) :
    (Module.resendPass link dir nak m).scrub = m.scrub := by
  unfold Module.resendPass; simp

@[simp] theorem dieIdle_frame (m : Module) (key : Nat) :
    (Module.dieIdle m key).regs = m.regs ∧
    (Module.dieIdle m key).ctl = m.ctl ∧
    (Module.dieIdle m key).pins = m.pins ∧
    (Module.dieIdle m key).start = m.start ∧
    (Module.dieIdle m key).seq = m.seq ∧
    (Module.dieIdle m key).data = m.data ∧
    (Module.dieIdle m key).image = m.image ∧
    (Module.dieIdle m key).load = m.load ∧
    (Module.dieIdle m key).txn = m.txn ∧
    (Module.dieIdle m key).couriers = m.couriers ∧
    (Module.dieIdle m key).trig = m.trig ∧
    (Module.dieIdle m key).trace = m.trace ∧
    (Module.dieIdle m key).lanes = m.lanes ∧
    (Module.dieIdle m key).bundles = m.bundles ∧
    (Module.dieIdle m key).disc = m.disc ∧
    (Module.dieIdle m key).store = m.store ∧
    (Module.dieIdle m key).sec = m.sec ∧
    (Module.dieIdle m key).stew = m.stew ∧
    (Module.dieIdle m key).scrub = m.scrub ∧
    (Module.dieIdle m key).hbm = m.hbm := by
  unfold Module.dieIdle; simp

@[simp] theorem dieIdles_frame (m : Module) :
    (Module.dieIdles m).regs = m.regs ∧
    (Module.dieIdles m).ctl = m.ctl ∧
    (Module.dieIdles m).pins = m.pins ∧
    (Module.dieIdles m).start = m.start ∧
    (Module.dieIdles m).seq = m.seq ∧
    (Module.dieIdles m).data = m.data ∧
    (Module.dieIdles m).image = m.image ∧
    (Module.dieIdles m).load = m.load ∧
    (Module.dieIdles m).txn = m.txn ∧
    (Module.dieIdles m).couriers = m.couriers ∧
    (Module.dieIdles m).trig = m.trig ∧
    (Module.dieIdles m).trace = m.trace ∧
    (Module.dieIdles m).lanes = m.lanes ∧
    (Module.dieIdles m).bundles = m.bundles ∧
    (Module.dieIdles m).disc = m.disc ∧
    (Module.dieIdles m).store = m.store ∧
    (Module.dieIdles m).sec = m.sec ∧
    (Module.dieIdles m).stew = m.stew ∧
    (Module.dieIdles m).scrub = m.scrub ∧
    (Module.dieIdles m).hbm = m.hbm := by
  unfold Module.dieIdles; simp

@[simp] theorem initSel_frame (ep : Nat) (m : Module) :
    (Module.initSel ep m).ctl = m.ctl ∧
    (Module.initSel ep m).pins = m.pins ∧
    (Module.initSel ep m).start = m.start ∧
    (Module.initSel ep m).seq = m.seq ∧
    (Module.initSel ep m).data = m.data ∧
    (Module.initSel ep m).image = m.image ∧
    (Module.initSel ep m).load = m.load ∧
    (Module.initSel ep m).txn = m.txn ∧
    (Module.initSel ep m).couriers = m.couriers ∧
    (Module.initSel ep m).trig = m.trig ∧
    (Module.initSel ep m).trace = m.trace ∧
    (Module.initSel ep m).lanes = m.lanes ∧
    (Module.initSel ep m).bundles = m.bundles ∧
    (Module.initSel ep m).disc = m.disc ∧
    (Module.initSel ep m).store = m.store ∧
    (Module.initSel ep m).sec = m.sec ∧
    (Module.initSel ep m).scrub = m.scrub ∧
    (Module.initSel ep m).hbm = m.hbm ∧
    (Module.initSel ep m).outbox = m.outbox := by
  unfold Module.initSel; simp

end Sys2Proof.Machine
end

