-- ==== Sys2Proof/Laws/FrameLanes.lean ====
section
/-! SUPPORT. Laws/FrameLanes.lean: for each operation of lanes and bundles, the parts of the module that it
never changes. -/

namespace Sys2Proof.Machine

@[simp] theorem lctl_frame (b op ncls nseq nlane : Nat) (m : Module) :
    (Module.lctl b op ncls nseq nlane m).regs = m.regs ∧
    (Module.lctl b op ncls nseq nlane m).ctl = m.ctl ∧
    (Module.lctl b op ncls nseq nlane m).pins = m.pins ∧
    (Module.lctl b op ncls nseq nlane m).start = m.start ∧
    (Module.lctl b op ncls nseq nlane m).seq = m.seq ∧
    (Module.lctl b op ncls nseq nlane m).data = m.data ∧
    (Module.lctl b op ncls nseq nlane m).image = m.image ∧
    (Module.lctl b op ncls nseq nlane m).load = m.load ∧
    (Module.lctl b op ncls nseq nlane m).txn = m.txn ∧
    (Module.lctl b op ncls nseq nlane m).couriers = m.couriers ∧
    (Module.lctl b op ncls nseq nlane m).trig = m.trig ∧
    (Module.lctl b op ncls nseq nlane m).trace = m.trace ∧
    (Module.lctl b op ncls nseq nlane m).fabric = m.fabric ∧
    (Module.lctl b op ncls nseq nlane m).lanes = m.lanes ∧
    (Module.lctl b op ncls nseq nlane m).disc = m.disc ∧
    (Module.lctl b op ncls nseq nlane m).store = m.store ∧
    (Module.lctl b op ncls nseq nlane m).sec = m.sec ∧
    (Module.lctl b op ncls nseq nlane m).scrub = m.scrub ∧
    (Module.lctl b op ncls nseq nlane m).hbm = m.hbm := by
  unfold Module.lctl; simp

@[simp] theorem findGap_frame (b cls n : Nat) (m : Module) :
    (Module.findGap b cls n m).regs = m.regs ∧
    (Module.findGap b cls n m).ctl = m.ctl ∧
    (Module.findGap b cls n m).pins = m.pins ∧
    (Module.findGap b cls n m).start = m.start ∧
    (Module.findGap b cls n m).seq = m.seq ∧
    (Module.findGap b cls n m).data = m.data ∧
    (Module.findGap b cls n m).image = m.image ∧
    (Module.findGap b cls n m).load = m.load ∧
    (Module.findGap b cls n m).txn = m.txn ∧
    (Module.findGap b cls n m).couriers = m.couriers ∧
    (Module.findGap b cls n m).trig = m.trig ∧
    (Module.findGap b cls n m).trace = m.trace ∧
    (Module.findGap b cls n m).fabric = m.fabric ∧
    (Module.findGap b cls n m).lanes = m.lanes ∧
    (Module.findGap b cls n m).disc = m.disc ∧
    (Module.findGap b cls n m).store = m.store ∧
    (Module.findGap b cls n m).sec = m.sec ∧
    (Module.findGap b cls n m).scrub = m.scrub ∧
    (Module.findGap b cls n m).hbm = m.hbm := by
  unfold Module.findGap; simp

@[simp] theorem judgeLs_frame (b cls ls : Nat) (m : Module) :
    (Module.judgeLs b cls ls m).regs = m.regs ∧
    (Module.judgeLs b cls ls m).ctl = m.ctl ∧
    (Module.judgeLs b cls ls m).pins = m.pins ∧
    (Module.judgeLs b cls ls m).start = m.start ∧
    (Module.judgeLs b cls ls m).seq = m.seq ∧
    (Module.judgeLs b cls ls m).data = m.data ∧
    (Module.judgeLs b cls ls m).image = m.image ∧
    (Module.judgeLs b cls ls m).load = m.load ∧
    (Module.judgeLs b cls ls m).txn = m.txn ∧
    (Module.judgeLs b cls ls m).couriers = m.couriers ∧
    (Module.judgeLs b cls ls m).trig = m.trig ∧
    (Module.judgeLs b cls ls m).trace = m.trace ∧
    (Module.judgeLs b cls ls m).fabric = m.fabric ∧
    (Module.judgeLs b cls ls m).lanes = m.lanes ∧
    (Module.judgeLs b cls ls m).disc = m.disc ∧
    (Module.judgeLs b cls ls m).store = m.store ∧
    (Module.judgeLs b cls ls m).sec = m.sec ∧
    (Module.judgeLs b cls ls m).scrub = m.scrub ∧
    (Module.judgeLs b cls ls m).hbm = m.hbm := by
  unfold Module.judgeLs; simp

@[simp] theorem takeBlock_frame (b : Nat) (cb : CtlBlock) (m : Module) :
    (Module.takeBlock b cb m).ctl = m.ctl ∧
    (Module.takeBlock b cb m).pins = m.pins ∧
    (Module.takeBlock b cb m).start = m.start ∧
    (Module.takeBlock b cb m).image = m.image ∧
    (Module.takeBlock b cb m).load = m.load ∧
    (Module.takeBlock b cb m).txn = m.txn ∧
    (Module.takeBlock b cb m).couriers = m.couriers ∧
    (Module.takeBlock b cb m).trig = m.trig ∧
    (Module.takeBlock b cb m).trace = m.trace ∧
    (Module.takeBlock b cb m).lanes = m.lanes ∧
    (Module.takeBlock b cb m).disc = m.disc ∧
    (Module.takeBlock b cb m).store = m.store ∧
    (Module.takeBlock b cb m).sec = m.sec ∧
    (Module.takeBlock b cb m).scrub = m.scrub ∧
    (Module.takeBlock b cb m).hbm = m.hbm := by
  unfold Module.takeBlock; simp

@[simp] theorem goodIdle_frame (l : Nat) (m : Module) :
    (Module.goodIdle l m).ctl = m.ctl ∧
    (Module.goodIdle l m).image = m.image ∧
    (Module.goodIdle l m).load = m.load ∧
    (Module.goodIdle l m).txn = m.txn ∧
    (Module.goodIdle l m).couriers = m.couriers ∧
    (Module.goodIdle l m).trig = m.trig ∧
    (Module.goodIdle l m).trace = m.trace ∧
    (Module.goodIdle l m).fabric = m.fabric ∧
    (Module.goodIdle l m).store = m.store ∧
    (Module.goodIdle l m).scrub = m.scrub ∧
    (Module.goodIdle l m).hbm = m.hbm := by
  unfold Module.goodIdle; simp

@[simp] theorem bundleDown_frame (b : Nat) (m : Module) :
    (Module.bundleDown b m).ctl = m.ctl ∧
    (Module.bundleDown b m).pins = m.pins ∧
    (Module.bundleDown b m).start = m.start ∧
    (Module.bundleDown b m).seq = m.seq ∧
    (Module.bundleDown b m).data = m.data ∧
    (Module.bundleDown b m).image = m.image ∧
    (Module.bundleDown b m).load = m.load ∧
    (Module.bundleDown b m).txn = m.txn ∧
    (Module.bundleDown b m).couriers = m.couriers ∧
    (Module.bundleDown b m).trig = m.trig ∧
    (Module.bundleDown b m).trace = m.trace ∧
    (Module.bundleDown b m).fabric = m.fabric ∧
    (Module.bundleDown b m).disc = m.disc ∧
    (Module.bundleDown b m).store = m.store ∧
    (Module.bundleDown b m).sec = m.sec ∧
    (Module.bundleDown b m).scrub = m.scrub ∧
    (Module.bundleDown b m).hbm = m.hbm ∧
    (Module.bundleDown b m).outbox = m.outbox := by
  unfold Module.bundleDown; simp

@[simp] theorem resendPkt_frame (b seq vc : Nat) (flit : BitVec 256) (nak : Bool) (m : Module) :
    (Module.resendPkt b seq vc flit nak m).ctl = m.ctl ∧
    (Module.resendPkt b seq vc flit nak m).pins = m.pins ∧
    (Module.resendPkt b seq vc flit nak m).start = m.start ∧
    (Module.resendPkt b seq vc flit nak m).seq = m.seq ∧
    (Module.resendPkt b seq vc flit nak m).data = m.data ∧
    (Module.resendPkt b seq vc flit nak m).image = m.image ∧
    (Module.resendPkt b seq vc flit nak m).load = m.load ∧
    (Module.resendPkt b seq vc flit nak m).txn = m.txn ∧
    (Module.resendPkt b seq vc flit nak m).couriers = m.couriers ∧
    (Module.resendPkt b seq vc flit nak m).trig = m.trig ∧
    (Module.resendPkt b seq vc flit nak m).trace = m.trace ∧
    (Module.resendPkt b seq vc flit nak m).fabric = m.fabric ∧
    (Module.resendPkt b seq vc flit nak m).disc = m.disc ∧
    (Module.resendPkt b seq vc flit nak m).store = m.store ∧
    (Module.resendPkt b seq vc flit nak m).sec = m.sec ∧
    (Module.resendPkt b seq vc flit nak m).scrub = m.scrub ∧
    (Module.resendPkt b seq vc flit nak m).hbm = m.hbm := by
  unfold Module.resendPkt; simp

@[simp] theorem frameLost_frame (b cls seq : Nat) (m : Module) :
    (Module.frameLost b cls seq m).scrub = m.scrub := by
  unfold Module.frameLost; simp

@[simp] theorem replay_frame (b cls seq : Nat) (m : Module) :
    (Module.replay b cls seq m).scrub = m.scrub := by
  unfold Module.replay; (try dsimp only); (repeat' split) <;> simp

@[simp] theorem nakRepeat_frame (b cls : Nat) (m : Module) :
    (Module.nakRepeat b cls m).regs = m.regs ∧
    (Module.nakRepeat b cls m).ctl = m.ctl ∧
    (Module.nakRepeat b cls m).pins = m.pins ∧
    (Module.nakRepeat b cls m).start = m.start ∧
    (Module.nakRepeat b cls m).seq = m.seq ∧
    (Module.nakRepeat b cls m).data = m.data ∧
    (Module.nakRepeat b cls m).image = m.image ∧
    (Module.nakRepeat b cls m).load = m.load ∧
    (Module.nakRepeat b cls m).txn = m.txn ∧
    (Module.nakRepeat b cls m).couriers = m.couriers ∧
    (Module.nakRepeat b cls m).trig = m.trig ∧
    (Module.nakRepeat b cls m).trace = m.trace ∧
    (Module.nakRepeat b cls m).fabric = m.fabric ∧
    (Module.nakRepeat b cls m).lanes = m.lanes ∧
    (Module.nakRepeat b cls m).disc = m.disc ∧
    (Module.nakRepeat b cls m).store = m.store ∧
    (Module.nakRepeat b cls m).sec = m.sec ∧
    (Module.nakRepeat b cls m).scrub = m.scrub ∧
    (Module.nakRepeat b cls m).hbm = m.hbm := by
  unfold Module.nakRepeat; simp

@[simp] theorem resendOldest_frame (b : Nat) (m : Module) :
    (Module.resendOldest b m).ctl = m.ctl ∧
    (Module.resendOldest b m).pins = m.pins ∧
    (Module.resendOldest b m).start = m.start ∧
    (Module.resendOldest b m).seq = m.seq ∧
    (Module.resendOldest b m).data = m.data ∧
    (Module.resendOldest b m).image = m.image ∧
    (Module.resendOldest b m).load = m.load ∧
    (Module.resendOldest b m).txn = m.txn ∧
    (Module.resendOldest b m).couriers = m.couriers ∧
    (Module.resendOldest b m).trig = m.trig ∧
    (Module.resendOldest b m).trace = m.trace ∧
    (Module.resendOldest b m).fabric = m.fabric ∧
    (Module.resendOldest b m).disc = m.disc ∧
    (Module.resendOldest b m).store = m.store ∧
    (Module.resendOldest b m).sec = m.sec ∧
    (Module.resendOldest b m).scrub = m.scrub ∧
    (Module.resendOldest b m).hbm = m.hbm := by
  unfold Module.resendOldest; (try dsimp only); (repeat' split) <;> simp

@[simp] theorem staticIn_frame (b seq : Nat) (payload : BitVec 464) (last : Bool) (m : Module) :
    (Module.staticIn b seq payload last m).ctl = m.ctl ∧
    (Module.staticIn b seq payload last m).pins = m.pins ∧
    (Module.staticIn b seq payload last m).start = m.start ∧
    (Module.staticIn b seq payload last m).image = m.image ∧
    (Module.staticIn b seq payload last m).load = m.load ∧
    (Module.staticIn b seq payload last m).txn = m.txn ∧
    (Module.staticIn b seq payload last m).couriers = m.couriers ∧
    (Module.staticIn b seq payload last m).trig = m.trig ∧
    (Module.staticIn b seq payload last m).trace = m.trace ∧
    (Module.staticIn b seq payload last m).lanes = m.lanes ∧
    (Module.staticIn b seq payload last m).disc = m.disc ∧
    (Module.staticIn b seq payload last m).store = m.store ∧
    (Module.staticIn b seq payload last m).sec = m.sec ∧
    (Module.staticIn b seq payload last m).scrub = m.scrub ∧
    (Module.staticIn b seq payload last m).hbm = m.hbm := by
  unfold Module.staticIn; simp

@[simp] theorem enterNet_frame (b : Nat) (m : Module) (p0 : Packet) :
    (Module.enterNet b m p0).ctl = m.ctl ∧
    (Module.enterNet b m p0).pins = m.pins ∧
    (Module.enterNet b m p0).start = m.start ∧
    (Module.enterNet b m p0).seq = m.seq ∧
    (Module.enterNet b m p0).data = m.data ∧
    (Module.enterNet b m p0).image = m.image ∧
    (Module.enterNet b m p0).load = m.load ∧
    (Module.enterNet b m p0).txn = m.txn ∧
    (Module.enterNet b m p0).couriers = m.couriers ∧
    (Module.enterNet b m p0).trig = m.trig ∧
    (Module.enterNet b m p0).trace = m.trace ∧
    (Module.enterNet b m p0).lanes = m.lanes ∧
    (Module.enterNet b m p0).bundles = m.bundles ∧
    (Module.enterNet b m p0).disc = m.disc ∧
    (Module.enterNet b m p0).store = m.store ∧
    (Module.enterNet b m p0).sec = m.sec ∧
    (Module.enterNet b m p0).stew = m.stew ∧
    (Module.enterNet b m p0).scrub = m.scrub ∧
    (Module.enterNet b m p0).hbm = m.hbm := by
  unfold Module.enterNet; simp

@[simp] theorem routeIn_frame (b old : Nat) (m : Module) :
    (Module.routeIn b old m).ctl = m.ctl ∧
    (Module.routeIn b old m).pins = m.pins ∧
    (Module.routeIn b old m).start = m.start ∧
    (Module.routeIn b old m).seq = m.seq ∧
    (Module.routeIn b old m).data = m.data ∧
    (Module.routeIn b old m).image = m.image ∧
    (Module.routeIn b old m).load = m.load ∧
    (Module.routeIn b old m).txn = m.txn ∧
    (Module.routeIn b old m).couriers = m.couriers ∧
    (Module.routeIn b old m).trig = m.trig ∧
    (Module.routeIn b old m).trace = m.trace ∧
    (Module.routeIn b old m).lanes = m.lanes ∧
    (Module.routeIn b old m).disc = m.disc ∧
    (Module.routeIn b old m).store = m.store ∧
    (Module.routeIn b old m).sec = m.sec ∧
    (Module.routeIn b old m).stew = m.stew ∧
    (Module.routeIn b old m).scrub = m.scrub ∧
    (Module.routeIn b old m).hbm = m.hbm := by
  unfold Module.routeIn; simp

@[simp] theorem packetIn_frame (b seq : Nat) (flit : BitVec 256) (cb : CtlBlock) (m : Module) :
    (Module.packetIn b seq flit cb m).ctl = m.ctl ∧
    (Module.packetIn b seq flit cb m).pins = m.pins ∧
    (Module.packetIn b seq flit cb m).start = m.start ∧
    (Module.packetIn b seq flit cb m).image = m.image ∧
    (Module.packetIn b seq flit cb m).load = m.load ∧
    (Module.packetIn b seq flit cb m).txn = m.txn ∧
    (Module.packetIn b seq flit cb m).couriers = m.couriers ∧
    (Module.packetIn b seq flit cb m).trig = m.trig ∧
    (Module.packetIn b seq flit cb m).trace = m.trace ∧
    (Module.packetIn b seq flit cb m).lanes = m.lanes ∧
    (Module.packetIn b seq flit cb m).disc = m.disc ∧
    (Module.packetIn b seq flit cb m).store = m.store ∧
    (Module.packetIn b seq flit cb m).sec = m.sec ∧
    (Module.packetIn b seq flit cb m).scrub = m.scrub ∧
    (Module.packetIn b seq flit cb m).hbm = m.hbm := by
  unfold Module.packetIn; simp

@[simp] theorem frameBad_frame (b l cls : Nat) (m : Module) :
    (Module.frameBad b l cls m).regs = m.regs ∧
    (Module.frameBad b l cls m).ctl = m.ctl ∧
    (Module.frameBad b l cls m).pins = m.pins ∧
    (Module.frameBad b l cls m).start = m.start ∧
    (Module.frameBad b l cls m).seq = m.seq ∧
    (Module.frameBad b l cls m).data = m.data ∧
    (Module.frameBad b l cls m).image = m.image ∧
    (Module.frameBad b l cls m).load = m.load ∧
    (Module.frameBad b l cls m).txn = m.txn ∧
    (Module.frameBad b l cls m).couriers = m.couriers ∧
    (Module.frameBad b l cls m).trig = m.trig ∧
    (Module.frameBad b l cls m).trace = m.trace ∧
    (Module.frameBad b l cls m).fabric = m.fabric ∧
    (Module.frameBad b l cls m).disc = m.disc ∧
    (Module.frameBad b l cls m).store = m.store ∧
    (Module.frameBad b l cls m).sec = m.sec ∧
    (Module.frameBad b l cls m).scrub = m.scrub ∧
    (Module.frameBad b l cls m).hbm = m.hbm := by
  unfold Module.frameBad; simp

@[simp] theorem badVerify_frame (l : Nat) (m : Module) :
    (Module.badVerify l m).regs = m.regs ∧
    (Module.badVerify l m).ctl = m.ctl ∧
    (Module.badVerify l m).pins = m.pins ∧
    (Module.badVerify l m).start = m.start ∧
    (Module.badVerify l m).seq = m.seq ∧
    (Module.badVerify l m).data = m.data ∧
    (Module.badVerify l m).image = m.image ∧
    (Module.badVerify l m).load = m.load ∧
    (Module.badVerify l m).txn = m.txn ∧
    (Module.badVerify l m).couriers = m.couriers ∧
    (Module.badVerify l m).trig = m.trig ∧
    (Module.badVerify l m).trace = m.trace ∧
    (Module.badVerify l m).fabric = m.fabric ∧
    (Module.badVerify l m).bundles = m.bundles ∧
    (Module.badVerify l m).disc = m.disc ∧
    (Module.badVerify l m).store = m.store ∧
    (Module.badVerify l m).sec = m.sec ∧
    (Module.badVerify l m).stew = m.stew ∧
    (Module.badVerify l m).scrub = m.scrub ∧
    (Module.badVerify l m).hbm = m.hbm ∧
    (Module.badVerify l m).outbox = m.outbox := by
  unfold Module.badVerify; simp

@[simp] theorem exclude_frame (b l : Nat) (m : Module) :
    (Module.exclude b l m).ctl = m.ctl ∧
    (Module.exclude b l m).pins = m.pins ∧
    (Module.exclude b l m).start = m.start ∧
    (Module.exclude b l m).seq = m.seq ∧
    (Module.exclude b l m).data = m.data ∧
    (Module.exclude b l m).image = m.image ∧
    (Module.exclude b l m).load = m.load ∧
    (Module.exclude b l m).txn = m.txn ∧
    (Module.exclude b l m).couriers = m.couriers ∧
    (Module.exclude b l m).trig = m.trig ∧
    (Module.exclude b l m).trace = m.trace ∧
    (Module.exclude b l m).fabric = m.fabric ∧
    (Module.exclude b l m).disc = m.disc ∧
    (Module.exclude b l m).store = m.store ∧
    (Module.exclude b l m).sec = m.sec ∧
    (Module.exclude b l m).scrub = m.scrub ∧
    (Module.exclude b l m).hbm = m.hbm ∧
    (Module.exclude b l m).outbox = m.outbox := by
  unfold Module.exclude; simp

@[simp] theorem laneFailed_frame (b l : Nat) (m : Module) :
    (Module.laneFailed b l m).ctl = m.ctl ∧
    (Module.laneFailed b l m).pins = m.pins ∧
    (Module.laneFailed b l m).start = m.start ∧
    (Module.laneFailed b l m).seq = m.seq ∧
    (Module.laneFailed b l m).data = m.data ∧
    (Module.laneFailed b l m).image = m.image ∧
    (Module.laneFailed b l m).load = m.load ∧
    (Module.laneFailed b l m).txn = m.txn ∧
    (Module.laneFailed b l m).couriers = m.couriers ∧
    (Module.laneFailed b l m).trig = m.trig ∧
    (Module.laneFailed b l m).trace = m.trace ∧
    (Module.laneFailed b l m).fabric = m.fabric ∧
    (Module.laneFailed b l m).disc = m.disc ∧
    (Module.laneFailed b l m).store = m.store ∧
    (Module.laneFailed b l m).sec = m.sec ∧
    (Module.laneFailed b l m).scrub = m.scrub ∧
    (Module.laneFailed b l m).hbm = m.hbm := by
  unfold Module.laneFailed; simp

@[simp] theorem laneDrop_frame (b l : Nat) (cb : CtlBlock) (m : Module) :
    (Module.laneDrop b l cb m).ctl = m.ctl ∧
    (Module.laneDrop b l cb m).pins = m.pins ∧
    (Module.laneDrop b l cb m).start = m.start ∧
    (Module.laneDrop b l cb m).image = m.image ∧
    (Module.laneDrop b l cb m).load = m.load ∧
    (Module.laneDrop b l cb m).txn = m.txn ∧
    (Module.laneDrop b l cb m).couriers = m.couriers ∧
    (Module.laneDrop b l cb m).trig = m.trig ∧
    (Module.laneDrop b l cb m).trace = m.trace ∧
    (Module.laneDrop b l cb m).disc = m.disc ∧
    (Module.laneDrop b l cb m).store = m.store ∧
    (Module.laneDrop b l cb m).sec = m.sec ∧
    (Module.laneDrop b l cb m).scrub = m.scrub ∧
    (Module.laneDrop b l cb m).hbm = m.hbm := by
  unfold Module.laneDrop; simp

@[simp] theorem exitQuiet_frame (b : Nat) (m : Module) :
    (Module.exitQuiet b m).regs = m.regs ∧
    (Module.exitQuiet b m).ctl = m.ctl ∧
    (Module.exitQuiet b m).pins = m.pins ∧
    (Module.exitQuiet b m).start = m.start ∧
    (Module.exitQuiet b m).seq = m.seq ∧
    (Module.exitQuiet b m).data = m.data ∧
    (Module.exitQuiet b m).image = m.image ∧
    (Module.exitQuiet b m).load = m.load ∧
    (Module.exitQuiet b m).txn = m.txn ∧
    (Module.exitQuiet b m).couriers = m.couriers ∧
    (Module.exitQuiet b m).trig = m.trig ∧
    (Module.exitQuiet b m).trace = m.trace ∧
    (Module.exitQuiet b m).fabric = m.fabric ∧
    (Module.exitQuiet b m).lanes = m.lanes ∧
    (Module.exitQuiet b m).disc = m.disc ∧
    (Module.exitQuiet b m).store = m.store ∧
    (Module.exitQuiet b m).sec = m.sec ∧
    (Module.exitQuiet b m).stew = m.stew ∧
    (Module.exitQuiet b m).scrub = m.scrub ∧
    (Module.exitQuiet b m).hbm = m.hbm := by
  unfold Module.exitQuiet; simp

@[simp] theorem enterQuiet_frame (b : Nat) (m : Module) :
    (Module.enterQuiet b m).regs = m.regs ∧
    (Module.enterQuiet b m).ctl = m.ctl ∧
    (Module.enterQuiet b m).pins = m.pins ∧
    (Module.enterQuiet b m).start = m.start ∧
    (Module.enterQuiet b m).seq = m.seq ∧
    (Module.enterQuiet b m).data = m.data ∧
    (Module.enterQuiet b m).image = m.image ∧
    (Module.enterQuiet b m).load = m.load ∧
    (Module.enterQuiet b m).txn = m.txn ∧
    (Module.enterQuiet b m).couriers = m.couriers ∧
    (Module.enterQuiet b m).trig = m.trig ∧
    (Module.enterQuiet b m).trace = m.trace ∧
    (Module.enterQuiet b m).fabric = m.fabric ∧
    (Module.enterQuiet b m).lanes = m.lanes ∧
    (Module.enterQuiet b m).disc = m.disc ∧
    (Module.enterQuiet b m).store = m.store ∧
    (Module.enterQuiet b m).sec = m.sec ∧
    (Module.enterQuiet b m).stew = m.stew ∧
    (Module.enterQuiet b m).scrub = m.scrub ∧
    (Module.enterQuiet b m).hbm = m.hbm := by
  unfold Module.enterQuiet; simp

@[simp] theorem quietIdle_frame (b : Nat) (m : Module) :
    (Module.quietIdle b m).regs = m.regs ∧
    (Module.quietIdle b m).ctl = m.ctl ∧
    (Module.quietIdle b m).pins = m.pins ∧
    (Module.quietIdle b m).start = m.start ∧
    (Module.quietIdle b m).seq = m.seq ∧
    (Module.quietIdle b m).data = m.data ∧
    (Module.quietIdle b m).image = m.image ∧
    (Module.quietIdle b m).load = m.load ∧
    (Module.quietIdle b m).txn = m.txn ∧
    (Module.quietIdle b m).couriers = m.couriers ∧
    (Module.quietIdle b m).trig = m.trig ∧
    (Module.quietIdle b m).trace = m.trace ∧
    (Module.quietIdle b m).fabric = m.fabric ∧
    (Module.quietIdle b m).lanes = m.lanes ∧
    (Module.quietIdle b m).disc = m.disc ∧
    (Module.quietIdle b m).store = m.store ∧
    (Module.quietIdle b m).sec = m.sec ∧
    (Module.quietIdle b m).scrub = m.scrub ∧
    (Module.quietIdle b m).hbm = m.hbm := by
  unfold Module.quietIdle; simp

@[simp] theorem quietReq_frame (b : Nat) (m : Module) :
    (Module.quietReq b m).regs = m.regs ∧
    (Module.quietReq b m).ctl = m.ctl ∧
    (Module.quietReq b m).pins = m.pins ∧
    (Module.quietReq b m).start = m.start ∧
    (Module.quietReq b m).seq = m.seq ∧
    (Module.quietReq b m).data = m.data ∧
    (Module.quietReq b m).image = m.image ∧
    (Module.quietReq b m).load = m.load ∧
    (Module.quietReq b m).txn = m.txn ∧
    (Module.quietReq b m).couriers = m.couriers ∧
    (Module.quietReq b m).trig = m.trig ∧
    (Module.quietReq b m).trace = m.trace ∧
    (Module.quietReq b m).fabric = m.fabric ∧
    (Module.quietReq b m).lanes = m.lanes ∧
    (Module.quietReq b m).disc = m.disc ∧
    (Module.quietReq b m).store = m.store ∧
    (Module.quietReq b m).sec = m.sec ∧
    (Module.quietReq b m).scrub = m.scrub ∧
    (Module.quietReq b m).hbm = m.hbm := by
  unfold Module.quietReq; simp

@[simp] theorem quietAcked_frame (b : Nat) (m : Module) :
    (Module.quietAcked b m).regs = m.regs ∧
    (Module.quietAcked b m).ctl = m.ctl ∧
    (Module.quietAcked b m).pins = m.pins ∧
    (Module.quietAcked b m).start = m.start ∧
    (Module.quietAcked b m).seq = m.seq ∧
    (Module.quietAcked b m).data = m.data ∧
    (Module.quietAcked b m).image = m.image ∧
    (Module.quietAcked b m).load = m.load ∧
    (Module.quietAcked b m).txn = m.txn ∧
    (Module.quietAcked b m).couriers = m.couriers ∧
    (Module.quietAcked b m).trig = m.trig ∧
    (Module.quietAcked b m).trace = m.trace ∧
    (Module.quietAcked b m).fabric = m.fabric ∧
    (Module.quietAcked b m).lanes = m.lanes ∧
    (Module.quietAcked b m).disc = m.disc ∧
    (Module.quietAcked b m).store = m.store ∧
    (Module.quietAcked b m).sec = m.sec ∧
    (Module.quietAcked b m).stew = m.stew ∧
    (Module.quietAcked b m).scrub = m.scrub ∧
    (Module.quietAcked b m).hbm = m.hbm := by
  unfold Module.quietAcked; simp

@[simp] theorem quietRefused_frame (b : Nat) (m : Module) :
    (Module.quietRefused b m).regs = m.regs ∧
    (Module.quietRefused b m).ctl = m.ctl ∧
    (Module.quietRefused b m).pins = m.pins ∧
    (Module.quietRefused b m).start = m.start ∧
    (Module.quietRefused b m).seq = m.seq ∧
    (Module.quietRefused b m).data = m.data ∧
    (Module.quietRefused b m).image = m.image ∧
    (Module.quietRefused b m).load = m.load ∧
    (Module.quietRefused b m).txn = m.txn ∧
    (Module.quietRefused b m).couriers = m.couriers ∧
    (Module.quietRefused b m).trig = m.trig ∧
    (Module.quietRefused b m).trace = m.trace ∧
    (Module.quietRefused b m).fabric = m.fabric ∧
    (Module.quietRefused b m).lanes = m.lanes ∧
    (Module.quietRefused b m).disc = m.disc ∧
    (Module.quietRefused b m).store = m.store ∧
    (Module.quietRefused b m).sec = m.sec ∧
    (Module.quietRefused b m).stew = m.stew ∧
    (Module.quietRefused b m).scrub = m.scrub ∧
    (Module.quietRefused b m).hbm = m.hbm ∧
    (Module.quietRefused b m).outbox = m.outbox := by
  unfold Module.quietRefused; simp

@[simp] theorem burstIn_frame (b : Nat) (m : Module) :
    (Module.burstIn b m).regs = m.regs ∧
    (Module.burstIn b m).ctl = m.ctl ∧
    (Module.burstIn b m).pins = m.pins ∧
    (Module.burstIn b m).start = m.start ∧
    (Module.burstIn b m).seq = m.seq ∧
    (Module.burstIn b m).data = m.data ∧
    (Module.burstIn b m).image = m.image ∧
    (Module.burstIn b m).load = m.load ∧
    (Module.burstIn b m).txn = m.txn ∧
    (Module.burstIn b m).couriers = m.couriers ∧
    (Module.burstIn b m).trig = m.trig ∧
    (Module.burstIn b m).trace = m.trace ∧
    (Module.burstIn b m).fabric = m.fabric ∧
    (Module.burstIn b m).lanes = m.lanes ∧
    (Module.burstIn b m).disc = m.disc ∧
    (Module.burstIn b m).store = m.store ∧
    (Module.burstIn b m).sec = m.sec ∧
    (Module.burstIn b m).stew = m.stew ∧
    (Module.burstIn b m).scrub = m.scrub ∧
    (Module.burstIn b m).hbm = m.hbm := by
  unfold Module.burstIn; simp

@[simp] theorem rediscover_frame (m : Module) :
    (Module.rediscover m).ctl = m.ctl ∧
    (Module.rediscover m).image = m.image ∧
    (Module.rediscover m).load = m.load ∧
    (Module.rediscover m).txn = m.txn ∧
    (Module.rediscover m).couriers = m.couriers ∧
    (Module.rediscover m).trig = m.trig ∧
    (Module.rediscover m).trace = m.trace ∧
    (Module.rediscover m).fabric = m.fabric ∧
    (Module.rediscover m).lanes = m.lanes ∧
    (Module.rediscover m).store = m.store ∧
    (Module.rediscover m).scrub = m.scrub ∧
    (Module.rediscover m).hbm = m.hbm := by
  unfold Module.rediscover; simp

@[simp] theorem retrainLane_frame (l : Nat) (m : Module) :
    (Module.retrainLane l m).regs = m.regs ∧
    (Module.retrainLane l m).ctl = m.ctl ∧
    (Module.retrainLane l m).pins = m.pins ∧
    (Module.retrainLane l m).start = m.start ∧
    (Module.retrainLane l m).seq = m.seq ∧
    (Module.retrainLane l m).data = m.data ∧
    (Module.retrainLane l m).image = m.image ∧
    (Module.retrainLane l m).load = m.load ∧
    (Module.retrainLane l m).txn = m.txn ∧
    (Module.retrainLane l m).couriers = m.couriers ∧
    (Module.retrainLane l m).trig = m.trig ∧
    (Module.retrainLane l m).trace = m.trace ∧
    (Module.retrainLane l m).fabric = m.fabric ∧
    (Module.retrainLane l m).disc = m.disc ∧
    (Module.retrainLane l m).store = m.store ∧
    (Module.retrainLane l m).sec = m.sec ∧
    (Module.retrainLane l m).stew = m.stew ∧
    (Module.retrainLane l m).scrub = m.scrub ∧
    (Module.retrainLane l m).hbm = m.hbm ∧
    (Module.retrainLane l m).outbox = m.outbox := by
  unfold Module.retrainLane; simp

@[simp] theorem clrPrbs_frame (l : Nat) (m : Module) :
    (Module.clrPrbs l m).regs = m.regs ∧
    (Module.clrPrbs l m).ctl = m.ctl ∧
    (Module.clrPrbs l m).pins = m.pins ∧
    (Module.clrPrbs l m).start = m.start ∧
    (Module.clrPrbs l m).seq = m.seq ∧
    (Module.clrPrbs l m).data = m.data ∧
    (Module.clrPrbs l m).image = m.image ∧
    (Module.clrPrbs l m).load = m.load ∧
    (Module.clrPrbs l m).txn = m.txn ∧
    (Module.clrPrbs l m).couriers = m.couriers ∧
    (Module.clrPrbs l m).trig = m.trig ∧
    (Module.clrPrbs l m).trace = m.trace ∧
    (Module.clrPrbs l m).fabric = m.fabric ∧
    (Module.clrPrbs l m).bundles = m.bundles ∧
    (Module.clrPrbs l m).disc = m.disc ∧
    (Module.clrPrbs l m).store = m.store ∧
    (Module.clrPrbs l m).sec = m.sec ∧
    (Module.clrPrbs l m).stew = m.stew ∧
    (Module.clrPrbs l m).scrub = m.scrub ∧
    (Module.clrPrbs l m).hbm = m.hbm ∧
    (Module.clrPrbs l m).outbox = m.outbox := by
  unfold Module.clrPrbs; simp

@[simp] theorem lockPrbs_frame (l : Nat) (m : Module) :
    (Module.lockPrbs l m).regs = m.regs ∧
    (Module.lockPrbs l m).ctl = m.ctl ∧
    (Module.lockPrbs l m).pins = m.pins ∧
    (Module.lockPrbs l m).start = m.start ∧
    (Module.lockPrbs l m).seq = m.seq ∧
    (Module.lockPrbs l m).data = m.data ∧
    (Module.lockPrbs l m).image = m.image ∧
    (Module.lockPrbs l m).load = m.load ∧
    (Module.lockPrbs l m).txn = m.txn ∧
    (Module.lockPrbs l m).couriers = m.couriers ∧
    (Module.lockPrbs l m).trig = m.trig ∧
    (Module.lockPrbs l m).trace = m.trace ∧
    (Module.lockPrbs l m).fabric = m.fabric ∧
    (Module.lockPrbs l m).bundles = m.bundles ∧
    (Module.lockPrbs l m).disc = m.disc ∧
    (Module.lockPrbs l m).store = m.store ∧
    (Module.lockPrbs l m).sec = m.sec ∧
    (Module.lockPrbs l m).stew = m.stew ∧
    (Module.lockPrbs l m).scrub = m.scrub ∧
    (Module.lockPrbs l m).hbm = m.hbm ∧
    (Module.lockPrbs l m).outbox = m.outbox := by
  unfold Module.lockPrbs; simp

@[simp] theorem losePrbs_frame (l : Nat) (m : Module) :
    (Module.losePrbs l m).regs = m.regs ∧
    (Module.losePrbs l m).ctl = m.ctl ∧
    (Module.losePrbs l m).pins = m.pins ∧
    (Module.losePrbs l m).start = m.start ∧
    (Module.losePrbs l m).seq = m.seq ∧
    (Module.losePrbs l m).data = m.data ∧
    (Module.losePrbs l m).image = m.image ∧
    (Module.losePrbs l m).load = m.load ∧
    (Module.losePrbs l m).txn = m.txn ∧
    (Module.losePrbs l m).couriers = m.couriers ∧
    (Module.losePrbs l m).trig = m.trig ∧
    (Module.losePrbs l m).trace = m.trace ∧
    (Module.losePrbs l m).fabric = m.fabric ∧
    (Module.losePrbs l m).bundles = m.bundles ∧
    (Module.losePrbs l m).disc = m.disc ∧
    (Module.losePrbs l m).store = m.store ∧
    (Module.losePrbs l m).sec = m.sec ∧
    (Module.losePrbs l m).stew = m.stew ∧
    (Module.losePrbs l m).scrub = m.scrub ∧
    (Module.losePrbs l m).hbm = m.hbm ∧
    (Module.losePrbs l m).outbox = m.outbox := by
  unfold Module.losePrbs; simp

@[simp] theorem checkPrbs_frame (m : Module) (l : Nat) :
    (Module.checkPrbs m l).regs = m.regs ∧
    (Module.checkPrbs m l).ctl = m.ctl ∧
    (Module.checkPrbs m l).pins = m.pins ∧
    (Module.checkPrbs m l).start = m.start ∧
    (Module.checkPrbs m l).seq = m.seq ∧
    (Module.checkPrbs m l).data = m.data ∧
    (Module.checkPrbs m l).image = m.image ∧
    (Module.checkPrbs m l).load = m.load ∧
    (Module.checkPrbs m l).txn = m.txn ∧
    (Module.checkPrbs m l).couriers = m.couriers ∧
    (Module.checkPrbs m l).trig = m.trig ∧
    (Module.checkPrbs m l).trace = m.trace ∧
    (Module.checkPrbs m l).fabric = m.fabric ∧
    (Module.checkPrbs m l).bundles = m.bundles ∧
    (Module.checkPrbs m l).disc = m.disc ∧
    (Module.checkPrbs m l).store = m.store ∧
    (Module.checkPrbs m l).stew = m.stew ∧
    (Module.checkPrbs m l).scrub = m.scrub ∧
    (Module.checkPrbs m l).hbm = m.hbm ∧
    (Module.checkPrbs m l).outbox = m.outbox := by
  unfold Module.checkPrbs; simp

@[simp] theorem countPrbs_frame (m : Module) :
    (Module.countPrbs m).regs = m.regs ∧
    (Module.countPrbs m).ctl = m.ctl ∧
    (Module.countPrbs m).pins = m.pins ∧
    (Module.countPrbs m).start = m.start ∧
    (Module.countPrbs m).seq = m.seq ∧
    (Module.countPrbs m).data = m.data ∧
    (Module.countPrbs m).image = m.image ∧
    (Module.countPrbs m).load = m.load ∧
    (Module.countPrbs m).txn = m.txn ∧
    (Module.countPrbs m).couriers = m.couriers ∧
    (Module.countPrbs m).trig = m.trig ∧
    (Module.countPrbs m).trace = m.trace ∧
    (Module.countPrbs m).fabric = m.fabric ∧
    (Module.countPrbs m).bundles = m.bundles ∧
    (Module.countPrbs m).disc = m.disc ∧
    (Module.countPrbs m).store = m.store ∧
    (Module.countPrbs m).stew = m.stew ∧
    (Module.countPrbs m).scrub = m.scrub ∧
    (Module.countPrbs m).hbm = m.hbm ∧
    (Module.countPrbs m).outbox = m.outbox := by
  unfold Module.countPrbs; simp

@[simp] theorem prioEffect_frame (c : Instr) (m : Module) :
    (Module.prioEffect c m).scrub = m.scrub := by
  unfold Module.prioEffect
  split
  · rfl
  · split <;> simp

@[simp] theorem discPump_frame (m : Module) :
    (Module.discPump m).scrub = m.scrub := by
  unfold Module.discPump; simp

@[simp] theorem prioNext_frame (b : Nat) (m : Module) :
    (Module.prioNext b m).regs = m.regs ∧
    (Module.prioNext b m).ctl = m.ctl ∧
    (Module.prioNext b m).pins = m.pins ∧
    (Module.prioNext b m).start = m.start ∧
    (Module.prioNext b m).seq = m.seq ∧
    (Module.prioNext b m).data = m.data ∧
    (Module.prioNext b m).image = m.image ∧
    (Module.prioNext b m).load = m.load ∧
    (Module.prioNext b m).txn = m.txn ∧
    (Module.prioNext b m).couriers = m.couriers ∧
    (Module.prioNext b m).trig = m.trig ∧
    (Module.prioNext b m).trace = m.trace ∧
    (Module.prioNext b m).fabric = m.fabric ∧
    (Module.prioNext b m).lanes = m.lanes ∧
    (Module.prioNext b m).disc = m.disc ∧
    (Module.prioNext b m).store = m.store ∧
    (Module.prioNext b m).sec = m.sec ∧
    (Module.prioNext b m).stew = m.stew ∧
    (Module.prioNext b m).scrub = m.scrub ∧
    (Module.prioNext b m).hbm = m.hbm ∧
    (Module.prioNext b m).outbox = m.outbox := by
  unfold Module.prioNext; simp

@[simp] theorem prioDrain_frame (b : Nat) (n0 : Nat) (m : Module) :
    (Module.prioDrain b n0 m).scrub = m.scrub := by
  induction n0 generalizing m with
  | zero => rfl
  | succ n ih =>
    unfold Module.prioDrain
    split
    · rw [ih]
      simp
    · rfl

@[simp] theorem prioFrame_frame (b seq : Nat) (c : Instr) (m : Module) :
    (Module.prioFrame b seq c m).scrub = m.scrub := by
  unfold Module.prioFrame; simp

@[simp] theorem sendLine_frame (b l : Nat) (f : TxFrame) (m : Module) :
    (Module.sendLine b l f m).regs = m.regs ∧
    (Module.sendLine b l f m).ctl = m.ctl ∧
    (Module.sendLine b l f m).pins = m.pins ∧
    (Module.sendLine b l f m).start = m.start ∧
    (Module.sendLine b l f m).seq = m.seq ∧
    (Module.sendLine b l f m).data = m.data ∧
    (Module.sendLine b l f m).image = m.image ∧
    (Module.sendLine b l f m).load = m.load ∧
    (Module.sendLine b l f m).txn = m.txn ∧
    (Module.sendLine b l f m).couriers = m.couriers ∧
    (Module.sendLine b l f m).trig = m.trig ∧
    (Module.sendLine b l f m).trace = m.trace ∧
    (Module.sendLine b l f m).fabric = m.fabric ∧
    (Module.sendLine b l f m).bundles = m.bundles ∧
    (Module.sendLine b l f m).disc = m.disc ∧
    (Module.sendLine b l f m).store = m.store ∧
    (Module.sendLine b l f m).sec = m.sec ∧
    (Module.sendLine b l f m).scrub = m.scrub ∧
    (Module.sendLine b l f m).hbm = m.hbm := by
  unfold Module.sendLine; simp

@[simp] theorem loopTakes_frame (b l : Nat) (c : Instr) (m : Module) :
    (Module.loopTakes b l c m).ctl = m.ctl ∧
    (Module.loopTakes b l c m).pins = m.pins ∧
    (Module.loopTakes b l c m).start = m.start ∧
    (Module.loopTakes b l c m).image = m.image ∧
    (Module.loopTakes b l c m).load = m.load ∧
    (Module.loopTakes b l c m).txn = m.txn ∧
    (Module.loopTakes b l c m).couriers = m.couriers ∧
    (Module.loopTakes b l c m).trig = m.trig ∧
    (Module.loopTakes b l c m).trace = m.trace ∧
    (Module.loopTakes b l c m).disc = m.disc ∧
    (Module.loopTakes b l c m).store = m.store ∧
    (Module.loopTakes b l c m).sec = m.sec ∧
    (Module.loopTakes b l c m).scrub = m.scrub ∧
    (Module.loopTakes b l c m).hbm = m.hbm := by
  unfold Module.loopTakes; (try dsimp only); (repeat' split) <;> simp

@[simp] theorem loopFrame_frame (b l : Nat) (m : Module) :
    (Module.loopFrame b l m).ctl = m.ctl ∧
    (Module.loopFrame b l m).pins = m.pins ∧
    (Module.loopFrame b l m).start = m.start ∧
    (Module.loopFrame b l m).image = m.image ∧
    (Module.loopFrame b l m).load = m.load ∧
    (Module.loopFrame b l m).txn = m.txn ∧
    (Module.loopFrame b l m).couriers = m.couriers ∧
    (Module.loopFrame b l m).trig = m.trig ∧
    (Module.loopFrame b l m).trace = m.trace ∧
    (Module.loopFrame b l m).disc = m.disc ∧
    (Module.loopFrame b l m).store = m.store ∧
    (Module.loopFrame b l m).sec = m.sec ∧
    (Module.loopFrame b l m).scrub = m.scrub ∧
    (Module.loopFrame b l m).hbm = m.hbm := by
  unfold Module.loopFrame Module.bundleUp
  dsimp only
  split <;> simp

@[simp] theorem testPeriod_frame (b l : Nat) (m : Module) :
    (Module.testPeriod b l m).ctl = m.ctl ∧
    (Module.testPeriod b l m).pins = m.pins ∧
    (Module.testPeriod b l m).start = m.start ∧
    (Module.testPeriod b l m).image = m.image ∧
    (Module.testPeriod b l m).load = m.load ∧
    (Module.testPeriod b l m).txn = m.txn ∧
    (Module.testPeriod b l m).couriers = m.couriers ∧
    (Module.testPeriod b l m).trig = m.trig ∧
    (Module.testPeriod b l m).trace = m.trace ∧
    (Module.testPeriod b l m).disc = m.disc ∧
    (Module.testPeriod b l m).store = m.store ∧
    (Module.testPeriod b l m).sec = m.sec ∧
    (Module.testPeriod b l m).scrub = m.scrub ∧
    (Module.testPeriod b l m).hbm = m.hbm := by
  unfold Module.testPeriod; simp

@[simp] theorem lanePeriod_frame (b : Nat) (a : Bool × Module) (l : Nat) :
    (Module.lanePeriod b a l).2.ctl = a.2.ctl ∧
    (Module.lanePeriod b a l).2.pins = a.2.pins ∧
    (Module.lanePeriod b a l).2.start = a.2.start ∧
    (Module.lanePeriod b a l).2.image = a.2.image ∧
    (Module.lanePeriod b a l).2.load = a.2.load ∧
    (Module.lanePeriod b a l).2.txn = a.2.txn ∧
    (Module.lanePeriod b a l).2.couriers = a.2.couriers ∧
    (Module.lanePeriod b a l).2.trig = a.2.trig ∧
    (Module.lanePeriod b a l).2.trace = a.2.trace ∧
    (Module.lanePeriod b a l).2.disc = a.2.disc ∧
    (Module.lanePeriod b a l).2.store = a.2.store ∧
    (Module.lanePeriod b a l).2.sec = a.2.sec ∧
    (Module.lanePeriod b a l).2.scrub = a.2.scrub ∧
    (Module.lanePeriod b a l).2.hbm = a.2.hbm := by
  unfold Module.lanePeriod
  dsimp only
  (repeat' split) <;> simp

@[simp] theorem lanePeriods_frame (b : Nat) (l : List Nat) (a : Bool × Module) :
    (l.foldl (Module.lanePeriod b) a).2.ctl = a.2.ctl ∧
    (l.foldl (Module.lanePeriod b) a).2.pins = a.2.pins ∧
    (l.foldl (Module.lanePeriod b) a).2.start = a.2.start ∧
    (l.foldl (Module.lanePeriod b) a).2.image = a.2.image ∧
    (l.foldl (Module.lanePeriod b) a).2.load = a.2.load ∧
    (l.foldl (Module.lanePeriod b) a).2.txn = a.2.txn ∧
    (l.foldl (Module.lanePeriod b) a).2.couriers = a.2.couriers ∧
    (l.foldl (Module.lanePeriod b) a).2.trig = a.2.trig ∧
    (l.foldl (Module.lanePeriod b) a).2.trace = a.2.trace ∧
    (l.foldl (Module.lanePeriod b) a).2.disc = a.2.disc ∧
    (l.foldl (Module.lanePeriod b) a).2.store = a.2.store ∧
    (l.foldl (Module.lanePeriod b) a).2.sec = a.2.sec ∧
    (l.foldl (Module.lanePeriod b) a).2.scrub = a.2.scrub ∧
    (l.foldl (Module.lanePeriod b) a).2.hbm = a.2.hbm := by
  induction l generalizing a with
  | nil => simp
  | cons x t ih => simp only [List.foldl_cons, ih, lanePeriod_frame, and_self]

@[simp] theorem bundlePeriod_frame (b : Nat) (m : Module) :
    (Module.bundlePeriod b m).ctl = m.ctl ∧
    (Module.bundlePeriod b m).pins = m.pins ∧
    (Module.bundlePeriod b m).start = m.start ∧
    (Module.bundlePeriod b m).image = m.image ∧
    (Module.bundlePeriod b m).load = m.load ∧
    (Module.bundlePeriod b m).txn = m.txn ∧
    (Module.bundlePeriod b m).couriers = m.couriers ∧
    (Module.bundlePeriod b m).trig = m.trig ∧
    (Module.bundlePeriod b m).trace = m.trace ∧
    (Module.bundlePeriod b m).disc = m.disc ∧
    (Module.bundlePeriod b m).store = m.store ∧
    (Module.bundlePeriod b m).sec = m.sec ∧
    (Module.bundlePeriod b m).scrub = m.scrub ∧
    (Module.bundlePeriod b m).hbm = m.hbm := by
  unfold Module.bundlePeriod
  simp

@[simp] theorem bundleCycle_frame (m : Module) (b : Nat) :
    (Module.bundleCycle m b).ctl = m.ctl ∧
    (Module.bundleCycle m b).pins = m.pins ∧
    (Module.bundleCycle m b).start = m.start ∧
    (Module.bundleCycle m b).image = m.image ∧
    (Module.bundleCycle m b).load = m.load ∧
    (Module.bundleCycle m b).txn = m.txn ∧
    (Module.bundleCycle m b).couriers = m.couriers ∧
    (Module.bundleCycle m b).trig = m.trig ∧
    (Module.bundleCycle m b).trace = m.trace ∧
    (Module.bundleCycle m b).disc = m.disc ∧
    (Module.bundleCycle m b).store = m.store ∧
    (Module.bundleCycle m b).sec = m.sec ∧
    (Module.bundleCycle m b).scrub = m.scrub ∧
    (Module.bundleCycle m b).hbm = m.hbm := by
  unfold Module.bundleCycle; simp

@[simp] theorem lanesCycle_frame (m : Module) :
    (Module.lanesCycle m).ctl = m.ctl ∧
    (Module.lanesCycle m).pins = m.pins ∧
    (Module.lanesCycle m).start = m.start ∧
    (Module.lanesCycle m).image = m.image ∧
    (Module.lanesCycle m).load = m.load ∧
    (Module.lanesCycle m).txn = m.txn ∧
    (Module.lanesCycle m).couriers = m.couriers ∧
    (Module.lanesCycle m).trig = m.trig ∧
    (Module.lanesCycle m).trace = m.trace ∧
    (Module.lanesCycle m).disc = m.disc ∧
    (Module.lanesCycle m).store = m.store ∧
    (Module.lanesCycle m).sec = m.sec ∧
    (Module.lanesCycle m).scrub = m.scrub ∧
    (Module.lanesCycle m).hbm = m.hbm := by
  unfold Module.lanesCycle; simp

end Sys2Proof.Machine
end

