-- ==== Sys2Proof/Laws/FrameTime.lean ====
section
/-! SUPPORT. Laws/FrameTime.lean: for each operation of store, keys, time and health, the parts of the module that it
never changes. -/

namespace Sys2Proof.Machine

@[simp] theorem storeNext_frame (m : Module) :
    (Module.storeNext m).ctl = m.ctl ∧
    (Module.storeNext m).pins = m.pins ∧
    (Module.storeNext m).start = m.start ∧
    (Module.storeNext m).seq = m.seq ∧
    (Module.storeNext m).data = m.data ∧
    (Module.storeNext m).image = m.image ∧
    (Module.storeNext m).load = m.load ∧
    (Module.storeNext m).txn = m.txn ∧
    (Module.storeNext m).couriers = m.couriers ∧
    (Module.storeNext m).trig = m.trig ∧
    (Module.storeNext m).trace = m.trace ∧
    (Module.storeNext m).fabric = m.fabric ∧
    (Module.storeNext m).lanes = m.lanes ∧
    (Module.storeNext m).bundles = m.bundles ∧
    (Module.storeNext m).disc = m.disc ∧
    (Module.storeNext m).scrub = m.scrub ∧
    (Module.storeNext m).hbm = m.hbm ∧
    (Module.storeNext m).outbox = m.outbox := by
  unfold Module.storeNext; simp

@[simp] theorem policyStored_frame (body : List Byte) (m : Module) :
    (Module.policyStored body m).ctl = m.ctl ∧
    (Module.policyStored body m).pins = m.pins ∧
    (Module.policyStored body m).start = m.start ∧
    (Module.policyStored body m).seq = m.seq ∧
    (Module.policyStored body m).data = m.data ∧
    (Module.policyStored body m).image = m.image ∧
    (Module.policyStored body m).load = m.load ∧
    (Module.policyStored body m).txn = m.txn ∧
    (Module.policyStored body m).couriers = m.couriers ∧
    (Module.policyStored body m).trig = m.trig ∧
    (Module.policyStored body m).trace = m.trace ∧
    (Module.policyStored body m).fabric = m.fabric ∧
    (Module.policyStored body m).lanes = m.lanes ∧
    (Module.policyStored body m).bundles = m.bundles ∧
    (Module.policyStored body m).disc = m.disc ∧
    (Module.policyStored body m).store = m.store ∧
    (Module.policyStored body m).sec = m.sec ∧
    (Module.policyStored body m).scrub = m.scrub ∧
    (Module.policyStored body m).hbm = m.hbm ∧
    (Module.policyStored body m).outbox = m.outbox := by
  unfold Module.policyStored; simp

@[simp] theorem writeDone_frame (k : Nat) (ok : Bool) (m : Module) :
    (Module.writeDone k ok m).ctl = m.ctl ∧
    (Module.writeDone k ok m).pins = m.pins ∧
    (Module.writeDone k ok m).start = m.start ∧
    (Module.writeDone k ok m).seq = m.seq ∧
    (Module.writeDone k ok m).data = m.data ∧
    (Module.writeDone k ok m).image = m.image ∧
    (Module.writeDone k ok m).load = m.load ∧
    (Module.writeDone k ok m).txn = m.txn ∧
    (Module.writeDone k ok m).couriers = m.couriers ∧
    (Module.writeDone k ok m).trig = m.trig ∧
    (Module.writeDone k ok m).trace = m.trace ∧
    (Module.writeDone k ok m).fabric = m.fabric ∧
    (Module.writeDone k ok m).lanes = m.lanes ∧
    (Module.writeDone k ok m).bundles = m.bundles ∧
    (Module.writeDone k ok m).disc = m.disc ∧
    (Module.writeDone k ok m).scrub = m.scrub ∧
    (Module.writeDone k ok m).hbm = m.hbm ∧
    (Module.writeDone k ok m).outbox = m.outbox := by
  unfold Module.writeDone; simp

@[simp] theorem clearDone_frame (k : Nat) (ok : Bool) (m : Module) :
    (Module.clearDone k ok m).ctl = m.ctl ∧
    (Module.clearDone k ok m).pins = m.pins ∧
    (Module.clearDone k ok m).start = m.start ∧
    (Module.clearDone k ok m).seq = m.seq ∧
    (Module.clearDone k ok m).data = m.data ∧
    (Module.clearDone k ok m).image = m.image ∧
    (Module.clearDone k ok m).load = m.load ∧
    (Module.clearDone k ok m).txn = m.txn ∧
    (Module.clearDone k ok m).couriers = m.couriers ∧
    (Module.clearDone k ok m).trig = m.trig ∧
    (Module.clearDone k ok m).trace = m.trace ∧
    (Module.clearDone k ok m).fabric = m.fabric ∧
    (Module.clearDone k ok m).lanes = m.lanes ∧
    (Module.clearDone k ok m).bundles = m.bundles ∧
    (Module.clearDone k ok m).disc = m.disc ∧
    (Module.clearDone k ok m).scrub = m.scrub ∧
    (Module.clearDone k ok m).hbm = m.hbm ∧
    (Module.clearDone k ok m).outbox = m.outbox := by
  unfold Module.clearDone; simp

@[simp] theorem storeRead_frame (m : Module) :
    (Module.storeRead m).regs = m.regs ∧
    (Module.storeRead m).ctl = m.ctl ∧
    (Module.storeRead m).pins = m.pins ∧
    (Module.storeRead m).start = m.start ∧
    (Module.storeRead m).seq = m.seq ∧
    (Module.storeRead m).data = m.data ∧
    (Module.storeRead m).image = m.image ∧
    (Module.storeRead m).load = m.load ∧
    (Module.storeRead m).txn = m.txn ∧
    (Module.storeRead m).couriers = m.couriers ∧
    (Module.storeRead m).trig = m.trig ∧
    (Module.storeRead m).trace = m.trace ∧
    (Module.storeRead m).fabric = m.fabric ∧
    (Module.storeRead m).lanes = m.lanes ∧
    (Module.storeRead m).bundles = m.bundles ∧
    (Module.storeRead m).disc = m.disc ∧
    (Module.storeRead m).sec = m.sec ∧
    (Module.storeRead m).scrub = m.scrub ∧
    (Module.storeRead m).hbm = m.hbm ∧
    (Module.storeRead m).outbox = m.outbox := by
  unfold Module.storeRead; (try dsimp only); (repeat' split) <;> simp

@[simp] theorem keyInstall_frame (v : Nat) (m : Module) :
    (Module.keyInstall v m).ctl = m.ctl ∧
    (Module.keyInstall v m).pins = m.pins ∧
    (Module.keyInstall v m).start = m.start ∧
    (Module.keyInstall v m).seq = m.seq ∧
    (Module.keyInstall v m).data = m.data ∧
    (Module.keyInstall v m).image = m.image ∧
    (Module.keyInstall v m).load = m.load ∧
    (Module.keyInstall v m).txn = m.txn ∧
    (Module.keyInstall v m).couriers = m.couriers ∧
    (Module.keyInstall v m).trig = m.trig ∧
    (Module.keyInstall v m).trace = m.trace ∧
    (Module.keyInstall v m).fabric = m.fabric ∧
    (Module.keyInstall v m).lanes = m.lanes ∧
    (Module.keyInstall v m).bundles = m.bundles ∧
    (Module.keyInstall v m).disc = m.disc ∧
    (Module.keyInstall v m).sec = m.sec ∧
    (Module.keyInstall v m).scrub = m.scrub ∧
    (Module.keyInstall v m).hbm = m.hbm ∧
    (Module.keyInstall v m).outbox = m.outbox := by
  unfold Module.keyInstall; (try dsimp only); (repeat' split) <;> simp

@[simp] theorem keyRemove_frame (slot : Nat) (m : Module) :
    (Module.keyRemove slot m).ctl = m.ctl ∧
    (Module.keyRemove slot m).pins = m.pins ∧
    (Module.keyRemove slot m).start = m.start ∧
    (Module.keyRemove slot m).seq = m.seq ∧
    (Module.keyRemove slot m).data = m.data ∧
    (Module.keyRemove slot m).image = m.image ∧
    (Module.keyRemove slot m).load = m.load ∧
    (Module.keyRemove slot m).txn = m.txn ∧
    (Module.keyRemove slot m).couriers = m.couriers ∧
    (Module.keyRemove slot m).trig = m.trig ∧
    (Module.keyRemove slot m).trace = m.trace ∧
    (Module.keyRemove slot m).fabric = m.fabric ∧
    (Module.keyRemove slot m).lanes = m.lanes ∧
    (Module.keyRemove slot m).bundles = m.bundles ∧
    (Module.keyRemove slot m).disc = m.disc ∧
    (Module.keyRemove slot m).scrub = m.scrub ∧
    (Module.keyRemove slot m).hbm = m.hbm ∧
    (Module.keyRemove slot m).outbox = m.outbox := by
  unfold Module.keyRemove; simp

@[simp] theorem zeroise_frame (v : Nat) (m : Module) :
    (Module.zeroise v m).pins = m.pins ∧
    (Module.zeroise v m).data = m.data ∧
    (Module.zeroise v m).image = m.image ∧
    (Module.zeroise v m).txn = m.txn ∧
    (Module.zeroise v m).trig = m.trig ∧
    (Module.zeroise v m).trace = m.trace ∧
    (Module.zeroise v m).disc = m.disc := by
  unfold Module.zeroise; simp

@[simp] theorem randomRead_frame (m : Module) :
    (Module.randomRead m).regs = m.regs ∧
    (Module.randomRead m).ctl = m.ctl ∧
    (Module.randomRead m).pins = m.pins ∧
    (Module.randomRead m).start = m.start ∧
    (Module.randomRead m).seq = m.seq ∧
    (Module.randomRead m).data = m.data ∧
    (Module.randomRead m).image = m.image ∧
    (Module.randomRead m).load = m.load ∧
    (Module.randomRead m).txn = m.txn ∧
    (Module.randomRead m).couriers = m.couriers ∧
    (Module.randomRead m).trig = m.trig ∧
    (Module.randomRead m).trace = m.trace ∧
    (Module.randomRead m).fabric = m.fabric ∧
    (Module.randomRead m).lanes = m.lanes ∧
    (Module.randomRead m).bundles = m.bundles ∧
    (Module.randomRead m).disc = m.disc ∧
    (Module.randomRead m).store = m.store ∧
    (Module.randomRead m).scrub = m.scrub ∧
    (Module.randomRead m).hbm = m.hbm ∧
    (Module.randomRead m).outbox = m.outbox := by
  unfold Module.randomRead; simp

@[simp] theorem policyWrite_frame (v : Nat) (m : Module) :
    (Module.policyWrite v m).ctl = m.ctl ∧
    (Module.policyWrite v m).pins = m.pins ∧
    (Module.policyWrite v m).start = m.start ∧
    (Module.policyWrite v m).seq = m.seq ∧
    (Module.policyWrite v m).data = m.data ∧
    (Module.policyWrite v m).image = m.image ∧
    (Module.policyWrite v m).load = m.load ∧
    (Module.policyWrite v m).txn = m.txn ∧
    (Module.policyWrite v m).couriers = m.couriers ∧
    (Module.policyWrite v m).trig = m.trig ∧
    (Module.policyWrite v m).trace = m.trace ∧
    (Module.policyWrite v m).fabric = m.fabric ∧
    (Module.policyWrite v m).lanes = m.lanes ∧
    (Module.policyWrite v m).bundles = m.bundles ∧
    (Module.policyWrite v m).disc = m.disc ∧
    (Module.policyWrite v m).sec = m.sec ∧
    (Module.policyWrite v m).scrub = m.scrub ∧
    (Module.policyWrite v m).hbm = m.hbm ∧
    (Module.policyWrite v m).outbox = m.outbox := by
  unfold Module.policyWrite
  split <;> simp only [answer_frame, queueRecord_frame, and_self, and_true]

@[simp] theorem installAdmin_frame (wrap : Nat) (key : Option (BitVec 256)) (m : Module) :
    (Module.installAdmin wrap key m).ctl = m.ctl ∧
    (Module.installAdmin wrap key m).pins = m.pins ∧
    (Module.installAdmin wrap key m).start = m.start ∧
    (Module.installAdmin wrap key m).seq = m.seq ∧
    (Module.installAdmin wrap key m).data = m.data ∧
    (Module.installAdmin wrap key m).image = m.image ∧
    (Module.installAdmin wrap key m).load = m.load ∧
    (Module.installAdmin wrap key m).txn = m.txn ∧
    (Module.installAdmin wrap key m).couriers = m.couriers ∧
    (Module.installAdmin wrap key m).trig = m.trig ∧
    (Module.installAdmin wrap key m).trace = m.trace ∧
    (Module.installAdmin wrap key m).fabric = m.fabric ∧
    (Module.installAdmin wrap key m).lanes = m.lanes ∧
    (Module.installAdmin wrap key m).bundles = m.bundles ∧
    (Module.installAdmin wrap key m).disc = m.disc ∧
    (Module.installAdmin wrap key m).store = m.store ∧
    (Module.installAdmin wrap key m).scrub = m.scrub ∧
    (Module.installAdmin wrap key m).hbm = m.hbm ∧
    (Module.installAdmin wrap key m).outbox = m.outbox := by
  unfold Module.installAdmin; (try dsimp only); (repeat' split) <;> simp

@[simp] theorem adminKey_frame (wrap : Nat) (m : Module) :
    (Module.adminKey wrap m).ctl = m.ctl ∧
    (Module.adminKey wrap m).pins = m.pins ∧
    (Module.adminKey wrap m).start = m.start ∧
    (Module.adminKey wrap m).seq = m.seq ∧
    (Module.adminKey wrap m).data = m.data ∧
    (Module.adminKey wrap m).image = m.image ∧
    (Module.adminKey wrap m).load = m.load ∧
    (Module.adminKey wrap m).txn = m.txn ∧
    (Module.adminKey wrap m).couriers = m.couriers ∧
    (Module.adminKey wrap m).trig = m.trig ∧
    (Module.adminKey wrap m).trace = m.trace ∧
    (Module.adminKey wrap m).fabric = m.fabric ∧
    (Module.adminKey wrap m).lanes = m.lanes ∧
    (Module.adminKey wrap m).bundles = m.bundles ∧
    (Module.adminKey wrap m).disc = m.disc ∧
    (Module.adminKey wrap m).store = m.store ∧
    (Module.adminKey wrap m).scrub = m.scrub ∧
    (Module.adminKey wrap m).hbm = m.hbm ∧
    (Module.adminKey wrap m).outbox = m.outbox := by
  unfold Module.adminKey
  split
  · simp only [answer_frame, and_self, and_true, true_and]
  · simp only [installAdmin_frame, and_self, and_true, true_and]

@[simp] theorem trngFailed_frame (m : Module) :
    (Module.trngFailed m).ctl = m.ctl ∧
    (Module.trngFailed m).pins = m.pins ∧
    (Module.trngFailed m).start = m.start ∧
    (Module.trngFailed m).seq = m.seq ∧
    (Module.trngFailed m).data = m.data ∧
    (Module.trngFailed m).image = m.image ∧
    (Module.trngFailed m).load = m.load ∧
    (Module.trngFailed m).txn = m.txn ∧
    (Module.trngFailed m).couriers = m.couriers ∧
    (Module.trngFailed m).trig = m.trig ∧
    (Module.trngFailed m).trace = m.trace ∧
    (Module.trngFailed m).fabric = m.fabric ∧
    (Module.trngFailed m).lanes = m.lanes ∧
    (Module.trngFailed m).bundles = m.bundles ∧
    (Module.trngFailed m).disc = m.disc ∧
    (Module.trngFailed m).store = m.store ∧
    (Module.trngFailed m).scrub = m.scrub ∧
    (Module.trngFailed m).hbm = m.hbm ∧
    (Module.trngFailed m).outbox = m.outbox := by
  unfold Module.trngFailed; simp

@[simp] theorem setDomain_frame (d : Nat) (x : Domain) (m : Module) :
    (Module.setDomain d x m).regs = m.regs ∧
    (Module.setDomain d x m).ctl = m.ctl ∧
    (Module.setDomain d x m).pins = m.pins ∧
    (Module.setDomain d x m).start = m.start ∧
    (Module.setDomain d x m).seq = m.seq ∧
    (Module.setDomain d x m).data = m.data ∧
    (Module.setDomain d x m).image = m.image ∧
    (Module.setDomain d x m).load = m.load ∧
    (Module.setDomain d x m).txn = m.txn ∧
    (Module.setDomain d x m).couriers = m.couriers ∧
    (Module.setDomain d x m).trig = m.trig ∧
    (Module.setDomain d x m).trace = m.trace ∧
    (Module.setDomain d x m).fabric = m.fabric ∧
    (Module.setDomain d x m).lanes = m.lanes ∧
    (Module.setDomain d x m).bundles = m.bundles ∧
    (Module.setDomain d x m).disc = m.disc ∧
    (Module.setDomain d x m).store = m.store ∧
    (Module.setDomain d x m).sec = m.sec ∧
    (Module.setDomain d x m).scrub = m.scrub ∧
    (Module.setDomain d x m).hbm = m.hbm ∧
    (Module.setDomain d x m).outbox = m.outbox := by
  unfold Module.setDomain; simp

@[simp] theorem moveTime_frame (delta : Int) (m : Module) :
    (Module.moveTime delta m).regs = m.regs ∧
    (Module.moveTime delta m).ctl = m.ctl ∧
    (Module.moveTime delta m).pins = m.pins ∧
    (Module.moveTime delta m).start = m.start ∧
    (Module.moveTime delta m).seq = m.seq ∧
    (Module.moveTime delta m).data = m.data ∧
    (Module.moveTime delta m).image = m.image ∧
    (Module.moveTime delta m).load = m.load ∧
    (Module.moveTime delta m).txn = m.txn ∧
    (Module.moveTime delta m).couriers = m.couriers ∧
    (Module.moveTime delta m).trig = m.trig ∧
    (Module.moveTime delta m).trace = m.trace ∧
    (Module.moveTime delta m).fabric = m.fabric ∧
    (Module.moveTime delta m).lanes = m.lanes ∧
    (Module.moveTime delta m).bundles = m.bundles ∧
    (Module.moveTime delta m).disc = m.disc ∧
    (Module.moveTime delta m).store = m.store ∧
    (Module.moveTime delta m).sec = m.sec ∧
    (Module.moveTime delta m).scrub = m.scrub ∧
    (Module.moveTime delta m).hbm = m.hbm ∧
    (Module.moveTime delta m).outbox = m.outbox := by
  unfold Module.moveTime; simp

@[simp] theorem setTime_frame (m : Module) :
    (Module.setTime m).ctl = m.ctl ∧
    (Module.setTime m).pins = m.pins ∧
    (Module.setTime m).start = m.start ∧
    (Module.setTime m).data = m.data ∧
    (Module.setTime m).image = m.image ∧
    (Module.setTime m).load = m.load ∧
    (Module.setTime m).txn = m.txn ∧
    (Module.setTime m).trig = m.trig ∧
    (Module.setTime m).trace = m.trace ∧
    (Module.setTime m).fabric = m.fabric ∧
    (Module.setTime m).lanes = m.lanes ∧
    (Module.setTime m).bundles = m.bundles ∧
    (Module.setTime m).disc = m.disc ∧
    (Module.setTime m).store = m.store ∧
    (Module.setTime m).sec = m.sec ∧
    (Module.setTime m).scrub = m.scrub ∧
    (Module.setTime m).hbm = m.hbm ∧
    (Module.setTime m).outbox = m.outbox := by
  unfold Module.setTime; simp

@[simp] theorem follow_frame (m : Module) :
    (Module.follow m).ctl = m.ctl ∧
    (Module.follow m).pins = m.pins ∧
    (Module.follow m).start = m.start ∧
    (Module.follow m).data = m.data ∧
    (Module.follow m).image = m.image ∧
    (Module.follow m).load = m.load ∧
    (Module.follow m).txn = m.txn ∧
    (Module.follow m).trig = m.trig ∧
    (Module.follow m).trace = m.trace ∧
    (Module.follow m).fabric = m.fabric ∧
    (Module.follow m).lanes = m.lanes ∧
    (Module.follow m).bundles = m.bundles ∧
    (Module.follow m).disc = m.disc ∧
    (Module.follow m).store = m.store ∧
    (Module.follow m).sec = m.sec ∧
    (Module.follow m).scrub = m.scrub ∧
    (Module.follow m).hbm = m.hbm ∧
    (Module.follow m).outbox = m.outbox := by
  unfold Module.follow; simp

@[simp] theorem activate_frame (d : Nat) (m : Module) :
    (Module.activate d m).ctl = m.ctl ∧
    (Module.activate d m).pins = m.pins ∧
    (Module.activate d m).start = m.start ∧
    (Module.activate d m).data = m.data ∧
    (Module.activate d m).image = m.image ∧
    (Module.activate d m).load = m.load ∧
    (Module.activate d m).txn = m.txn ∧
    (Module.activate d m).trig = m.trig ∧
    (Module.activate d m).trace = m.trace ∧
    (Module.activate d m).fabric = m.fabric ∧
    (Module.activate d m).lanes = m.lanes ∧
    (Module.activate d m).bundles = m.bundles ∧
    (Module.activate d m).disc = m.disc ∧
    (Module.activate d m).store = m.store ∧
    (Module.activate d m).sec = m.sec ∧
    (Module.activate d m).scrub = m.scrub ∧
    (Module.activate d m).hbm = m.hbm ∧
    (Module.activate d m).outbox = m.outbox := by
  unfold Module.activate; simp

@[simp] theorem holdover_frame (d : Nat) (m : Module) :
    (Module.holdover d m).ctl = m.ctl ∧
    (Module.holdover d m).pins = m.pins ∧
    (Module.holdover d m).start = m.start ∧
    (Module.holdover d m).data = m.data ∧
    (Module.holdover d m).image = m.image ∧
    (Module.holdover d m).load = m.load ∧
    (Module.holdover d m).txn = m.txn ∧
    (Module.holdover d m).trig = m.trig ∧
    (Module.holdover d m).trace = m.trace ∧
    (Module.holdover d m).fabric = m.fabric ∧
    (Module.holdover d m).lanes = m.lanes ∧
    (Module.holdover d m).bundles = m.bundles ∧
    (Module.holdover d m).disc = m.disc ∧
    (Module.holdover d m).store = m.store ∧
    (Module.holdover d m).sec = m.sec ∧
    (Module.holdover d m).scrub = m.scrub ∧
    (Module.holdover d m).hbm = m.hbm ∧
    (Module.holdover d m).outbox = m.outbox := by
  unfold Module.holdover; simp

@[simp] theorem lockDomain_frame (d : Nat) (m : Module) :
    (Module.lockDomain d m).ctl = m.ctl ∧
    (Module.lockDomain d m).pins = m.pins ∧
    (Module.lockDomain d m).start = m.start ∧
    (Module.lockDomain d m).data = m.data ∧
    (Module.lockDomain d m).image = m.image ∧
    (Module.lockDomain d m).load = m.load ∧
    (Module.lockDomain d m).txn = m.txn ∧
    (Module.lockDomain d m).trig = m.trig ∧
    (Module.lockDomain d m).trace = m.trace ∧
    (Module.lockDomain d m).fabric = m.fabric ∧
    (Module.lockDomain d m).lanes = m.lanes ∧
    (Module.lockDomain d m).bundles = m.bundles ∧
    (Module.lockDomain d m).disc = m.disc ∧
    (Module.lockDomain d m).store = m.store ∧
    (Module.lockDomain d m).sec = m.sec ∧
    (Module.lockDomain d m).scrub = m.scrub ∧
    (Module.lockDomain d m).hbm = m.hbm ∧
    (Module.lockDomain d m).outbox = m.outbox := by
  unfold Module.lockDomain; simp

@[simp] theorem measure_frame (d : Nat) (lead : Int) (m : Module) :
    (Module.measure d lead m).ctl = m.ctl ∧
    (Module.measure d lead m).pins = m.pins ∧
    (Module.measure d lead m).start = m.start ∧
    (Module.measure d lead m).data = m.data ∧
    (Module.measure d lead m).image = m.image ∧
    (Module.measure d lead m).load = m.load ∧
    (Module.measure d lead m).txn = m.txn ∧
    (Module.measure d lead m).trig = m.trig ∧
    (Module.measure d lead m).trace = m.trace ∧
    (Module.measure d lead m).fabric = m.fabric ∧
    (Module.measure d lead m).lanes = m.lanes ∧
    (Module.measure d lead m).bundles = m.bundles ∧
    (Module.measure d lead m).disc = m.disc ∧
    (Module.measure d lead m).store = m.store ∧
    (Module.measure d lead m).sec = m.sec ∧
    (Module.measure d lead m).scrub = m.scrub ∧
    (Module.measure d lead m).hbm = m.hbm ∧
    (Module.measure d lead m).outbox = m.outbox := by
  unfold Module.measure; simp

@[simp] theorem askDelay_frame (port number d : Nat) (m : Module) :
    (Module.askDelay port number d m).regs = m.regs ∧
    (Module.askDelay port number d m).ctl = m.ctl ∧
    (Module.askDelay port number d m).pins = m.pins ∧
    (Module.askDelay port number d m).start = m.start ∧
    (Module.askDelay port number d m).seq = m.seq ∧
    (Module.askDelay port number d m).data = m.data ∧
    (Module.askDelay port number d m).image = m.image ∧
    (Module.askDelay port number d m).load = m.load ∧
    (Module.askDelay port number d m).txn = m.txn ∧
    (Module.askDelay port number d m).couriers = m.couriers ∧
    (Module.askDelay port number d m).trig = m.trig ∧
    (Module.askDelay port number d m).trace = m.trace ∧
    (Module.askDelay port number d m).fabric = m.fabric ∧
    (Module.askDelay port number d m).lanes = m.lanes ∧
    (Module.askDelay port number d m).bundles = m.bundles ∧
    (Module.askDelay port number d m).disc = m.disc ∧
    (Module.askDelay port number d m).store = m.store ∧
    (Module.askDelay port number d m).sec = m.sec ∧
    (Module.askDelay port number d m).scrub = m.scrub ∧
    (Module.askDelay port number d m).hbm = m.hbm := by
  unfold Module.askDelay; simp

@[simp] theorem ptpSync_frame (port number : Nat) (twoStep : Bool) (rxStamp origin correction : Int) (m : Module) :
    (Module.ptpSync port number twoStep rxStamp origin correction m).ctl = m.ctl ∧
    (Module.ptpSync port number twoStep rxStamp origin correction m).pins = m.pins ∧
    (Module.ptpSync port number twoStep rxStamp origin correction m).start = m.start ∧
    (Module.ptpSync port number twoStep rxStamp origin correction m).data = m.data ∧
    (Module.ptpSync port number twoStep rxStamp origin correction m).image = m.image ∧
    (Module.ptpSync port number twoStep rxStamp origin correction m).load = m.load ∧
    (Module.ptpSync port number twoStep rxStamp origin correction m).txn = m.txn ∧
    (Module.ptpSync port number twoStep rxStamp origin correction m).trig = m.trig ∧
    (Module.ptpSync port number twoStep rxStamp origin correction m).trace = m.trace ∧
    (Module.ptpSync port number twoStep rxStamp origin correction m).fabric = m.fabric ∧
    (Module.ptpSync port number twoStep rxStamp origin correction m).lanes = m.lanes ∧
    (Module.ptpSync port number twoStep rxStamp origin correction m).bundles = m.bundles ∧
    (Module.ptpSync port number twoStep rxStamp origin correction m).disc = m.disc ∧
    (Module.ptpSync port number twoStep rxStamp origin correction m).store = m.store ∧
    (Module.ptpSync port number twoStep rxStamp origin correction m).sec = m.sec ∧
    (Module.ptpSync port number twoStep rxStamp origin correction m).scrub = m.scrub ∧
    (Module.ptpSync port number twoStep rxStamp origin correction m).hbm = m.hbm := by
  unfold Module.ptpSync; (try dsimp only); (repeat' split) <;> simp

@[simp] theorem ptpFollowUp_frame (port number : Nat) (origin correction : Int) (m : Module) :
    (Module.ptpFollowUp port number origin correction m).ctl = m.ctl ∧
    (Module.ptpFollowUp port number origin correction m).pins = m.pins ∧
    (Module.ptpFollowUp port number origin correction m).start = m.start ∧
    (Module.ptpFollowUp port number origin correction m).data = m.data ∧
    (Module.ptpFollowUp port number origin correction m).image = m.image ∧
    (Module.ptpFollowUp port number origin correction m).load = m.load ∧
    (Module.ptpFollowUp port number origin correction m).txn = m.txn ∧
    (Module.ptpFollowUp port number origin correction m).trig = m.trig ∧
    (Module.ptpFollowUp port number origin correction m).trace = m.trace ∧
    (Module.ptpFollowUp port number origin correction m).fabric = m.fabric ∧
    (Module.ptpFollowUp port number origin correction m).lanes = m.lanes ∧
    (Module.ptpFollowUp port number origin correction m).bundles = m.bundles ∧
    (Module.ptpFollowUp port number origin correction m).disc = m.disc ∧
    (Module.ptpFollowUp port number origin correction m).store = m.store ∧
    (Module.ptpFollowUp port number origin correction m).sec = m.sec ∧
    (Module.ptpFollowUp port number origin correction m).scrub = m.scrub ∧
    (Module.ptpFollowUp port number origin correction m).hbm = m.hbm := by
  unfold Module.ptpFollowUp; (try dsimp only); (repeat' split) <;> simp

@[simp] theorem ptpDelayResp_frame (port number : Nat) (txStamp rxStamp correction : Int) (m : Module) :
    (Module.ptpDelayResp port number txStamp rxStamp correction m).regs = m.regs ∧
    (Module.ptpDelayResp port number txStamp rxStamp correction m).ctl = m.ctl ∧
    (Module.ptpDelayResp port number txStamp rxStamp correction m).pins = m.pins ∧
    (Module.ptpDelayResp port number txStamp rxStamp correction m).start = m.start ∧
    (Module.ptpDelayResp port number txStamp rxStamp correction m).seq = m.seq ∧
    (Module.ptpDelayResp port number txStamp rxStamp correction m).data = m.data ∧
    (Module.ptpDelayResp port number txStamp rxStamp correction m).image = m.image ∧
    (Module.ptpDelayResp port number txStamp rxStamp correction m).load = m.load ∧
    (Module.ptpDelayResp port number txStamp rxStamp correction m).txn = m.txn ∧
    (Module.ptpDelayResp port number txStamp rxStamp correction m).couriers = m.couriers ∧
    (Module.ptpDelayResp port number txStamp rxStamp correction m).trig = m.trig ∧
    (Module.ptpDelayResp port number txStamp rxStamp correction m).trace = m.trace ∧
    (Module.ptpDelayResp port number txStamp rxStamp correction m).fabric = m.fabric ∧
    (Module.ptpDelayResp port number txStamp rxStamp correction m).lanes = m.lanes ∧
    (Module.ptpDelayResp port number txStamp rxStamp correction m).bundles = m.bundles ∧
    (Module.ptpDelayResp port number txStamp rxStamp correction m).disc = m.disc ∧
    (Module.ptpDelayResp port number txStamp rxStamp correction m).store = m.store ∧
    (Module.ptpDelayResp port number txStamp rxStamp correction m).sec = m.sec ∧
    (Module.ptpDelayResp port number txStamp rxStamp correction m).scrub = m.scrub ∧
    (Module.ptpDelayResp port number txStamp rxStamp correction m).hbm = m.hbm ∧
    (Module.ptpDelayResp port number txStamp rxStamp correction m).outbox = m.outbox := by
  unfold Module.ptpDelayResp; (try dsimp only); (repeat' split) <;> simp

@[simp] theorem timeActive_frame (v : Nat) (m : Module) :
    (Module.timeActive v m).ctl = m.ctl ∧
    (Module.timeActive v m).pins = m.pins ∧
    (Module.timeActive v m).start = m.start ∧
    (Module.timeActive v m).data = m.data ∧
    (Module.timeActive v m).image = m.image ∧
    (Module.timeActive v m).load = m.load ∧
    (Module.timeActive v m).txn = m.txn ∧
    (Module.timeActive v m).trig = m.trig ∧
    (Module.timeActive v m).trace = m.trace ∧
    (Module.timeActive v m).fabric = m.fabric ∧
    (Module.timeActive v m).lanes = m.lanes ∧
    (Module.timeActive v m).bundles = m.bundles ∧
    (Module.timeActive v m).disc = m.disc ∧
    (Module.timeActive v m).store = m.store ∧
    (Module.timeActive v m).sec = m.sec ∧
    (Module.timeActive v m).scrub = m.scrub ∧
    (Module.timeActive v m).hbm = m.hbm ∧
    (Module.timeActive v m).outbox = m.outbox := by
  unfold Module.timeActive; simp

@[simp] theorem slewDone_frame (m : Module) :
    (Module.slewDone m).regs = m.regs ∧
    (Module.slewDone m).ctl = m.ctl ∧
    (Module.slewDone m).pins = m.pins ∧
    (Module.slewDone m).start = m.start ∧
    (Module.slewDone m).seq = m.seq ∧
    (Module.slewDone m).data = m.data ∧
    (Module.slewDone m).image = m.image ∧
    (Module.slewDone m).load = m.load ∧
    (Module.slewDone m).txn = m.txn ∧
    (Module.slewDone m).couriers = m.couriers ∧
    (Module.slewDone m).trig = m.trig ∧
    (Module.slewDone m).trace = m.trace ∧
    (Module.slewDone m).fabric = m.fabric ∧
    (Module.slewDone m).lanes = m.lanes ∧
    (Module.slewDone m).bundles = m.bundles ∧
    (Module.slewDone m).disc = m.disc ∧
    (Module.slewDone m).store = m.store ∧
    (Module.slewDone m).sec = m.sec ∧
    (Module.slewDone m).scrub = m.scrub ∧
    (Module.slewDone m).hbm = m.hbm ∧
    (Module.slewDone m).outbox = m.outbox := by
  unfold Module.slewDone; simp

@[simp] theorem secondPulse_frame (m : Module) :
    (Module.secondPulse m).regs = m.regs ∧
    (Module.secondPulse m).ctl = m.ctl ∧
    (Module.secondPulse m).pins = m.pins ∧
    (Module.secondPulse m).start = m.start ∧
    (Module.secondPulse m).seq = m.seq ∧
    (Module.secondPulse m).data = m.data ∧
    (Module.secondPulse m).image = m.image ∧
    (Module.secondPulse m).load = m.load ∧
    (Module.secondPulse m).txn = m.txn ∧
    (Module.secondPulse m).couriers = m.couriers ∧
    (Module.secondPulse m).trig = m.trig ∧
    (Module.secondPulse m).trace = m.trace ∧
    (Module.secondPulse m).fabric = m.fabric ∧
    (Module.secondPulse m).lanes = m.lanes ∧
    (Module.secondPulse m).bundles = m.bundles ∧
    (Module.secondPulse m).disc = m.disc ∧
    (Module.secondPulse m).store = m.store ∧
    (Module.secondPulse m).sec = m.sec ∧
    (Module.secondPulse m).scrub = m.scrub ∧
    (Module.secondPulse m).hbm = m.hbm ∧
    (Module.secondPulse m).outbox = m.outbox := by
  unfold Module.secondPulse; simp

@[simp] theorem mgtLinkChange_frame (port : Nat) (up : Bool) (m : Module) :
    (Module.mgtLinkChange port up m).regs = m.regs ∧
    (Module.mgtLinkChange port up m).ctl = m.ctl ∧
    (Module.mgtLinkChange port up m).start = m.start ∧
    (Module.mgtLinkChange port up m).seq = m.seq ∧
    (Module.mgtLinkChange port up m).data = m.data ∧
    (Module.mgtLinkChange port up m).image = m.image ∧
    (Module.mgtLinkChange port up m).load = m.load ∧
    (Module.mgtLinkChange port up m).txn = m.txn ∧
    (Module.mgtLinkChange port up m).couriers = m.couriers ∧
    (Module.mgtLinkChange port up m).trig = m.trig ∧
    (Module.mgtLinkChange port up m).trace = m.trace ∧
    (Module.mgtLinkChange port up m).fabric = m.fabric ∧
    (Module.mgtLinkChange port up m).lanes = m.lanes ∧
    (Module.mgtLinkChange port up m).bundles = m.bundles ∧
    (Module.mgtLinkChange port up m).disc = m.disc ∧
    (Module.mgtLinkChange port up m).store = m.store ∧
    (Module.mgtLinkChange port up m).sec = m.sec ∧
    (Module.mgtLinkChange port up m).stew = m.stew ∧
    (Module.mgtLinkChange port up m).scrub = m.scrub ∧
    (Module.mgtLinkChange port up m).hbm = m.hbm ∧
    (Module.mgtLinkChange port up m).outbox = m.outbox := by
  unfold Module.mgtLinkChange; simp

@[simp] theorem transparent_frame (frame : List Byte) (residence : Nat) (m : Module) :
    (Module.transparent frame residence m).2.regs = m.regs ∧
    (Module.transparent frame residence m).2.ctl = m.ctl ∧
    (Module.transparent frame residence m).2.pins = m.pins ∧
    (Module.transparent frame residence m).2.start = m.start ∧
    (Module.transparent frame residence m).2.seq = m.seq ∧
    (Module.transparent frame residence m).2.data = m.data ∧
    (Module.transparent frame residence m).2.image = m.image ∧
    (Module.transparent frame residence m).2.load = m.load ∧
    (Module.transparent frame residence m).2.txn = m.txn ∧
    (Module.transparent frame residence m).2.couriers = m.couriers ∧
    (Module.transparent frame residence m).2.trig = m.trig ∧
    (Module.transparent frame residence m).2.trace = m.trace ∧
    (Module.transparent frame residence m).2.fabric = m.fabric ∧
    (Module.transparent frame residence m).2.lanes = m.lanes ∧
    (Module.transparent frame residence m).2.bundles = m.bundles ∧
    (Module.transparent frame residence m).2.disc = m.disc ∧
    (Module.transparent frame residence m).2.store = m.store ∧
    (Module.transparent frame residence m).2.sec = m.sec ∧
    (Module.transparent frame residence m).2.scrub = m.scrub ∧
    (Module.transparent frame residence m).2.hbm = m.hbm ∧
    (Module.transparent frame residence m).2.outbox = m.outbox := by
  unfold Module.transparent; (try dsimp only); (repeat' split) <;> simp

@[simp] theorem forwardFrame_frame (port : Nat) (frame : List Byte) (residence : Nat) (m : Module) :
    (Module.forwardFrame port frame residence m).regs = m.regs ∧
    (Module.forwardFrame port frame residence m).ctl = m.ctl ∧
    (Module.forwardFrame port frame residence m).pins = m.pins ∧
    (Module.forwardFrame port frame residence m).start = m.start ∧
    (Module.forwardFrame port frame residence m).seq = m.seq ∧
    (Module.forwardFrame port frame residence m).data = m.data ∧
    (Module.forwardFrame port frame residence m).image = m.image ∧
    (Module.forwardFrame port frame residence m).load = m.load ∧
    (Module.forwardFrame port frame residence m).txn = m.txn ∧
    (Module.forwardFrame port frame residence m).couriers = m.couriers ∧
    (Module.forwardFrame port frame residence m).trig = m.trig ∧
    (Module.forwardFrame port frame residence m).trace = m.trace ∧
    (Module.forwardFrame port frame residence m).fabric = m.fabric ∧
    (Module.forwardFrame port frame residence m).lanes = m.lanes ∧
    (Module.forwardFrame port frame residence m).bundles = m.bundles ∧
    (Module.forwardFrame port frame residence m).disc = m.disc ∧
    (Module.forwardFrame port frame residence m).store = m.store ∧
    (Module.forwardFrame port frame residence m).sec = m.sec ∧
    (Module.forwardFrame port frame residence m).scrub = m.scrub ∧
    (Module.forwardFrame port frame residence m).hbm = m.hbm := by
  unfold Module.forwardFrame; simp

@[simp] theorem gate_frame (m : Module) :
    (Module.gate m).regs = m.regs ∧
    (Module.gate m).ctl = m.ctl ∧
    (Module.gate m).start = m.start ∧
    (Module.gate m).seq = m.seq ∧
    (Module.gate m).data = m.data ∧
    (Module.gate m).image = m.image ∧
    (Module.gate m).load = m.load ∧
    (Module.gate m).txn = m.txn ∧
    (Module.gate m).couriers = m.couriers ∧
    (Module.gate m).trig = m.trig ∧
    (Module.gate m).trace = m.trace ∧
    (Module.gate m).fabric = m.fabric ∧
    (Module.gate m).lanes = m.lanes ∧
    (Module.gate m).bundles = m.bundles ∧
    (Module.gate m).disc = m.disc ∧
    (Module.gate m).store = m.store ∧
    (Module.gate m).sec = m.sec ∧
    (Module.gate m).stew = m.stew ∧
    (Module.gate m).scrub = m.scrub ∧
    (Module.gate m).hbm = m.hbm ∧
    (Module.gate m).outbox = m.outbox := by
  unfold Module.gate; simp

@[simp] theorem overtempAt_frame (die : Nat) (old : Int) (m : Module) :
    (Module.overtempAt die old m).scrub = m.scrub := by
  unfold Module.overtempAt; (try dsimp only); (repeat' split) <;> simp

@[simp] theorem thermalReading_frame (die : Nat) (t : Int) (m : Module) :
    (Module.thermalReading die t m).scrub = m.scrub := by
  unfold Module.thermalReading; simp

@[simp] theorem unpower_frame (b : Nat) (m : Module) :
    (Module.unpower b m).regs = m.regs ∧
    (Module.unpower b m).ctl = m.ctl ∧
    (Module.unpower b m).start = m.start ∧
    (Module.unpower b m).seq = m.seq ∧
    (Module.unpower b m).image = m.image ∧
    (Module.unpower b m).load = m.load ∧
    (Module.unpower b m).txn = m.txn ∧
    (Module.unpower b m).couriers = m.couriers ∧
    (Module.unpower b m).trig = m.trig ∧
    (Module.unpower b m).trace = m.trace ∧
    (Module.unpower b m).fabric = m.fabric ∧
    (Module.unpower b m).lanes = m.lanes ∧
    (Module.unpower b m).bundles = m.bundles ∧
    (Module.unpower b m).disc = m.disc ∧
    (Module.unpower b m).store = m.store ∧
    (Module.unpower b m).sec = m.sec ∧
    (Module.unpower b m).stew = m.stew ∧
    (Module.unpower b m).scrub = m.scrub ∧
    (Module.unpower b m).hbm = m.hbm ∧
    (Module.unpower b m).outbox = m.outbox := by
  unfold Module.unpower; simp

@[simp] theorem vioChange_frame (b : Nat) (wrong : Bool) (m : Module) :
    (Module.vioChange b wrong m).ctl = m.ctl ∧
    (Module.vioChange b wrong m).start = m.start ∧
    (Module.vioChange b wrong m).seq = m.seq ∧
    (Module.vioChange b wrong m).image = m.image ∧
    (Module.vioChange b wrong m).load = m.load ∧
    (Module.vioChange b wrong m).txn = m.txn ∧
    (Module.vioChange b wrong m).couriers = m.couriers ∧
    (Module.vioChange b wrong m).trig = m.trig ∧
    (Module.vioChange b wrong m).trace = m.trace ∧
    (Module.vioChange b wrong m).fabric = m.fabric ∧
    (Module.vioChange b wrong m).lanes = m.lanes ∧
    (Module.vioChange b wrong m).bundles = m.bundles ∧
    (Module.vioChange b wrong m).disc = m.disc ∧
    (Module.vioChange b wrong m).store = m.store ∧
    (Module.vioChange b wrong m).sec = m.sec ∧
    (Module.vioChange b wrong m).scrub = m.scrub ∧
    (Module.vioChange b wrong m).hbm = m.hbm ∧
    (Module.vioChange b wrong m).outbox = m.outbox := by
  unfold Module.vioChange; simp

@[simp] theorem bankUp_frame (b : Nat) (m : Module) :
    (Module.bankUp b m).regs = m.regs ∧
    (Module.bankUp b m).ctl = m.ctl ∧
    (Module.bankUp b m).start = m.start ∧
    (Module.bankUp b m).seq = m.seq ∧
    (Module.bankUp b m).image = m.image ∧
    (Module.bankUp b m).load = m.load ∧
    (Module.bankUp b m).txn = m.txn ∧
    (Module.bankUp b m).couriers = m.couriers ∧
    (Module.bankUp b m).trig = m.trig ∧
    (Module.bankUp b m).trace = m.trace ∧
    (Module.bankUp b m).fabric = m.fabric ∧
    (Module.bankUp b m).lanes = m.lanes ∧
    (Module.bankUp b m).bundles = m.bundles ∧
    (Module.bankUp b m).disc = m.disc ∧
    (Module.bankUp b m).store = m.store ∧
    (Module.bankUp b m).sec = m.sec ∧
    (Module.bankUp b m).stew = m.stew ∧
    (Module.bankUp b m).scrub = m.scrub ∧
    (Module.bankUp b m).hbm = m.hbm ∧
    (Module.bankUp b m).outbox = m.outbox := by
  unfold Module.bankUp; simp

@[simp] theorem collFinding_frame (a : CollActivity) (unit : Nat) (m : Module) :
    (Module.collFinding a unit m).ctl = m.ctl ∧
    (Module.collFinding a unit m).pins = m.pins ∧
    (Module.collFinding a unit m).seq = m.seq ∧
    (Module.collFinding a unit m).data = m.data ∧
    (Module.collFinding a unit m).image = m.image ∧
    (Module.collFinding a unit m).load = m.load ∧
    (Module.collFinding a unit m).txn = m.txn ∧
    (Module.collFinding a unit m).couriers = m.couriers ∧
    (Module.collFinding a unit m).trig = m.trig ∧
    (Module.collFinding a unit m).trace = m.trace ∧
    (Module.collFinding a unit m).fabric = m.fabric ∧
    (Module.collFinding a unit m).disc = m.disc ∧
    (Module.collFinding a unit m).scrub = m.scrub ∧
    (Module.collFinding a unit m).hbm = m.hbm := by
  unfold Module.collFinding; (try dsimp only); (repeat' split) <;> simp

@[simp] theorem zeroShadow_frame (unit : Nat) (m : Module) :
    (Module.zeroShadow unit m).regs = m.regs ∧
    (Module.zeroShadow unit m).ctl = m.ctl ∧
    (Module.zeroShadow unit m).pins = m.pins ∧
    (Module.zeroShadow unit m).start = m.start ∧
    (Module.zeroShadow unit m).seq = m.seq ∧
    (Module.zeroShadow unit m).image = m.image ∧
    (Module.zeroShadow unit m).load = m.load ∧
    (Module.zeroShadow unit m).txn = m.txn ∧
    (Module.zeroShadow unit m).couriers = m.couriers ∧
    (Module.zeroShadow unit m).trig = m.trig ∧
    (Module.zeroShadow unit m).trace = m.trace ∧
    (Module.zeroShadow unit m).fabric = m.fabric ∧
    (Module.zeroShadow unit m).lanes = m.lanes ∧
    (Module.zeroShadow unit m).bundles = m.bundles ∧
    (Module.zeroShadow unit m).disc = m.disc ∧
    (Module.zeroShadow unit m).store = m.store ∧
    (Module.zeroShadow unit m).sec = m.sec ∧
    (Module.zeroShadow unit m).stew = m.stew ∧
    (Module.zeroShadow unit m).scrub = m.scrub ∧
    (Module.zeroShadow unit m).hbm = m.hbm ∧
    (Module.zeroShadow unit m).outbox = m.outbox := by
  unfold Module.zeroShadow; (try dsimp only); (repeat' split) <;> simp

@[simp] theorem collTrace_frame (a : CollActivity) (unit : Nat) (m : Module) :
    (Module.collTrace a unit m).regs = m.regs ∧
    (Module.collTrace a unit m).ctl = m.ctl ∧
    (Module.collTrace a unit m).pins = m.pins ∧
    (Module.collTrace a unit m).start = m.start ∧
    (Module.collTrace a unit m).seq = m.seq ∧
    (Module.collTrace a unit m).image = m.image ∧
    (Module.collTrace a unit m).load = m.load ∧
    (Module.collTrace a unit m).txn = m.txn ∧
    (Module.collTrace a unit m).couriers = m.couriers ∧
    (Module.collTrace a unit m).trig = m.trig ∧
    (Module.collTrace a unit m).trace = m.trace ∧
    (Module.collTrace a unit m).fabric = m.fabric ∧
    (Module.collTrace a unit m).lanes = m.lanes ∧
    (Module.collTrace a unit m).disc = m.disc ∧
    (Module.collTrace a unit m).store = m.store ∧
    (Module.collTrace a unit m).scrub = m.scrub ∧
    (Module.collTrace a unit m).hbm = m.hbm := by
  unfold Module.collTrace; (try dsimp only); (repeat' split) <;> simp

@[simp] theorem collatorUnit_frame (a : CollActivity) (unit : Nat) (pass : Bool) (m : Module) :
    (Module.collatorUnit a unit pass m).ctl = m.ctl ∧
    (Module.collatorUnit a unit pass m).pins = m.pins ∧
    (Module.collatorUnit a unit pass m).seq = m.seq ∧
    (Module.collatorUnit a unit pass m).image = m.image ∧
    (Module.collatorUnit a unit pass m).load = m.load ∧
    (Module.collatorUnit a unit pass m).txn = m.txn ∧
    (Module.collatorUnit a unit pass m).couriers = m.couriers ∧
    (Module.collatorUnit a unit pass m).trig = m.trig ∧
    (Module.collatorUnit a unit pass m).trace = m.trace ∧
    (Module.collatorUnit a unit pass m).fabric = m.fabric ∧
    (Module.collatorUnit a unit pass m).disc = m.disc ∧
    (Module.collatorUnit a unit pass m).scrub = m.scrub ∧
    (Module.collatorUnit a unit pass m).hbm = m.hbm := by
  unfold Module.collatorUnit; simp

@[simp] theorem imbalance_frame (die : Nat) (m : Module) :
    (Module.imbalance die m).regs = m.regs ∧
    (Module.imbalance die m).ctl = m.ctl ∧
    (Module.imbalance die m).pins = m.pins ∧
    (Module.imbalance die m).start = m.start ∧
    (Module.imbalance die m).seq = m.seq ∧
    (Module.imbalance die m).data = m.data ∧
    (Module.imbalance die m).image = m.image ∧
    (Module.imbalance die m).load = m.load ∧
    (Module.imbalance die m).txn = m.txn ∧
    (Module.imbalance die m).couriers = m.couriers ∧
    (Module.imbalance die m).trig = m.trig ∧
    (Module.imbalance die m).trace = m.trace ∧
    (Module.imbalance die m).lanes = m.lanes ∧
    (Module.imbalance die m).bundles = m.bundles ∧
    (Module.imbalance die m).disc = m.disc ∧
    (Module.imbalance die m).store = m.store ∧
    (Module.imbalance die m).sec = m.sec ∧
    (Module.imbalance die m).stew = m.stew ∧
    (Module.imbalance die m).scrub = m.scrub ∧
    (Module.imbalance die m).hbm = m.hbm ∧
    (Module.imbalance die m).outbox = m.outbox := by
  unfold Module.imbalance; simp

@[simp] theorem logFlush_frame (v : Nat) (m : Module) :
    (Module.logFlush v m).ctl = m.ctl ∧
    (Module.logFlush v m).pins = m.pins ∧
    (Module.logFlush v m).start = m.start ∧
    (Module.logFlush v m).seq = m.seq ∧
    (Module.logFlush v m).data = m.data ∧
    (Module.logFlush v m).image = m.image ∧
    (Module.logFlush v m).load = m.load ∧
    (Module.logFlush v m).txn = m.txn ∧
    (Module.logFlush v m).couriers = m.couriers ∧
    (Module.logFlush v m).trig = m.trig ∧
    (Module.logFlush v m).trace = m.trace ∧
    (Module.logFlush v m).fabric = m.fabric ∧
    (Module.logFlush v m).lanes = m.lanes ∧
    (Module.logFlush v m).bundles = m.bundles ∧
    (Module.logFlush v m).disc = m.disc ∧
    (Module.logFlush v m).sec = m.sec ∧
    (Module.logFlush v m).scrub = m.scrub ∧
    (Module.logFlush v m).hbm = m.hbm ∧
    (Module.logFlush v m).outbox = m.outbox := by
  unfold Module.logFlush; simp

@[simp] theorem autoFlush_frame (m : Module) :
    (Module.autoFlush m).ctl = m.ctl ∧
    (Module.autoFlush m).pins = m.pins ∧
    (Module.autoFlush m).start = m.start ∧
    (Module.autoFlush m).seq = m.seq ∧
    (Module.autoFlush m).data = m.data ∧
    (Module.autoFlush m).image = m.image ∧
    (Module.autoFlush m).load = m.load ∧
    (Module.autoFlush m).txn = m.txn ∧
    (Module.autoFlush m).couriers = m.couriers ∧
    (Module.autoFlush m).trig = m.trig ∧
    (Module.autoFlush m).trace = m.trace ∧
    (Module.autoFlush m).fabric = m.fabric ∧
    (Module.autoFlush m).lanes = m.lanes ∧
    (Module.autoFlush m).bundles = m.bundles ∧
    (Module.autoFlush m).disc = m.disc ∧
    (Module.autoFlush m).sec = m.sec ∧
    (Module.autoFlush m).scrub = m.scrub ∧
    (Module.autoFlush m).hbm = m.hbm ∧
    (Module.autoFlush m).outbox = m.outbox := by
  unfold Module.autoFlush; simp

@[simp] theorem settingsSave_frame (v : Nat) (m : Module) :
    (Module.settingsSave v m).ctl = m.ctl ∧
    (Module.settingsSave v m).pins = m.pins ∧
    (Module.settingsSave v m).start = m.start ∧
    (Module.settingsSave v m).seq = m.seq ∧
    (Module.settingsSave v m).data = m.data ∧
    (Module.settingsSave v m).image = m.image ∧
    (Module.settingsSave v m).load = m.load ∧
    (Module.settingsSave v m).txn = m.txn ∧
    (Module.settingsSave v m).couriers = m.couriers ∧
    (Module.settingsSave v m).trig = m.trig ∧
    (Module.settingsSave v m).trace = m.trace ∧
    (Module.settingsSave v m).fabric = m.fabric ∧
    (Module.settingsSave v m).lanes = m.lanes ∧
    (Module.settingsSave v m).bundles = m.bundles ∧
    (Module.settingsSave v m).disc = m.disc ∧
    (Module.settingsSave v m).sec = m.sec ∧
    (Module.settingsSave v m).scrub = m.scrub ∧
    (Module.settingsSave v m).hbm = m.hbm ∧
    (Module.settingsSave v m).outbox = m.outbox := by
  unfold Module.settingsSave; simp

end Sys2Proof.Machine
end

