-- ==== Sys2Proof/Laws/FrameDict.lean ====
section
/-! SUPPORT. Laws/FrameDict.lean: for each operation of the dictionary, marks and the scrubber, the parts of the module that it
never changes. -/

namespace Sys2Proof.Machine

@[simp] theorem raisePeak_frame (m : Module) :
    (Module.raisePeak m).ctl = m.ctl ∧
    (Module.raisePeak m).pins = m.pins ∧
    (Module.raisePeak m).start = m.start ∧
    (Module.raisePeak m).seq = m.seq ∧
    (Module.raisePeak m).data = m.data ∧
    (Module.raisePeak m).image = m.image ∧
    (Module.raisePeak m).load = m.load ∧
    (Module.raisePeak m).txn = m.txn ∧
    (Module.raisePeak m).couriers = m.couriers ∧
    (Module.raisePeak m).trig = m.trig ∧
    (Module.raisePeak m).trace = m.trace ∧
    (Module.raisePeak m).fabric = m.fabric ∧
    (Module.raisePeak m).lanes = m.lanes ∧
    (Module.raisePeak m).bundles = m.bundles ∧
    (Module.raisePeak m).disc = m.disc ∧
    (Module.raisePeak m).store = m.store ∧
    (Module.raisePeak m).sec = m.sec ∧
    (Module.raisePeak m).stew = m.stew ∧
    (Module.raisePeak m).scrub = m.scrub ∧
    (Module.raisePeak m).hbm = m.hbm ∧
    (Module.raisePeak m).outbox = m.outbox := by
  unfold Module.raisePeak; simp

@[simp] theorem countEnergy_frame (m : Module) :
    (Module.countEnergy m).ctl = m.ctl ∧
    (Module.countEnergy m).pins = m.pins ∧
    (Module.countEnergy m).start = m.start ∧
    (Module.countEnergy m).seq = m.seq ∧
    (Module.countEnergy m).data = m.data ∧
    (Module.countEnergy m).image = m.image ∧
    (Module.countEnergy m).load = m.load ∧
    (Module.countEnergy m).txn = m.txn ∧
    (Module.countEnergy m).couriers = m.couriers ∧
    (Module.countEnergy m).trig = m.trig ∧
    (Module.countEnergy m).trace = m.trace ∧
    (Module.countEnergy m).fabric = m.fabric ∧
    (Module.countEnergy m).lanes = m.lanes ∧
    (Module.countEnergy m).bundles = m.bundles ∧
    (Module.countEnergy m).disc = m.disc ∧
    (Module.countEnergy m).store = m.store ∧
    (Module.countEnergy m).sec = m.sec ∧
    (Module.countEnergy m).stew = m.stew ∧
    (Module.countEnergy m).scrub = m.scrub ∧
    (Module.countEnergy m).hbm = m.hbm ∧
    (Module.countEnergy m).outbox = m.outbox := by
  unfold Module.countEnergy; simp

@[simp] theorem dictRead_frame (index sub n : Nat) (m : Module) :
    (Module.dictRead index sub n m).ctl = m.ctl ∧
    (Module.dictRead index sub n m).pins = m.pins ∧
    (Module.dictRead index sub n m).start = m.start ∧
    (Module.dictRead index sub n m).seq = m.seq ∧
    (Module.dictRead index sub n m).data = m.data ∧
    (Module.dictRead index sub n m).image = m.image ∧
    (Module.dictRead index sub n m).load = m.load ∧
    (Module.dictRead index sub n m).txn = m.txn ∧
    (Module.dictRead index sub n m).couriers = m.couriers ∧
    (Module.dictRead index sub n m).trig = m.trig ∧
    (Module.dictRead index sub n m).trace = m.trace ∧
    (Module.dictRead index sub n m).fabric = m.fabric ∧
    (Module.dictRead index sub n m).lanes = m.lanes ∧
    (Module.dictRead index sub n m).bundles = m.bundles ∧
    (Module.dictRead index sub n m).disc = m.disc ∧
    (Module.dictRead index sub n m).scrub = m.scrub ∧
    (Module.dictRead index sub n m).hbm = m.hbm ∧
    (Module.dictRead index sub n m).outbox = m.outbox := by
  unfold Module.dictRead; simp

@[simp] theorem dclkWrite_frame (gen : Nat) (isTime : Bool) (v : Nat) (m : Module) :
    (Module.dclkWrite gen isTime v m).ctl = m.ctl ∧
    (Module.dclkWrite gen isTime v m).pins = m.pins ∧
    (Module.dclkWrite gen isTime v m).start = m.start ∧
    (Module.dclkWrite gen isTime v m).data = m.data ∧
    (Module.dclkWrite gen isTime v m).image = m.image ∧
    (Module.dclkWrite gen isTime v m).load = m.load ∧
    (Module.dclkWrite gen isTime v m).txn = m.txn ∧
    (Module.dclkWrite gen isTime v m).couriers = m.couriers ∧
    (Module.dclkWrite gen isTime v m).trig = m.trig ∧
    (Module.dclkWrite gen isTime v m).trace = m.trace ∧
    (Module.dclkWrite gen isTime v m).fabric = m.fabric ∧
    (Module.dclkWrite gen isTime v m).lanes = m.lanes ∧
    (Module.dclkWrite gen isTime v m).bundles = m.bundles ∧
    (Module.dclkWrite gen isTime v m).disc = m.disc ∧
    (Module.dclkWrite gen isTime v m).store = m.store ∧
    (Module.dclkWrite gen isTime v m).sec = m.sec ∧
    (Module.dclkWrite gen isTime v m).scrub = m.scrub ∧
    (Module.dclkWrite gen isTime v m).hbm = m.hbm ∧
    (Module.dclkWrite gen isTime v m).outbox = m.outbox := by
  unfold Module.dclkWrite; simp

@[simp] theorem deadMark_frame (set_ : Bool) (die : Nat) (router : Bool) (target0 : Nat) (m : Module) :
    (Module.deadMark set_ die router target0 m).regs = m.regs ∧
    (Module.deadMark set_ die router target0 m).ctl = m.ctl ∧
    (Module.deadMark set_ die router target0 m).pins = m.pins ∧
    (Module.deadMark set_ die router target0 m).start = m.start ∧
    (Module.deadMark set_ die router target0 m).seq = m.seq ∧
    (Module.deadMark set_ die router target0 m).data = m.data ∧
    (Module.deadMark set_ die router target0 m).image = m.image ∧
    (Module.deadMark set_ die router target0 m).load = m.load ∧
    (Module.deadMark set_ die router target0 m).txn = m.txn ∧
    (Module.deadMark set_ die router target0 m).couriers = m.couriers ∧
    (Module.deadMark set_ die router target0 m).trig = m.trig ∧
    (Module.deadMark set_ die router target0 m).trace = m.trace ∧
    (Module.deadMark set_ die router target0 m).lanes = m.lanes ∧
    (Module.deadMark set_ die router target0 m).bundles = m.bundles ∧
    (Module.deadMark set_ die router target0 m).disc = m.disc ∧
    (Module.deadMark set_ die router target0 m).store = m.store ∧
    (Module.deadMark set_ die router target0 m).sec = m.sec ∧
    (Module.deadMark set_ die router target0 m).scrub = m.scrub ∧
    (Module.deadMark set_ die router target0 m).hbm = m.hbm ∧
    (Module.deadMark set_ die router target0 m).outbox = m.outbox := by
  unfold Module.deadMark; simp

@[simp] theorem srcRouteWrite_frame (die n i e : Nat) (m : Module) :
    (Module.srcRouteWrite die n i e m).regs = m.regs ∧
    (Module.srcRouteWrite die n i e m).ctl = m.ctl ∧
    (Module.srcRouteWrite die n i e m).pins = m.pins ∧
    (Module.srcRouteWrite die n i e m).start = m.start ∧
    (Module.srcRouteWrite die n i e m).seq = m.seq ∧
    (Module.srcRouteWrite die n i e m).data = m.data ∧
    (Module.srcRouteWrite die n i e m).image = m.image ∧
    (Module.srcRouteWrite die n i e m).load = m.load ∧
    (Module.srcRouteWrite die n i e m).txn = m.txn ∧
    (Module.srcRouteWrite die n i e m).couriers = m.couriers ∧
    (Module.srcRouteWrite die n i e m).trig = m.trig ∧
    (Module.srcRouteWrite die n i e m).trace = m.trace ∧
    (Module.srcRouteWrite die n i e m).lanes = m.lanes ∧
    (Module.srcRouteWrite die n i e m).bundles = m.bundles ∧
    (Module.srcRouteWrite die n i e m).disc = m.disc ∧
    (Module.srcRouteWrite die n i e m).store = m.store ∧
    (Module.srcRouteWrite die n i e m).sec = m.sec ∧
    (Module.srcRouteWrite die n i e m).scrub = m.scrub ∧
    (Module.srcRouteWrite die n i e m).hbm = m.hbm ∧
    (Module.srcRouteWrite die n i e m).outbox = m.outbox := by
  unfold Module.srcRouteWrite; simp

@[simp] theorem scrubStart_frame (m : Module) :
    (Module.scrubStart m).ctl = m.ctl ∧
    (Module.scrubStart m).pins = m.pins ∧
    (Module.scrubStart m).start = m.start ∧
    (Module.scrubStart m).seq = m.seq ∧
    (Module.scrubStart m).data = m.data ∧
    (Module.scrubStart m).image = m.image ∧
    (Module.scrubStart m).load = m.load ∧
    (Module.scrubStart m).txn = m.txn ∧
    (Module.scrubStart m).couriers = m.couriers ∧
    (Module.scrubStart m).trig = m.trig ∧
    (Module.scrubStart m).trace = m.trace ∧
    (Module.scrubStart m).lanes = m.lanes ∧
    (Module.scrubStart m).bundles = m.bundles ∧
    (Module.scrubStart m).disc = m.disc ∧
    (Module.scrubStart m).store = m.store ∧
    (Module.scrubStart m).sec = m.sec ∧
    (Module.scrubStart m).hbm = m.hbm := by
  unfold Module.scrubStart; simp

@[simp] theorem scrubCount_frame (addr : Nat) (essential repaired : Bool) (m : Module) :
    (Module.scrubCount addr essential repaired m).ctl = m.ctl ∧
    (Module.scrubCount addr essential repaired m).pins = m.pins ∧
    (Module.scrubCount addr essential repaired m).start = m.start ∧
    (Module.scrubCount addr essential repaired m).seq = m.seq ∧
    (Module.scrubCount addr essential repaired m).data = m.data ∧
    (Module.scrubCount addr essential repaired m).image = m.image ∧
    (Module.scrubCount addr essential repaired m).load = m.load ∧
    (Module.scrubCount addr essential repaired m).txn = m.txn ∧
    (Module.scrubCount addr essential repaired m).couriers = m.couriers ∧
    (Module.scrubCount addr essential repaired m).trig = m.trig ∧
    (Module.scrubCount addr essential repaired m).trace = m.trace ∧
    (Module.scrubCount addr essential repaired m).fabric = m.fabric ∧
    (Module.scrubCount addr essential repaired m).lanes = m.lanes ∧
    (Module.scrubCount addr essential repaired m).bundles = m.bundles ∧
    (Module.scrubCount addr essential repaired m).disc = m.disc ∧
    (Module.scrubCount addr essential repaired m).store = m.store ∧
    (Module.scrubCount addr essential repaired m).sec = m.sec ∧
    (Module.scrubCount addr essential repaired m).stew = m.stew ∧
    (Module.scrubCount addr essential repaired m).scrub = m.scrub ∧
    (Module.scrubCount addr essential repaired m).hbm = m.hbm ∧
    (Module.scrubCount addr essential repaired m).outbox = m.outbox := by
  unfold Module.scrubCount; simp

@[simp] theorem scrubRewrite_frame (checks : List (Nat × SectorCheck)) (u : RepairUnit) (key : Nat) (m : Module) :
    (Module.scrubRewrite checks u key m).pins = m.pins ∧
    (Module.scrubRewrite checks u key m).image = m.image ∧
    (Module.scrubRewrite checks u key m).txn = m.txn ∧
    (Module.scrubRewrite checks u key m).trig = m.trig ∧
    (Module.scrubRewrite checks u key m).trace = m.trace := by
  unfold Module.scrubRewrite; simp

@[simp] theorem scrubDmbWord_frame (checks : List (Nat × SectorCheck)) (m : Module) (a : Nat) :
    (Module.scrubDmbWord checks m a).pins = m.pins ∧
    (Module.scrubDmbWord checks m a).image = m.image ∧
    (Module.scrubDmbWord checks m a).txn = m.txn ∧
    (Module.scrubDmbWord checks m a).trig = m.trig ∧
    (Module.scrubDmbWord checks m a).trace = m.trace := by
  unfold Module.scrubDmbWord; simp

@[simp] theorem scrubSector_frame (m : Module) (e : Nat × SectorCheck) :
    (Module.scrubSector m e).pins = m.pins ∧
    (Module.scrubSector m e).data = m.data ∧
    (Module.scrubSector m e).image = m.image ∧
    (Module.scrubSector m e).txn = m.txn ∧
    (Module.scrubSector m e).trig = m.trig ∧
    (Module.scrubSector m e).trace = m.trace := by
  unfold Module.scrubSector; (try dsimp only); (repeat' split) <;> simp

@[simp] theorem scrubHbm_frame (checks : List (Nat × SectorCheck)) (m : Module) :
    (Module.scrubHbm checks m).pins = m.pins ∧
    (Module.scrubHbm checks m).data = m.data ∧
    (Module.scrubHbm checks m).image = m.image ∧
    (Module.scrubHbm checks m).txn = m.txn ∧
    (Module.scrubHbm checks m).trig = m.trig ∧
    (Module.scrubHbm checks m).trace = m.trace := by
  unfold Module.scrubHbm; simp

@[simp] theorem keep_frame (ok : Bool) (key v : Nat) (m : Module) :
    (Module.keep ok key v m).ctl = m.ctl ∧
    (Module.keep ok key v m).pins = m.pins ∧
    (Module.keep ok key v m).start = m.start ∧
    (Module.keep ok key v m).seq = m.seq ∧
    (Module.keep ok key v m).data = m.data ∧
    (Module.keep ok key v m).image = m.image ∧
    (Module.keep ok key v m).load = m.load ∧
    (Module.keep ok key v m).txn = m.txn ∧
    (Module.keep ok key v m).couriers = m.couriers ∧
    (Module.keep ok key v m).trig = m.trig ∧
    (Module.keep ok key v m).trace = m.trace ∧
    (Module.keep ok key v m).fabric = m.fabric ∧
    (Module.keep ok key v m).lanes = m.lanes ∧
    (Module.keep ok key v m).bundles = m.bundles ∧
    (Module.keep ok key v m).disc = m.disc ∧
    (Module.keep ok key v m).store = m.store ∧
    (Module.keep ok key v m).sec = m.sec ∧
    (Module.keep ok key v m).scrub = m.scrub ∧
    (Module.keep ok key v m).hbm = m.hbm ∧
    (Module.keep ok key v m).outbox = m.outbox := by
  unfold Module.keep; simp

@[simp] theorem writeMgt_frame (sub v : Nat) (m : Module) :
    (Module.writeMgt sub v m).ctl = m.ctl ∧
    (Module.writeMgt sub v m).pins = m.pins ∧
    (Module.writeMgt sub v m).start = m.start ∧
    (Module.writeMgt sub v m).seq = m.seq ∧
    (Module.writeMgt sub v m).data = m.data ∧
    (Module.writeMgt sub v m).image = m.image ∧
    (Module.writeMgt sub v m).load = m.load ∧
    (Module.writeMgt sub v m).txn = m.txn ∧
    (Module.writeMgt sub v m).couriers = m.couriers ∧
    (Module.writeMgt sub v m).trig = m.trig ∧
    (Module.writeMgt sub v m).trace = m.trace ∧
    (Module.writeMgt sub v m).fabric = m.fabric ∧
    (Module.writeMgt sub v m).lanes = m.lanes ∧
    (Module.writeMgt sub v m).bundles = m.bundles ∧
    (Module.writeMgt sub v m).disc = m.disc ∧
    (Module.writeMgt sub v m).scrub = m.scrub ∧
    (Module.writeMgt sub v m).hbm = m.hbm ∧
    (Module.writeMgt sub v m).outbox = m.outbox := by
  unfold Module.writeMgt
  split <;> simp only [keep_frame, adminKey_frame, settingsSave_frame, and_self, and_true]

@[simp] theorem writePace_frame (sub v : Nat) (m : Module) :
    (Module.writePace sub v m).ctl = m.ctl ∧
    (Module.writePace sub v m).pins = m.pins ∧
    (Module.writePace sub v m).start = m.start ∧
    (Module.writePace sub v m).seq = m.seq ∧
    (Module.writePace sub v m).data = m.data ∧
    (Module.writePace sub v m).image = m.image ∧
    (Module.writePace sub v m).load = m.load ∧
    (Module.writePace sub v m).txn = m.txn ∧
    (Module.writePace sub v m).couriers = m.couriers ∧
    (Module.writePace sub v m).trig = m.trig ∧
    (Module.writePace sub v m).trace = m.trace ∧
    (Module.writePace sub v m).fabric = m.fabric ∧
    (Module.writePace sub v m).lanes = m.lanes ∧
    (Module.writePace sub v m).bundles = m.bundles ∧
    (Module.writePace sub v m).disc = m.disc ∧
    (Module.writePace sub v m).store = m.store ∧
    (Module.writePace sub v m).sec = m.sec ∧
    (Module.writePace sub v m).scrub = m.scrub ∧
    (Module.writePace sub v m).hbm = m.hbm ∧
    (Module.writePace sub v m).outbox = m.outbox := by
  unfold Module.writePace; (try dsimp only); (repeat' split) <;> simp

@[simp] theorem writeStartup_frame (sub v : Nat) (m : Module) :
    (Module.writeStartup sub v m).ctl = m.ctl ∧
    (Module.writeStartup sub v m).pins = m.pins ∧
    (Module.writeStartup sub v m).start = m.start ∧
    (Module.writeStartup sub v m).seq = m.seq ∧
    (Module.writeStartup sub v m).data = m.data ∧
    (Module.writeStartup sub v m).image = m.image ∧
    (Module.writeStartup sub v m).load = m.load ∧
    (Module.writeStartup sub v m).txn = m.txn ∧
    (Module.writeStartup sub v m).couriers = m.couriers ∧
    (Module.writeStartup sub v m).trig = m.trig ∧
    (Module.writeStartup sub v m).trace = m.trace ∧
    (Module.writeStartup sub v m).fabric = m.fabric ∧
    (Module.writeStartup sub v m).lanes = m.lanes ∧
    (Module.writeStartup sub v m).bundles = m.bundles ∧
    (Module.writeStartup sub v m).disc = m.disc ∧
    (Module.writeStartup sub v m).store = m.store ∧
    (Module.writeStartup sub v m).sec = m.sec ∧
    (Module.writeStartup sub v m).scrub = m.scrub ∧
    (Module.writeStartup sub v m).hbm = m.hbm ∧
    (Module.writeStartup sub v m).outbox = m.outbox := by
  unfold Module.writeStartup; simp

@[simp] theorem writePreload_frame (v : Nat) (m : Module) :
    (Module.writePreload v m).ctl = m.ctl ∧
    (Module.writePreload v m).pins = m.pins ∧
    (Module.writePreload v m).start = m.start ∧
    (Module.writePreload v m).seq = m.seq ∧
    (Module.writePreload v m).image = m.image ∧
    (Module.writePreload v m).load = m.load ∧
    (Module.writePreload v m).couriers = m.couriers ∧
    (Module.writePreload v m).trig = m.trig ∧
    (Module.writePreload v m).trace = m.trace ∧
    (Module.writePreload v m).fabric = m.fabric ∧
    (Module.writePreload v m).lanes = m.lanes ∧
    (Module.writePreload v m).bundles = m.bundles ∧
    (Module.writePreload v m).disc = m.disc ∧
    (Module.writePreload v m).store = m.store ∧
    (Module.writePreload v m).sec = m.sec ∧
    (Module.writePreload v m).scrub = m.scrub ∧
    (Module.writePreload v m).hbm = m.hbm ∧
    (Module.writePreload v m).outbox = m.outbox := by
  unfold Module.writePreload; simp

@[simp] theorem writeTxn_frame (sub v : Nat) (m : Module) :
    (Module.writeTxn sub v m).ctl = m.ctl ∧
    (Module.writeTxn sub v m).pins = m.pins ∧
    (Module.writeTxn sub v m).start = m.start ∧
    (Module.writeTxn sub v m).seq = m.seq ∧
    (Module.writeTxn sub v m).image = m.image ∧
    (Module.writeTxn sub v m).load = m.load ∧
    (Module.writeTxn sub v m).couriers = m.couriers ∧
    (Module.writeTxn sub v m).trig = m.trig ∧
    (Module.writeTxn sub v m).trace = m.trace ∧
    (Module.writeTxn sub v m).fabric = m.fabric ∧
    (Module.writeTxn sub v m).lanes = m.lanes ∧
    (Module.writeTxn sub v m).bundles = m.bundles ∧
    (Module.writeTxn sub v m).disc = m.disc ∧
    (Module.writeTxn sub v m).store = m.store ∧
    (Module.writeTxn sub v m).sec = m.sec ∧
    (Module.writeTxn sub v m).scrub = m.scrub ∧
    (Module.writeTxn sub v m).hbm = m.hbm ∧
    (Module.writeTxn sub v m).outbox = m.outbox := by
  unfold Module.writeTxn; (try dsimp only); (repeat' split) <;> simp

@[simp] theorem writeChan_frame (index c v : Nat) (m : Module) :
    (Module.writeChan index c v m).ctl = m.ctl ∧
    (Module.writeChan index c v m).pins = m.pins ∧
    (Module.writeChan index c v m).start = m.start ∧
    (Module.writeChan index c v m).seq = m.seq ∧
    (Module.writeChan index c v m).data = m.data ∧
    (Module.writeChan index c v m).image = m.image ∧
    (Module.writeChan index c v m).load = m.load ∧
    (Module.writeChan index c v m).txn = m.txn ∧
    (Module.writeChan index c v m).trig = m.trig ∧
    (Module.writeChan index c v m).trace = m.trace ∧
    (Module.writeChan index c v m).fabric = m.fabric ∧
    (Module.writeChan index c v m).lanes = m.lanes ∧
    (Module.writeChan index c v m).bundles = m.bundles ∧
    (Module.writeChan index c v m).disc = m.disc ∧
    (Module.writeChan index c v m).store = m.store ∧
    (Module.writeChan index c v m).sec = m.sec ∧
    (Module.writeChan index c v m).scrub = m.scrub ∧
    (Module.writeChan index c v m).hbm = m.hbm ∧
    (Module.writeChan index c v m).outbox = m.outbox := by
  unfold Module.writeChan; simp

@[simp] theorem writeArray_frame (ok : Bool) (key v : Nat) (m : Module) :
    (Module.writeArray ok key v m).ctl = m.ctl ∧
    (Module.writeArray ok key v m).pins = m.pins ∧
    (Module.writeArray ok key v m).start = m.start ∧
    (Module.writeArray ok key v m).seq = m.seq ∧
    (Module.writeArray ok key v m).data = m.data ∧
    (Module.writeArray ok key v m).image = m.image ∧
    (Module.writeArray ok key v m).load = m.load ∧
    (Module.writeArray ok key v m).txn = m.txn ∧
    (Module.writeArray ok key v m).couriers = m.couriers ∧
    (Module.writeArray ok key v m).trace = m.trace ∧
    (Module.writeArray ok key v m).fabric = m.fabric ∧
    (Module.writeArray ok key v m).lanes = m.lanes ∧
    (Module.writeArray ok key v m).bundles = m.bundles ∧
    (Module.writeArray ok key v m).disc = m.disc ∧
    (Module.writeArray ok key v m).store = m.store ∧
    (Module.writeArray ok key v m).sec = m.sec ∧
    (Module.writeArray ok key v m).scrub = m.scrub ∧
    (Module.writeArray ok key v m).hbm = m.hbm ∧
    (Module.writeArray ok key v m).outbox = m.outbox := by
  unfold Module.writeArray; simp

@[simp] theorem writeTrigOut_frame (k v : Nat) (m : Module) :
    (Module.writeTrigOut k v m).ctl = m.ctl ∧
    (Module.writeTrigOut k v m).start = m.start ∧
    (Module.writeTrigOut k v m).seq = m.seq ∧
    (Module.writeTrigOut k v m).data = m.data ∧
    (Module.writeTrigOut k v m).image = m.image ∧
    (Module.writeTrigOut k v m).load = m.load ∧
    (Module.writeTrigOut k v m).txn = m.txn ∧
    (Module.writeTrigOut k v m).couriers = m.couriers ∧
    (Module.writeTrigOut k v m).trig = m.trig ∧
    (Module.writeTrigOut k v m).trace = m.trace ∧
    (Module.writeTrigOut k v m).fabric = m.fabric ∧
    (Module.writeTrigOut k v m).lanes = m.lanes ∧
    (Module.writeTrigOut k v m).bundles = m.bundles ∧
    (Module.writeTrigOut k v m).disc = m.disc ∧
    (Module.writeTrigOut k v m).store = m.store ∧
    (Module.writeTrigOut k v m).sec = m.sec ∧
    (Module.writeTrigOut k v m).scrub = m.scrub ∧
    (Module.writeTrigOut k v m).hbm = m.hbm ∧
    (Module.writeTrigOut k v m).outbox = m.outbox := by
  unfold Module.writeTrigOut; simp

@[simp] theorem writeMask_frame (sub v : Nat) (m : Module) :
    (Module.writeMask sub v m).ctl = m.ctl ∧
    (Module.writeMask sub v m).pins = m.pins ∧
    (Module.writeMask sub v m).start = m.start ∧
    (Module.writeMask sub v m).seq = m.seq ∧
    (Module.writeMask sub v m).data = m.data ∧
    (Module.writeMask sub v m).image = m.image ∧
    (Module.writeMask sub v m).load = m.load ∧
    (Module.writeMask sub v m).txn = m.txn ∧
    (Module.writeMask sub v m).couriers = m.couriers ∧
    (Module.writeMask sub v m).trace = m.trace ∧
    (Module.writeMask sub v m).lanes = m.lanes ∧
    (Module.writeMask sub v m).bundles = m.bundles ∧
    (Module.writeMask sub v m).disc = m.disc ∧
    (Module.writeMask sub v m).store = m.store ∧
    (Module.writeMask sub v m).sec = m.sec ∧
    (Module.writeMask sub v m).scrub = m.scrub ∧
    (Module.writeMask sub v m).hbm = m.hbm := by
  unfold Module.writeMask; (try dsimp only); (repeat' split) <;> simp

@[simp] theorem clearWrap_frame (v : Nat) (m : Module) :
    (Module.clearWrap v m).regs = m.regs ∧
    (Module.clearWrap v m).ctl = m.ctl ∧
    (Module.clearWrap v m).pins = m.pins ∧
    (Module.clearWrap v m).start = m.start ∧
    (Module.clearWrap v m).seq = m.seq ∧
    (Module.clearWrap v m).data = m.data ∧
    (Module.clearWrap v m).image = m.image ∧
    (Module.clearWrap v m).load = m.load ∧
    (Module.clearWrap v m).txn = m.txn ∧
    (Module.clearWrap v m).couriers = m.couriers ∧
    (Module.clearWrap v m).trig = m.trig ∧
    (Module.clearWrap v m).trace = m.trace ∧
    (Module.clearWrap v m).lanes = m.lanes ∧
    (Module.clearWrap v m).bundles = m.bundles ∧
    (Module.clearWrap v m).disc = m.disc ∧
    (Module.clearWrap v m).store = m.store ∧
    (Module.clearWrap v m).sec = m.sec ∧
    (Module.clearWrap v m).stew = m.stew ∧
    (Module.clearWrap v m).scrub = m.scrub ∧
    (Module.clearWrap v m).hbm = m.hbm ∧
    (Module.clearWrap v m).outbox = m.outbox := by
  unfold Module.clearWrap; simp

@[simp] theorem writeModroute_frame (n v : Nat) (m : Module) :
    (Module.writeModroute n v m).ctl = m.ctl ∧
    (Module.writeModroute n v m).pins = m.pins ∧
    (Module.writeModroute n v m).start = m.start ∧
    (Module.writeModroute n v m).seq = m.seq ∧
    (Module.writeModroute n v m).data = m.data ∧
    (Module.writeModroute n v m).image = m.image ∧
    (Module.writeModroute n v m).load = m.load ∧
    (Module.writeModroute n v m).txn = m.txn ∧
    (Module.writeModroute n v m).couriers = m.couriers ∧
    (Module.writeModroute n v m).trig = m.trig ∧
    (Module.writeModroute n v m).trace = m.trace ∧
    (Module.writeModroute n v m).fabric = m.fabric ∧
    (Module.writeModroute n v m).lanes = m.lanes ∧
    (Module.writeModroute n v m).bundles = m.bundles ∧
    (Module.writeModroute n v m).disc = m.disc ∧
    (Module.writeModroute n v m).store = m.store ∧
    (Module.writeModroute n v m).sec = m.sec ∧
    (Module.writeModroute n v m).scrub = m.scrub ∧
    (Module.writeModroute n v m).hbm = m.hbm ∧
    (Module.writeModroute n v m).outbox = m.outbox := by
  unfold Module.writeModroute; simp

@[simp] theorem writeDomnum_frame (d v : Nat) (m : Module) :
    (Module.writeDomnum d v m).ctl = m.ctl ∧
    (Module.writeDomnum d v m).pins = m.pins ∧
    (Module.writeDomnum d v m).start = m.start ∧
    (Module.writeDomnum d v m).seq = m.seq ∧
    (Module.writeDomnum d v m).data = m.data ∧
    (Module.writeDomnum d v m).image = m.image ∧
    (Module.writeDomnum d v m).load = m.load ∧
    (Module.writeDomnum d v m).txn = m.txn ∧
    (Module.writeDomnum d v m).couriers = m.couriers ∧
    (Module.writeDomnum d v m).trig = m.trig ∧
    (Module.writeDomnum d v m).trace = m.trace ∧
    (Module.writeDomnum d v m).fabric = m.fabric ∧
    (Module.writeDomnum d v m).lanes = m.lanes ∧
    (Module.writeDomnum d v m).bundles = m.bundles ∧
    (Module.writeDomnum d v m).disc = m.disc ∧
    (Module.writeDomnum d v m).store = m.store ∧
    (Module.writeDomnum d v m).sec = m.sec ∧
    (Module.writeDomnum d v m).scrub = m.scrub ∧
    (Module.writeDomnum d v m).hbm = m.hbm ∧
    (Module.writeDomnum d v m).outbox = m.outbox := by
  unfold Module.writeDomnum; simp

@[simp] theorem writeTime_frame (index sub v : Nat) (m : Module) :
    (Module.writeTime index sub v m).ctl = m.ctl ∧
    (Module.writeTime index sub v m).pins = m.pins ∧
    (Module.writeTime index sub v m).start = m.start ∧
    (Module.writeTime index sub v m).data = m.data ∧
    (Module.writeTime index sub v m).image = m.image ∧
    (Module.writeTime index sub v m).load = m.load ∧
    (Module.writeTime index sub v m).txn = m.txn ∧
    (Module.writeTime index sub v m).trig = m.trig ∧
    (Module.writeTime index sub v m).trace = m.trace ∧
    (Module.writeTime index sub v m).fabric = m.fabric ∧
    (Module.writeTime index sub v m).lanes = m.lanes ∧
    (Module.writeTime index sub v m).bundles = m.bundles ∧
    (Module.writeTime index sub v m).disc = m.disc ∧
    (Module.writeTime index sub v m).store = m.store ∧
    (Module.writeTime index sub v m).sec = m.sec ∧
    (Module.writeTime index sub v m).scrub = m.scrub ∧
    (Module.writeTime index sub v m).hbm = m.hbm ∧
    (Module.writeTime index sub v m).outbox = m.outbox := by
  unfold Module.writeTime; simp

@[simp] theorem writeHealth_frame (sub v : Nat) (m : Module) :
    (Module.writeHealth sub v m).ctl = m.ctl ∧
    (Module.writeHealth sub v m).pins = m.pins ∧
    (Module.writeHealth sub v m).start = m.start ∧
    (Module.writeHealth sub v m).seq = m.seq ∧
    (Module.writeHealth sub v m).data = m.data ∧
    (Module.writeHealth sub v m).image = m.image ∧
    (Module.writeHealth sub v m).load = m.load ∧
    (Module.writeHealth sub v m).txn = m.txn ∧
    (Module.writeHealth sub v m).couriers = m.couriers ∧
    (Module.writeHealth sub v m).trig = m.trig ∧
    (Module.writeHealth sub v m).trace = m.trace ∧
    (Module.writeHealth sub v m).fabric = m.fabric ∧
    (Module.writeHealth sub v m).lanes = m.lanes ∧
    (Module.writeHealth sub v m).bundles = m.bundles ∧
    (Module.writeHealth sub v m).disc = m.disc ∧
    (Module.writeHealth sub v m).sec = m.sec ∧
    (Module.writeHealth sub v m).scrub = m.scrub ∧
    (Module.writeHealth sub v m).hbm = m.hbm ∧
    (Module.writeHealth sub v m).outbox = m.outbox := by
  unfold Module.writeHealth; (try dsimp only); (repeat' split) <;> simp

@[simp] theorem clearSec_frame (v : Nat) (m : Module) :
    (Module.clearSec v m).regs = m.regs ∧
    (Module.clearSec v m).ctl = m.ctl ∧
    (Module.clearSec v m).pins = m.pins ∧
    (Module.clearSec v m).start = m.start ∧
    (Module.clearSec v m).seq = m.seq ∧
    (Module.clearSec v m).data = m.data ∧
    (Module.clearSec v m).image = m.image ∧
    (Module.clearSec v m).load = m.load ∧
    (Module.clearSec v m).txn = m.txn ∧
    (Module.clearSec v m).couriers = m.couriers ∧
    (Module.clearSec v m).trig = m.trig ∧
    (Module.clearSec v m).trace = m.trace ∧
    (Module.clearSec v m).fabric = m.fabric ∧
    (Module.clearSec v m).lanes = m.lanes ∧
    (Module.clearSec v m).bundles = m.bundles ∧
    (Module.clearSec v m).disc = m.disc ∧
    (Module.clearSec v m).store = m.store ∧
    (Module.clearSec v m).stew = m.stew ∧
    (Module.clearSec v m).scrub = m.scrub ∧
    (Module.clearSec v m).hbm = m.hbm ∧
    (Module.clearSec v m).outbox = m.outbox := by
  unfold Module.clearSec; simp

@[simp] theorem writeBank_frame (b v : Nat) (m : Module) :
    (Module.writeBank b v m).ctl = m.ctl ∧
    (Module.writeBank b v m).start = m.start ∧
    (Module.writeBank b v m).seq = m.seq ∧
    (Module.writeBank b v m).image = m.image ∧
    (Module.writeBank b v m).load = m.load ∧
    (Module.writeBank b v m).txn = m.txn ∧
    (Module.writeBank b v m).couriers = m.couriers ∧
    (Module.writeBank b v m).trig = m.trig ∧
    (Module.writeBank b v m).trace = m.trace ∧
    (Module.writeBank b v m).fabric = m.fabric ∧
    (Module.writeBank b v m).lanes = m.lanes ∧
    (Module.writeBank b v m).bundles = m.bundles ∧
    (Module.writeBank b v m).disc = m.disc ∧
    (Module.writeBank b v m).store = m.store ∧
    (Module.writeBank b v m).sec = m.sec ∧
    (Module.writeBank b v m).scrub = m.scrub ∧
    (Module.writeBank b v m).hbm = m.hbm ∧
    (Module.writeBank b v m).outbox = m.outbox := by
  unfold Module.writeBank; simp

@[simp] theorem writePower_frame (sub v : Nat) (m : Module) :
    (Module.writePower sub v m).ctl = m.ctl ∧
    (Module.writePower sub v m).start = m.start ∧
    (Module.writePower sub v m).seq = m.seq ∧
    (Module.writePower sub v m).image = m.image ∧
    (Module.writePower sub v m).load = m.load ∧
    (Module.writePower sub v m).txn = m.txn ∧
    (Module.writePower sub v m).couriers = m.couriers ∧
    (Module.writePower sub v m).trig = m.trig ∧
    (Module.writePower sub v m).trace = m.trace ∧
    (Module.writePower sub v m).fabric = m.fabric ∧
    (Module.writePower sub v m).lanes = m.lanes ∧
    (Module.writePower sub v m).bundles = m.bundles ∧
    (Module.writePower sub v m).disc = m.disc ∧
    (Module.writePower sub v m).store = m.store ∧
    (Module.writePower sub v m).sec = m.sec ∧
    (Module.writePower sub v m).scrub = m.scrub ∧
    (Module.writePower sub v m).hbm = m.hbm ∧
    (Module.writePower sub v m).outbox = m.outbox := by
  unfold Module.writePower; simp

@[simp] theorem writeDie_frame (d o sub v : Nat) (m : Module) :
    (Module.writeDie d o sub v m).regs = m.regs ∧
    (Module.writeDie d o sub v m).ctl = m.ctl ∧
    (Module.writeDie d o sub v m).pins = m.pins ∧
    (Module.writeDie d o sub v m).start = m.start ∧
    (Module.writeDie d o sub v m).seq = m.seq ∧
    (Module.writeDie d o sub v m).data = m.data ∧
    (Module.writeDie d o sub v m).image = m.image ∧
    (Module.writeDie d o sub v m).load = m.load ∧
    (Module.writeDie d o sub v m).txn = m.txn ∧
    (Module.writeDie d o sub v m).couriers = m.couriers ∧
    (Module.writeDie d o sub v m).trig = m.trig ∧
    (Module.writeDie d o sub v m).trace = m.trace ∧
    (Module.writeDie d o sub v m).lanes = m.lanes ∧
    (Module.writeDie d o sub v m).bundles = m.bundles ∧
    (Module.writeDie d o sub v m).disc = m.disc ∧
    (Module.writeDie d o sub v m).store = m.store ∧
    (Module.writeDie d o sub v m).sec = m.sec ∧
    (Module.writeDie d o sub v m).scrub = m.scrub ∧
    (Module.writeDie d o sub v m).hbm = m.hbm ∧
    (Module.writeDie d o sub v m).outbox = m.outbox := by
  unfold Module.writeDie; simp

@[simp] theorem writeBundleCfg_frame (b v : Nat) (m : Module) :
    (Module.writeBundleCfg b v m).ctl = m.ctl ∧
    (Module.writeBundleCfg b v m).pins = m.pins ∧
    (Module.writeBundleCfg b v m).start = m.start ∧
    (Module.writeBundleCfg b v m).seq = m.seq ∧
    (Module.writeBundleCfg b v m).data = m.data ∧
    (Module.writeBundleCfg b v m).image = m.image ∧
    (Module.writeBundleCfg b v m).load = m.load ∧
    (Module.writeBundleCfg b v m).txn = m.txn ∧
    (Module.writeBundleCfg b v m).couriers = m.couriers ∧
    (Module.writeBundleCfg b v m).trig = m.trig ∧
    (Module.writeBundleCfg b v m).trace = m.trace ∧
    (Module.writeBundleCfg b v m).fabric = m.fabric ∧
    (Module.writeBundleCfg b v m).disc = m.disc ∧
    (Module.writeBundleCfg b v m).store = m.store ∧
    (Module.writeBundleCfg b v m).sec = m.sec ∧
    (Module.writeBundleCfg b v m).scrub = m.scrub ∧
    (Module.writeBundleCfg b v m).hbm = m.hbm := by
  unfold Module.writeBundleCfg; simp

@[simp] theorem writeLaneCtl_frame (l v : Nat) (m : Module) :
    (Module.writeLaneCtl l v m).regs = m.regs ∧
    (Module.writeLaneCtl l v m).ctl = m.ctl ∧
    (Module.writeLaneCtl l v m).pins = m.pins ∧
    (Module.writeLaneCtl l v m).start = m.start ∧
    (Module.writeLaneCtl l v m).seq = m.seq ∧
    (Module.writeLaneCtl l v m).data = m.data ∧
    (Module.writeLaneCtl l v m).image = m.image ∧
    (Module.writeLaneCtl l v m).load = m.load ∧
    (Module.writeLaneCtl l v m).txn = m.txn ∧
    (Module.writeLaneCtl l v m).couriers = m.couriers ∧
    (Module.writeLaneCtl l v m).trig = m.trig ∧
    (Module.writeLaneCtl l v m).trace = m.trace ∧
    (Module.writeLaneCtl l v m).fabric = m.fabric ∧
    (Module.writeLaneCtl l v m).disc = m.disc ∧
    (Module.writeLaneCtl l v m).store = m.store ∧
    (Module.writeLaneCtl l v m).scrub = m.scrub ∧
    (Module.writeLaneCtl l v m).hbm = m.hbm ∧
    (Module.writeLaneCtl l v m).outbox = m.outbox := by
  unfold Module.writeLaneCtl; simp

@[simp] theorem clearBitsWrap_frame (l v : Nat) (m : Module) :
    (Module.clearBitsWrap l v m).regs = m.regs ∧
    (Module.clearBitsWrap l v m).ctl = m.ctl ∧
    (Module.clearBitsWrap l v m).pins = m.pins ∧
    (Module.clearBitsWrap l v m).start = m.start ∧
    (Module.clearBitsWrap l v m).seq = m.seq ∧
    (Module.clearBitsWrap l v m).data = m.data ∧
    (Module.clearBitsWrap l v m).image = m.image ∧
    (Module.clearBitsWrap l v m).load = m.load ∧
    (Module.clearBitsWrap l v m).txn = m.txn ∧
    (Module.clearBitsWrap l v m).couriers = m.couriers ∧
    (Module.clearBitsWrap l v m).trig = m.trig ∧
    (Module.clearBitsWrap l v m).trace = m.trace ∧
    (Module.clearBitsWrap l v m).fabric = m.fabric ∧
    (Module.clearBitsWrap l v m).bundles = m.bundles ∧
    (Module.clearBitsWrap l v m).disc = m.disc ∧
    (Module.clearBitsWrap l v m).store = m.store ∧
    (Module.clearBitsWrap l v m).sec = m.sec ∧
    (Module.clearBitsWrap l v m).stew = m.stew ∧
    (Module.clearBitsWrap l v m).scrub = m.scrub ∧
    (Module.clearBitsWrap l v m).hbm = m.hbm ∧
    (Module.clearBitsWrap l v m).outbox = m.outbox := by
  unfold Module.clearBitsWrap; simp

@[simp] theorem acceptNonce_frame (path h : Nat) (m : Module) :
    (Module.acceptNonce path h m).regs = m.regs ∧
    (Module.acceptNonce path h m).ctl = m.ctl ∧
    (Module.acceptNonce path h m).pins = m.pins ∧
    (Module.acceptNonce path h m).start = m.start ∧
    (Module.acceptNonce path h m).seq = m.seq ∧
    (Module.acceptNonce path h m).data = m.data ∧
    (Module.acceptNonce path h m).image = m.image ∧
    (Module.acceptNonce path h m).load = m.load ∧
    (Module.acceptNonce path h m).txn = m.txn ∧
    (Module.acceptNonce path h m).couriers = m.couriers ∧
    (Module.acceptNonce path h m).trig = m.trig ∧
    (Module.acceptNonce path h m).trace = m.trace ∧
    (Module.acceptNonce path h m).fabric = m.fabric ∧
    (Module.acceptNonce path h m).lanes = m.lanes ∧
    (Module.acceptNonce path h m).bundles = m.bundles ∧
    (Module.acceptNonce path h m).disc = m.disc ∧
    (Module.acceptNonce path h m).store = m.store ∧
    (Module.acceptNonce path h m).stew = m.stew ∧
    (Module.acceptNonce path h m).scrub = m.scrub ∧
    (Module.acceptNonce path h m).hbm = m.hbm ∧
    (Module.acceptNonce path h m).outbox = m.outbox := by
  unfold Module.acceptNonce; simp

@[simp] theorem authFailed_frame (path : Nat) (m : Module) :
    (Module.authFailed path m).ctl = m.ctl ∧
    (Module.authFailed path m).pins = m.pins ∧
    (Module.authFailed path m).seq = m.seq ∧
    (Module.authFailed path m).data = m.data ∧
    (Module.authFailed path m).image = m.image ∧
    (Module.authFailed path m).load = m.load ∧
    (Module.authFailed path m).txn = m.txn ∧
    (Module.authFailed path m).couriers = m.couriers ∧
    (Module.authFailed path m).trig = m.trig ∧
    (Module.authFailed path m).trace = m.trace ∧
    (Module.authFailed path m).fabric = m.fabric ∧
    (Module.authFailed path m).lanes = m.lanes ∧
    (Module.authFailed path m).bundles = m.bundles ∧
    (Module.authFailed path m).disc = m.disc ∧
    (Module.authFailed path m).store = m.store ∧
    (Module.authFailed path m).sec = m.sec ∧
    (Module.authFailed path m).scrub = m.scrub ∧
    (Module.authFailed path m).hbm = m.hbm ∧
    (Module.authFailed path m).outbox = m.outbox := by
  unfold Module.authFailed; simp

@[simp] theorem mbRead_frame (offset len : Nat) (m : Module) :
    (Module.mbRead offset len m).regs = m.regs ∧
    (Module.mbRead offset len m).ctl = m.ctl ∧
    (Module.mbRead offset len m).pins = m.pins ∧
    (Module.mbRead offset len m).start = m.start ∧
    (Module.mbRead offset len m).seq = m.seq ∧
    (Module.mbRead offset len m).data = m.data ∧
    (Module.mbRead offset len m).image = m.image ∧
    (Module.mbRead offset len m).load = m.load ∧
    (Module.mbRead offset len m).txn = m.txn ∧
    (Module.mbRead offset len m).couriers = m.couriers ∧
    (Module.mbRead offset len m).trig = m.trig ∧
    (Module.mbRead offset len m).trace = m.trace ∧
    (Module.mbRead offset len m).fabric = m.fabric ∧
    (Module.mbRead offset len m).lanes = m.lanes ∧
    (Module.mbRead offset len m).bundles = m.bundles ∧
    (Module.mbRead offset len m).disc = m.disc ∧
    (Module.mbRead offset len m).store = m.store ∧
    (Module.mbRead offset len m).sec = m.sec ∧
    (Module.mbRead offset len m).scrub = m.scrub ∧
    (Module.mbRead offset len m).hbm = m.hbm := by
  unfold Module.mbRead; simp

@[simp] theorem reassemble_frame (port : Nat) (f : Fragment) (m : Module) :
    (Module.reassemble port f m).2.ctl = m.ctl ∧
    (Module.reassemble port f m).2.image = m.image ∧
    (Module.reassemble port f m).2.load = m.load ∧
    (Module.reassemble port f m).2.txn = m.txn ∧
    (Module.reassemble port f m).2.couriers = m.couriers ∧
    (Module.reassemble port f m).2.trig = m.trig ∧
    (Module.reassemble port f m).2.trace = m.trace ∧
    (Module.reassemble port f m).2.fabric = m.fabric ∧
    (Module.reassemble port f m).2.lanes = m.lanes ∧
    (Module.reassemble port f m).2.store = m.store ∧
    (Module.reassemble port f m).2.scrub = m.scrub ∧
    (Module.reassemble port f m).2.hbm = m.hbm := by
  unfold Module.reassemble; (try dsimp only); (repeat' split) <;> simp

end Sys2Proof.Machine
end

