-- ==== Sys2Proof/Laws/FrameHost.lean ====
section
/-! SUPPORT. Laws/FrameHost.lean: for each operation of the host port, the launch and the idle cycle, the parts of the module that it
never changes. -/

namespace Sys2Proof.Machine

@[simp] theorem txnCtrl_frame (i v : Nat) (m : Module) :
    (Module.txnCtrl i v m).ctl = m.ctl ∧
    (Module.txnCtrl i v m).pins = m.pins ∧
    (Module.txnCtrl i v m).start = m.start ∧
    (Module.txnCtrl i v m).seq = m.seq ∧
    (Module.txnCtrl i v m).data = m.data ∧
    (Module.txnCtrl i v m).image = m.image ∧
    (Module.txnCtrl i v m).load = m.load ∧
    (Module.txnCtrl i v m).couriers = m.couriers ∧
    (Module.txnCtrl i v m).trig = m.trig ∧
    (Module.txnCtrl i v m).trace = m.trace ∧
    (Module.txnCtrl i v m).lanes = m.lanes ∧
    (Module.txnCtrl i v m).bundles = m.bundles ∧
    (Module.txnCtrl i v m).disc = m.disc ∧
    (Module.txnCtrl i v m).store = m.store ∧
    (Module.txnCtrl i v m).sec = m.sec ∧
    (Module.txnCtrl i v m).scrub = m.scrub := by
  unfold Module.txnCtrl; (try dsimp only); (repeat' split) <;> simp

@[simp] theorem writeSlot_frame (i o : Nat) (bytes : List Byte) (m : Module) :
    (Module.writeSlot i o bytes m).ctl = m.ctl ∧
    (Module.writeSlot i o bytes m).pins = m.pins ∧
    (Module.writeSlot i o bytes m).start = m.start ∧
    (Module.writeSlot i o bytes m).seq = m.seq ∧
    (Module.writeSlot i o bytes m).data = m.data ∧
    (Module.writeSlot i o bytes m).image = m.image ∧
    (Module.writeSlot i o bytes m).load = m.load ∧
    (Module.writeSlot i o bytes m).couriers = m.couriers ∧
    (Module.writeSlot i o bytes m).trig = m.trig ∧
    (Module.writeSlot i o bytes m).trace = m.trace ∧
    (Module.writeSlot i o bytes m).lanes = m.lanes ∧
    (Module.writeSlot i o bytes m).bundles = m.bundles ∧
    (Module.writeSlot i o bytes m).disc = m.disc ∧
    (Module.writeSlot i o bytes m).store = m.store ∧
    (Module.writeSlot i o bytes m).sec = m.sec ∧
    (Module.writeSlot i o bytes m).scrub = m.scrub := by
  unfold Module.writeSlot; simp

@[simp] theorem writeChanPage_frame (c o : Nat) (bytes : List Byte) (m : Module) :
    (Module.writeChanPage c o bytes m).ctl = m.ctl ∧
    (Module.writeChanPage c o bytes m).pins = m.pins ∧
    (Module.writeChanPage c o bytes m).start = m.start ∧
    (Module.writeChanPage c o bytes m).seq = m.seq ∧
    (Module.writeChanPage c o bytes m).data = m.data ∧
    (Module.writeChanPage c o bytes m).image = m.image ∧
    (Module.writeChanPage c o bytes m).load = m.load ∧
    (Module.writeChanPage c o bytes m).txn = m.txn ∧
    (Module.writeChanPage c o bytes m).trig = m.trig ∧
    (Module.writeChanPage c o bytes m).trace = m.trace ∧
    (Module.writeChanPage c o bytes m).fabric = m.fabric ∧
    (Module.writeChanPage c o bytes m).lanes = m.lanes ∧
    (Module.writeChanPage c o bytes m).bundles = m.bundles ∧
    (Module.writeChanPage c o bytes m).disc = m.disc ∧
    (Module.writeChanPage c o bytes m).store = m.store ∧
    (Module.writeChanPage c o bytes m).sec = m.sec ∧
    (Module.writeChanPage c o bytes m).scrub = m.scrub ∧
    (Module.writeChanPage c o bytes m).hbm = m.hbm ∧
    (Module.writeChanPage c o bytes m).outbox = m.outbox := by
  unfold Module.writeChanPage; simp

@[simp] theorem hostPackets_frame (bar o n : Nat) (read : Bool) (m : Module) :
    (Module.hostPackets bar o n read m).ctl = m.ctl ∧
    (Module.hostPackets bar o n read m).pins = m.pins ∧
    (Module.hostPackets bar o n read m).start = m.start ∧
    (Module.hostPackets bar o n read m).seq = m.seq ∧
    (Module.hostPackets bar o n read m).data = m.data ∧
    (Module.hostPackets bar o n read m).image = m.image ∧
    (Module.hostPackets bar o n read m).load = m.load ∧
    (Module.hostPackets bar o n read m).txn = m.txn ∧
    (Module.hostPackets bar o n read m).couriers = m.couriers ∧
    (Module.hostPackets bar o n read m).trig = m.trig ∧
    (Module.hostPackets bar o n read m).trace = m.trace ∧
    (Module.hostPackets bar o n read m).lanes = m.lanes ∧
    (Module.hostPackets bar o n read m).bundles = m.bundles ∧
    (Module.hostPackets bar o n read m).disc = m.disc ∧
    (Module.hostPackets bar o n read m).store = m.store ∧
    (Module.hostPackets bar o n read m).stew = m.stew ∧
    (Module.hostPackets bar o n read m).scrub = m.scrub ∧
    (Module.hostPackets bar o n read m).hbm = m.hbm ∧
    (Module.hostPackets bar o n read m).outbox = m.outbox := by
  unfold Module.hostPackets; (try dsimp only); (repeat' split) <;> simp

@[simp] theorem bar0Read_frame (o len : Nat) (m : Module) :
    (Module.bar0Read o len m).ctl = m.ctl ∧
    (Module.bar0Read o len m).pins = m.pins ∧
    (Module.bar0Read o len m).start = m.start ∧
    (Module.bar0Read o len m).seq = m.seq ∧
    (Module.bar0Read o len m).data = m.data ∧
    (Module.bar0Read o len m).image = m.image ∧
    (Module.bar0Read o len m).load = m.load ∧
    (Module.bar0Read o len m).txn = m.txn ∧
    (Module.bar0Read o len m).couriers = m.couriers ∧
    (Module.bar0Read o len m).trig = m.trig ∧
    (Module.bar0Read o len m).trace = m.trace ∧
    (Module.bar0Read o len m).lanes = m.lanes ∧
    (Module.bar0Read o len m).bundles = m.bundles ∧
    (Module.bar0Read o len m).disc = m.disc ∧
    (Module.bar0Read o len m).store = m.store ∧
    (Module.bar0Read o len m).scrub = m.scrub ∧
    (Module.bar0Read o len m).hbm = m.hbm := by
  unfold Module.bar0Read; simp

@[simp] theorem bar0Write_frame (o : Nat) (bytes : List Byte) (m0 : Module) :
    (Module.bar0Write o bytes m0).ctl = m0.ctl ∧
    (Module.bar0Write o bytes m0).pins = m0.pins ∧
    (Module.bar0Write o bytes m0).start = m0.start ∧
    (Module.bar0Write o bytes m0).seq = m0.seq ∧
    (Module.bar0Write o bytes m0).data = m0.data ∧
    (Module.bar0Write o bytes m0).image = m0.image ∧
    (Module.bar0Write o bytes m0).load = m0.load ∧
    (Module.bar0Write o bytes m0).trig = m0.trig ∧
    (Module.bar0Write o bytes m0).trace = m0.trace ∧
    (Module.bar0Write o bytes m0).lanes = m0.lanes ∧
    (Module.bar0Write o bytes m0).bundles = m0.bundles ∧
    (Module.bar0Write o bytes m0).disc = m0.disc ∧
    (Module.bar0Write o bytes m0).store = m0.store ∧
    (Module.bar0Write o bytes m0).scrub = m0.scrub := by
  unfold Module.bar0Write; simp

@[simp] theorem inspIo_frame (rsv : BitVec 24) (t : BitVec 32) (d : BitVec 64) (m : Module) :
    (Module.inspIo rsv t d m).ctl = m.ctl ∧
    (Module.inspIo rsv t d m).pins = m.pins ∧
    (Module.inspIo rsv t d m).start = m.start ∧
    (Module.inspIo rsv t d m).seq = m.seq ∧
    (Module.inspIo rsv t d m).data = m.data ∧
    (Module.inspIo rsv t d m).image = m.image ∧
    (Module.inspIo rsv t d m).load = m.load ∧
    (Module.inspIo rsv t d m).couriers = m.couriers ∧
    (Module.inspIo rsv t d m).trig = m.trig ∧
    (Module.inspIo rsv t d m).trace = m.trace ∧
    (Module.inspIo rsv t d m).fabric = m.fabric ∧
    (Module.inspIo rsv t d m).lanes = m.lanes ∧
    (Module.inspIo rsv t d m).bundles = m.bundles ∧
    (Module.inspIo rsv t d m).disc = m.disc ∧
    (Module.inspIo rsv t d m).store = m.store ∧
    (Module.inspIo rsv t d m).scrub = m.scrub ∧
    (Module.inspIo rsv t d m).hbm = m.hbm ∧
    (Module.inspIo rsv t d m).outbox = m.outbox := by
  unfold Module.inspIo Module.inspStart
  dsimp only
  (repeat' split) <;> simp

@[simp] theorem inspCommand_frame (cmd : Nat) (m : Module) :
    (Module.inspCommand cmd m).ctl = m.ctl ∧
    (Module.inspCommand cmd m).pins = m.pins ∧
    (Module.inspCommand cmd m).start = m.start ∧
    (Module.inspCommand cmd m).seq = m.seq ∧
    (Module.inspCommand cmd m).image = m.image ∧
    (Module.inspCommand cmd m).load = m.load ∧
    (Module.inspCommand cmd m).couriers = m.couriers ∧
    (Module.inspCommand cmd m).trig = m.trig ∧
    (Module.inspCommand cmd m).trace = m.trace ∧
    (Module.inspCommand cmd m).fabric = m.fabric ∧
    (Module.inspCommand cmd m).lanes = m.lanes ∧
    (Module.inspCommand cmd m).bundles = m.bundles ∧
    (Module.inspCommand cmd m).disc = m.disc ∧
    (Module.inspCommand cmd m).store = m.store ∧
    (Module.inspCommand cmd m).scrub = m.scrub ∧
    (Module.inspCommand cmd m).hbm = m.hbm ∧
    (Module.inspCommand cmd m).outbox = m.outbox := by
  unfold Module.inspCommand; simp

@[simp] theorem pageWrite_frame (o : Nat) (bytes : List Byte) (m : Module) :
    (Module.pageWrite o bytes m).ctl = m.ctl ∧
    (Module.pageWrite o bytes m).pins = m.pins ∧
    (Module.pageWrite o bytes m).start = m.start ∧
    (Module.pageWrite o bytes m).seq = m.seq ∧
    (Module.pageWrite o bytes m).image = m.image ∧
    (Module.pageWrite o bytes m).load = m.load ∧
    (Module.pageWrite o bytes m).couriers = m.couriers ∧
    (Module.pageWrite o bytes m).trig = m.trig ∧
    (Module.pageWrite o bytes m).trace = m.trace ∧
    (Module.pageWrite o bytes m).fabric = m.fabric ∧
    (Module.pageWrite o bytes m).lanes = m.lanes ∧
    (Module.pageWrite o bytes m).bundles = m.bundles ∧
    (Module.pageWrite o bytes m).disc = m.disc ∧
    (Module.pageWrite o bytes m).store = m.store ∧
    (Module.pageWrite o bytes m).scrub = m.scrub ∧
    (Module.pageWrite o bytes m).hbm = m.hbm ∧
    (Module.pageWrite o bytes m).outbox = m.outbox := by
  unfold Module.pageWrite; simp

@[simp] theorem regionRead_frame (region r len : Nat) (m : Module) :
    (Module.regionRead region r len m).ctl = m.ctl ∧
    (Module.regionRead region r len m).pins = m.pins ∧
    (Module.regionRead region r len m).start = m.start ∧
    (Module.regionRead region r len m).seq = m.seq ∧
    (Module.regionRead region r len m).data = m.data ∧
    (Module.regionRead region r len m).image = m.image ∧
    (Module.regionRead region r len m).load = m.load ∧
    (Module.regionRead region r len m).txn = m.txn ∧
    (Module.regionRead region r len m).couriers = m.couriers ∧
    (Module.regionRead region r len m).trig = m.trig ∧
    (Module.regionRead region r len m).trace = m.trace ∧
    (Module.regionRead region r len m).lanes = m.lanes ∧
    (Module.regionRead region r len m).bundles = m.bundles ∧
    (Module.regionRead region r len m).disc = m.disc ∧
    (Module.regionRead region r len m).store = m.store ∧
    (Module.regionRead region r len m).sec = m.sec ∧
    (Module.regionRead region r len m).stew = m.stew ∧
    (Module.regionRead region r len m).scrub = m.scrub ∧
    (Module.regionRead region r len m).hbm = m.hbm := by
  unfold Module.regionRead; simp

@[simp] theorem hostPost_frame (a : Nat) (bs : List Byte) (m : Module) :
    (Module.hostPost a bs m).regs = m.regs ∧
    (Module.hostPost a bs m).ctl = m.ctl ∧
    (Module.hostPost a bs m).pins = m.pins ∧
    (Module.hostPost a bs m).start = m.start ∧
    (Module.hostPost a bs m).seq = m.seq ∧
    (Module.hostPost a bs m).data = m.data ∧
    (Module.hostPost a bs m).image = m.image ∧
    (Module.hostPost a bs m).load = m.load ∧
    (Module.hostPost a bs m).txn = m.txn ∧
    (Module.hostPost a bs m).couriers = m.couriers ∧
    (Module.hostPost a bs m).trig = m.trig ∧
    (Module.hostPost a bs m).trace = m.trace ∧
    (Module.hostPost a bs m).lanes = m.lanes ∧
    (Module.hostPost a bs m).bundles = m.bundles ∧
    (Module.hostPost a bs m).disc = m.disc ∧
    (Module.hostPost a bs m).store = m.store ∧
    (Module.hostPost a bs m).sec = m.sec ∧
    (Module.hostPost a bs m).stew = m.stew ∧
    (Module.hostPost a bs m).scrub = m.scrub ∧
    (Module.hostPost a bs m).hbm = m.hbm := by
  unfold Module.hostPost; simp

@[simp] theorem designWrite_frame (r : Nat) (bytes : List Byte) (m : Module) :
    (Module.designWrite r bytes m).regs = m.regs ∧
    (Module.designWrite r bytes m).ctl = m.ctl ∧
    (Module.designWrite r bytes m).pins = m.pins ∧
    (Module.designWrite r bytes m).start = m.start ∧
    (Module.designWrite r bytes m).seq = m.seq ∧
    (Module.designWrite r bytes m).data = m.data ∧
    (Module.designWrite r bytes m).image = m.image ∧
    (Module.designWrite r bytes m).load = m.load ∧
    (Module.designWrite r bytes m).txn = m.txn ∧
    (Module.designWrite r bytes m).couriers = m.couriers ∧
    (Module.designWrite r bytes m).trig = m.trig ∧
    (Module.designWrite r bytes m).trace = m.trace ∧
    (Module.designWrite r bytes m).lanes = m.lanes ∧
    (Module.designWrite r bytes m).bundles = m.bundles ∧
    (Module.designWrite r bytes m).disc = m.disc ∧
    (Module.designWrite r bytes m).store = m.store ∧
    (Module.designWrite r bytes m).sec = m.sec ∧
    (Module.designWrite r bytes m).stew = m.stew ∧
    (Module.designWrite r bytes m).scrub = m.scrub ∧
    (Module.designWrite r bytes m).hbm = m.hbm := by
  unfold Module.designWrite; simp

@[simp] theorem hostAbort_frame (m : Module) :
    (Module.hostAbort m).regs = m.regs ∧
    (Module.hostAbort m).ctl = m.ctl ∧
    (Module.hostAbort m).pins = m.pins ∧
    (Module.hostAbort m).start = m.start ∧
    (Module.hostAbort m).seq = m.seq ∧
    (Module.hostAbort m).data = m.data ∧
    (Module.hostAbort m).image = m.image ∧
    (Module.hostAbort m).load = m.load ∧
    (Module.hostAbort m).txn = m.txn ∧
    (Module.hostAbort m).couriers = m.couriers ∧
    (Module.hostAbort m).trig = m.trig ∧
    (Module.hostAbort m).trace = m.trace ∧
    (Module.hostAbort m).fabric = m.fabric ∧
    (Module.hostAbort m).lanes = m.lanes ∧
    (Module.hostAbort m).bundles = m.bundles ∧
    (Module.hostAbort m).disc = m.disc ∧
    (Module.hostAbort m).store = m.store ∧
    (Module.hostAbort m).sec = m.sec ∧
    (Module.hostAbort m).stew = m.stew ∧
    (Module.hostAbort m).scrub = m.scrub ∧
    (Module.hostAbort m).hbm = m.hbm := by
  unfold Module.hostAbort; simp

@[simp] theorem pageRead_frame (bar o len : Nat) (m : Module) :
    (Module.pageRead bar o len m).ctl = m.ctl ∧
    (Module.pageRead bar o len m).pins = m.pins ∧
    (Module.pageRead bar o len m).start = m.start ∧
    (Module.pageRead bar o len m).seq = m.seq ∧
    (Module.pageRead bar o len m).data = m.data ∧
    (Module.pageRead bar o len m).image = m.image ∧
    (Module.pageRead bar o len m).load = m.load ∧
    (Module.pageRead bar o len m).txn = m.txn ∧
    (Module.pageRead bar o len m).couriers = m.couriers ∧
    (Module.pageRead bar o len m).trig = m.trig ∧
    (Module.pageRead bar o len m).trace = m.trace ∧
    (Module.pageRead bar o len m).lanes = m.lanes ∧
    (Module.pageRead bar o len m).bundles = m.bundles ∧
    (Module.pageRead bar o len m).disc = m.disc ∧
    (Module.pageRead bar o len m).store = m.store ∧
    (Module.pageRead bar o len m).scrub = m.scrub ∧
    (Module.pageRead bar o len m).hbm = m.hbm := by
  unfold Module.pageRead; simp

@[simp] theorem pageAccess_frame (bar o len : Nat) (m : Module) :
    (Module.pageAccess bar o len m).ctl = m.ctl ∧
    (Module.pageAccess bar o len m).pins = m.pins ∧
    (Module.pageAccess bar o len m).start = m.start ∧
    (Module.pageAccess bar o len m).seq = m.seq ∧
    (Module.pageAccess bar o len m).data = m.data ∧
    (Module.pageAccess bar o len m).image = m.image ∧
    (Module.pageAccess bar o len m).load = m.load ∧
    (Module.pageAccess bar o len m).txn = m.txn ∧
    (Module.pageAccess bar o len m).couriers = m.couriers ∧
    (Module.pageAccess bar o len m).trig = m.trig ∧
    (Module.pageAccess bar o len m).trace = m.trace ∧
    (Module.pageAccess bar o len m).lanes = m.lanes ∧
    (Module.pageAccess bar o len m).bundles = m.bundles ∧
    (Module.pageAccess bar o len m).disc = m.disc ∧
    (Module.pageAccess bar o len m).store = m.store ∧
    (Module.pageAccess bar o len m).scrub = m.scrub ∧
    (Module.pageAccess bar o len m).hbm = m.hbm := by
  unfold Module.pageAccess; (try dsimp only); (repeat' split) <;> simp

@[simp] theorem pageServe_frame (m : Module) :
    (Module.pageServe m).ctl = m.ctl ∧
    (Module.pageServe m).pins = m.pins ∧
    (Module.pageServe m).start = m.start ∧
    (Module.pageServe m).seq = m.seq ∧
    (Module.pageServe m).data = m.data ∧
    (Module.pageServe m).image = m.image ∧
    (Module.pageServe m).load = m.load ∧
    (Module.pageServe m).txn = m.txn ∧
    (Module.pageServe m).couriers = m.couriers ∧
    (Module.pageServe m).trig = m.trig ∧
    (Module.pageServe m).trace = m.trace ∧
    (Module.pageServe m).lanes = m.lanes ∧
    (Module.pageServe m).bundles = m.bundles ∧
    (Module.pageServe m).disc = m.disc ∧
    (Module.pageServe m).store = m.store ∧
    (Module.pageServe m).scrub = m.scrub ∧
    (Module.pageServe m).hbm = m.hbm := by
  unfold Module.pageServe; (try dsimp only); (repeat' split) <;> simp

@[simp] theorem hostRead_frame (bar o len : Nat) (m : Module) :
    (Module.hostRead bar o len m).ctl = m.ctl ∧
    (Module.hostRead bar o len m).pins = m.pins ∧
    (Module.hostRead bar o len m).start = m.start ∧
    (Module.hostRead bar o len m).seq = m.seq ∧
    (Module.hostRead bar o len m).data = m.data ∧
    (Module.hostRead bar o len m).image = m.image ∧
    (Module.hostRead bar o len m).load = m.load ∧
    (Module.hostRead bar o len m).txn = m.txn ∧
    (Module.hostRead bar o len m).couriers = m.couriers ∧
    (Module.hostRead bar o len m).trig = m.trig ∧
    (Module.hostRead bar o len m).trace = m.trace ∧
    (Module.hostRead bar o len m).lanes = m.lanes ∧
    (Module.hostRead bar o len m).bundles = m.bundles ∧
    (Module.hostRead bar o len m).disc = m.disc ∧
    (Module.hostRead bar o len m).store = m.store ∧
    (Module.hostRead bar o len m).scrub = m.scrub ∧
    (Module.hostRead bar o len m).hbm = m.hbm := by
  unfold Module.hostRead; simp

@[simp] theorem hostWrite_frame (bar o : Nat) (bytes : List Byte) (m : Module) :
    (Module.hostWrite bar o bytes m).ctl = m.ctl ∧
    (Module.hostWrite bar o bytes m).pins = m.pins ∧
    (Module.hostWrite bar o bytes m).start = m.start ∧
    (Module.hostWrite bar o bytes m).seq = m.seq ∧
    (Module.hostWrite bar o bytes m).image = m.image ∧
    (Module.hostWrite bar o bytes m).load = m.load ∧
    (Module.hostWrite bar o bytes m).trig = m.trig ∧
    (Module.hostWrite bar o bytes m).trace = m.trace ∧
    (Module.hostWrite bar o bytes m).lanes = m.lanes ∧
    (Module.hostWrite bar o bytes m).bundles = m.bundles ∧
    (Module.hostWrite bar o bytes m).disc = m.disc ∧
    (Module.hostWrite bar o bytes m).store = m.store ∧
    (Module.hostWrite bar o bytes m).scrub = m.scrub := by
  unfold Module.hostWrite; (try dsimp only); (repeat' split) <;> simp

@[simp] theorem hostTimeout_frame (tag : Nat) (m : Module) :
    (Module.hostTimeout tag m).regs = m.regs ∧
    (Module.hostTimeout tag m).ctl = m.ctl ∧
    (Module.hostTimeout tag m).pins = m.pins ∧
    (Module.hostTimeout tag m).start = m.start ∧
    (Module.hostTimeout tag m).seq = m.seq ∧
    (Module.hostTimeout tag m).data = m.data ∧
    (Module.hostTimeout tag m).image = m.image ∧
    (Module.hostTimeout tag m).load = m.load ∧
    (Module.hostTimeout tag m).txn = m.txn ∧
    (Module.hostTimeout tag m).couriers = m.couriers ∧
    (Module.hostTimeout tag m).trig = m.trig ∧
    (Module.hostTimeout tag m).trace = m.trace ∧
    (Module.hostTimeout tag m).lanes = m.lanes ∧
    (Module.hostTimeout tag m).bundles = m.bundles ∧
    (Module.hostTimeout tag m).disc = m.disc ∧
    (Module.hostTimeout tag m).store = m.store ∧
    (Module.hostTimeout tag m).sec = m.sec ∧
    (Module.hostTimeout tag m).stew = m.stew ∧
    (Module.hostTimeout tag m).scrub = m.scrub ∧
    (Module.hostTimeout tag m).hbm = m.hbm := by
  unfold Module.hostTimeout; (try dsimp only); (repeat' split) <;> simp

@[simp] theorem applyHeld_frame (m : Module) :
    (Module.applyHeld m).ctl = m.ctl ∧
    (Module.applyHeld m).pins = m.pins ∧
    (Module.applyHeld m).start = m.start ∧
    (Module.applyHeld m).data = m.data ∧
    (Module.applyHeld m).image = m.image ∧
    (Module.applyHeld m).load = m.load ∧
    (Module.applyHeld m).txn = m.txn ∧
    (Module.applyHeld m).couriers = m.couriers ∧
    (Module.applyHeld m).trig = m.trig ∧
    (Module.applyHeld m).trace = m.trace ∧
    (Module.applyHeld m).fabric = m.fabric ∧
    (Module.applyHeld m).lanes = m.lanes ∧
    (Module.applyHeld m).bundles = m.bundles ∧
    (Module.applyHeld m).disc = m.disc ∧
    (Module.applyHeld m).store = m.store ∧
    (Module.applyHeld m).sec = m.sec ∧
    (Module.applyHeld m).stew = m.stew ∧
    (Module.applyHeld m).scrub = m.scrub ∧
    (Module.applyHeld m).hbm = m.hbm ∧
    (Module.applyHeld m).outbox = m.outbox := by
  unfold Module.applyHeld; simp

@[simp] theorem publishOne_frame (c folio : Nat) (m : Module) :
    (Module.publishOne c folio m).regs = m.regs ∧
    (Module.publishOne c folio m).ctl = m.ctl ∧
    (Module.publishOne c folio m).pins = m.pins ∧
    (Module.publishOne c folio m).start = m.start ∧
    (Module.publishOne c folio m).seq = m.seq ∧
    (Module.publishOne c folio m).image = m.image ∧
    (Module.publishOne c folio m).load = m.load ∧
    (Module.publishOne c folio m).txn = m.txn ∧
    (Module.publishOne c folio m).trig = m.trig ∧
    (Module.publishOne c folio m).trace = m.trace ∧
    (Module.publishOne c folio m).fabric = m.fabric ∧
    (Module.publishOne c folio m).lanes = m.lanes ∧
    (Module.publishOne c folio m).bundles = m.bundles ∧
    (Module.publishOne c folio m).disc = m.disc ∧
    (Module.publishOne c folio m).store = m.store ∧
    (Module.publishOne c folio m).sec = m.sec ∧
    (Module.publishOne c folio m).stew = m.stew ∧
    (Module.publishOne c folio m).scrub = m.scrub ∧
    (Module.publishOne c folio m).hbm = m.hbm ∧
    (Module.publishOne c folio m).outbox = m.outbox := by
  unfold Module.publishOne; (try dsimp only); (repeat' split) <;> simp

@[simp] theorem publish_frame (folio : Nat) (m : Module) (c : Nat) :
    (Module.publish folio m c).regs = m.regs ∧
    (Module.publish folio m c).ctl = m.ctl ∧
    (Module.publish folio m c).pins = m.pins ∧
    (Module.publish folio m c).start = m.start ∧
    (Module.publish folio m c).seq = m.seq ∧
    (Module.publish folio m c).image = m.image ∧
    (Module.publish folio m c).load = m.load ∧
    (Module.publish folio m c).txn = m.txn ∧
    (Module.publish folio m c).trig = m.trig ∧
    (Module.publish folio m c).trace = m.trace ∧
    (Module.publish folio m c).fabric = m.fabric ∧
    (Module.publish folio m c).lanes = m.lanes ∧
    (Module.publish folio m c).bundles = m.bundles ∧
    (Module.publish folio m c).disc = m.disc ∧
    (Module.publish folio m c).store = m.store ∧
    (Module.publish folio m c).sec = m.sec ∧
    (Module.publish folio m c).stew = m.stew ∧
    (Module.publish folio m c).scrub = m.scrub ∧
    (Module.publish folio m c).hbm = m.hbm ∧
    (Module.publish folio m c).outbox = m.outbox := by
  unfold Module.publish; simp

@[simp] theorem publishOuts_frame (m : Module) :
    (Module.publishOuts m).regs = m.regs ∧
    (Module.publishOuts m).ctl = m.ctl ∧
    (Module.publishOuts m).pins = m.pins ∧
    (Module.publishOuts m).start = m.start ∧
    (Module.publishOuts m).seq = m.seq ∧
    (Module.publishOuts m).image = m.image ∧
    (Module.publishOuts m).load = m.load ∧
    (Module.publishOuts m).txn = m.txn ∧
    (Module.publishOuts m).couriers = m.couriers ∧
    (Module.publishOuts m).trig = m.trig ∧
    (Module.publishOuts m).trace = m.trace ∧
    (Module.publishOuts m).fabric = m.fabric ∧
    (Module.publishOuts m).lanes = m.lanes ∧
    (Module.publishOuts m).bundles = m.bundles ∧
    (Module.publishOuts m).disc = m.disc ∧
    (Module.publishOuts m).store = m.store ∧
    (Module.publishOuts m).sec = m.sec ∧
    (Module.publishOuts m).stew = m.stew ∧
    (Module.publishOuts m).scrub = m.scrub ∧
    (Module.publishOuts m).hbm = m.hbm ∧
    (Module.publishOuts m).outbox = m.outbox := by
  unfold Module.publishOuts; simp

@[simp] theorem startCores_frame (m : Module) :
    (Module.startCores m).regs = m.regs ∧
    (Module.startCores m).ctl = m.ctl ∧
    (Module.startCores m).pins = m.pins ∧
    (Module.startCores m).start = m.start ∧
    (Module.startCores m).seq = m.seq ∧
    (Module.startCores m).data = m.data ∧
    (Module.startCores m).image = m.image ∧
    (Module.startCores m).load = m.load ∧
    (Module.startCores m).txn = m.txn ∧
    (Module.startCores m).trig = m.trig ∧
    (Module.startCores m).trace = m.trace ∧
    (Module.startCores m).fabric = m.fabric ∧
    (Module.startCores m).lanes = m.lanes ∧
    (Module.startCores m).bundles = m.bundles ∧
    (Module.startCores m).disc = m.disc ∧
    (Module.startCores m).store = m.store ∧
    (Module.startCores m).sec = m.sec ∧
    (Module.startCores m).stew = m.stew ∧
    (Module.startCores m).scrub = m.scrub ∧
    (Module.startCores m).hbm = m.hbm ∧
    (Module.startCores m).outbox = m.outbox := by
  unfold Module.startCores; simp

@[simp] theorem phase5_frame (f : Nat) (m : Module) :
    (Module.phase5 f m).ctl = m.ctl ∧
    (Module.phase5 f m).pins = m.pins ∧
    (Module.phase5 f m).start = m.start ∧
    (Module.phase5 f m).image = m.image ∧
    (Module.phase5 f m).load = m.load ∧
    (Module.phase5 f m).trace = m.trace ∧
    (Module.phase5 f m).lanes = m.lanes ∧
    (Module.phase5 f m).bundles = m.bundles ∧
    (Module.phase5 f m).disc = m.disc ∧
    (Module.phase5 f m).store = m.store ∧
    (Module.phase5 f m).scrub = m.scrub ∧
    (Module.phase5 f m).hbm = m.hbm := by
  unfold Module.phase5; simp

@[simp] theorem walkFault_frame (s f idx : Nat) (m : Module) :
    (Module.walkFault s f idx m).scrub = m.scrub := by
  unfold Module.walkFault; simp

@[simp] theorem reportFault_frame (s f : Nat) (m : Module) :
    (Module.reportFault s f m).scrub = m.scrub := by
  unfold Module.reportFault; simp

@[simp] theorem openStreams_frame (m : Module) :
    (Module.openStreams m).ctl = m.ctl ∧
    (Module.openStreams m).pins = m.pins ∧
    (Module.openStreams m).start = m.start ∧
    (Module.openStreams m).seq = m.seq ∧
    (Module.openStreams m).data = m.data ∧
    (Module.openStreams m).image = m.image ∧
    (Module.openStreams m).load = m.load ∧
    (Module.openStreams m).txn = m.txn ∧
    (Module.openStreams m).couriers = m.couriers ∧
    (Module.openStreams m).trig = m.trig ∧
    (Module.openStreams m).trace = m.trace ∧
    (Module.openStreams m).fabric = m.fabric ∧
    (Module.openStreams m).lanes = m.lanes ∧
    (Module.openStreams m).disc = m.disc ∧
    (Module.openStreams m).scrub = m.scrub ∧
    (Module.openStreams m).hbm = m.hbm ∧
    (Module.openStreams m).outbox = m.outbox := by
  unfold Module.openStreams; simp

@[simp] theorem drivePins_frame (m : Module) :
    (Module.drivePins m).regs = m.regs ∧
    (Module.drivePins m).ctl = m.ctl ∧
    (Module.drivePins m).start = m.start ∧
    (Module.drivePins m).seq = m.seq ∧
    (Module.drivePins m).data = m.data ∧
    (Module.drivePins m).image = m.image ∧
    (Module.drivePins m).load = m.load ∧
    (Module.drivePins m).txn = m.txn ∧
    (Module.drivePins m).couriers = m.couriers ∧
    (Module.drivePins m).trig = m.trig ∧
    (Module.drivePins m).trace = m.trace ∧
    (Module.drivePins m).fabric = m.fabric ∧
    (Module.drivePins m).lanes = m.lanes ∧
    (Module.drivePins m).bundles = m.bundles ∧
    (Module.drivePins m).disc = m.disc ∧
    (Module.drivePins m).store = m.store ∧
    (Module.drivePins m).sec = m.sec ∧
    (Module.drivePins m).stew = m.stew ∧
    (Module.drivePins m).scrub = m.scrub ∧
    (Module.drivePins m).hbm = m.hbm ∧
    (Module.drivePins m).outbox = m.outbox := by
  unfold Module.drivePins; simp

@[simp] theorem judgeDrift_frame (m : Module) :
    (Module.judgeDrift m).ctl = m.ctl ∧
    (Module.judgeDrift m).pins = m.pins ∧
    (Module.judgeDrift m).start = m.start ∧
    (Module.judgeDrift m).data = m.data ∧
    (Module.judgeDrift m).image = m.image ∧
    (Module.judgeDrift m).load = m.load ∧
    (Module.judgeDrift m).txn = m.txn ∧
    (Module.judgeDrift m).couriers = m.couriers ∧
    (Module.judgeDrift m).trig = m.trig ∧
    (Module.judgeDrift m).trace = m.trace ∧
    (Module.judgeDrift m).fabric = m.fabric ∧
    (Module.judgeDrift m).lanes = m.lanes ∧
    (Module.judgeDrift m).bundles = m.bundles ∧
    (Module.judgeDrift m).disc = m.disc ∧
    (Module.judgeDrift m).store = m.store ∧
    (Module.judgeDrift m).sec = m.sec ∧
    (Module.judgeDrift m).scrub = m.scrub ∧
    (Module.judgeDrift m).hbm = m.hbm ∧
    (Module.judgeDrift m).outbox = m.outbox := by
  unfold Module.judgeDrift; simp

@[simp] theorem newFolio_frame (f : Nat) (m : Module) :
    (Module.newFolio f m).scrub = m.scrub := by
  unfold Module.newFolio; simp

@[simp] theorem depart_frame (m : Module) :
    (Module.depart m).regs = m.regs ∧
    (Module.depart m).pins = m.pins ∧
    (Module.depart m).start = m.start ∧
    (Module.depart m).data = m.data ∧
    (Module.depart m).image = m.image ∧
    (Module.depart m).load = m.load ∧
    (Module.depart m).txn = m.txn ∧
    (Module.depart m).couriers = m.couriers ∧
    (Module.depart m).trig = m.trig ∧
    (Module.depart m).trace = m.trace ∧
    (Module.depart m).fabric = m.fabric ∧
    (Module.depart m).lanes = m.lanes ∧
    (Module.depart m).bundles = m.bundles ∧
    (Module.depart m).disc = m.disc ∧
    (Module.depart m).store = m.store ∧
    (Module.depart m).sec = m.sec ∧
    (Module.depart m).stew = m.stew ∧
    (Module.depart m).scrub = m.scrub ∧
    (Module.depart m).hbm = m.hbm ∧
    (Module.depart m).outbox = m.outbox := by
  unfold Module.depart; (try dsimp only); (repeat' split) <;> simp

@[simp] theorem launchUnits_frame (f : Nat) (m : Module) :
    (Module.launchUnits f m).ctl = m.ctl ∧
    (Module.launchUnits f m).pins = m.pins ∧
    (Module.launchUnits f m).start = m.start ∧
    (Module.launchUnits f m).data = m.data ∧
    (Module.launchUnits f m).image = m.image ∧
    (Module.launchUnits f m).load = m.load ∧
    (Module.launchUnits f m).txn = m.txn ∧
    (Module.launchUnits f m).couriers = m.couriers ∧
    (Module.launchUnits f m).lanes = m.lanes ∧
    (Module.launchUnits f m).bundles = m.bundles ∧
    (Module.launchUnits f m).disc = m.disc ∧
    (Module.launchUnits f m).store = m.store ∧
    (Module.launchUnits f m).scrub = m.scrub ∧
    (Module.launchUnits f m).hbm = m.hbm := by
  unfold Module.launchUnits; simp

@[simp] theorem firstFetch_frame (m : Module) :
    (Module.firstFetch m).scrub = m.scrub := by
  unfold Module.firstFetch; simp

@[simp] theorem phase7_frame (f : Nat) (w : SeqWalk) (m : Module) :
    (Module.phase7 f w m).scrub = m.scrub := by
  unfold Module.phase7; simp

@[simp] theorem lastRound_frame (m : Module) :
    (Module.lastRound m).2.regs = m.regs ∧
    (Module.lastRound m).2.ctl = m.ctl ∧
    (Module.lastRound m).2.pins = m.pins ∧
    (Module.lastRound m).2.start = m.start ∧
    (Module.lastRound m).2.seq = m.seq ∧
    (Module.lastRound m).2.data = m.data ∧
    (Module.lastRound m).2.image = m.image ∧
    (Module.lastRound m).2.load = m.load ∧
    (Module.lastRound m).2.txn = m.txn ∧
    (Module.lastRound m).2.couriers = m.couriers ∧
    (Module.lastRound m).2.trig = m.trig ∧
    (Module.lastRound m).2.trace = m.trace ∧
    (Module.lastRound m).2.fabric = m.fabric ∧
    (Module.lastRound m).2.lanes = m.lanes ∧
    (Module.lastRound m).2.bundles = m.bundles ∧
    (Module.lastRound m).2.disc = m.disc ∧
    (Module.lastRound m).2.store = m.store ∧
    (Module.lastRound m).2.stew = m.stew ∧
    (Module.lastRound m).2.scrub = m.scrub ∧
    (Module.lastRound m).2.hbm = m.hbm ∧
    (Module.lastRound m).2.outbox = m.outbox := by
  unfold Module.lastRound; (try dsimp only); (repeat' split) <;> simp

@[simp] theorem leaveHold_frame (m : Module) :
    (Module.leaveHold m).ctl = m.ctl ∧
    (Module.leaveHold m).pins = m.pins ∧
    (Module.leaveHold m).start = m.start ∧
    (Module.leaveHold m).data = m.data ∧
    (Module.leaveHold m).image = m.image ∧
    (Module.leaveHold m).load = m.load ∧
    (Module.leaveHold m).txn = m.txn ∧
    (Module.leaveHold m).couriers = m.couriers ∧
    (Module.leaveHold m).trig = m.trig ∧
    (Module.leaveHold m).trace = m.trace ∧
    (Module.leaveHold m).fabric = m.fabric ∧
    (Module.leaveHold m).lanes = m.lanes ∧
    (Module.leaveHold m).bundles = m.bundles ∧
    (Module.leaveHold m).disc = m.disc ∧
    (Module.leaveHold m).store = m.store ∧
    (Module.leaveHold m).stew = m.stew ∧
    (Module.leaveHold m).scrub = m.scrub ∧
    (Module.leaveHold m).hbm = m.hbm ∧
    (Module.leaveHold m).outbox = m.outbox := by
  unfold Module.leaveHold; simp

@[simp] theorem stallCycle_frame (m : Module) :
    (Module.stallCycle m).ctl = m.ctl ∧
    (Module.stallCycle m).pins = m.pins ∧
    (Module.stallCycle m).start = m.start ∧
    (Module.stallCycle m).data = m.data ∧
    (Module.stallCycle m).image = m.image ∧
    (Module.stallCycle m).load = m.load ∧
    (Module.stallCycle m).txn = m.txn ∧
    (Module.stallCycle m).couriers = m.couriers ∧
    (Module.stallCycle m).trig = m.trig ∧
    (Module.stallCycle m).trace = m.trace ∧
    (Module.stallCycle m).fabric = m.fabric ∧
    (Module.stallCycle m).lanes = m.lanes ∧
    (Module.stallCycle m).bundles = m.bundles ∧
    (Module.stallCycle m).disc = m.disc ∧
    (Module.stallCycle m).store = m.store ∧
    (Module.stallCycle m).sec = m.sec ∧
    (Module.stallCycle m).stew = m.stew ∧
    (Module.stallCycle m).scrub = m.scrub ∧
    (Module.stallCycle m).hbm = m.hbm ∧
    (Module.stallCycle m).outbox = m.outbox := by
  unfold Module.stallCycle; simp

@[simp] theorem heldCycle_frame (drain : Bool) (m : Module) :
    (Module.heldCycle drain m).ctl = m.ctl ∧
    (Module.heldCycle drain m).pins = m.pins ∧
    (Module.heldCycle drain m).start = m.start ∧
    (Module.heldCycle drain m).data = m.data ∧
    (Module.heldCycle drain m).image = m.image ∧
    (Module.heldCycle drain m).load = m.load ∧
    (Module.heldCycle drain m).txn = m.txn ∧
    (Module.heldCycle drain m).couriers = m.couriers ∧
    (Module.heldCycle drain m).trig = m.trig ∧
    (Module.heldCycle drain m).trace = m.trace ∧
    (Module.heldCycle drain m).fabric = m.fabric ∧
    (Module.heldCycle drain m).lanes = m.lanes ∧
    (Module.heldCycle drain m).bundles = m.bundles ∧
    (Module.heldCycle drain m).disc = m.disc ∧
    (Module.heldCycle drain m).store = m.store ∧
    (Module.heldCycle drain m).sec = m.sec ∧
    (Module.heldCycle drain m).stew = m.stew ∧
    (Module.heldCycle drain m).scrub = m.scrub ∧
    (Module.heldCycle drain m).hbm = m.hbm ∧
    (Module.heldCycle drain m).outbox = m.outbox := by
  unfold Module.heldCycle; simp

@[simp] theorem runCycle_frame (m : Module) :
    (Module.runCycle m).ctl = m.ctl ∧
    (Module.runCycle m).pins = m.pins ∧
    (Module.runCycle m).start = m.start ∧
    (Module.runCycle m).image = m.image ∧
    (Module.runCycle m).load = m.load ∧
    (Module.runCycle m).txn = m.txn ∧
    (Module.runCycle m).couriers = m.couriers ∧
    (Module.runCycle m).trig = m.trig ∧
    (Module.runCycle m).trace = m.trace ∧
    (Module.runCycle m).lanes = m.lanes ∧
    (Module.runCycle m).disc = m.disc ∧
    (Module.runCycle m).store = m.store ∧
    (Module.runCycle m).sec = m.sec ∧
    (Module.runCycle m).stew = m.stew ∧
    (Module.runCycle m).scrub = m.scrub ∧
    (Module.runCycle m).hbm = m.hbm := by
  unfold Module.runCycle; (try dsimp only); (repeat' split) <;> simp

@[simp] theorem linkCycle_frame (m : Module) :
    (Module.linkCycle m).scrub = m.scrub := by
  unfold Module.linkCycle; simp

end Sys2Proof.Machine
end

