-- ==== Sys2Proof/Laws/KeptBut.lean ====
section
/-! SUPPORT. Laws/KeptBut.lean: `KeptBut` written out part by part. -/

namespace Sys2Proof.Machine
theorem keptBut_iff (ps : List Part) (a b : Module) : KeptBut ps a b ↔
    (.regs ∈ ps ∨ b.regs = a.regs) ∧ (.ctl ∈ ps ∨ b.ctl = a.ctl) ∧ (.pins ∈ ps ∨ b.pins = a.pins) ∧
    (.start ∈ ps ∨ b.start = a.start) ∧ (.seq ∈ ps ∨ b.seq = a.seq) ∧ (.data ∈ ps ∨ b.data = a.data) ∧
    (.image ∈ ps ∨ b.image = a.image) ∧ (.load ∈ ps ∨ b.load = a.load) ∧ (.txn ∈ ps ∨ b.txn = a.txn) ∧
    (.couriers ∈ ps ∨ b.couriers = a.couriers) ∧ (.trig ∈ ps ∨ b.trig = a.trig) ∧
    (.trace ∈ ps ∨ b.trace = a.trace) ∧ (.fabric ∈ ps ∨ b.fabric = a.fabric) ∧ (.lanes ∈ ps ∨ b.lanes = a.lanes) ∧
    (.bundles ∈ ps ∨ b.bundles = a.bundles) ∧ (.disc ∈ ps ∨ b.disc = a.disc) ∧ (.store ∈ ps ∨ b.store = a.store) ∧
    (.sec ∈ ps ∨ b.sec = a.sec) ∧ (.stew ∈ ps ∨ b.stew = a.stew) ∧ (.scrub ∈ ps ∨ b.scrub = a.scrub) ∧
    (.hbm ∈ ps ∨ b.hbm = a.hbm) ∧ (.outbox ∈ ps ∨ b.outbox = a.outbox) := by
  constructor
  · intro h
    have k (p : Part) : p ∈ ps ∨ p.kept a b := (Classical.em (p ∈ ps)).imp_right (h p)
    exact ⟨k .regs, k .ctl, k .pins, k .start, k .seq, k .data, k .image, k .load, k .txn, k .couriers, k .trig, k .trace,
      k .fabric, k .lanes, k .bundles, k .disc, k .store, k .sec, k .stew, k .scrub, k .hbm, k .outbox⟩
  · intro h p hp
    cases p <;> simp_all [Part.kept]
theorem keptBut_all (a b : Module) : KeptBut Part.all a b := by
  intro p hp
  cases p <;> simp [Part.all] at hp
end Sys2Proof.Machine
end

