-- ==== Sys2Proof/Laws/Sparse.lean ====
section
/-! SUPPORT. Laws/Sparse.lean: the canonical form of sparse tables and sparse bytes, and that every operation over them
keeps it; what a read gives after a write. -/

namespace Sys2Proof.Machine

variable {α : Type} [DecidableEq α]

/-- Canonical form from a lower bound, as a statement about all entries. -/
theorem swfFrom_iff (d : Nat → α) (lo : Option Nat) (m : SMap α) :
    swfFrom d lo m = true ↔
      (∀ b, lo = some b → ∀ e ∈ m, b < e.1) ∧ m.Pairwise (fun a b => a.1 < b.1) ∧ ∀ e ∈ m, e.2 ≠ d e.1 := by
  induction m generalizing lo with
  | nil => simp [swfFrom]
  | cons x t ih =>
    obtain ⟨k, v⟩ := x
    have hx : swfFrom d lo ((k, v) :: t) = ((match lo with | none => true | some b => decide (b < k)) && !decide (v = d k)
        && swfFrom d (some k) t) := by cases lo <;> rfl
    rw [hx, Bool.and_eq_true, Bool.and_eq_true, ih]
    constructor
    · rintro ⟨⟨h1, h2⟩, h3, h4, h5⟩
      refine ⟨?_, ?_, ?_⟩
      · rintro b rfl e he
        have hb : b < k := by simpa using h1
        rcases List.mem_cons.mp he with rfl | he
        · exact hb
        · exact Nat.lt_trans hb (h3 k rfl e he)
      · exact List.pairwise_cons.mpr ⟨fun e he => h3 k rfl e he, h4⟩
      · intro e he
        rcases List.mem_cons.mp he with rfl | he
        · simpa using h2
        · exact h5 e he
    · rintro ⟨h1, h2, h3⟩
      have h2' := List.pairwise_cons.mp h2
      refine ⟨⟨?_, ?_⟩, ?_, h2'.2, fun e he => h3 e (List.mem_cons_of_mem _ he)⟩
      · cases lo with
        | none => rfl
        | some b => simpa using h1 b rfl (k, v) (by simp)
      · simpa using h3 (k, v) (by simp)
      · rintro b hb e he
        cases hb
        exact h2'.1 e he

/-- Canonical form: keys rise and no entry equals the default of its key. -/
theorem swf_iff (d : Nat → α) (m : SMap α) :
    swf d m = true ↔ m.Pairwise (fun a b => a.1 < b.1) ∧ ∀ e ∈ m, e.2 ≠ d e.1 := by
  simp [swf, swfFrom_iff]

@[simp] theorem swf_nil (d : Nat → α) : swf d ([] : SMap α) = true := rfl

theorem swf_filter (d : Nat → α) (m : SMap α) (p : Nat × α → Bool) (h : swf d m = true) : swf d (m.filter p) = true := by
  rw [swf_iff] at h ⊢
  exact ⟨h.1.filter p, fun e he => h.2 e ((List.mem_filter.mp he).1)⟩

theorem swf_srange (d : Nat → α) (m : SMap α) (lo hi : Nat) (h : swf d m = true) : swf d (srange m lo hi) = true :=
  swf_filter d m _ h

theorem swf_sclear (d : Nat → α) (m : SMap α) (lo hi : Nat) (h : swf d m = true) : swf d (sclear m lo hi) = true :=
  swf_filter d m _ h

/-- Two canonical tables put one behind the other, where every key of the first is below every key of the second. -/
theorem swf_append (d : Nat → α) (a b : SMap α) (ha : swf d a = true) (hb : swf d b = true)
    (h : ∀ x ∈ a, ∀ y ∈ b, x.1 < y.1) : swf d (a ++ b) = true := by
  rw [swf_iff] at *
  refine ⟨List.pairwise_append.mpr ⟨ha.1, hb.1, h⟩, fun e he => ?_⟩
  rcases List.mem_append.mp he with he | he
  · exact ha.2 e he
  · exact hb.2 e he

omit [DecidableEq α] in
theorem mem_serase {e : Nat × α} {m : SMap α} {k : Nat} (h : e ∈ serase m k) : e ∈ m := by
  induction m with
  | nil => simp [serase] at h
  | cons x t ih =>
    simp only [serase] at h
    split at h
    · exact List.mem_cons_of_mem _ (ih h)
    · rcases List.mem_cons.mp h with rfl | h
      · simp
      · exact List.mem_cons_of_mem _ (ih h)

theorem swf_serase (d : Nat → α) (m : SMap α) (k : Nat) (h : swf d m = true) : swf d (serase m k) = true := by
  rw [swf_iff] at *
  refine ⟨?_, fun e he => h.2 e (mem_serase he)⟩
  obtain ⟨h1, -⟩ := h
  induction m with
  | nil => simp [serase]
  | cons x t ih =>
    have h' := List.pairwise_cons.mp h1
    simp only [serase]
    split
    · exact ih h'.2
    · exact List.pairwise_cons.mpr ⟨fun e he => h'.1 e (mem_serase he), ih h'.2⟩

omit [DecidableEq α] in
theorem mem_sinsert {e : Nat × α} {m : SMap α} {k : Nat} {v : α} (h : e ∈ sinsert m k v) : e = (k, v) ∨ e ∈ m := by
  induction m with
  | nil => simpa [sinsert] using h
  | cons x t ih =>
    obtain ⟨k', v'⟩ := x
    simp only [sinsert] at h
    split at h
    · simpa using h
    · split at h
      · rcases List.mem_cons.mp h with h | h
        · exact .inl h
        · exact .inr (List.mem_cons_of_mem _ h)
      · rcases List.mem_cons.mp h with rfl | h
        · simp
        · rcases ih h with h | h
          · exact .inl h
          · exact .inr (List.mem_cons_of_mem _ h)

theorem swf_sinsert (d : Nat → α) (m : SMap α) (k : Nat) (v : α) (hv : v ≠ d k) (h : swf d m = true) :
    swf d (sinsert m k v) = true := by
  rw [swf_iff] at *
  refine ⟨?_, fun e he => ?_⟩
  · obtain ⟨h1, -⟩ := h
    induction m with
    | nil => simp [sinsert]
    | cons x t ih =>
      obtain ⟨k', v'⟩ := x
      have h' := List.pairwise_cons.mp h1
      simp only [sinsert]
      split
      · rename_i hk
        refine List.pairwise_cons.mpr ⟨fun e he => ?_, h1⟩
        rcases List.mem_cons.mp he with rfl | he
        · exact hk
        · exact Nat.lt_trans hk (h'.1 e he)
      · split
        · rename_i hk
          subst hk
          exact List.pairwise_cons.mpr ⟨h'.1, h'.2⟩
        · rename_i h2 h3
          refine List.pairwise_cons.mpr ⟨fun e he => ?_, ih h'.2⟩
          rcases mem_sinsert he with rfl | he
          · show k' < k
            omega
          · exact h'.1 e he
  · rcases mem_sinsert he with rfl | he
    · exact hv
    · exact h.2 e he

/-- A write keeps the canonical form; writing the default removes the entry. -/
theorem swf_sset (d : Nat → α) (m : SMap α) (k : Nat) (v : α) (h : swf d m = true) : swf d (sset (d k) m k v) = true := by
  unfold sset
  split
  · exact swf_serase d m k h
  · exact swf_sinsert d m k v ‹_› h

theorem swf_smod (d : Nat → α) (m : SMap α) (k : Nat) (f : α → α) (h : swf d m = true) :
    swf d (smod (d k) m k f) = true := swf_sset d m k _ h

theorem swf_ssetAll (d : α) (m : SMap α) (kvs : List (Nat × α)) (h : swf (fun _ => d) m = true) :
    swf (fun _ => d) (ssetAll d m kvs) = true := by
  unfold ssetAll
  induction kvs generalizing m with
  | nil => exact h
  | cons x t ih => exact ih _ (swf_sset (fun _ => d) m x.1 x.2 h)

/-! ### Reads after writes -/

omit [DecidableEq α] in
theorem sfind_of_lt {m : SMap α} {k : Nat} (h : ∀ e ∈ m, k < e.1) : sfind m k = none := by
  induction m with
  | nil => rfl
  | cons x t ih =>
    obtain ⟨k', v⟩ := x
    have := h (k', v) (by simp)
    simp only [sfind]
    rw [if_neg (by simp at this; omega)]
    exact ih (fun e he => h e (List.mem_cons_of_mem _ he))

omit [DecidableEq α] in
theorem sfind_sinsert (m : SMap α) (k k' : Nat) (v : α) :
    sfind (sinsert m k v) k' = if k' = k then some v else sfind m k' := by
  induction m with
  | nil => simp [sinsert, sfind, eq_comm]
  | cons x t ih =>
    obtain ⟨a, b⟩ := x
    simp only [sinsert]
    split
    · simp only [sfind]
      by_cases h : k' = k
      · simp [h]
      · simp [h, Ne.symm h]
    · split
      · rename_i h1 h2
        subst h2
        simp only [sfind]
        by_cases h : k' = a
        · simp [h]
        · simp [h, Ne.symm h]
      · rename_i h1 h2
        simp only [sfind, ih]
        by_cases h : a = k'
        · subst h
          simp [h2]
        · simp [h]

omit [DecidableEq α] in
theorem sfind_serase (m : SMap α) (k k' : Nat) :
    sfind (serase m k) k' = if k' = k then none else sfind m k' := by
  induction m with
  | nil => simp [serase, sfind]
  | cons x t ih =>
    obtain ⟨a, b⟩ := x
    simp only [serase]
    split
    · rename_i h2
      subst h2
      rw [ih]
      by_cases h : k' = a
      · simp [h]
      · simp [h, sfind, Ne.symm h]
    · rename_i h2
      simp only [sfind, ih]
      by_cases h : a = k'
      · subst h
        simp [h2]
      · simp [h]

/-- What any key reads after a write. -/
theorem sget_sset (d dk : α) (m : SMap α) (k k' : Nat) (v : α) :
    sget dk (sset d m k v) k' = if k' = k then (if v = d then dk else v) else sget dk m k' := by
  unfold sget sset
  split
  · rw [sfind_serase]
    split <;> simp
  · rw [sfind_sinsert]
    split <;> simp

/-- The written key reads the value written. -/
@[simp] theorem sget_sset_same (d : α) (m : SMap α) (k : Nat) (v : α) : sget d (sset d m k v) k = v := by
  rw [sget_sset]
  split <;> simp_all

/-- Every other key reads what it read before. -/
theorem sget_sset_other (d dk : α) (m : SMap α) (k k' : Nat) (v : α) (hk : k' ≠ k) :
    sget dk (sset d m k v) k' = sget dk m k' := by
  rw [sget_sset, if_neg hk]

omit [DecidableEq α] in
@[simp] theorem sget_nil (d : α) (k : Nat) : sget d ([] : SMap α) k = d := rfl

@[simp] theorem sget_smod_same (d : α) (m : SMap α) (k : Nat) (f : α → α) : sget d (smod d m k f) k = f (sget d m k) :=
  sget_sset_same d m k _

theorem sget_smod_other (d dk : α) (m : SMap α) (k k' : Nat) (f : α → α) (hk : k' ≠ k) :
    sget dk (smod d m k f) k' = sget dk m k' := sget_sset_other d dk m k k' _ hk

/-! ### Sparse bytes -/

theorem mem_cellsOf {e : Nat × Byte} {bs : List Byte} {a : Nat} (h : e ∈ cellsOf a bs) :
    a ≤ e.1 ∧ e.1 < a + bs.length ∧ e.2 ≠ 0 := by
  induction bs generalizing a with
  | nil => simp [cellsOf] at h
  | cons b t ih =>
    simp only [cellsOf] at h
    split at h
    · obtain ⟨h1, h2, h3⟩ := ih h
      exact ⟨by omega, by simp only [List.length_cons]; omega, h3⟩
    · rcases List.mem_cons.mp h with rfl | h
      · simpa using ‹_›
      · obtain ⟨h1, h2, h3⟩ := ih h
        exact ⟨by omega, by simp only [List.length_cons]; omega, h3⟩

theorem swf_cellsOf (a : Nat) (bs : List Byte) : swf (fun _ => 0#8) (cellsOf a bs) = true := by
  rw [swf_iff]
  refine ⟨?_, fun e he => (mem_cellsOf he).2.2⟩
  induction bs generalizing a with
  | nil => simp [cellsOf]
  | cons b t ih =>
    simp only [cellsOf]
    split
    · exact ih _
    · refine List.pairwise_cons.mpr ⟨fun e he => ?_, ih _⟩
      have := (mem_cellsOf he).1
      show a < e.1
      omega

/-- Writing consecutive bytes keeps the canonical form. -/
theorem swf_writeBytes (m : SMap Byte) (a : Nat) (bs : List Byte) (h : swf (fun _ => 0#8) m = true) :
    swf (fun _ => 0#8) (writeBytes m a bs) = true := by
  unfold writeBytes
  refine swf_append _ _ _ (swf_append _ _ _ (swf_filter _ _ _ h) (swf_cellsOf a bs) ?_) (swf_filter _ _ _ h) ?_
  · intro x hx y hy
    have h1 := (List.mem_filter.mp hx).2
    have h2 := (mem_cellsOf hy).1
    simp only [decide_eq_true_eq] at h1
    omega
  · intro x hx y hy
    have h2 := (List.mem_filter.mp hy).2
    simp only [decide_eq_true_eq] at h2
    rcases List.mem_append.mp hx with hx | hx
    · have h1 := (List.mem_filter.mp hx).2
      simp only [decide_eq_true_eq] at h1
      omega
    · have h1 := (mem_cellsOf hx).2.1
      omega

omit [DecidableEq α] in
theorem sfind_append (m1 m2 : SMap α) (k : Nat) : sfind (m1 ++ m2) k = (sfind m1 k).or (sfind m2 k) := by
  induction m1 with
  | nil => rfl
  | cons x t ih =>
    obtain ⟨a, b⟩ := x
    simp only [List.cons_append, sfind]
    split
    · rfl
    · exact ih

omit [DecidableEq α] in
theorem sfind_filter (m : SMap α) (p : Nat → Bool) (k : Nat) :
    sfind (m.filter (fun e => p e.1)) k = if p k then sfind m k else none := by
  induction m with
  | nil => simp [sfind]
  | cons x t ih =>
    obtain ⟨a, b⟩ := x
    by_cases ha : p a
    · rw [List.filter_cons_of_pos (by simpa using ha)]
      simp only [sfind, ih]
      by_cases h : a = k
      · subst h
        simp [ha]
      · simp [h]
    · rw [List.filter_cons_of_neg (by simpa using ha), ih]
      simp only [sfind]
      by_cases h : a = k
      · subst h
        simp [ha]
      · simp [h]

theorem sfind_cellsOf (bs : List Byte) (a k : Nat) :
    (sfind (cellsOf a bs) k).getD 0#8 = if a ≤ k ∧ k < a + bs.length then bs.getD (k - a) 0#8 else 0#8 := by
  induction bs generalizing a with
  | nil => simp [cellsOf, sfind]
  | cons b t ih =>
    have tail : a ≠ k → ((sfind (cellsOf (a + 1) t) k).getD 0#8 : Byte)
        = if a ≤ k ∧ k < a + (b :: t).length then (b :: t).getD (k - a) 0#8 else 0#8 := by
      intro h
      rw [ih]
      by_cases hk : a < k
      · have e : k - a = (k - (a + 1)) + 1 := by omega
        rw [e, List.getD_cons_succ]
        simp only [List.length_cons]
        split <;> split <;> first | rfl | (exfalso; omega)
      · rw [if_neg (by omega), if_neg (by omega)]
    have head : (if a ≤ a ∧ a < a + (b :: t).length then (b :: t).getD (a - a) 0#8 else 0#8) = b := by
      simp [List.length_cons]
    simp only [cellsOf]
    split
    · rename_i hb
      by_cases h : a = k
      · subst h
        rw [head, ih, if_neg (by omega)]
        exact hb.symm
      · exact tail h
    · simp only [sfind]
      by_cases h : a = k
      · subst h
        rw [head, if_pos rfl]
        rfl
      · rw [if_neg h]
        exact tail h

/-- A byte read after consecutive bytes are written: the byte written there, elsewhere the byte before. -/
theorem sget_writeBytes (m : SMap Byte) (a : Nat) (bs : List Byte) (k : Nat) :
    sget 0#8 (writeBytes m a bs) k = if a ≤ k ∧ k < a + bs.length then bs.getD (k - a) 0#8 else sget 0#8 m k := by
  unfold sget writeBytes
  rw [sfind_append, sfind_append, sfind_filter m (fun x => decide (x < a)), sfind_filter m (fun x => decide (a + bs.length ≤ x))]
  have hc := sfind_cellsOf bs a k
  by_cases h1 : k < a
  · have hn : sfind (cellsOf a bs) k = none := by
      refine sfind_of_lt fun e he => ?_
      have := (mem_cellsOf he).1
      omega
    rw [hn, if_neg (by omega : ¬(a ≤ k ∧ k < a + bs.length))]
    simp [h1, show ¬ a + bs.length ≤ k by omega]
  · by_cases h2 : a + bs.length ≤ k
    · have hn : sfind (cellsOf a bs) k = none := by
        cases hs : sfind (cellsOf a bs) k with
        | none => rfl
        | some v =>
          exfalso
          have hm : ∀ (t : SMap Byte), sfind t k = some v → (k, v) ∈ t := by
            intro t
            induction t with
            | nil => simp [sfind]
            | cons x t ih =>
              obtain ⟨a', b'⟩ := x
              simp only [sfind]
              split
              · rename_i h; subst h; intro h; simp_all
              · intro h; exact List.mem_cons_of_mem _ (ih h)
          have := (mem_cellsOf (hm _ hs)).2.1
          omega
      rw [hn, if_neg (by omega : ¬(a ≤ k ∧ k < a + bs.length))]
      simp [h1, h2]
    · rw [if_pos (by omega : a ≤ k ∧ k < a + bs.length)] at hc ⊢
      rw [← hc]
      simp [h1, h2]

/-- The tables that a function of the default writes in a fold stay canonical. -/
theorem swf_foldl {β : Type} (d : Nat → α) (f : SMap α → β → SMap α) (l : List β) (m : SMap α)
    (hf : ∀ m x, swf d m = true → swf d (f m x) = true) (h : swf d m = true) : swf d (l.foldl f m) = true := by
  induction l generalizing m with
  | nil => exact h
  | cons x t ih => exact ih _ (hf m x h)

end Sys2Proof.Machine
end

