-- ==== Sys2Proof/Laws/State.lean ====
section
/-! SUPPORT. Laws/State.lean: what each update of the state leaves to read: one lemma per field and update, and the reads after the
writes of registers, slots, lanes, bundles, trace sources and cells. -/

namespace Sys2Proof.Machine

/-! ### States, registers, modes -/

@[simp] theorem State.withMod_mod (s : State) (m : Module) : (s.withMod m).mod = m := rfl

@[simp] theorem State.withMod_pending (s : State) (m : Module) : (s.withMod m).pending = s.pending := rfl

@[simp] theorem enter_ctl (mode : Mode) (c : Nat) (m : Module) : (m.enter mode c).ctl =
  { m.ctl with prev := m.ctl.mode, mode := mode, cause := BitVec.ofNat 16 c, resumable := false } := rfl

@[simp] theorem setReg_reg (m : Module) (k v : Nat) : (m.setReg k v).reg k = v := by
  simp [Module.reg, Module.setReg]

theorem setReg_reg_other (m : Module) (k v j : Nat) (h : j ≠ k) : (m.setReg k v).reg j = m.reg j := by
  simp [Module.reg, Module.setReg, sget_sset_other _ _ _ _ _ _ h]

@[simp] theorem answer_stew (st : Nat) (m : Module) : (m.answer st).stew = { m.stew with lastStatus := BitVec.ofNat 8 st } := rfl

theorem completes_goOn (c : Instr) (s : State) (f : Module → Module) (P : Module → Prop) (h : exec c s = goOn f s) (hp : P (f s.mod)) :
    Completes c s P := ⟨f s.mod, h, hp⟩

@[simp] theorem msix_fabric (v : Nat) (m : Module) : (m.msix v).fabric = { m.fabric with msixRaised := smod 0 m.fabric.msixRaised v (· + 1) } := rfl

@[simp] theorem msix_outbox (v : Nat) (m : Module) : (m.msix v).outbox = .msix v :: m.outbox := rfl

@[simp] theorem enter_fabric (mode : Mode) (c : Nat) (m : Module) : (m.enter mode c).fabric = { m.fabric with msixRaised := smod 0 m.fabric.msixRaised 3 (· + 1) } := rfl

@[simp] theorem enter_outbox (mode : Mode) (c : Nat) (m : Module) : (m.enter mode c).outbox = .msix 3 :: m.outbox := rfl

theorem reg_def (m : Module) (k : Nat) : m.reg k = sget (regDefault k) m.regs k := rfl

theorem setRegs_cons (m : Module) (e : Nat × Nat) (t : List (Nat × Nat)) : m.setRegs (e :: t) = (m.setReg e.1 e.2).setRegs t := rfl

theorem setRegs_nil (m : Module) : m.setRegs [] = m := rfl

theorem setReg_regs (m : Module) (k v : Nat) : (m.setReg k v).regs = sset (regDefault k) m.regs k v := rfl

/-! ### Lists by index, slots -/

theorem nth_setNth_same {α : Type} (d : α) (l : List α) (i : Nat) (v : α) (h : i < l.length) : nth d (setNth l i v) i = v := by
  induction l generalizing i with
  | nil => simp at h
  | cons x t ih => cases i with
    | zero => rfl
    | succ n => exact ih n (by simpa using h)

theorem nth_setNth_other {α : Type} (d : α) (l : List α) (i j : Nat) (v : α) (h : j ≠ i) : nth d (setNth l i v) j = nth d l j := by
  induction l generalizing i j with
  | nil => rfl
  | cons x t ih => cases i with
    | zero => cases j with
      | zero => simp at h
      | succ n => rfl
    | succ n => cases j with
      | zero => rfl
      | succ k => exact ih n k (by omega)

theorem slot_setSlot_same (m : Module) (i : Nat) (x : Slot) (h : i < m.txn.slots.length) : (m.setSlot i x).slot i = x :=
  nth_setNth_same _ _ _ _ h

theorem slot_setSlot_other (m : Module) (i j : Nat) (x : Slot) (h : j ≠ i) : (m.setSlot i x).slot j = m.slot j :=
  nth_setNth_other _ _ _ _ _ h

@[simp] theorem length_setNth {α : Type} (l : List α) (i : Nat) (v : α) : (setNth l i v).length = l.length := by
  induction l generalizing i with
  | nil => rfl
  | cons x t ih => cases i <;> simp [setNth, ih]

theorem oneSlot_setSlot (m : Module) (i : Nat) (x : Slot) (h : i < m.txn.slots.length) : OneSlot m (m.setSlot i x) i x :=
  ⟨slot_setSlot_same m i x h, fun j hj => slot_setSlot_other m i j x hj, rfl⟩

/-! ### Lanes, bundles, trace sources -/

@[simp] theorem lane_setLane_same (m : Module) (l : Nat) (x : Lane) : (m.setLane l x).lane l = x := by simp [Module.lane, Module.setLane]

@[simp] theorem lane_setLane_other (m : Module) (l k : Nat) (x : Lane) (h : k ≠ l): (m.setLane l x).lane k = m.lane k := by simp [Module.lane, Module.setLane, sget_sset_other, h]

@[simp] theorem bundle_setBundle_same (m : Module) (l : Nat) (x : Bundle) : (m.setBundle l x).bundle l = x := by simp [Module.bundle, Module.setBundle]

@[simp] theorem bundle_setBundle_other (m : Module) (l k : Nat) (x : Bundle) (h : k ≠ l): (m.setBundle l x).bundle k = m.bundle k := by simp [Module.bundle, Module.setBundle, sget_sset_other, h]

@[simp] theorem source_setSource_same (m : Module) (l : Nat) (x : TraceSrc) : (m.setSource l x).source l = x := by simp [Module.source, Module.setSource]

@[simp] theorem setReg_source (m : Module) (k v l : Nat) : (m.setReg k v).source l = m.source l := rfl

@[simp] theorem log_source (a b : Nat) (c : List (Nat × Nat)) (m : Module) (l : Nat) : (m.log a b c).source l = m.source l := by simp [Module.source]

/-! ### Cells of bit processors -/

@[simp] theorem cell_putCell (d : Data) (bp c b' c' : Nat) (v : Bool) : (d.putCell bp c v).cell b' c' =
   if b' * 2048 + c' = bp * 2048 + c then v else d.cell b' c' := by
  unfold Data.putCell Data.cell
  rw [sget_sset]
  split
  · rename_i h
    rw [h]
    show ((if (v ^^ d.builtinBit _) = false then false else v ^^ d.builtinBit _) ^^ d.builtinBit _) = v
    cases v <;> cases d.builtinBit (bp * 2048 + c) <;> rfl
  · rfl

@[simp] theorem cell_store (d : Data) (bp c b' c' : Nat) (v : Bool) : (d.store bp c v).cell b' c' =
   if b' * 2048 + c' = bp * 2048 + c ∧ d.forced bp c = none then v else d.cell b' c' := by
  unfold Data.store
  by_cases h : d.forced bp c = none
  · simp [h]
  · simp [h, Option.isSome_iff_ne_none]

@[simp] theorem forced_store (d : Data) (bp c b' c' : Nat) (v : Bool) : (d.store bp c v).forced b' c' = d.forced b' c' := by
  unfold Data.store; split <;> rfl

@[simp] theorem watchPort_cell (bp w : Nat) (v r : Bool) (d : Data) (b c : Nat) : (watchPort bp w v r d).cell b c = d.cell b c := by
  unfold watchPort; split <;> (try split) <;> rfl

@[simp] theorem ioOut_cell (bp w : Nat) (v r : Bool) (d : Data) (b c : Nat) : (ioOut bp w v r d).cell b c = d.cell b c := by
  unfold ioOut; dsimp only; split <;> rfl

@[simp] theorem ioOut_watch (bp w : Nat) (v r : Bool) (d : Data) : (ioOut bp w v r d).watch = d.watch := by
  unfold ioOut; dsimp only; split <;> rfl

theorem store_watch (d : Data) (bp c : Nat) (v : Bool) : (d.store bp c v).watch = d.watch := by
  unfold Data.store; split <;> rfl

end Sys2Proof.Machine
end

