-- ==== Sys2Proof/Laws/Specs.lean ====
section
/-! SUPPORT. Laws/Specs.lean: what the shared operations do, said once each: the access rule of the dictionary, log entries, the
start of the module, passes of LOAD, abort of a slot, trace packets, and answers of the inspection page. -/

namespace Sys2Proof.Machine

/-! ### Requests, the log, folds -/

theorem foldl_keep {β γ : Type} (p : Module → γ) (f : Module → β → Module) (l : List β) (m : Module) (h : ∀ m x, p (f m x) = p m) :
    p (l.foldl f m) = p m := by
  induction l generalizing m with
  | nil => rfl
  | cons x t ih => rw [List.foldl_cons, ih, h]

theorem served_plane (f : Module → Module) (m : Module) (h : Served m) : m.planeControl f = f m := by
  simp [Module.planeControl, Module.control, h.1, h.2]

theorem log_reg (code src : Nat) (items : List (Nat × Nat)) (m : Module) (k : Nat) (h1 : k ≠ rLogLost) (h2 : k ≠ rHealthSticky) :
    (m.log code src items).reg k = m.reg k := by
  unfold Module.log
  split
  · dsimp only
    split
    · rfl
    · rw [setReg_reg_other _ _ _ _ h2]
      unfold Module.satReg
      rw [setReg_reg_other _ _ _ _ h1]
  · rfl

@[simp] theorem discardStaged_load (cause : Nat) (m : Module) : (m.discardStaged cause).load =
    { m.load with staged := false, digest := 0, stewardDigest := 0, discardWait := false, comparing := false } := by
  unfold Module.discardStaged
  dsimp only
  split <;> simp

theorem discardStaged_reg (cause : Nat) (m : Module) (k : Nat) (h1 : k ≠ rLogLost) (h2 : k ≠ rHealthSticky) : (m.discardStaged cause).reg k = m.reg k := by
  unfold Module.discardStaged
  dsimp only
  split
  · exact log_reg _ _ _ _ _ h1 h2
  · rfl

/-! ### Starts (R117, R118, R212) -/

@[simp] theorem startSets_ctl (m : Module) :
    m.startSets.ctl = { m.ctl with target := 0, stepn := 0, stepLeft := 0, freezeReq := false, coldOnly := false } := rfl

@[simp] theorem startSets_pins (m : Module) :
    m.startSets.pins = { m.pins with modreadyLow := true, netHigh := false, trigOut := 0, gated := false } := rfl

@[simp] theorem endLaneTests_all (m : Module) (c : Prop) [Decidable c] (x : Module) :
    (if c then x else m).endLaneTests = if c then x.endLaneTests else m.endLaneTests := by split <;> rfl

/-- A cold start writes nothing to HBM: what it ends keeps the mode and the sectors of the store. -/
theorem startEnds_cold (m : Module) : (m.startEnds true).ctl = m.ctl ∧ (m.startEnds true).store = m.store := by
  unfold Module.startEnds
  simp only [if_true]
  (repeat' split) <;> simp

theorem enterColdReset_ctl (cause : Nat) (m : Module) :
    (m.enterColdReset cause).ctl.mode = .reset ∧ (m.enterColdReset cause).ctl.cold = true ∧
    (m.enterColdReset cause).ctl.prev = m.ctl.mode ∧ (m.enterColdReset cause).ctl.cause = BitVec.ofNat 16 cause ∧
    (m.enterColdReset cause).start.running = false ∧ (m.enterColdReset cause).start.storeMounted = false ∧
    (m.enterColdReset cause).start.bistDone = false ∧
    (m.enterColdReset cause).pins = { m.pins with modreadyLow := true, netHigh := false, trigOut := 0, gated := false } ∧
    (m.enterColdReset cause).store = m.store := by
  unfold Module.enterColdReset
  dsimp only
  by_cases h : m.ctl.mode = .load <;> simp [h, startEnds_cold, Module.startSets]

theorem beginCold_begun (m : Module) : ColdBegun m.beginCold := by
  simp [ColdBegun, Module.beginCold]; rfl

/-- Trace emission changes the sequencer in its stall requests alone, and what `sec` holds in its count of free values
alone. -/
def TraceKept (a b : Module) : Prop :=
  { b.seq with stalls := a.seq.stalls } = a.seq ∧ { b.sec with freeCtr := a.sec.freeCtr } = a.sec

theorem TraceKept.refl (m : Module) : TraceKept m m := ⟨rfl, rfl⟩

theorem TraceKept.trans {a b c : Module} (h : TraceKept a b) (k : TraceKept b c) : TraceKept a c := by
  refine ⟨?_, ?_⟩
  · rw [← h.1, ← k.1]
  · rw [← h.2, ← k.2]

theorem TraceKept.of_eq {a b : Module} (h : b.seq = a.seq) (k : b.sec = a.sec) : TraceKept a b := by
  constructor <;> simp [h, k]

theorem TraceKept.foldl {β : Type} (f : Module → β → Module) (l : List β) (m : Module) (h : ∀ m x, TraceKept m (f m x)) :
    TraceKept m (l.foldl f m) := by
  induction l generalizing m with
  | nil => exact .refl m
  | cons x t ih => exact (h m x).trans (ih _)

theorem setSource_kept (src : Nat) (x : TraceSrc) (m : Module) : TraceKept m (m.setSource src x) := .of_eq rfl rfl

theorem raiseStall_kept (c : StallCause) (m : Module) : TraceKept m (m.raiseStall c) := by
  unfold Module.raiseStall
  split
  · exact .refl m
  · exact ⟨rfl, rfl⟩

theorem traceStall_kept (m : Module) : TraceKept m m.traceStall := by
  unfold Module.traceStall
  split
  · exact raiseStall_kept _ _
  · exact .refl m

theorem tracePush_kept (p : BitVec 128) (m : Module) : TraceKept m (m.tracePush p) := by
  unfold Module.tracePush
  exact .trans (.of_eq rfl rfl) (traceStall_kept _)

theorem traceDrop_kept (src : Nat) (m : Module) : TraceKept m (m.traceDrop src) := by
  unfold Module.traceDrop
  dsimp only
  repeat' split
  all_goals exact .of_eq (by simp [Module.satReg]) (by simp [Module.satReg])

theorem tracePut_kept (src ty body t : Nat) (m : Module) : TraceKept m (m.tracePut src ty body t) := by
  unfold Module.tracePut
  dsimp only
  split
  · exact (setSource_kept _ _ _).trans (tracePush_kept _ _)
  · exact traceDrop_kept _ _

theorem syncPut_kept (src addr folio t : Nat) (m : Module) : TraceKept m (m.syncPut src addr folio t) := by
  unfold Module.syncPut
  dsimp only
  split
  · exact (tracePut_kept _ _ _ _ _).trans (setSource_kept _ _ _)
  · exact tracePut_kept _ _ _ _ _

theorem traceGap_kept (src addr folio t : Nat) (m : Module) : TraceKept m (m.traceGap src addr folio t) := by
  unfold Module.traceGap
  dsimp only
  split
  · exact ((setSource_kept _ _ _).trans (tracePut_kept _ _ _ _ _)).trans (syncPut_kept _ _ _ _ _)
  · exact .refl m

theorem traceEmit_kept (src ty body addr folio t : Nat) (m : Module) : TraceKept m (m.traceEmit src ty body addr folio t) := by
  have lead : TraceKept m (m.traceLead src addr folio t) := by
    unfold Module.traceLead
    dsimp only
    split
    · exact (traceGap_kept _ _ _ _ _).trans (syncPut_kept _ _ _ _ _)
    · exact traceGap_kept _ _ _ _ _
  refine lead.trans ?_
  unfold Module.traceEmit Module.traceOffer
  split
  · exact traceDrop_kept _ _
  · exact tracePut_kept _ _ _ _ _

theorem endBranch_kept (src pc : Nat) (m : Module) : TraceKept m (m.endBranch src pc) := by
  unfold Module.endBranch
  dsimp only
  split
  · exact .refl m
  · exact (setSource_kept _ _ _).trans (traceEmit_kept _ _ _ _ _ _ _)

theorem gapOut_kept (src t : Nat) (m : Module) : TraceKept m (m.gapOut src t) := by
  unfold Module.gapOut
  dsimp only
  split
  · have h : TraceKept m (m.syncAddr src).2 := by
      unfold Module.syncAddr
      split
      · exact .refl _
      · exact ⟨rfl, rfl⟩
    exact (h.trans (endBranch_kept _ _ _)).trans (traceGap_kept _ _ _ _ _)
  · exact .refl m

theorem stopTrace_kept (m : Module) : TraceKept m m.stopTrace := by
  unfold Module.stopTrace Module.stopSources
  split
  · dsimp only
    refine .trans (b := List.foldl _ _ _) (.foldl _ _ _ ?_) ⟨rfl, rfl⟩
    intro m x
    exact .trans (b := m.freePc.2) ⟨rfl, rfl⟩ (endBranch_kept _ _ _)
  · exact .refl m

/-! ### Checked writes of HBM ahead of a start (R342, R346, R347) -/

/-- The epoch secrets. -/
def Secrets (m : Module) : Option (BitVec 256) × Option (BitVec 256) := (m.sec.designSecret, m.sec.stageSecret)

/-- The module stands in LOCKDOWN, or mode, secrets, folio count and the staged image are as they were. -/
def Ran (a b : Module) : Prop :=
  b.ctl.mode = .lockdown ∨ (b.ctl.mode = a.ctl.mode ∧ Secrets b = Secrets a ∧ b.seq.folio = a.seq.folio ∧ b.load.staged = a.load.staged)

theorem Ran.refl (m : Module) : Ran m m := .inr ⟨rfl, rfl, rfl, rfl⟩

theorem Ran.of_eq {a b : Module} (h : b.ctl = a.ctl) (k : b.seq.folio = a.seq.folio) (l : Secrets b = Secrets a)
    (n : b.load.staged = a.load.staged) : Ran a b := .inr ⟨by rw [h], l, k, n⟩

theorem Ran.trans {a b c : Module} (h : Ran a b) (k : Ran b c) : Ran a c := by
  rcases k with k | ⟨k1, k2, k3, k4⟩
  · exact .inl k
  · rcases h with h | ⟨h1, h2, h3, h4⟩
    · exact .inl (by rw [k1, h])
    · exact .inr ⟨by rw [k1, h1], by rw [k2, h2], by rw [k3, h3], by rw [k4, h4]⟩

theorem TraceKept.ran {a b : Module} (h : TraceKept a b) (k : b.ctl = a.ctl) (l : b.load = a.load) : Ran a b := by
  refine .inr ⟨by rw [k], ?_, by rw [← h.1], by rw [l]⟩
  have := h.2
  unfold Secrets
  rw [← this]

theorem Ran.foldl {β : Type} (f : Module → β → Module) (l : List β) (m : Module) (h : ∀ m x, Ran m (f m x)) : Ran m (l.foldl f m) := by
  induction l generalizing m with
  | nil => exact .refl m
  | cons x t ih => exact (h m x).trans (ih _)

theorem Ran.ite {a x y : Module} {c : Prop} [Decidable c] (h : Ran a x) (k : Ran a y) : Ran a (if c then x else y) := by
  split <;> assumption

theorem lockdown_or (cause : Nat) (m : Module) : (m.lockdown cause).ctl.mode = .lockdown ∨ m.lockdown cause = m := by
  unfold Module.lockdown
  split
  · exact .inr rfl
  · split
    · exact .inr rfl
    · exact .inl (by simp)

theorem macFail_ran (addr reader kind : Nat) (m : Module) : Ran m (m.macFail addr reader kind) := by
  unfold Module.macFail
  extract_lets dom m1 m2
  have hb : Ran m m2 := .of_eq (by simp [m1, m2]) (by simp [m1, m2]) (by simp [m1, m2, Secrets]) (by simp [m1, m2])
  refine .ite hb (.ite (hb.trans ?_) (hb.trans (.of_eq rfl rfl rfl rfl)))
  rcases lockdown_or 0x0401 (m2.sendFlood m2.disc.modnum 0x0401) with h | h
  · exact .inl h
  · rw [h]
    exact .of_eq (by simp) (by simp) (by simp [Secrets]) (by simp)

theorem outcome_parts (chk : SectorCheck) (s : Nat) (m : Module) :
    (m.outcome chk s).2.ctl = m.ctl ∧ (m.outcome chk s).2.seq = m.seq ∧ (m.outcome chk s).2.sec = m.sec := by simp

@[simp] theorem happen_folio (i : Nat) (m : Module) : (m.happen i).seq.folio = m.seq.folio := rfl

@[simp] theorem memCorrected_folio (a : Nat) (m : Module) : (m.memCorrected a).seq.folio = m.seq.folio := by
  unfold Module.memCorrected
  dsimp only
  split <;> simp

theorem found_ran (chk : SectorCheck) (s reader : Nat) (m : Module) : Ran m (m.found chk s reader).2 := by
  unfold Module.found
  dsimp only
  have h : Ran m (m.outcome chk s).2 := .of_eq (by simp) (by simp) (by simp [Secrets]) (by simp)
  split
  · exact h.trans (.of_eq (by simp) (by simp) (by simp [Secrets]) (by simp))
  · exact h.trans (macFail_ran _ _ _ _)
  · exact h

theorem freeSector_ran (ss : List Nat) (m : Module) : Ran m (m.freeSector ss).2 := by
  unfold Module.freeSector
  split <;> exact .of_eq rfl rfl rfl rfl

theorem checkSectors_ran (chk : SectorCheck) (ss : List Nat) (reader : Nat) (m : Module) : Ran m (m.checkSectors chk ss reader).2 := by
  have h (bad : Bool) : Ran m ((ss.foldl Module.countPc m).treeRead ss bad).2.2 := by
    refine .of_eq ?_ ?_ ?_ ?_
    · simp
    · simp
    · simp [Secrets]
    · simp
  unfold Module.checkSectors
  extract_lets bad r m1 tree chk2 due
  split
  · exact h bad
  · refine (h bad).trans (.trans (freeSector_ran due m1) (found_ran _ _ _ _))

theorem writeChecked_ran (a : Nat) (bs : List Byte) (reader : Nat) (m : Module) : Ran m (m.writeChecked a bs reader).2 := by
  have f (ss : List Nat) : Ran m (m.freeCheck ss).2 := by
    unfold Module.freeCheck
    split <;> exact .of_eq rfl rfl rfl rfl
  unfold Module.writeChecked
  dsimp only
  split <;> exact (f _).trans ((checkSectors_ran _ _ _ _).trans (.of_eq rfl rfl rfl rfl))

theorem flushSectors_ran (ss : List (Nat × BitVec 512)) (reader : Nat) (m : Module) : Ran m (m.flushSectors ss reader) := by
  unfold Module.flushSectors
  refine .foldl _ _ _ ?_
  intro m e
  split
  · exact .refl m
  · exact writeChecked_ran _ _ _ _

theorem capWritten_ran (m : Module) : Ran m m.capWritten := .of_eq (by simp) (by simp) (by simp [Secrets]) (by simp)

theorem flushCapture_ran (m : Module) : Ran m m.flushCapture := by
  unfold Module.flushCapture
  refine .foldl _ _ _ ?_
  intro m e
  exact (flushSectors_ran _ _ m).trans (capWritten_ran _)

theorem funnelFlush_ran (ps : List (BitVec 128)) (m : Module) : Ran m (m.funnelFlush ps) := by
  unfold Module.funnelFlush
  split
  · exact .refl m
  · exact (flushSectors_ran _ _ _).trans (.of_eq rfl rfl rfl rfl)

theorem traceFinish_ran (m : Module) : Ran m (m.traceFinish Module.funnelFlush) := by
  have last (x y : Module) (h : Ran x y) (t : Trace) : Ran x ((({ y with trace := t } : Module).log 0x0610 dieH []).msix 5) :=
    h.trans (.of_eq (by simp) (by simp) (by simp [Secrets]) (by simp))
  unfold Module.traceFinish
  dsimp only
  refine .trans (b := { m with trace := { m.trace with fifo := [] } }) (.of_eq rfl rfl rfl rfl) ?_
  refine .trans (Ran.foldl (fun m src => m.gapOut src m.seq.cycle) (m.trace.sources.map (·.1)) _
    fun m x => (gapOut_kept x _ m).ran (by simp) (by simp)) ?_
  exact last _ _ (funnelFlush_ran _ _) _

theorem startEnds_ran (m : Module) : Ran m.endRepairs (m.startEnds false) := by
  have last (x : Module) (h : Ran m.endRepairs x) : Ran m.endRepairs (if x.trace.state = 0 then x else x.msix 5).endLaneTests.clearStartRegs := by
    refine h.trans (.of_eq ?_ ?_ ?_ ?_)
    all_goals (split <;> simp [Secrets])
  have work : Ran m.endRepairs ((m.endRepairs.logOutranked).discardWork true).stopCapture.flushCapture.stopTrace.stopCouriers.abortScrub := by
    refine .trans (b := ((m.endRepairs.logOutranked).discardWork true).stopCapture) (.of_eq (by simp) (by simp) (by simp [Secrets]) (by simp)) ?_
    refine (flushCapture_ran _).trans ?_
    exact ((stopTrace_kept _).ran (by simp) (by simp)).trans (.of_eq (by simp) (by simp) (by simp [Secrets]) (by simp))
  refine last _ ?_
  simp only [Bool.false_eq_true, if_false]
  split
  · exact work.trans (traceFinish_ran _)
  · exact work

theorem startEnds_of (m x : Module) (hx : x = ((m.endRepairs.logOutranked).discardWork true).stopCapture) (h1 : x.trig.capQueue = [])
    (h2 : x.trace.stopReq = false) (h3 : x.trace.state ≠ 1) (h4 : x.trace.state ≠ 2) : (m.startEnds false).ctl = x.ctl := by
  have cap : x.flushCapture = x := by
    unfold Module.flushCapture
    rw [h1]
    rfl
  have tr : x.stopTrace = x := by
    unfold Module.stopTrace
    rw [if_neg]
    simp [h3, h4]
  unfold Module.startEnds
  simp only [Bool.false_eq_true, if_false, ← hx, cap, tr]
  have t : ¬ (x.stopCouriers.abortScrub.trace.stopReq = true) := by simp [h2]
  simp only [t, if_false, Bool.false_eq_true]
  split <;> simp

/-- Where nothing waits that a start writes to HBM the mode stands while the work ends. -/
theorem startEnds_clear (m : Module) (h : StartClear m) : (m.startEnds false).ctl = m.ctl := by
  obtain ⟨h1, h2, h3, h4⟩ := h
  rw [startEnds_of m _ rfl]
  · simp
  · unfold Module.stopCapture
    split <;> simp [h1]
  · simpa using h2
  · simpa using h3
  · simpa using h4

/-- what a start leaves -/
structure Started (a m : Module) : Prop where
  running : m.start.running = true
  pll : m.start.pllLocked = false
  folio : m.seq.folio = a.seq.folio
  grants : m.seq.grants = 0
  dkey : m.seq.dkey = [0x40, 0x40, 0x40, 0x40]
  forces : m.data.forces = []
  halt : m.data.haltEn = []
  fp : m.data.fpoint = []
  slots : m.txn.slots = List.replicate 16 Slot.init
  pulses : m.txn.pulses = 0
  cap : m.trig.capState = 0
  mask : m.trig.maskState = 0
  trace : m.trace.state = 0
  net : m.fabric.net = []
  cour : m.couriers.started = false

theorem startSets_started (m : Module) : Started m m.startSets := by
  constructor
  all_goals simp [Module.startSets, Seq.init, Trigger.init, Trace.init, Txn.init]

/-- R117: the rest of a warm start, once the work of module `x` has ended. -/
def warmRest (linksvc : Bool) (x : Module) : Module :=
  let m1 := ((x.startSets.lanesQuiet.recountEligible.xreset 3).xreset 6).xreset 7
  let m2 := if linksvc then { m1 with bundles := m1.bundles.map (fun e => (e.1, { e.2 with pstate := 3 })) } else m1
  let m3 := { m2 with start := { m2.start with storeMounted := true, bistDone := true, remapLoaded := true } }
  let m4 := m3.enter .reset 0
  { m4 with ctl := { m4.ctl with cold := false, linksvc := false } }

theorem warmRest_begun (linksvc : Bool) (a x : Module) (h1 : x.ctl.mode = a.ctl.mode) (h2 : Secrets x = Secrets a)
    (h3 : x.seq.folio = a.seq.folio) (h4 : x.load.staged = (a.load.staged && !a.load.discardWait)) : WarmBegun a (warmRest linksvc x) := by
  have hs := startSets_started x
  have hb : ∀ e ∈ x.startSets.lanesQuiet.bundles, ¬ (e.2.state = 1 ∧ e.2.pstate = 0) := by
    simp only [Module.lanesQuiet, List.mem_map]
    rintro e ⟨f, -, rfl⟩
    dsimp only
    split <;> simp_all
  obtain ⟨y, hy⟩ : ∃ y, y = ((x.startSets.lanesQuiet.recountEligible.xreset 3).xreset 6).xreset 7 := ⟨_, rfl⟩
  have hf : y.ctl = x.startSets.ctl ∧ y.start = x.startSets.start ∧ y.pins = x.startSets.pins ∧ y.seq = x.startSets.seq ∧
      y.data = x.startSets.data ∧ y.txn = x.startSets.txn ∧ y.trig = x.startSets.trig ∧ y.trace = x.startSets.trace ∧
      y.couriers = x.startSets.couriers ∧ y.fabric.net = x.startSets.fabric.net ∧ y.sec = x.sec ∧ y.load = x.load ∧
      y.bundles = x.startSets.lanesQuiet.bundles := by
    simp only [hy, and_self, xreset_frame, recountEligible_frame, lanesQuiet_frame, startSets_frame]
  obtain ⟨k1, k2, k3, k4, k5, k6, k7, k8, k9, k10, k11, k12, k13⟩ := hf
  rw [← k13] at hb
  have hk : Secrets y = Secrets a := by simp only [Secrets, k11] at h2 ⊢; exact h2
  simp only [Secrets, Prod.mk.injEq] at hk
  unfold warmRest WarmBegun
  rw [← hy]
  cases linksvc <;> dsimp only
  all_goals
    refine ⟨?_, ?_, ?_, ?_, ?_, ?_, ?_, ?_, ?_, ?_, ?_, ?_, ?_, ?_, ?_, ?_, ?_, ?_, ?_, ?_, ?_, ?_, ?_, ?_, ?_, ?_, ?_, ?_⟩
    case refine_28 =>
      first
      | exact hb
      | (show ∀ e ∈ y.bundles.map _, _
         simp only [List.mem_map]
         rintro e ⟨f, -, rfl⟩
         simp)
    all_goals simp [k1, k2, k3, k4, k5, k6, k7, k8, k9, k10, k12, h1, h3, h4, hk, hs.running, hs.pll, hs.folio, hs.grants,
      hs.dkey, hs.forces, hs.halt, hs.fp, hs.slots, hs.pulses, hs.cap, hs.mask, hs.trace, hs.cour, hs.net]

/-- The module of a warm start outside LOAD ahead of the end of its work. -/
theorem warmStart_eq (m : Module) (h : m.ctl.mode ≠ .load) :
    m.warmStart = (if (m.journalCheck.storeCollator.startEnds false).ctl.mode = .lockdown then m.journalCheck.storeCollator.startEnds false
      else warmRest m.ctl.linksvc (m.journalCheck.storeCollator.startEnds false)) := by
  unfold Module.warmStart warmRest
  simp only [h, if_false]

theorem endRepairs_staged (m : Module) : m.endRepairs.load.staged = (m.load.staged && !m.load.discardWait) := by
  unfold Module.endRepairs
  split <;> simp_all

theorem journalCheck_secrets (m : Module) : Secrets m.journalCheck = Secrets m := by
  have one (m : Module) (k : Nat) : Secrets (m.recoverSector k) = Secrets m := by
    unfold Module.recoverSector Secrets
    dsimp only
    split <;> simp
  unfold Module.journalCheck
  dsimp only
  split
  · have h (x : Module) : Secrets (x.endWait stRefused) = Secrets x := by simp [Secrets]
    rw [h, foldl_keep Secrets _ _ _ one]
    rfl
  · rw [foldl_keep Secrets _ _ _ one]
    rfl

/-- A warm start outside LOAD begins, unless a check of what it writes to HBM ends in LOCKDOWN. -/
theorem warmStart_spec (m : Module) (h : m.ctl.mode ≠ .load) : WarmBegun m m.warmStart ∨ m.warmStart.ctl.mode = .lockdown := by
  rw [warmStart_eq m h]
  split
  · rename_i hl
    exact .inr hl
  · rename_i hl
    rcases startEnds_ran m.journalCheck.storeCollator with k | ⟨k1, k2, k3, k4⟩
    · exact absurd k hl
    · refine .inl (warmRest_begun _ _ _ ?_ ?_ ?_ ?_)
      · rw [k1]; simp
      · rw [k2, ← journalCheck_secrets m]; simp [Secrets]
      · rw [k3]; simp
      · rw [k4, endRepairs_staged]; simp

theorem warmStart_clear (m : Module) (h : m.ctl.mode ≠ .load) (hl : m.ctl.mode ≠ .lockdown) (hc : StartClear m) : WarmBegun m m.warmStart := by
  have hs : (m.journalCheck.storeCollator.startEnds false).ctl.mode = m.ctl.mode := by
    rw [startEnds_clear _ (by simpa [StartClear] using hc)]
    simp
  rcases warmStart_spec m h with k | k
  · exact k
  · rw [warmStart_eq m h, if_neg (by rw [hs]; exact hl)] at k
    simp [warmRest] at k

/-! ### Passes of LOAD (R322, R323) -/

/-- What the tree answers rests on HBM and the epoch secrets alone. -/
theorem treeRead_count (ss : List Nat) (m x : Module) (h : x.hbm = m.hbm) (k : Secrets x = Secrets m) :
    (x.treeRead ss false).2.1 = (m.treeRead ss false).2.1 := by
  have n : x.nodeKeys = m.nodeKeys := by
    simp only [Secrets, Prod.mk.injEq] at k
    funext d
    unfold Module.nodeKeys Module.epochKey
    rw [k.1, k.2]
  simp only [Module.treeRead, h, n]

theorem checkSectors_good (ss : List Nat) (reader : Nat) (m : Module) (h : TreeWhole m ss) :
    (m.checkSectors .good ss reader).1 = true := by
  have k : ((ss.foldl Module.countPc m).treeRead ss false).2.1 = true := by
    rw [treeRead_count ss m _ (by simp) (by simp [Secrets])]
    exact h
  unfold Module.checkSectors
  simp [k]

theorem countDone_secrets (ep n bytes : Nat) (read : Bool) (m : Module) : Secrets (m.countDone ep n bytes read) = Secrets m := by
  unfold Module.countDone Secrets
  dsimp only
  split <;> simp

/-- A pass that can read the staging area reads it and goes on. -/
theorem passRead_good (k : Module → Module) (m : Module) (h : StageReads m) : m.passRead .good k = k m.stageRead := by
  obtain ⟨h1, h2, h3⟩ := h
  have g : (m.readSectors .good m.streamSectors m.epEngine).1 = true := by
    unfold Module.readSectors
    refine checkSectors_good _ _ _ ?_
    unfold TreeWhole
    rw [treeRead_count _ m _ (by simp) (countDone_secrets _ _ _ _ _)]
    exact h3
  unfold Module.passRead Module.stageRead
  unfold Module.streamSectors at g ⊢
  simp [h1, h2, g]

@[simp] theorem rejectStream_rejected (code ty inst off : Nat) (m : Module) : Rejected code ty inst off (m.rejectStream code ty inst off) := by
  simp [Rejected, Module.rejectStream, setRegs_cons, setRegs_nil, reg_def, setReg_regs]
  rw [sget_sset_other _ _ _ _ _ _ (by decide)]
  simp

/-! ### Slots (R188, R212) -/

theorem abort_one (m : Module) (i r a : Nat) (h : i < m.txn.slots.length) :
    OneSlot m (m.abortSlot i r a) i ((m.slot i).abort r a) ∧ (m.abortSlot i r a).outbox = .msix 2 :: m.outbox := by
  unfold Module.abortSlot
  dsimp only
  refine ⟨⟨?_, ?_, ?_⟩, ?_⟩
  · simp only [Module.slot]
    simp
    exact slot_setSlot_same _ _ _ h
  · intro j hj
    simp only [Module.slot]
    simp
    exact slot_setSlot_other _ _ _ _ hj
  · simp [Module.setSlot]
  · simp

/-! ### Trace packets (R253-R258) -/

@[simp] theorem traceDrop_bits (m : Module) (l : Nat) : ((m.traceDrop l).source l).bits = (m.source l).bits := by
  unfold Module.traceDrop
  dsimp only
  (repeat' split) <;> simp [Module.satReg]

@[simp] theorem tracePush_source (p : BitVec 128) (m : Module) (l : Nat) : (m.tracePush p).source l = m.source l := by
  unfold Module.tracePush Module.traceStall
  dsimp only
  split <;> simp [Module.source, Module.setReg]

@[simp] theorem tracePut_bits (m : Module) (l a b c : Nat): ((m.tracePut l a b c).source l).bits = (m.source l).bits := by
  unfold Module.tracePut
  dsimp only
  split
  · rw [tracePush_source, source_setSource_same]
  · exact traceDrop_bits m l

@[simp] theorem syncPut_bits (m : Module) (l a b c : Nat) : ((m.syncPut l a b c).source l).bits = (m.source l).bits := by
  unfold Module.syncPut
  dsimp only
  split <;> simp

theorem traceGap_bits (m : Module) (l a b c : Nat) : ((m.traceGap l a b c).source l).bits = (m.source l).bits := by
  unfold Module.traceGap
  dsimp only
  split <;> simp

theorem traceEmit_bits (m : Module) (l a b c d e : Nat) : ((m.traceEmit l a b c d e).source l).bits = (m.source l).bits := by
  have lead : ((m.traceLead l c d e).source l).bits = (m.source l).bits := by
    unfold Module.traceLead
    dsimp only
    split <;> simp [traceGap_bits]
  unfold Module.traceEmit Module.traceOffer
  split <;> simp [lead]

theorem endBranch_bits (m : Module) (l a : Nat) : ((m.endBranch l a).source l).bits = [] := by
  unfold Module.endBranch
  dsimp only
  split
  · rename_i h; simpa using h
  · rw [traceEmit_bits]; simp

/-! ### The inspection page (R214, R217) -/

theorem respond_responds (a : Module) (x : BitVec 128) (st v : Nat) (h : st < 256) :
    Responds st v a (Module.respond st v { a with txn := { a.txn with inspCmd := x } }) := by
  refine ⟨?_, rfl, rfl, by simp [keptBut_iff, Module.respond]⟩
  simp [Module.respond]; omega

theorem pageRead (m : Module) (op : Nat) (t : BitVec 32) (d : Word) (h : PageReads m) (hb : inspFieldBad op t.toNat d.toNat = false) :
    m.inspR op 0 t d = Module.inspRead op t.toNat d.toNat { m with txn := { m.txn with inspCmd := BitVec.ofNat 128 (op * 2 ^ 120 + t.toNat * 2 ^ 64 + d.toNat) } } := by
  obtain ⟨hm, hg, h⟩ := h
  have h2 : m.txn.inspStatus.toNat ≠ 255 := fun e => h (BitVec.eq_of_toNat_eq (by simpa using e))
  rcases hm with hm | hm | hm <;> simp [Module.inspR, Module.inspStart, hm, hg, inspBusy, h2, hb, Module.inspReadCmd, Mode.running]

theorem pageWrite (m : Module) (op : Nat) (t : BitVec 32) (d : Word) (h1 : m.ctl.mode = .inspect) (hg : m.pins.gated = false) (hw : m.start.wren = true) (h : m.txn.inspStatus ≠ 0xFF#8) (hb : inspFieldBad op t.toNat d.toNat = false) :
    m.inspW op 0 t d = Module.inspWrite op t.toNat d.toNat { m with txn := { m.txn with inspCmd := BitVec.ofNat 128 (op * 2 ^ 120 + t.toNat * 2 ^ 64 + d.toNat) } } := by
  have h2 : m.txn.inspStatus.toNat ≠ 255 := fun e => h (BitVec.eq_of_toNat_eq (by simpa using e))
  simp [Module.inspW, Module.inspStart, h1, hg, hw, inspBusy, h2, hb, Module.inspWriteCmd]

theorem wroteIt (a : Module) (x : BitVec 128) (d : Data) :
    Wrote d a (Module.respond 0 0 { a with data := d, txn := { a.txn with inspCmd := x } }) := by
  refine ⟨rfl, rfl, rfl, rfl, by simp [keptBut_iff, Module.respond]⟩

end Sys2Proof.Machine
end

