-- ==== Sys2Proof/Tests/Slice0.lean ====
section
/-! SUPPORT. Tests/Slice0.lean: the smoke test of WellFormed, one-step tests of commands with values taken from the
manual's rules, and a witness for the hypotheses of every statement: for each clause a state and operands that meet what
the clause assumes. -/

namespace Sys2Proof.Tests

set_option Elab.async false

open Sys2Proof Sys2Proof.Machine

/-- The state after reset with the supplies good, in a mode, changed by `f`. -/
def at_ (mode : Mode) (f : Module → Module := id) : State :=
  { pending := [], mod := f { State.reset.mod with
      ctl := { ModeCtl.init with mode := mode }, pins := { Pins.init with suppliesGood := true } } }

/-- What one step answers from a state with a command in front of the queue; `none` where the step stops. -/
def after (s : State) (c : Instr) : Option Module :=
  match step { s with pending := [c] } with
  | .next t => some t.mod
  | _ => none

/-! ### WellFormed: an ill-formed term for each check -/

def packet : Packet :=
  { op := 0, pri := 0, sr := false, ackreq := false, len := 0, dst := 0, src := 0, tag := 0, status := 0, hops := 0, route := 0,
    xhops := 0, addr := 0, idata := 0, data := [] }
def token : Token := Token.blank 0 0
def block : CtlBlock :=
  { op := 0, nclass := 0, nseq := 0, nlane := 0, lsStatic := 0, lsPrio := 0, lsPkt := 0, ackPkt := 0, crReq := 0, crRsp := 0, crMsg := 0,
    skewcr := 0, vc := 0 }
def frame : DieFrame := { crcOk := true, seq := 0, ack := 0, vcmap := [0, 0, 0, 0], crReq := 0, crRsp := 0, crMsg := 0, flits := [] }
def fragment : Fragment := { src := 0, dst := 0, ident := 0, offset := 0, more := false, bytes := [] }

theorem test_wf_packet : packet.wf = true ∧
    [{ packet with op := 16 }, { packet with pri := 4 }, { packet with len := 9 }, { packet with dst := 2 ^ 20 },
     { packet with src := 2 ^ 20 }, { packet with tag := 4096 }, { packet with status := 16 }, { packet with hops := 13 },
     { packet with route := 2 ^ 24 }, { packet with xhops := 16 }, { packet with addr := 2 ^ 64 }, { packet with data := [0] },
     { packet with op := 1, len := 2, data := [0] }].all (fun p => !p.wf) = true := by decide
theorem test_wf_token : token.wf = true ∧
    [{ token with folio := 2 ^ 64 }, { token with kind := 5 }, { token with masters := 3 }, { token with target := 16 },
     { token with stepn := 2 ^ 24 }, { token with lapns := 65536 }, { token with frzorg := 256 }].all (fun t => !t.wf) = true := by decide
theorem test_wf_control_block : block.wf = true ∧
    [{ block with op := 6 }, { block with nclass := 4 }, { block with nseq := 256 }, { block with nlane := 8 },
     { block with lsStatic := 256 }, { block with lsPrio := 256 }, { block with lsPkt := 256 }, { block with ackPkt := 256 },
     { block with crReq := 256 }, { block with crRsp := 256 }, { block with crMsg := 256 }, { block with skewcr := 65536 },
     { block with vc := 4 }].all (fun c => !c.wf) = true := by decide
theorem test_wf_die_frame : frame.wf = true ∧
    [{ frame with seq := 256 }, { frame with ack := 256 }, { frame with crReq := 256 }, { frame with crRsp := 256 },
     { frame with crMsg := 256 }, { frame with vcmap := [4] }, { frame with vcmap := [0, 0, 0, 0, 0] },
     { frame with flits := [0, 0, 0, 0, 0] }].all (fun f => !f.wf) = true := by decide
theorem test_wf_fragment : fragment.wf = true ∧
    [{ fragment with src := 2 ^ 32 }, { fragment with dst := 2 ^ 32 }, { fragment with ident := 2 ^ 16 },
     { fragment with offset := 2 ^ 16 }].all (fun f => !f.wf) = true := by decide
theorem test_wf_fragment_length (bs : List Byte) (h : 65515 < bs.length) : ({ fragment with bytes := bs } : Fragment).wf = false := by
  simp [Fragment.wf]; omega
theorem test_wf_start_load :
    [Instr.supplyFail 12, .storeMounted [4096], .bistComplete [], .trainingPhaseDone 160 0, .trainingLimitExpiry 160, .ringDisc 256 0 0, .ringDisc 0 16 0,
     .ringDisc 0 0 16, .headDisc 256 0, .headDisc 0 16, .ident 20 0 0 0 0 0, .ident 0 256 0 0 0 0, .ident 0 0 256 0 0 0,
     .ident 0 0 0 0 257 0, .ident 0 0 0 0 0 256, .adj 20 0 0 (List.replicate 20 none), .adj 0 256 0 (List.replicate 20 none),
     .adj 0 0 256 (List.replicate 20 none), .adj 0 0 0 [], .echoReq 20 0, .echoReq 0 256, .echoReplyDue 20, .echoRsp 20 0 0,
     .echoRsp 0 256 0].all (fun c => !c.wf) = true := by decide
theorem test_wf_load_data (bs : List Byte) (h : 32768 < bs.length) : (Instr.loadData bs).wf = false := by
  simp [Instr.wf]; omega
theorem test_wf_host_write (bs : List Byte) (h : 512 < bs.length) : (Instr.hostWrite 0 0 bs).wf = false := by
  simp [Instr.wf]; omega
theorem test_wf_folio :
    [Instr.modeReqReserved .oper 3 0, .serviceComplete [2 ^ 18], .stepIssue [] [(20, 0, 0)], .drainComplete [(20, 0, 0)], .memTimeout 0 4096,
     .starveTimeout 20, .ringGather 0 { token with kind := 1 }, .ringGather 256 token, .headGather 0 token, .headRelease 0 token,
     .ringRelease 0 token, .freezeFlood 0 0 token, .freezeFlood 20 0 { token with kind := 4 }, .trigInEdge 8 true].all (fun c => !c.wf) = true := by decide
theorem test_wf_trace_slots :
    [Instr.traceBranchTimeout 32, .traceDeltaLimit 64, .traceGap 64, .classBTrace 32 0 (.branch true), .classBTrace 0 (2 ^ 18) (.branch true),
     .classBTrace 0 0 (.transfer 4 0), .classBTrace 0 0 (.transfer 0 (2 ^ 18)), .txnOpen 16 false, .txnCancel 16, .txnClose 16,
     .txnValidated 16, .txnSubmit 16 0 0, .txnSubmit 0 4 0, .txnSubmit 0 0 8192, .tipPreload 128 false, .tipPreloadImage 4 false,
     .inspOpReserved 1].all (fun c => !c.wf) = true := by decide
theorem test_wf_couriers :
    [Instr.schWait 32 0 0, .schSetup 32 0 0, .schExit 32, .schFail 32, .schSignal 32 0, .schSignal 0 1024, .schPulse 32 0, .schPulse 0 64,
     .take 32 0, .take 0 256, .chanPop 32 0, .c2hAlloc 0 256, .chanErrRead 32 0, .chanDone 32 0 0 [], .chanDone 0 256 0 [],
     .chanDone 0 0 0 (List.replicate 33 0), .c2hPost 0 0 64 (List.replicate 256 0), .c2hPost 0 0 0 [], .h2cPush 256, .c2hCons 256 0,
     .retire 256, .deadlineMiss 256, .replyTimeout 256, .courierTrap 32 0 0].all (fun c => !c.wf) = true := by decide
theorem test_wf_fabric :
    [Instr.packetRd { packet with op := 1 } none .good, .packetRd packet (some (2 ^ 18)) .good, .packetWr packet none .good true,
     .packetPwr packet none .good true, .packetMsg packet none, .packetCpl packet none, .packetAck packet none, .errnote packet none,
     .badOp packet none,
     .npTimeout 4096, .tagQuarantineEnd 4096, .hostReadTimeout 4096, .dlinkDataFrame 0 2 frame, .dlinkIdleFrame 0 0 { frame with seq := 256 },
     .dlinkNak 0 2 frame, .dlinkReplayTimeout 0 2, .hostRead 1 0 0, .hostWrite 3 0 [], .mgtDictFrame 2 fragment,
     .mgtFrameForward 2 [] 0, .mgtLinkChange 2 true, .initSel (2 ^ 20)].all (fun c => !c.wf) = true := by decide
theorem test_wf_lanes :
    [Instr.laneIdle 20 0 block, .laneIdle 0 8 block, .laneIdle 0 0 { block with op := 1 }, .laneNak 0 block, .nakRepeat 20 1, .nakRepeat 0 0,
     .nakRepeat 0 4, .quietReq 20 { block with op := 2 }, .quietReq 0 block, .quietAck 0 block, .quietRefuse 0 block,
     .laneDrop 0 0 block, .lanePacketResendTimeout 20, .quietIdleExpiry 20, .quietExit 20,
     .trainingBurst 20, .offEntry 20, .laneDrop 0 8 { block with op := 5 }, .laneFailed 20 0, .laneFrameBad 0 8 0, .laneFrameBad 0 0 4, .laneCtlRetrain 20 0, .laneCtlClr 0 8,
     .prbsLock 20 0, .prbsLockLoss 0 8, .staticFrame 20 0 0, .staticFrame 0 256 0, .staticLast 0 256 0, .lanePacket 0 0 0 block,
     .lanePacket 0 256 0 { block with vc := 1 }].all (fun c => !c.wf) = true := by decide
theorem test_wf_steward :
    [Instr.storeWriteDone 4096 true, .storeClearDone 4096 true, .ptpSync 2 0 true 0 0 0, .ptpSync 0 256 true 0 0 0, .ptpFollowUp 2 0 0 0,
     .ptpDelayResp 0 256 0 0 0, .ptpHoldover 2, .collatorUnit .spares (2 ^ 18) true, .collatorUnit .imSched (2 ^ 30) true,
     .collatorUnit .dmbs (2 ^ 22) true, .collatorUnit .lanes 20 true, .chanImbalance 0, .thermalReading 11 0, .vioChange 12 true,
     .bankPowered 12, .dclkWrite 64 true 0, .deadMarkSet 11 false 0, .deadMarkSet 0 false 256, .deadMarkClear 0 true 64,
     .srcRouteWrite 11 0 0 0, .srcRouteWrite 0 256 0 0, .srcRouteWrite 0 0 16 0, .registerWrite .oper 65536 0 [],
     .registerWrite .oper 0 256 []].all (fun c => !c.wf) = true := by decide

/-! ### One step of a command -/

/-- A control block of a sender that has sent no frame yet. -/
def still : CtlBlock := { block with lsStatic := 255, lsPkt := 255, lsPrio := 255 }
/-- A state after WREN, changed by `f`. -/
def opened (mode : Mode) (f : Module → Module := id) : State := at_ mode (fun m => f { m with start := { m.start with wren := true } })

theorem test_power_on_begins_cold_start :
    (after State.reset .powerOn).map (fun m => (m.ctl.mode, m.ctl.cold, m.start.running)) = some (.reset, true, true) := by decide
theorem test_run_request_is_recorded :
    (after (at_ .idle) (.modeReqRun .oper 0)).map (fun m => (m.ctl.mode, m.ctl.target, m.stew.lastStatus)) = some (.idle, 4, 0) := by decide
theorem test_step_of_zero_is_mode_refused :
    (after (at_ .idle) (.modeReqStep .oper 0)).map (fun m => (m.ctl.target, m.stew.lastStatus)) = some (0, 0x0B) := by decide
theorem test_run_outside_idle_is_mode_refused :
    (after (at_ .frozen) (.modeReqRun .oper 0)).map (fun m => (m.ctl.target, m.stew.lastStatus)) = some (0, 0x0B) := by decide
theorem test_lockdown_needs_admin :
    (after (at_ .idle) (.modeReqLockdown .oper 0)).map (fun m => (m.ctl.mode, m.stew.lastStatus)) = some (.idle, 3) := by decide
theorem test_open_takes_a_free_slot :
    (after (at_ .idle) (.txnOpen 0 true)).map (fun m => ((m.slot 0).state, (m.slot 0).scope, (m.slot 0).refused)) = some (1, true, false) := by decide
theorem test_cancel_of_a_free_slot_is_refused :
    (after (at_ .idle) (.txnCancel 15)).map (fun m => ((m.slot 15).state, (m.slot 15).refused)) = some (0, true) := by decide
theorem test_over_temperature_freezes :
    (after (at_ .idle) (.thermalReading 10 11000)).map (fun m => (m.ctl.mode, m.ctl.cause, m.ctl.resumable)) = some (.frozen, 0x0702, false) := by decide +kernel
theorem test_below_over_temperature_goes_on :
    (after (at_ .idle) (.thermalReading 10 10999)).map (fun m => m.ctl.mode) = some .idle := by decide
theorem test_zeroise_needs_its_magic :
    (after (at_ .idle) (.zeroise 0)).map (fun m => (m.ctl.mode, m.stew.lastStatus)) = some (.idle, 4) := by decide
theorem test_zeroise_locks_down :
    (after (at_ .load) (.zeroise 0x5A45524F)).map (fun m => m.ctl.mode) = some .lockdown := by decide
theorem test_grants_saturate :
    (after (at_ .paced (fun m => { m with seq := { m.seq with grants := 1023 } })) .cadInEdge).map (fun m => m.seq.grants) = some 1023 := by decide
theorem test_cadence_edge_within_40_ns_merges :
    (after (at_ .paced (fun m => { m with seq := { m.seq with lastCad := some 0 }, stew := { m.stew with up := 39 } })) .cadInEdge).map
      (fun m => (m.seq.grants, m.reg rCadMerged)) = some (0, 1) := by decide
theorem test_read_of_a_forced_cell :
    (after (at_ .inspect (fun m => { m with data := { m.data with dm := [(5, true)], forces := [(0, [{ cell := 5, value := true }])] } }))
      (.inspReadDm 0 5 0)).map (fun m => (m.txn.inspStatus, m.txn.inspValue)) = some (0, 3) := by decide
theorem test_write_of_a_forced_cell_is_refused :
    (after (opened .inspect (fun m => { m with data := { m.data with forces := [(0, [{ cell := 5, value := true }])] } }))
      (.inspWriteDm 0 5 0)).map (fun m => (m.txn.inspStatus, m.data.dm)) = some (3, []) := by decide
/-- R332: before WREN the page writes nothing. -/
theorem test_write_before_wren : (after (at_ .inspect) (.inspWriteDm 0 5 1)).map (fun m => (m.txn.inspStatus, m.data.dm)) = some (1, []) := by decide
theorem test_parity_of_byte_0 : byteParity 12 1 = 1 ∧ byteParity 12 0x0300 = 0 ∧ byteParity 12 0x070000 = 4 := by decide
theorem test_crc32c_of_nine_digits : crc32c [0x31, 0x32, 0x33, 0x34, 0x35, 0x36, 0x37, 0x38, 0x39] = 0xE3069283 := by decide +kernel
theorem test_read_of_hbm :
    (after (at_ .idle (fun m => { m with hbm := { m.hbm with bytes := [(0, 0xAB)], ctr := [(0, 1)] } }))
      (.packetRd { packet with dst := 0x120, src := 0x8C0 } none .good)).map (fun m => m.fabric.net.map (fun p => (p.op, p.status, p.idata)))
      = some [(8, 0, 0xAB)] := by decide +kernel
theorem test_frame_out_of_order_is_naked :
    (after (at_ .idle) (.dlinkDataFrame 0 0 { frame with seq := 1 })).map (fun m => m.outbox.map (fun o => match o with
      | .dieNak link dir last _ => some (link, dir, last)
      | _ => none)) = some [some (0, 1, 255)] := by decide +kernel
theorem test_signal_of_a_waiting_context :
    (after (at_ .run (fun m => { m with couriers := { m.couriers with run := 1, contexts := [(0, { Ctx.init 0 with state := 2 })] } }))
      (.schSignal 0 33)).map (fun m => (m.ctx 33).pend) = some true := by decide
theorem test_quiet_is_refused_by_a_stitch_bundle :
    (after (at_ .idle (fun m => { m with image := { m.image with modules := 2 }, bundles := [(0, { Bundle.init with state := 1 })] }))
      (.quietReq 0 { still with op := 2 })).map
      (fun m => ((m.bundle 0).pstate, m.outbox.map (fun o => match o with
        | .lctl _ cb => cb.op
        | _ => 0))) = some (0, [4]) := by decide
theorem test_two_step_sync_waits :
    (after (at_ .idle) (.ptpSync 0 0 true 1000 0 0)).map (fun m => ((m.domain 0).state, (m.domain 0).pendRx.isSome)) = some (0, true) := by decide
theorem test_supply_failure_enters_cold_reset :
    (after (at_ .run) (.supplyFail 3)).map (fun m => (m.ctl.mode, m.ctl.cold, m.pins.lowRails)) = some (.reset, true, [3]) := by decide +kernel
theorem test_write_outside_load_is_refused :
    (after (at_ .idle) (.loadData [])).map (fun m => m.stew.lastStatus) = some 4 := by decide
theorem test_vendor_entry_stops : (match step { at_ .idle with pending := [.registerWrite .vendor 0x7F00 0 []] } with
    | .refused (.vendorEntry i n) => i == 0x7F00 && n == 0
    | _ => false) = true := by decide
theorem test_idle_step_counts_a_cycle : (match step (at_ .idle) with
    | .next t => t.mod.seq.cycle
    | _ => 0) = 1 := by decide +kernel

/-! ### Witnesses: states and operands that meet the hypotheses of the statements, clause by clause -/

/-- A register set to a value. -/
def reg_ (k v : Nat) (m : Module) : Module := m.setReg k v
/-- A stall request of age 2. -/
def stalled (c : StallCause) (m : Module) : Module := { m with seq := { m.seq with phase := .issuing, stalls := [{ cause := c, age := 2 }] } }
/-- A module of a system of two. -/
def inTwo (m : Module) : Module := { m with image := { m.image with modules := 2 } }
/-- Position 1 of its ring. -/
def second (m : Module) : Module := { m with disc := { m.disc with position := 1, modnum := 1 } }

theorem witness_StepRunsTheFrontCommand :
    (∃ s : State, s.pending = [.powerOn]) ∧ ∃ s : State, s.pending = [] ∧ s.mod.scrub.running = false ∧ s.mod.disc.waiting = [] ∧ s.mod.ctl.mode.running = false :=
  ⟨⟨{ at_ .idle with pending := [.powerOn] }, rfl⟩, at_ .idle, by decide⟩

theorem witness_StepKeepsTheInvariant : State.reset.mod.Inv ∧ ∃ t, step State.reset = .next t := by
  refine ⟨⟨?_, ⟨rfl, rfl⟩, rfl, by decide, by decide, ?_, rfl, ?_, ⟨by decide, ?_⟩, by decide⟩, State.reset.tick, by unfold step; rfl⟩
  · intro h; cases h
  all_goals intro e he; cases he

theorem witness_CommandFrames : ∃ t, exec .powerOn State.reset = .next t := ⟨_, rfl⟩

theorem witness_FaultInAStoppedMode :
    [Mode.frozen, .inspect, .lockdown].all (fun k => let m := (at_ k).mod
      decide (m.ctl.mode = k) && m.logOpen && decide ((sget [] m.stew.logQ 8).length < 16)) = true := by decide

theorem witness_PowerCommands :
    State.reset.mod.pins.porstHigh = true ∧ (∃ s : State, s.mod.pins.porstHigh = false) ∧
    ∃ s : State, s.mod.pins.suppliesGood = true ∧ s.mod.ctl.mode = .reset ∧ s.mod.ctl.cold = true ∧ s.mod.start.running = false :=
  ⟨rfl, ⟨at_ .reset fun m => { m with pins := { m.pins with porstHigh := false } }, rfl⟩, at_ .reset, by decide⟩

theorem witness_WarmStartCommands :
    (StartClear (at_ .idle).mod ∧ WarmPinActs (at_ .idle).mod ∧ (at_ .idle).mod.ctl.mode ≠ .load) ∧ ¬ WarmPinActs (at_ .lockdown).mod ∧
    (StartClear (at_ .linksvc).mod ∧ (at_ .linksvc).mod.ctl.mode = .linksvc) ∧
    StartClear (at_ .selftest).mod ∧ (at_ .selftest).mod.ctl.mode = .selftest := by
  unfold WarmPinActs StartClear; decide

/-- A sector of a state, with a record, a SEQ and one body byte. -/
def sectorOf (st record seq : Nat) : Sector :=
  { Sector.init with st := st, record := record, seq := seq, len := 1, bcrc := crc32c [0#8], body := [(0, 0#8)] }.sealed
/-- A store to mount: erased; two copies of a record; one being written; a body that fails its check; an unreadable header
with a body and one without. -/
def unmounted : State :=
  at_ .reset (fun m => { m with
    start := { m.start with running := true }
    store := { m.store with sectors := [(0, Sector.init), (1, sectorOf secValid 0x30 1), (2, sectorOf secValid 0x30 2),
      (3, sectorOf secWriting 0x30 3), (4, { sectorOf secValid 0x30 4 with bcrc := 0 }.sealed), (5, { sectorOf secValid 0x31 5 with hcrc := 0 }),
      (6, { Sector.init with magic := 0 })] } })

theorem witness_StartEventCommands :
    (unmounted.mod.start.running = true ∧ unmounted.mod.start.storeMounted = false ∧ unmounted.mod.store.queue = [] ∧
      Rising unmounted.mod.store.sectors ∧
      [0, 1, 2, 3, 4, 5, 6].map (fun k => ((unmounted.mod.store.sector k).readable, (unmounted.mod.store.sector k).st)) =
        [(true, secErased), (true, secValid), (true, secValid), (true, secWriting), (true, secValid), (false, secValid), (false, secErased)] ∧
      [1, 2, 4].map (fun k => crc32c ((unmounted.mod.store.sector k).bodyBytes 0 (unmounted.mod.store.sector k).len) ==
        (unmounted.mod.store.sector k).bcrc) = [true, true, false] ∧ seqNewer 2 1 = true ∧
      (unmounted.mod.store.sector 5).body ≠ [] ∧ (unmounted.mod.store.sector 6).body = []) ∧
    (∃ s : State, s.mod.start.running = true ∧ s.mod.ctl.cold = true ∧ s.mod.start.storeMounted = true ∧ s.mod.start.bistDone = false) ∧
    (∃ dies : List BistDie, dies.length = 8) ∧
    (∃ s : State, s.mod.sec.trngReady = false ∧ s.mod.stew.waitingReq = none ∧ s.mod.load.waitEntropy = none ∧
      s.mod.load.epochStage = true ∧ s.mod.load.epochDesign = true) ∧
    (∃ s : State, s.mod.sec.trngReady = false ∧ s.mod.stew.reqQ = [] ∧ s.mod.load.waitEntropy = none ∧
      s.mod.load.epochStage = false ∧ s.mod.load.epochDesign = false) ∧
    (∃ s : State, s.mod.sec.trngReady = true ∧ s.mod.stew.waitingReq = none ∧ s.mod.sec.newStage = none ∧ s.mod.sec.newDesign = none) ∧
    (∃ s : State, s.mod.ctl.mode = .reset ∧ s.mod.start.running = true ∧ s.mod.start.storeMounted = true ∧ s.mod.start.bistDone = true ∧
      s.mod.start.remapLoaded = true ∧ s.mod.ctl.cold = false ∧ s.mod.reg rReload = 0) ∧
    (∃ s : State, s.mod.ctl.mode = .reset ∧ s.mod.start.running = true ∧ s.mod.start.storeMounted = true ∧ s.mod.start.bistDone = true ∧
      s.mod.start.remapLoaded = true ∧ s.mod.ctl.cold = false ∧ s.mod.reg rReload ≠ 0) ∧
    (∃ s : State, s.mod.sec.newStage = some 0 ∧ s.mod.load.held = [] ∧ s.mod.sec.newDesign = some 0) ∧
    ∃ s : State, s.mod.sec.newStage = some 0 ∧ s.mod.load.held = [(32768, [0])] :=
  let go (mounted done : Bool) (m : Module) : Module :=
    { m with start := { m.start with running := true, storeMounted := mounted, bistDone := done, remapLoaded := done } }
  let warm (m : Module) : Module := { m with ctl := { m.ctl with cold := false } }
  let drawn (held : List (Nat × List Byte)) (m : Module) : Module :=
    { m with sec := { m.sec with newStage := some 0, newDesign := some 0 }, load := { m.load with held := held } }
  ⟨by decide +kernel, ⟨at_ .reset (go true false), by decide⟩, ⟨List.replicate 8 { fails := 0, outsideSpares := false }, rfl⟩,
   ⟨at_ .reset (fun m => { m with load := { m.load with epochStage := true, epochDesign := true } }), by decide⟩, ⟨at_ .reset, by decide⟩,
   ⟨at_ .idle (fun m => { m with sec := { m.sec with trngReady := true } }), by decide⟩,
   ⟨at_ .reset (warm ∘ go true true), by decide⟩, ⟨at_ .reset (warm ∘ reg_ rReload 1 ∘ go true true), by decide⟩,
   ⟨at_ .load (drawn []), by decide⟩, at_ .load (drawn [(32768, [0])]), by decide⟩

/-- The header of a plain image of one section. -/
def header : Nat :=
  0x46593843 * 2 ^ 992 + 2 ^ 976 + 0x0F2D * 2 ^ 960 + 0xC008 * 2 ^ 944 + 0x11 * 2 ^ 936 + 2 ^ 896 + 32768 * 2 ^ 832

theorem witness_StreamCommands :
    (∃ s : State, Served s.mod ∧ s.mod.ctl.mode = .load ∧ s.mod.load.waitEntropy = none ∧ s.mod.load.state = 1 ∧
      s.mod.reg rLoadOffset % 32768 = 0 ∧ (List.replicate 32768 (0 : Byte)).length = 32768 ∧ s.mod.reg rLoadOffset + 32768 ≤ s.mod.streamLen ∧
      s.mod.load.epochStage = true) ∧
    (∃ s : State, Served s.mod ∧ s.mod.ctl.mode = .load ∧ s.mod.load.waitEntropy = none ∧ s.mod.load.state = 1 ∧
      s.mod.reg rLoadOffset % 32768 = 0 ∧ s.mod.reg rLoadOffset + 32768 ≤ s.mod.streamLen ∧ s.mod.load.epochStage = false ∧
      s.mod.hbm.ctr = [] ∧ TreeWhole s.mod (sectorsIn (s.mod.reg rLoadOffset) 32768)) ∧
    (∃ s : State, Served s.mod ∧ s.mod.ctl.mode = .load ∧ s.mod.load.waitEntropy = none ∧ s.mod.load.state = 0 ∧ s.mod.reg rLoadOffset = 0 ∧
      s.mod.headerCheck (leNat ((List.replicate 32768 (0 : Byte)).take 128)) = some 0x1A01) ∧
    (∃ (s : State) (block : List Byte), Served s.mod ∧ s.mod.ctl.mode = .load ∧ s.mod.load.waitEntropy = none ∧ s.mod.load.state = 0 ∧
      s.mod.reg rLoadOffset = 0 ∧ block.length = 32768 ∧ s.mod.headerCheck (leNat (block.take 128)) = none ∧
      32768 ≤ hdrStreamLen (leNat (block.take 128)) ∧ s.mod.sec.trngReady = true) ∧
    (∃ s : State, Served s.mod ∧ s.mod.ctl.mode ≠ .load ∧ (∀ st ∈ s.mod.seq.stalls, ∀ u a k, st.cause ≠ .repair u a k)) ∧
    (∃ s : State, Served s.mod ∧ s.mod.ctl.mode = .load ∧ s.mod.load.state ≤ 1) ∧
    ∃ s : State, Served s.mod ∧ ∃ st ∈ s.mod.seq.stalls, ∃ u a k, st.cause = .repair u a k := by
  let staged (e : Bool) : State :=
    at_ .load (fun m => { m with load := { m.load with state := 1, header := BitVec.ofNat 1024 header, epochStage := e } })
  have ht : ((leBytes 128 header ++ List.replicate 32640 (0 : Byte)).take 128) = leBytes 128 header := by
    rw [List.take_append_of_le_length (by decide +kernel)]; exact List.take_of_length_le (by decide +kernel)
  have hz : ((List.replicate 32768 (0 : Byte)).take 128) = List.replicate 128 0 :=
    List.take_replicate.trans (congrArg (List.replicate · 0) (by decide))
  refine ⟨⟨staged true, by unfold Served; decide, rfl, rfl, rfl, by decide, List.length_replicate, by decide +kernel, rfl⟩,
   ⟨staged false, by unfold Served; decide, rfl, rfl, rfl, by decide, by decide +kernel, rfl, rfl, by unfold TreeWhole; decide +kernel⟩,
   ⟨at_ .load, by unfold Served; decide, rfl, rfl, rfl, by decide, by rw [hz]; decide +kernel⟩,
   ⟨at_ .load (fun m => { m.setReg rLoadPurpose 1 with sec := { m.sec with trngReady := true } }), leBytes 128 header ++ List.replicate 32640 0, ?_⟩,
   ⟨at_ .idle, by unfold Served; decide, by decide, by intro st h; cases h⟩, ⟨at_ .load, by unfold Served; decide⟩,
   ⟨at_ .idle (stalled (.repair .imWord 0 0)), by unfold Served; decide, _, List.mem_cons_self, _, _, _, rfl⟩⟩
  refine ⟨by unfold Served; decide, rfl, rfl, rfl, by decide, by rw [List.length_append, List.length_replicate]; decide +kernel, ?_, ?_, rfl⟩
  · rw [ht]; decide +kernel
  · rw [ht]; decide +kernel

/-- An encrypted stream of a header and a colophon with these first bytes and this TAG, in pass 2; the engine holds key 0. -/
def hdrBytes : List Byte := leBytes 128 (2 ^ 927)
def colophonTail (tag : List Byte) : List Byte := List.replicate 8 (0 : Byte) ++ tag ++ [0x4C, 0x4F, 0x43, 0x46]
def encrypted (crc : Nat) (tag : List Byte) : State :=
  at_ .load (fun m => { m with
    load := { m.load with pass := 2, header := BitVec.ofNat 1024 (192 * 2 ^ 832) }
    sec := { m.sec with engineKey := some 0 }
    hbm := { m.hbm with bytes := writeBytes [] 0 (hdrBytes ++ leBytes 4 crc ++ colophonTail tag) } })
/-- The TAG of that stream. -/
def goodTag : List Byte := beBytes 48 595776692877473271588749509749924902462779827025849338502734995965432153969302491573172264272500260507609409908567
theorem goodTag_eq : hmac384 (kdf (keyBytes 0) "OND8-M" hdrBytes) hdrBytes = goodTag := by decide +kernel
theorem crc_append (a b : List Byte) :
    crc32c (a ++ b) = ~~~ (b.foldl (fun c x => crcBits 8 (c ^^^ x.setWidth 32)) (a.foldl (fun c x => crcBits 8 (c ^^^ x.setWidth 32)) (BitVec.allOnes 32))) := by
  rw [crc32c, List.foldl_append]
theorem crc_header : hdrBytes.foldl (fun c x => crcBits 8 (c ^^^ x.setWidth 32)) (BitVec.allOnes 32) = 0xEF60713C#32 := by
  rw [show hdrBytes = List.replicate 64 0 ++ hdrBytes.drop 64 by decide +kernel, List.foldl_append,
    show (List.replicate 64 (0 : Byte)).foldl (fun c x => crcBits 8 (c ^^^ x.setWidth 32)) (BitVec.allOnes 32) = 0xFC371498#32 by decide +kernel]
  decide +kernel
theorem crc_stream : [List.replicate 48 0, goodTag].map (fun tag => crc32c (hdrBytes ++ colophonTail tag)) = [0x68F2DF4B#32, 0x15A4AF59#32] := by
  simp only [List.map, crc_append, crc_header]; decide +kernel

theorem witness_PassCommands :
    ([1, 2, 3, 4, 5].all (fun k =>
      let m := (at_ .load (fun m => { m with load := { m.load with pass := k } })).mod
      m.load.pass == k && !m.load.epochDesign && !hdrEnc m.stagedHeader && !m.load.epochStage && !m.tagsOut m.epEngine &&
        (m.treeRead m.streamSectors false).2.1) = true) ∧
    (∀ e ∈ [((0x68F2DF4B#32).toNat, List.replicate 48 (0 : Byte)), ((0x15A4AF59#32).toNat, goodTag)],
      let m := (encrypted e.1 e.2).mod
      StageReads m ∧ hdrEnc m.stagedHeader = true ∧ m.sec.engineKey = some 0 ∧ readBytes m.hbm.bytes 0 (m.streamLen - 64) = hdrBytes ∧
        readBytes m.hbm.bytes (m.streamLen - 64) 64 = leBytes 4 e.1 ++ colophonTail e.2 ∧ readBytes m.hbm.bytes 0 128 = hdrBytes ∧
        (crc32c (hdrBytes ++ colophonTail e.2)).toNat = e.1) ∧
    ((colophonTail goodTag).drop 8).take 48 = goodTag ∧ goodTag ≠ List.replicate 48 0 ∧
    (∃ s : State, s.mod.load.pass = 5 ∧ s.mod.load.epochDesign = false ∧ s.mod.ctl.mode = .load ∧ s.mod.reg rMemPolicy % 2 = 1 ∧
      StageReads s.mod ∧ ∃ k ∈ s.mod.streamSectors, sget 0 s.mod.hbm.ctr k ≠ 0) ∧
    ∃ s : State, s.mod.load.comparing = true ∧ s.mod.ctl.mode = .load ∧ s.mod.tagsOut s.mod.epEngine = false ∧
      TreeWhole s.mod s.mod.streamSectors := by
  have hc := crc_stream
  simp only [List.map, List.cons.injEq, and_true] at hc
  unfold StageReads TreeWhole
  refine ⟨by decide +kernel, ?_, by decide +kernel, by decide +kernel,
   ⟨at_ .load (fun m => { m.setReg rMemPolicy 1 with load := { m.load with pass := 5 }, hbm := { m.hbm with ctr := [(0, 1)] } }),
     rfl, rfl, rfl, by decide, by decide +kernel, 0, by decide +kernel⟩,
   at_ .load (fun m => { m with load := { m.load with comparing := true } }), by decide +kernel⟩
  intro e he
  simp only [List.mem_cons, List.not_mem_nil, or_false] at he
  obtain rfl | rfl := he
  · exact ⟨by decide +kernel, by decide +kernel, rfl, by decide +kernel, by decide +kernel, by decide +kernel, congrArg BitVec.toNat hc.1⟩
  · exact ⟨by decide +kernel, by decide +kernel, rfl, by decide +kernel, by decide +kernel, by decide +kernel, congrArg BitVec.toNat hc.2⟩

/-- Lane 159 in a phase, with a number of failed attempts. -/
def training (p : TrainPhase) (n : Nat) : State :=
  at_ .bringup (fun m => m.setLane 159 { Lane.init with phase := some p, attempts := n, noFar := true })

theorem test_symbol_of_lane_159 :
    symbolOf 159 none 1 0 0 0 = 0xF0C3A59F001000000F3C5A60FFEFFFFF#128 ∧ symbolOk (symbolOf 159 none 1 0 0 0) = true ∧
    symbolOk 0xF0C3A59F001000000F3C5A60FFEFFFFE#128 = false := by decide +kernel

theorem witness_TrainingCommands :
    ((at_ .bringup).mod.lane 159).phase = none ∧
    (((training .align 0).mod.lane 159).phase = some .align ∧ symbolOk 0 = false) ∧
    (symbolOk (symbolOf 158 none 1 0 0 0) = true ∧ symbolLane (symbolOf 158 none 1 0 0 0) % 8 ≠ 159 % 8) ∧
    (symbolOk (symbolOf 159 none 1 1 0 0) = true ∧ symbolRate (symbolOf 159 none 1 1 0 0) ≠ (training .align 0).mod.bundleRate (159 / 8)) ∧
    (symbolOk (symbolOf 7 none 1 0 0 0) = true ∧ symbolLane (symbolOf 7 none 1 0 0 0) % 8 = 159 % 8 ∧
      symbolRate (symbolOf 7 none 1 0 0 0) = (training .align 0).mod.bundleRate (159 / 8)) ∧
    [(TrainPhase.detect, TrainPhase.lock), (.lock, .align), (.eq, .verify)].all (fun e => ((training e.1 0).mod.lane 159).phase == some e.1) = true ∧
    ((training .verify 0).mod.lane 159).phase = some .verify ∧
    (((training .detect 1).mod.lane 159).phase ≠ none ∧ ((training .detect 1).mod.lane 159).attempts + 1 < 3) ∧
    (((training .detect 2).mod.lane 159).phase ≠ none ∧ 3 ≤ ((training .detect 2).mod.lane 159).attempts + 1) ∧
    ∃ s : State, (s.mod.lane 159).phase ≠ none ∧ 3 ≤ (s.mod.lane 159).attempts + 1 ∧ (s.mod.lane 159).noFar = true ∧
      ∀ l ∈ lanesOf (159 / 8), l ≠ 159 → (s.mod.lane l).phase = none ∧ (s.mod.lane l).noFar = true ∧ (s.mod.lane l).trained = false :=
  ⟨by decide, by decide +kernel, by decide +kernel, by decide +kernel, by decide +kernel, by decide, by decide, by decide, by decide,
   at_ .bringup (fun m => ((List.range 7).foldl (fun (m : Module) k => m.setLane (152 + k) { Lane.init with noFar := true }) m).setLane 159
     { Lane.init with phase := some .detect, attempts := 2, noFar := true }), by decide +kernel⟩

/-- A module of a system of 256, whose lanes are trained, with this number and place in discovery. -/
def discover (modnum : Nat) (d : Disc → Disc) : State :=
  at_ .bringup (fun m => { m with
    image := { m.image with modules := 256, modnum := modnum }, disc := d m.disc, start := { m.start with lanesTrained := true } })

theorem witness_DiscoveryAndStartUpCommands :
    InOrder (at_ .bringup).mod 0 0 ∧ InOrder (at_ .bringup).mod 19 0 ∧
    ((discover 255 id).mod.discovering = true ∧ (discover 255 id).mod.image.modnum ≠ 0 ∧ (discover 255 id).mod.ringOpen 15 = false ∧
      (discover 255 id).mod.disc.state ≠ 2 ∧ sfind (discover 255 id).mod.disc.adjs 255 = none ∧ 19 ∉ (discover 255 id).mod.disc.echoOut) ∧
    (let s := discover 255 (fun d => { d with state := 1, ring := 15, modnum := 240 })
     s.mod.discovering = true ∧ s.mod.image.modnum ≠ 0 ∧ s.mod.ringOpen 15 = true ∧ (s.mod.bundle 10).state ≠ 1) ∧
    (let s := discover 0 (fun d => { d with state := 1 })
     s.mod.discovering = true ∧ s.mod.image.modnum = 0 ∧ s.mod.ringOpen 0 = true) ∧
    ((discover 0 id).mod.discovering = true ∧ (discover 0 id).mod.ringOpen 0 = false) ∧
    (∃ s : State, s.mod.discovering = true ∧ s.mod.image.modnum ≠ 0 ∧ (s.mod.bundle 10).state = 1) ∧
    (∃ s : State, s.mod.discovering = true ∧ s.mod.image.modnum = 0 ∧ s.mod.ringOpen 0 = true ∧ (s.mod.bundle 11).state = 1) ∧
    (∃ s : State, s.mod.discovering = true ∧ sfind s.mod.disc.adjs 255 ≠ none ∧ 0 ∈ s.mod.disc.echoOut ∧ 1 ∈ s.mod.disc.echoOut) ∧
    (∃ s : State, 19 ∈ s.mod.disc.echoDue ∧ (s.mod.bundle 19).pstate ≠ 1) ∧
    (InOrder (at_ .bringup).mod 19 0 ∧ (at_ .bringup).mod.discEarly (.echoReq 19 0) = false) ∧
    (let s := at_ .bringup inTwo
     s.mod.ctl.mode = .bringup ∧ s.mod.inSystem = true ∧ s.mod.start.lanesTrained = false ∧ InOrder s.mod 0 0 ∧ InOrder s.mod 1 0 ∧
       s.mod.start.startupState ≤ 4 ∧ s.mod.startupOn = false) ∧
    (∃ s : State, s.mod.ctl.mode = .bringup ∧ s.mod.startupOn = true ∧ s.mod.start.lockDone = false ∧ s.mod.start.stepsLeft = [1, 2, 3, 4]) ∧
    ∃ s : State, s.mod.ctl.mode = .bringup ∧ s.mod.start.startupState = 5 ∧ s.mod.pins.modreadyLow = false :=
  let up (b : Nat) (s : State) : State := { s with mod := { s.mod with bundles := [(b, { Bundle.init with state := 1 })] } }
  ⟨⟨rfl, rfl⟩, ⟨rfl, rfl⟩, by decide, by decide, by decide, by decide, ⟨up 10 (discover 255 id), by decide⟩,
   ⟨up 11 (discover 0 (fun d => { d with state := 1 })), by decide⟩,
   ⟨discover 1 (fun d => { d with adjs := [(255, List.replicate 20 none)], echoOut := [0, 1] }), by decide⟩,
   ⟨at_ .bringup (fun m => { m with disc := { m.disc with echoDue := [19] } }), by decide⟩, ⟨⟨rfl, rfl⟩, rfl⟩,
   ⟨rfl, rfl, rfl, ⟨rfl, rfl⟩, ⟨rfl, rfl⟩, by decide, rfl⟩,
   ⟨at_ .bringup (fun m => { m with start := { m.start with startupState := 0, stepsLeft := [1, 2, 3, 4], lanesTrained := true } }), by decide⟩,
   at_ .bringup (fun m => { m with start := { m.start with startupState := 5 }, pins := { m.pins with modreadyLow := false } }), by decide⟩

theorem witness_ModeRequestCommands :
    ((at_ .idle).mod.ctl.mode = .idle ∧ Priv.admin ≠ .oper ∧ (1 : BitVec 24) ≠ 0) ∧ (at_ .paced).mod.ctl.mode.running = true ∧
    (∃ s : State, s.mod.ctl.mode = .frozen ∧ s.mod.ctl.resumable = true) ∧
    ((at_ .idle).mod.inSystem = false ∧ (at_ .idle).mod.seq.phase = .hold) ∧ (at_ .inspect).mod.ctl.mode = .inspect ∧
    (Priv.vendor ≠ .oper ∧ (at_ .reset).mod.ctl.mode ≠ .lockdown ∧ (at_ .reset).mod.resetHeld = false) ∧ State.reset.mod.resetHeld = true ∧
    (∃ s : State, s.mod.ctl.mode.running = true ∧ s.mod.ctl.freezeReq = true ∧ s.mod.ctl.freezeCause = 0x0910) :=
  ⟨by decide, by decide, ⟨at_ .frozen (fun m => { m with ctl := { m.ctl with resumable := true } }), by decide⟩, by decide, by decide, by decide, by decide,
   at_ .run (fun m => { m with ctl := { m.ctl with freezeReq := true, freezeCause := 0x0910 } }), by decide⟩

theorem witness_ModeRequestRefusals :
    ((at_ .reset).mod.ctl.mode ≠ .lockdown ∧ (0xFFFFFF : BitVec 24) ≠ 0 ∧ Priv.admin ≠ .oper ∧ (at_ .reset).mod.ctl.mode ≠ .idle ∧
      (at_ .reset).mod.ctl.mode.running = false ∧ (at_ .reset).mod.ctl.mode ≠ .inspect ∧ (at_ .reset).mod.ctl.mode ≠ .frozen) ∧
    ((at_ .frozen).mod.ctl.mode = .frozen ∧ (at_ .frozen).mod.ctl.resumable = false ∧ (at_ .frozen).mod.ctl.mode.running = false) ∧
    (at_ .run).mod.ctl.mode.running = true ∧ (∃ s : State, s.mod.ctl.mode = .frozen ∧ s.mod.ctl.resumable = true) ∧
    (at_ .lockdown).mod.ctl.mode = .lockdown ∧ Priv.oper = .oper :=
  ⟨by decide, by decide, by decide, ⟨at_ .frozen (fun m => { m with ctl := { m.ctl with resumable := true } }), by decide⟩, by decide, rfl⟩

/-- A module whose one folio in progress has steps still to issue. -/
def issuing (steps : List Nat) (m : Module) : Module := { m with seq := { m.seq with phase := .issuing, steps := steps } }

theorem witness_StepCommands :
    (∃ s : State, s.mod.ctl.mode.running = true ∧ s.mod.seq.phase = .issuing ∧ s.mod.settle.held = true) ∧
    (∃ s : State, s.mod.ctl.mode.running = true ∧ s.mod.seq.phase = .issuing ∧ s.mod.settle.seq.steps = [2047] ∧ s.mod.settle.held = false) ∧
    (∃ s : State, s.mod.ctl.mode.running = true ∧ s.mod.seq.phase = .issuing ∧ s.mod.settle.seq.steps = [0, 1] ∧ s.mod.settle.held = false) ∧
    (∃ (s : State) (a : MemAcc), s.mod.ctl.mode = .idle ∧ 0 ≠ 32768 ∧
      s.mod.data.memAccs.find? (fun a => a.portKey == 0 && a.seqNo == 4095) = some a) ∧
    (∃ (s : State) (t : TagUse), s.mod.ctl.mode = .idle ∧ s.mod.fabric.tags.find? (fun t => t.use == 3 && !t.quarantine) = some t) ∧
    (at_ .idle).mod.data.memAccs.find? (fun a => a.portKey == 0 && a.seqNo == 0) = none ∧
    ∃ s : State, s.mod.ctl.mode.running = true ∧ ∃ st ∈ s.mod.seq.stalls, ∃ t, st.cause = .lateStatic 19 t :=
  ⟨⟨at_ .run (stalled (.repair .imWord 0 0)), by decide⟩, ⟨at_ .run (issuing [2047]), by decide⟩, ⟨at_ .run (issuing [0, 1]), by decide⟩,
   ⟨at_ .idle (fun m => { m with data := { m.data with memAccs := [{ portKey := 0, seqNo := 4095, write := false, addr := 0, data := 0, waiting := false, tag := none, issued := 0 }] } }), _, by decide, by decide, rfl⟩,
   ⟨at_ .idle (fun m => { m with fabric := { m.fabric with tags := [{ tag := 8, src := 0, dst := 0, addr := 0, issued := 0, quarantine := false, use := 3 }] } }),
     _, rfl, rfl⟩, rfl,
   at_ .run (stalled (.lateStatic 19 2047)), by decide, _, List.mem_cons_self, _, rfl⟩

/-- A FIXED channel 255 with lag 0 has an open request of folio 0. -/
def fixed255 (m : Module) : Module :=
  { m.setReg (rChanCfg 255) (2 ^ 31 + 2 ^ 29) with couriers := { m.couriers with channels := [(255, { Channel.init with entries := [(0, { Entry.init with state := 1, reqFolio := some 0 })] })] } }

/-- Bundle 0 waits for one bit of step 0, which its link-die entry counts. -/
def late0 : State := at_ .run (fun m => let m := stalled (.lateStatic 0 0) m
  { m with seq := { m.seq with steps := [0] }, data := { m.data with link := [(0, { bits := 2 ^ 69306, par := byteParity linkLen (2 ^ 69306) })] } })
theorem late0_bits (n : Nat) : late0.mod.bitsPresent 0 n = decide (n = 0) := by
  have h : late0.mod.rcntOf 0 0 = 1 := by
    unfold Module.rcntOf Data.linkAt
    rw [show sget { bits := 0, par := 0 } late0.mod.data.link (0 / 10 * 2048 + 0) = { bits := 2 ^ 69306, par := byteParity linkLen (2 ^ 69306) } from rfl,
      if_pos (by simp [schedGood])]
    decide +kernel
  have hs : late0.mod.seq.steps = [0] := rfl
  have hb : (late0.mod.bundle 0).store.length = 0 := rfl
  cases n <;> simp [Module.bitsPresent, hs, hb, h]

theorem witness_BarrierTimeouts :
    (∃ s : State, s.mod.ctl.mode.running = true ∧ s.mod.logOpen = true ∧ (∃ x ∈ s.mod.seq.stalls, ∃ t, x.cause = .lateStatic 0 t) ∧
      s.mod.bitsPresent 0 1 = false ∧ (∀ j, j < 1 → s.mod.bitsPresent 0 j = true) ∧ (sget [] s.mod.stew.logQ dieL0).length < 16) ∧
    (∃ s : State, s.mod.ctl.mode.running = true ∧ s.mod.logOpen = true ∧ (∃ x ∈ s.mod.seq.stalls, x.cause = .deadline 255)) ∧
    ∃ s : State, s.mod.ctl.mode.running = true ∧ s.mod.logOpen = true ∧ s.mod.seq.phase = .hold ∧ s.mod.fixedDue 255 = true ∧
      (sget [] s.mod.stew.logQ dieH).length < 16 :=
  ⟨⟨late0, by decide, by decide, ⟨_, List.mem_cons_self, _, rfl⟩, by rw [late0_bits]; decide,
     by intro j hj; rw [late0_bits]; decide +revert, by decide⟩,
   ⟨at_ .run (stalled (.deadline 255)), by decide, by decide, _, List.mem_cons_self, rfl⟩,
   at_ .run fixed255, by decide +kernel⟩

/-- A failing IM word with key 0, essential or not, with a staged image or not. -/
def badWord (ess staged : Bool) (m : Module) : Module :=
  { m with data := { m.data with im := [(0, { word := 1, par := 0 })], imEss := if ess then [(0, true)] else [] }, load := { m.load with staged := staged } }

/-- A module in LOCKDOWN since a cycle, with a failing word that no essential entry needs. -/
def lateRead (at' : Nat) : State := at_ .lockdown (fun m => let m := badWord false false m
  { m with ctl := { m.ctl with lockAt := at' } })

theorem witness_RepairCommands :
    (let m := (at_ .run (stalled (.repair .imWord 0 0))).mod
     m.repairing .imWord 0 = true ∧ m.tagsOut (m.repairReader .imWord 0) = false ∧
       TreeWhole m (sectorsIn (m.repairValue .imWord 0).2 (unitLen .imWord)) ∧ m.load.discardWait = false) ∧
    (∃ s : State, s.mod.repairing .segWord 0 = true ∧ s.mod.tagsOut (s.mod.repairReader .segWord 0) = false ∧
       TreeWhole s.mod (sectorsIn (s.mod.repairValue .segWord 0).2 (unitLen .segWord)) ∧ s.mod.load.discardWait = true ∧
       ∀ x ∈ s.mod.seq.stalls, x.cause = .repair .segWord 0 0) ∧
    ([0, 1].all fun policy =>
      let m := (at_ .idle (fun m => { reg_ rMemPolicy policy (stalled (.repair .imWord 0 0) m) with hbm := { m.hbm with ctr := (List.range 4).map (fun k => (k, 1)) } })).mod
      m.repairing .imWord 0 && !m.tagsOut (m.repairReader .imWord 0) && m.reg rMemPolicy == policy && !m.load.epochStage && !m.load.epochDesign &&
        (sectorsIn (m.repairValue .imWord 0).2 (unitLen .imWord)).any (fun k => sget 0 m.hbm.ctr k != 0)) = true ∧
    (at_ .idle).mod.repairing .imWord 0 = false ∧
    [(true, true), (true, false), (false, true), (false, false)].all (fun e =>
      let m := (at_ .idle (badWord e.1 e.2)).mod
      m.walks && m.walked .imWord 0 && !m.tagsOut (m.repairReader .imWord 0) && m.unitBad .imWord 0 && m.unitEssential .imWord 0 == e.1 &&
        m.sourceHeld .imWord 0 == e.2 && (m.treeRead (sectorsIn (m.repairValue .imWord 0).2 (unitLen .imWord)) false).2.1) = true ∧
    ((at_ .load).mod.ctl.mode ≠ .lockdown ∧ (at_ .load).mod.walks = false ∧ (at_ .idle).mod.unitBad .imWord 0 = false ∧ walkLast .imWord 0 = false) ∧
    ((lateRead 0).mod.ctl.mode = .lockdown ∧ (lateRead 0).mod.unitBad .imWord 0 = true ∧ (lateRead 0).mod.unitEssential .imWord 0 = false ∧
      (lateRead 0).mod.ctl.lockAt = (lateRead 0).mod.seq.cycle ∧ (lateRead 1).mod.ctl.lockAt ≠ (lateRead 1).mod.seq.cycle) ∧
    ((at_ .idle).mod.walks = true ∧ walkLast .dispEntry 2339 = true ∧ (at_ .idle).mod.tagsOut ((at_ .idle).mod.repairReader .dispEntry 2339) = false ∧
      (at_ .idle).mod.unitBad .dispEntry 2339 = false) := by
  unfold TreeWhole
  exact ⟨by decide +kernel,
   ⟨at_ .run (fun m => let m := stalled (.repair .segWord 0 0) m
      { m with load := { m.load with discardWait := true } }), by decide +kernel⟩,
   by decide +kernel, by decide, by decide +kernel, by decide, by decide, by decide +kernel⟩

/-- An IM word with generated parity. -/
def imOf (w : Nat) : ImWord := { word := BitVec.ofNat 96 w, par := BitVec.ofNat 12 (byteParity 12 w) }
/-- Step 0 issues, with step 5 behind it; BP 0 asks with an opclass and a truth table; DMB 0 has a binding and a queue, and port 0
a window of one-bit addresses. -/
def asking (opc tt bind : Nat) (q : Queue) : State :=
  at_ .run (fun m => { issuing [0, 5] m with data := { m.data with
    im := [(0, imOf (opc * 2 ^ 92 + tt * 2 ^ 76 + 5 * 2 ^ 21))]
    dmbDesc := [(0, BitVec.ofNat 64 (bind * 2 ^ 32))], queues := [(0, q)], windows := [(0, BitVec.ofNat 64 (2 ^ 52))] } })
/-- Phases of a queue: empty, with one word, full, and full with a word in the skid. -/
def queues_ : List Queue :=
  [Queue.init, { Queue.init with tail := 1, count := 1, dvTail := 1, dvCount := 1 }, { Queue.init with count := 1024, dvCount := 1024 },
   { Queue.init with count := 1024, dvCount := 1025, skid := [0] }]

theorem witness_LaneInstructions :
    (let w := 2 ^ 92 + 5 * 2 ^ 21 + 1
     laneWord [] 0 w = w ∧ opcResult (iwOpc w) = true ∧ Data.init.forced 0 (iwW w) = none ∧ iwCsrc w = 0 ∧ iwOpc w ≠ 0xC ∧ iwMrk w = true) ∧
    (let w := 2 ^ 92 + 2047 * 2 ^ 21 + 255 * 2 ^ 13 + 7 * 2 ^ 2
     laneWord [] 262143 w = w ∧ iwCsrc w ≠ 0 ∧ Data.init.forced 262143 (iwCadr w) = none ∧ iwCadr w ≠ iwW w) ∧
    [12 * 2 ^ 92, 9 * 2 ^ 92, 15 * 2 ^ 92].map iwOpc = [0xC, 9, 0xF] ∧
    -- a gathering request of lane 0 makes another word of its gathering a NOP
    (isReq (iwOpc (sget 0 [(0, 5 * 2 ^ 92)] 0)) = true ∧ iwOpc (laneWord [(0, 5 * 2 ^ 92)] 1 (2 ^ 92)) = 0) ∧
    -- requests: opclass, truth table (MODE, EN), binding, queue
    [(5, 0, 0, 0), (5, 0x100, 1, 1), (5, 0x180, 1, 1), (5, 0x100, 1, 0), (5, 0x200, 1, 1), (5, 0x300, 1, 1), (5, 0x100, 0, 1),
     (6, 0, 0, 0), (6, 0x100, 1, 1), (6, 0x100, 1, 2), (6, 0x100, 3, 0), (6, 0x100, 3, 2), (6, 0x100, 3, 3), (6, 0x80, 1, 1), (6, 0x200, 1, 1),
     (6, 0x100, 0, 0), (7, 0x100, 0, 0), (7, 0, 0, 0), (7, 0x80, 0, 0), (7, 0x180, 0, 0), (7, 0x200, 0, 0)].all (fun e =>
      let q := nth Queue.init queues_ e.2.2.2
      let s := asking e.1 e.2.1 e.2.2.1 q
      let b := s.mod.settle.beginStep 0 [5] []
      let d0 := b.data
      let ws := d0.wordsAt 0
      let w := e.1 * 2 ^ 92 + e.2.1 * 2 ^ 76 + 5 * 2 ^ 21
      decide (s.mod.ctl.mode.running = true) && decide (s.mod.seq.phase = .issuing) && s.mod.settle.seq.steps == [0, 5] && !s.mod.settle.held &&
        ws.filter (fun e => e.1 % 64 == 0 && isReq (iwOpc e.2)) == [(0, w)] && sget 0 ws 0 == w && iwOpc w == e.1 && iwTT w == e.2.1 &&
        d0.queue 0 == q && descBind (d0.desc 0) == e.2.2.1 && d0.dm.isEmpty && winAw (sget 0 d0.windows 0).toNat == 1 && iwW w == 5 &&
        (List.range 64).all (fun n => !d0.cell n (iwA (sget 0 ws n)) && !d0.cell n (iwB (sget 0 ws n)))) = true ∧
    ∃ s : State, s.mod.settle.data.pendRets =
      [{ portKey := 0, left := some 0, vis := none, word := some 1, seqNo := 0 }, { portKey := 1, left := none, vis := some 0, word := some 2, seqNo := 1 },
       { portKey := 2, left := some 1, vis := none, word := some 3, seqNo := 2 }] :=
  ⟨by decide, by decide, by decide, by decide, by decide +kernel,
   at_ .run (fun m => { issuing [0] m with data := { m.data with pendRets :=
      [{ portKey := 0, left := some 0, vis := none, word := some 1, seqNo := 0 }, { portKey := 1, left := none, vis := some 0, word := some 2, seqNo := 1 },
       { portKey := 2, left := some 1, vis := none, word := some 3, seqNo := 2 }] } }), by decide +kernel⟩

theorem witness_WatchInstruction : laneWord [] 262143 (12 * 2 ^ 92) = 12 * 2 ^ 92 ∧ iwOpc (12 * 2 ^ 92) = 0xC ∧ iwCsrc (12 * 2 ^ 92) = 0 := by decide

/-- Phase 1 waits. -/
def draining (m : Module) : Module := { m with seq := { m.seq with phase := .drain } }

/-- A program of one segment, END, in the nine sequencers; the next folio is 1. -/
def oneSegment : SMap SchedWord := (List.range 9).map (fun q => (256 * q, { bits := 2 ^ 61, par := byteParity 8 (2 ^ 61) }))
/-- The release of the next folio has come; slot 15 commits there with this record, and words of DCLK_CFG are held. -/
def launching (records : List (BitVec 128)) (held : List (Nat × Bool × Nat)) (f : Module → Module := id) : State :=
  at_ .run (fun m => let m := f m
    { (if records.isEmpty then m else m.setSlot 15 { Slot.init with state := 4, folio := some m.earliest, records := records }) with
      seq := { m.seq with phase := .launching, segs := oneSegment, dclkHeld := held } })

theorem sget_all {α : Type} (d : α) (P : α → Prop) (hd : P d) (t : SMap α) (ht : ∀ e ∈ t, P e.2) (k : Nat) : P (sget d t k) := by
  induction t with
  | nil => exact hd
  | cons e t ih =>
    unfold sget sfind
    split
    · exact ht e List.mem_cons_self
    · exact ih (fun x hx => ht x (List.mem_cons_of_mem _ hx))

theorem launch_clear (a : Module)
    (h : a.seq.segs = oneSegment ∧ a.seq.disp = [] ∧ a.data.link = [] ∧ a.ctl.mode.running = true ∧ a.seq.phase = .launching ∧ a.localWrites = [] ∧ a.writing = false ∧ a.skewLeft = false ∧
      a.txn.inspWait = [] ∧ a.txn.pulsedNow = 0 ∧ a.data.im = [] ∧ a.data.xbar = [] ∧ a.data.spine = [] ∧
      (∀ k ∈ a.seq.dkey, k ≤ 0x40) ∧ ∀ t ∈ a.image.tips, t.1 < 0x40) : LaunchClear a := by
  obtain ⟨hs, hd, hl, h1, h2, h3, h4, h5, h6, h7, h8, h9, h10, h11, h12⟩ := h
  have hb (q i : Nat) : a.segBits q i = (sget { bits := 0, par := 0 } oneSegment (256 * q + i)).bits := by rw [Module.segBits, hs]
  refine ⟨h1, h2, h3, h4, h5, h6, h7, by simp [h8], by simp [h9], by simp [h10], ?_, ?_, ?_, ?_, ?_, h11, h12, ?_⟩
  · intro k
    simp only [Module.unitBad, hl]
    exact show (!schedGood linkLen { bits := 0, par := 0 }) = false by decide +kernel
  · intro k
    simp only [Module.unitBad, hs]
    exact sget_all _ (fun x => (!schedGood 8 x) = false) (by decide) oneSegment (by decide) k
  · intro k
    simp only [Module.unitBad, hd]
    exact show (!schedGood 1 { bits := 0, par := 0 }) = false by decide
  · intro q i hq hi
    rw [hb, hb]
    have : ∀ q, q < 8 → ∀ i, i < 256 → (sget { bits := 0, par := 0 } oneSegment (256 * q + i)).bits = (sget { bits := 0, par := 0 } oneSegment (256 * 8 + i)).bits := by
      decide +kernel
    exact this q hq i hi
  · intro q j _ _
    rw [Module.dispBits, Module.dispBits, hd]; rfl
  · intro edges dkey _
    have h0 : a.segBits 8 0 = 2305843009213693952 := by rw [hb]; decide
    have e1 : segCond (2305843009213693952) = 0 := by decide
    have e2 : segEnd (2305843009213693952) = true := by decide
    have e3 : segLast (2305843009213693952) = 0 ∧ segFirst (2305843009213693952) = 0 := by decide
    unfold walkRanges
    simp [h0, e1, e2, e3]

/-- The record of an action. -/
def record (kind sub target data : Nat) : BitVec 128 := BitVec.ofNat 128 (kind * 2 ^ 124 + sub * 2 ^ 120 + target * 2 ^ 64 + data)

/-- Tip-in 0x3F is resident for quarter 3 of quire 255; the shadow there is in a state. -/
def resident (sh : Shadow) (m : Module) : Module :=
  { m with image := { m.image with tips := [(0x3F, 3, BitVec.ofNat 256 (2 ^ 255), 0)] }, data := { m.data with shadow := sset Shadow.empty [] 255 sh } }

theorem witness_Launch :
    (LaunchClear (launching [] [(0, false, 5), (0, true, 7)]).mod ∧
      (launching [] [(0, false, 5), (0, true, 7)]).mod.committing (launching [] [(0, false, 5), (0, true, 7)]).mod.earliest = []) ∧
    (∀ r ∈ [record 1 0 5 1, record 1 1 5 1, record 1 2 5 1, record 2 0 5 1, record 2 1 5 1, record 3 0 5 0, record 3 1 5 0, record 6 0 0 1,
        record 6 1 0 (2 ^ 16), record 6 2 0 0, record 7 0 0 1],
      let m := (launching [r] []).mod
      LaunchClear m ∧ m.committing m.earliest = [15] ∧ (m.slot 15).records = [r]) ∧
    (let m := (launching [record 1 0 5 1] [] (fun m => { m with data := { m.data with forces := [(0, [{ cell := 5, value := true }])] } })).mod
     LaunchClear m ∧ m.data.forced 0 5 ≠ none) ∧
    (let m := (launching [record 5 0 0x3F 0] [] (resident (.ready 0x3F))).mod
     LaunchClear m ∧ m.residentTip 0x3F = some (3, [255]) ∧ nth 0x40 m.seq.dkey 3 = 0x40 ∧ m.shadowOf 255 = .ready 0x3F ∧ m.seq.dkey.length = 4) ∧
    (let m := (launching [record 5 1 3 0] [] (fun m => let m := resident (.held 3) m
        { m with seq := { m.seq with dkey := [0x40, 0x40, 0x40, 0x3F] } })).mod
     LaunchClear m ∧ m.residentTip (nth 0x40 m.seq.dkey 3) = some (3, [255]) ∧ m.shadowOf 255 = .held 3) := by
  refine ⟨⟨launch_clear _ (by decide +kernel), by decide +kernel⟩, ?_, ⟨launch_clear _ (by decide +kernel), by decide +kernel⟩,
    ⟨launch_clear _ (by decide +kernel), by decide +kernel⟩, launch_clear _ (by decide +kernel), by decide +kernel⟩
  intro r hr
  simp only [List.mem_cons, List.not_mem_nil, or_false] at hr
  obtain rfl | rfl | rfl | rfl | rfl | rfl | rfl | rfl | rfl | rfl | rfl := hr <;>
    exact ⟨launch_clear _ (by decide +kernel), by decide +kernel⟩

theorem witness_BoundaryCommands :
    (∃ s : State, s.mod.settle.ctl.mode.running = true ∧ s.mod.settle.seq.phase = .drain ∧ s.mod.settle.drained = false) ∧
    (∃ s : State, s.mod.settle.ctl.mode.running = true ∧ s.mod.settle.seq.phase = .drain ∧ s.mod.settle.drained = true ∧
      s.mod.settle.seq.haltFirst ≠ none) ∧ (∃ e ∈ [((11 : Nat), (0 : Nat), (0 : Nat))], 8 ≤ e.1 ∧ e.1 ≤ 11) ∧
    ((launching [record 4 0 0 0] []).mod.ctl.mode.running = true ∧ (launching [record 4 0 0 0] []).mod.seq.phase = .launching ∧
      (launching [record 4 0 0 0] []).mod.localWrites ≠ []) ∧
    (∃ s : State, s.mod.ctl.mode.running = true ∧ s.mod.seq.phase = .launching ∧ s.mod.localWrites = [] ∧ s.mod.writing = true) ∧
    (∃ s : State, s.mod.ctl.mode = .step ∧ s.mod.ctl.stepLeft = 0 ∧ s.mod.seq.phase = .hold) ∧
    (∃ s : State, 65536 ≤ s.mod.seq.effFolios) ∧
    (InOrder (at_ .idle).mod 19 0 ∧ (at_ .idle).mod.ctl.mode = .idle ∧ (token.frzorg, token.frzcode.toNat) ∉ (at_ .idle).mod.disc.floods) ∧
    (∃ s : State, InOrder s.mod 0 0 ∧ (token.frzorg, token.frzcode.toNat) ∈ s.mod.disc.floods) ∧
    (InOrder (at_ .frozen).mod 0 0 ∧ (at_ .frozen).mod.ctl.mode = .frozen ∧ (token.frzorg, token.frzcode.toNat) ∉ (at_ .frozen).mod.disc.floods) ∧
    [Mode.idle, .frozen, .inspect].all (fun k =>
      let m := (at_ k (fun m => let m := inTwo m
        { m with ctl := { m.ctl with resumable := true } })).mod
      m.inSystem && m.atStitch) = true ∧
    (∃ s : State, s.mod.inSystem = true ∧ s.mod.atStitch = false ∧ s.mod.lockedInRound = true) ∧ (at_ .idle).mod.inSystem = false :=
  ⟨⟨at_ .run (fun m => draining { m with seq := { m.seq with stalls := [{ cause := .repair .imWord 0 0, age := 0 }] } }), by decide⟩,
   ⟨at_ .run (fun m => { draining m with seq := { (draining m).seq with haltFirst := some (0, 0) } }), by decide⟩, by decide,
   by decide +kernel,
   ⟨at_ .run (fun m => { m.setSlot 15 { Slot.init with state := 5, hbmwrOut := [(0, 3840)] } with seq := { m.seq with phase := .launching } }), by decide +kernel⟩,
   ⟨at_ .step, by decide⟩,
   ⟨at_ .run (fun m => { m with seq := { m.seq with effFolios := 65536 } }), by decide⟩, ⟨⟨rfl, rfl⟩, by decide⟩,
   ⟨at_ .idle (fun m => { m with disc := { m.disc with floods := [(0, 0)] } }), ⟨rfl, rfl⟩, by decide⟩, ⟨⟨rfl, rfl⟩, by decide⟩, by decide,
   ⟨{ at_ .lockdown inTwo with mod := { (at_ .lockdown inTwo).mod with ctl := { ModeCtl.init with mode := .lockdown, prev := .idle } } }, by decide⟩, by decide⟩

theorem witness_StitchCommands : (InOrder (at_ .run).mod 0 0 ∧ InOrder (at_ .run).mod 1 0) ∧
    (∃ s : State, s.mod.inSystem = true ∧ s.mod.stitches = true ∧ s.mod.atStitch = false ∧ s.mod.ringHead = false) ∧
    (∃ s : State, s.mod.inSystem = true ∧ s.mod.atStitch = true ∧ s.mod.ringHead = false ∧ s.mod.seq.merged = false ∧ (s.mod.bundle 10).carries = true) ∧
    (∃ s : State, s.mod.inSystem = true ∧ s.mod.atStitch = true ∧ s.mod.ringHead = true ∧ s.mod.sysHead = false ∧
      s.mod.seq.ringResult = some token ∧ (s.mod.bundle 11).carries = true) ∧
    (∃ s : State, s.mod.inSystem = true ∧ s.mod.atStitch = true ∧ s.mod.ringHead = true ∧ s.mod.sysHead = true ∧ token.trig &&& s.mod.trig.arm = 0) ∧
    ∃ s : State, s.mod.inSystem = true ∧ s.mod.atStitch = true ∧ s.mod.ringHead = false ∧ s.mod.seq.merged = true :=
  let up (b : Nat) (m : Module) : Module := { m with bundles := [(b, { Bundle.init with state := 1 })] }
  ⟨⟨⟨rfl, rfl⟩, rfl, rfl⟩, ⟨at_ .run (issuing [0] ∘ second ∘ inTwo), by decide⟩, ⟨at_ .run (up 10 ∘ second ∘ inTwo), by decide⟩,
   ⟨at_ .idle (fun m => let m := up 11 (inTwo m)
      { m with disc := { m.disc with modnum := 16 }, seq := { m.seq with ringResult := some token } }), by decide⟩,
   ⟨at_ .idle inTwo, by decide⟩, at_ .run (fun m => let m := second (inTwo m)
      { m with seq := { m.seq with merged := true } }), by decide⟩

theorem witness_LoneRoundAndPacing :
    [(4, Mode.idle), (3, .run), (5, .idle), (6, .idle), (0, .run)].all (fun e =>
      let m := (at_ e.2 (fun m => { m with ctl := { m.ctl with target := e.1 } })).mod
      !m.inSystem && m.atStitch && !m.ctl.freezeReq && decide (m.trig.fired = 0) && m.ctl.target == e.1 && decide (m.ctl.mode = e.2)) = true ∧
    (∃ s : State, s.mod.inSystem = false ∧ s.mod.atStitch = true ∧ s.mod.ctl.freezeReq = false ∧ s.mod.trig.fired = 0 ∧ s.mod.ctl.target = 0 ∧
      s.mod.ctl.mode.running = true ∧ s.mod.departs = true ∧ (∀ i, i < 16 → (s.mod.slot i).state ≠ 5) ∧ (s.mod.ctl.mode = .paced → 0 < s.mod.seq.grants)) ∧
    (∃ s : State, s.mod.paces = true ∧ bitOf (s.mod.reg rPaceCfg) 8 = false ∧ s.mod.seq.lastCad = some 0 ∧ 0 + 40 ≤ s.mod.stew.up ∧
      1023 < s.mod.seq.grants + s.mod.reg rPaceCfg % 256 ∧ s.mod.pins.crossed = some 38) ∧
    (∃ s : State, s.mod.paces = true ∧ bitOf (s.mod.reg rPaceCfg) 8 = true ∧
      s.mod.reg rCadPtpStart + s.mod.seq.cadK * s.mod.reg rCadPtpPeriod ≤ s.mod.stew.now ∧ s.mod.pins.crossed = none) ∧
    (∃ s : State, s.mod.paces = true ∧ ¬ s.mod.reg rCadPtpStart + s.mod.seq.cadK * s.mod.reg rCadPtpPeriod ≤ s.mod.stew.now) ∧
    (∃ s : State, s.mod.paces = true ∧ bitOf (s.mod.reg rPaceCfg) 8 = false ∧ s.mod.seq.lastCad = some 0 ∧ s.mod.stew.up < 0 + 40) ∧
    (∃ s : State, s.mod.paces = true ∧ bitOf (s.mod.reg rPaceCfg) 8 = false ∧ s.mod.seq.lastCad = some 0 ∧ 0 + 40 ≤ s.mod.stew.up ∧
      s.mod.pins.crossed = some 39 ∧ s.mod.stew.up < 39 + 2) ∧ (at_ .run).mod.paces = false :=
  let cad (up at' : Nat) (m : Module) : Module :=
    { m with seq := { m.seq with lastCad := some 0, grants := 1023 }, stew := { m.stew with up := up }, pins := { m.pins with crossed := some at' } }
  ⟨by decide, ⟨at_ .paced (fun m => { m with seq := { m.seq with grants := 1 } }), by decide⟩, ⟨at_ .paced (cad 40 38), by decide⟩,
   ⟨at_ .paced (fun m => { (m.setReg rPaceCfg 257).setReg rCadPtpStart 5 with stew := { m.stew with now := 5 } }), by decide⟩,
   ⟨at_ .paced (reg_ rCadPtpStart 1), by decide⟩, ⟨at_ .paced (cad 39 0), by decide⟩, ⟨at_ .paced (cad 40 39), by decide⟩, by decide⟩

theorem witness_TriggerCommands :
    ((at_ .run).mod.pins.crossed = none ∧ true ≠ bitOf ((at_ .run).mod.reg (rTrigInCfg 7)) 0) ∧
    (∃ s : State, s.mod.pins.crossed = some 0 ∧ s.mod.stew.up < 0 + 2) ∧
    (∃ s : State, s.mod.pins.crossed = some 0 ∧ 0 + 2 ≤ s.mod.stew.up) ∧
    (∃ s : State, let c := sget 0 s.mod.seq.dclkCfg 63
      bitsOf c 30 29 = 2 ∧ bitsOf c 26 24 = 7 ∧ bitOf c 28 = false ∧ s.mod.pulseDue 63 = false) ∧
    ((at_ .frozen).mod.ctl.mode = .frozen ∧ (at_ .frozen).mod.pins.suppliesGood = true) ∧
    ((at_ .run).mod.ctl.mode.running = true ∧ (at_ .run).mod.pins.suppliesGood = true) ∧
    ∃ s : State, bitsOf (s.mod.reg (rTrigInCfg 7)) 31 16 ≠ 0 ∧ bitsOf (s.mod.reg (rTrigInCfg 7)) 31 16 ≤ nth 0 s.mod.trig.pinCount 7 ∧
      bitOf (s.mod.reg (rTrigInCfg 7)) 2 = false :=
  let crossed (up : Nat) (m : Module) : Module := { m with pins := { m.pins with crossed := some 0 }, stew := { m.stew with up := up } }
  ⟨by decide, ⟨at_ .run (crossed 1), by decide⟩, ⟨at_ .run (crossed 2), by decide⟩,
   ⟨at_ .run (fun m => { m with seq := { m.seq with dclkCfg := [(63, 2 * 2 ^ 29 + 7 * 2 ^ 24)] } }), by decide⟩, by decide, by decide,
   at_ .run (fun m => { m.setReg (rTrigInCfg 7) 65536 with trig := { m.trig with pinCount := [0, 0, 0, 0, 0, 0, 0, 1] } }), by decide⟩

theorem witness_CaptureCommands :
    (∃ s : State, Served s.mod ∧ ¬ (1 ≤ s.mod.trig.capState ∧ s.mod.trig.capState ≤ 3) ∧
      s.mod.reg rCapMode = 1 ∧ capTooBig s.mod (max 1 (s.mod.reg rCapWindows)) (s.mod.reg rCapPre) (s.mod.reg rCapPost) = false) ∧
    (∃ s : State, Served s.mod ∧ ¬ (1 ≤ s.mod.trig.capState ∧ s.mod.trig.capState ≤ 3) ∧ s.mod.reg rCapMode = 2 ∧ 4 ≤ s.mod.capSlotsNs) ∧
    (∃ s : State, Served s.mod ∧ 1 ≤ s.mod.trig.capState ∧ s.mod.trig.capState ≤ 3) ∧
    (Served (at_ .idle).mod ∧ (at_ .idle).mod.reg rCapMode = 0) ∧ (∃ s : State, Served s.mod ∧ s.mod.reg rCapMode = 2 ∧ s.mod.capSlotsNs < 4) ∧
    (∃ s : State, Served s.mod ∧ s.mod.reg rCapMode = 1 ∧ capTooBig s.mod (max 1 (s.mod.reg rCapWindows)) (s.mod.reg rCapPre) (s.mod.reg rCapPost) = true) ∧
    (∃ s : State, s.mod.pastDrain = true ∧ s.mod.capCloseDue s.mod.seq.folio = true ∧ s.mod.trig.capQueue.length < 63 ∧
      s.mod.trig.capWindow + 1 < s.mod.reg rCapWindows) ∧
    ∃ s : State, s.mod.pastDrain = true ∧ s.mod.trig.capState = 3 ∧ s.mod.trig.capRearm = 0 :=
  let cap (k : Nat) (m : Module) : Module := { m with image := { m.image with capture := 1 }, trig := { m.trig with capState := k } }
  ⟨⟨at_ .idle (reg_ rCapMode 1 ∘ cap 4), by unfold Served; decide⟩, ⟨at_ .idle (reg_ rCapMode 2 ∘ cap 0), by unfold Served; decide⟩,
   ⟨at_ .idle (cap 3), by unfold Served; decide⟩, by unfold Served; decide, ⟨at_ .idle (reg_ rCapMode 2), by unfold Served; decide⟩,
   ⟨at_ .idle (reg_ rCapMode 1), by unfold Served; decide⟩, ⟨at_ .run (reg_ rCapWindows 2 ∘ reg_ rCapMode 1 ∘ cap 2), by decide⟩, at_ .run (cap 3), by decide⟩

theorem witness_MaskCommands :
    (Served (at_ .run).mod ∧ bitOf (0 : Byte).toNat 0 = false) ∧ (Served (at_ .run).mod ∧ bitOf (1 : Byte).toNat 0 = true ∧ (at_ .run).mod.ctl.mode ≠ .idle) ∧
    (∃ s : State, Served s.mod ∧ s.mod.ctl.mode = .idle ∧ s.mod.trig.maskState ≠ 1 ∧ s.mod.trig.maskState ≠ 2 ∧ s.mod.image.maskSlots ≠ 0 ∧
      regBaseB s.mod.image.design ≤ s.mod.reg rMaskBase ∧
      s.mod.reg rMaskBase + s.mod.reg rMaskCount * s.mod.maskLen ≤ regBaseB s.mod.image.design + regSizeB s.mod.image.design) ∧
    ∃ m : Module, m.trig.maskEnd = false ∧ m.maskEn = true ∧ m.trig.maskState = 2 ∧ m.trig.maskRecs.find? (fun r => r.1 == 7) = some (7, 1, 1) ∧
      1 &&& (1 ^^^ m.slotBits m.image.masks m.image.maskSlots) ≠ 0 :=
  ⟨by unfold Served; decide, by unfold Served; decide,
   ⟨at_ .idle (fun m => { m with image := { m.image with maskSlots := 1024, design := 1 } }), by unfold Served; decide⟩,
   (at_ .run (fun m => { m.setReg rMaskCtrl 1 with trig := { m.trig with maskState := 2, maskRecs := [(7, 1, 1)] } })).mod, by decide⟩

/-- Trace runs, class A and class B, with n packets in the FIFO, on core 31, whose source lacks packets, holds bits and may owe
a SYNC. -/
def traced (lost : Nat) (bits : List Bool) (sync : Bool) (n : Nat) (m : Module) : Module :=
  { (m.setReg rTraceCtrl 3).setReg rTraceCores (2 ^ 31) with
    trace := { m.trace with
      state := 1, fifo := List.replicate n 0, sources := [(0x3F, { TraceSrc.init with lost := lost, bits := bits, needSync := sync })] },
    couriers := { m.couriers with run := BitVec.ofNat 32 (2 ^ 31) } }

theorem held_bits (n : Nat) (h : n < 88) :
    2 ^ n - 1 < 2 ^ 88 ∧ ∀ i, (2 ^ n - 1).testBit i = (List.replicate n true).getD i false := by
  refine ⟨Nat.lt_of_lt_of_le (Nat.sub_lt (Nat.two_pow_pos n) Nat.one_pos) (Nat.pow_le_pow_right (by decide) (by omega)), fun i => ?_⟩
  rw [Nat.testBit_two_pow_sub_one]
  by_cases hi : i < n <;> simp [List.getD_eq_getElem?_getD, hi]

theorem witness_TraceCommands :
    (∃ s : State, Served s.mod ∧ s.mod.image.trace % 65536 ≠ 0 ∧ s.mod.reg rTraceCtrl % 4 ≠ 0 ∧ s.mod.trace.state ≠ 1 ∧ s.mod.trace.state ≠ 2) ∧
    (Served (at_ .idle).mod ∧ (at_ .idle).mod.image.trace % 65536 = 0 ∧ (at_ .idle).mod.tracing = false ∧ (at_ .idle).mod.trace.stopReq = false) ∧
    (∃ s : State, s.mod.trace.stopReq = true ∧ s.mod.trace.Ok ∧ s.mod.image.trace % 65536 ≠ 0 ∧ s.mod.trace.fifo ≠ [] ∧
      s.mod.trace.sources.filter (fun e => e.2.lost != 0) ≠ []) ∧
    (Served (at_ .run (traced 0 [] true 0)).mod ∧ (at_ .run (traced 0 [] true 0)).mod.tracing = true) ∧
    -- what a source owes, the bits it holds and the FIFO
    [(0, false, 511), (0, true, 510), (0, true, 511), (0, true, 512), (0, false, 512), (1, false, 509), (1, false, 510), (1, false, 511)].all (fun e =>
      [[], [true]].all fun bits =>
        let m := (at_ .run (traced e.1 bits e.2.1 e.2.2)).mod
        m.tracing && m.sourceOn 0x3F && !m.sourceHalted 0x3F && (sfind m.trace.sources 0x3F).isSome && (m.source 0x3F).bits == bits &&
          (m.source 0x3F).lost == e.1 && (m.source 0x3F).needSync == e.2.1 && m.trace.fifo.length == e.2.2 && m.admits 0x3F == 512 &&
          bitOf (m.reg rTraceCtrl) 1 && bitOf (m.reg rTraceCores) (31 % 32) && m.couriers.run.getLsbD (31 % 32) &&
          decide ((m.source 0x3F).bits.length < 87)) = true ∧
    (at_ .run (traced 0 [] false 0)).mod.sourceOn 0x20 = false ∧
    (at_ .run (traced 0 (List.replicate 87 true) false 0)).mod.source 0x3F = { TraceSrc.init with bits := List.replicate 87 true, needSync := false } ∧
    -- class A: a record that begins a walk with room
    (let m := (at_ .run (fun m => { (m.setReg rTraceCtrl 1) with trace := { m.trace with state := 1, sources := [(0, { TraceSrc.init with needSync := false })] } })).mod
     m.tracing = true ∧ bitOf (m.reg rTraceCtrl) 0 = true ∧ m.trace.state = 1 ∧ (m.source 0).lost = 0 ∧ (m.source 0).needSync = false ∧
       (m.source 0).sinceSync < 255 ∧ m.trace.fifo.length + 2 ≤ m.admits 0) :=
  ⟨⟨at_ .idle (fun m => { m.setReg rTraceCtrl 1 with image := { m.image with trace := 1 } }), by unfold Served; decide⟩, by unfold Served; decide,
   ⟨at_ .run (fun m => { traced 1 [] false 3 m with
      image := { m.image with trace := 1 }, trace := { (traced 1 [] false 3 m).trace with stopReq := true } }),
    rfl, ⟨by decide, by decide⟩, by decide, by decide, by decide⟩, by unfold Served; decide, by decide +kernel, by decide, by decide, by decide⟩

theorem witness_SlotCommands :
    ((at_ .idle).mod.ctl.mode ≠ .lockdown ∧ 15 < (at_ .idle).mod.txn.slots.length) ∧
    ((at_ .idle).mod.pulseSlot 15 = false ∧ ((at_ .idle).mod.slot 15).state = 0) ∧
    (∃ s : State, s.mod.pulseSlot 15 = true ∧ (s.mod.slot 15).state ≠ 7 ∧ 15 < s.mod.txn.slots.length ∧ s.mod.ctl.mode ≠ .lockdown) ∧
    [1, 2, 3, 6, 7].all (fun k => let m := (at_ .idle (fun m => m.setSlot 0 { Slot.init with state := k })).mod
      (m.slot 0).state == k && !m.pulseSlot 0 && decide (0 < m.txn.slots.length)) = true :=
  ⟨by decide, by decide,
   ⟨at_ .run (fun m => { m with seq := { m.seq with dclkCfg := [(0, 2 ^ 31 + 2 ^ 30)] } }), by decide⟩, by decide⟩

/-- Slot 15 is VALIDATING. -/
def validating (scope : Bool) (records : List (BitVec 128)) (early whenMode : Nat) : State :=
  at_ .idle (fun m => m.setSlot 15 { Slot.init with state := 2, scope := scope, records := records, early := early, whenMode := whenMode })

theorem witness_SlotValidation :
    [validating true [] 0 1, validating false [] 0 1, validating false [] 0 4, validating false [] 0x11 1, validating false [0] 0 1].all
      (fun s => decide (15 < s.mod.txn.slots.length) && (s.mod.slot 15).state == 2) = true ∧
    (((validating false [] 0x11 1).mod.slot 15).early ≠ 0) ∧
    (let s := validating false [0] 0 1
     ∃ reason at_, s.mod.firstFault 15 false (s.mod.commitFolio (s.mod.slot 15)) [0] [] 0 = some (reason, at_)) ∧
    (let s := validating true [] 0 1
     (s.mod.slot 15).early = 0 ∧ (s.mod.slot 15).scope = true ∧ s.mod.firstFault 15 true none [] [] 0 = none) ∧
    (let s := validating false [] 0 1
     s.mod.commitFolio (s.mod.slot 15) = some s.mod.earliest ∧ s.mod.firstFault 15 false (some s.mod.earliest) [] [] 0 = none) ∧
    (validating false [] 0 4).mod.commitFolio ((validating false [] 0 4).mod.slot 15) = none :=
  ⟨by decide, by decide, ⟨_, _, rfl⟩, by decide, by decide, by decide⟩

/-- A preload of quire 255 into quarter 3 runs, under a policy, on an HBM with these counters. -/
def preloading (key policy : Nat) (ctr : SMap Nat) : State :=
  at_ .idle (fun m => { m.setReg rMemPolicy policy with
    txn := { m.txn with preload := some { key := key, quarter := 3, quires := [255] } }, hbm := { m.hbm with ctr := ctr } })

theorem witness_PreloadCommands :
    (∃ s : State, Served s.mod ∧ s.mod.txn.preload = none ∧ s.mod.residentTip 0x3F = some (3, [255]) ∧ s.mod.tipPending [255] = false ∧
      (∀ q ∈ [255], ∀ k, s.mod.shadowOf q ≠ .held k)) ∧
    (∃ s : State, Served s.mod ∧ s.mod.txn.preload = none ∧ s.mod.load.staged = true ∧
      s.mod.residentTip (nth 0x40 s.mod.seq.dkey (3 % 4)) = some (3, [255]) ∧ s.mod.tipPending [255] = false) ∧
    (∃ s : State, Served s.mod ∧ s.mod.residentTip 0x3F = some (3, [255]) ∧ ∃ q ∈ [255], ∃ k, s.mod.shadowOf q = .held k) ∧
    ([0x3F, 0x40].all fun key =>
      let m := (preloading key 0 []).mod
      m.txn.preload == some { key := key, quarter := 3, quires := [255] } && !m.tagsOut m.epEngine &&
        (m.treeRead (m.preloadSectors { key := key, quarter := 3, quires := [255] }) false).2.1) = true ∧
    ([0, 1].all fun policy =>
      let m := (preloading 0x3F policy [(0, 1)]).mod
      (m.preloadSectors { key := 0x3F, quarter := 3, quires := [255] }).any (fun k => sget 0 m.hbm.ctr k != 0) && m.reg rMemPolicy == policy &&
        !m.resetHeld && !m.load.epochStage && !m.load.epochDesign && !m.tagsOut m.epEngine) = true ∧
    ∃ s : State, s.mod.tagsOut s.mod.epEngine = true ∧ s.mod.txn.preload = some { key := 0x3F, quarter := 3, quires := [255] } :=
  ⟨⟨at_ .idle (resident .empty), by unfold Served; decide, rfl, by decide +kernel, by decide +kernel, by intro q hq k; simp at hq; subst hq; rw [show (at_ .idle (resident .empty)).mod.shadowOf 255 = Shadow.empty by decide]; nofun⟩,
   ⟨at_ .idle (fun m => { resident .empty m with load := { m.load with staged := true }, seq := { m.seq with dkey := [0x40, 0x40, 0x40, 0x3F] } }),
    by unfold Served; decide, rfl, rfl, by decide +kernel, by decide +kernel⟩,
   ⟨at_ .idle (resident (.held 3)), by unfold Served; decide, by decide +kernel, 255, List.mem_cons_self, 3, by decide⟩,
   by decide +kernel, by decide +kernel,
   at_ .idle (fun m => { m with
      txn := { m.txn with preload := some { key := 0x3F, quarter := 3, quires := [255] } }
      fabric := { m.fabric with tags := (List.range 128).map (fun k => { tag := 3968 + k, src := 0, dst := 0, addr := 0, issued := 0, quarantine := false, use := 0 }) } }),
   by decide +kernel, by decide⟩

/-- The last word of the space of a field of n bits. -/
def top (n : Nat) : BitVec 32 := BitVec.ofNat 32 (2 ^ n - 1)

theorem witness_InspectionReads :
    PageReads (at_ .idle).mod ∧ PageReads (at_ .frozen).mod ∧ PageReads (at_ .inspect).mod ∧
    ((top 29).toNat < 2 ^ 29 ∧ (top 22).toNat < 2 ^ 22 ∧ (top 18).toNat < 2 ^ 18 ∧ (top 12).toNat < 2 ^ 12) ∧
    ((BitVec.ofNat 32 (2 ^ 29 - 2048 + 511)).toNat < 2 ^ 29 ∧ (BitVec.ofNat 32 (2 ^ 29 - 2048 + 511)).toNat % 2048 < 512) ∧
    ((BitVec.ofNat 32 (2 ^ 31 - 2048 + 63)).toNat < 2 ^ 31 ∧ (BitVec.ofNat 32 (2 ^ 31 - 2048 + 63)).toNat % 2048 < 64 ∧
      ¬ (BitVec.ofNat 32 (2 ^ 31 - 2048 + 63)).toNat < 2 ^ 30) ∧
    ((BitVec.ofNat 32 (2 ^ 30 - 2048 + 29)).toNat < 2 ^ 30 ∧ (BitVec.ofNat 32 (2 ^ 30 - 2048 + 29)).toNat % 2048 < 30) ∧
    ((BitVec.ofNat 32 (2 ^ 18 - 64 + 15)).toNat < 2 ^ 18 ∧ (BitVec.ofNat 32 (2 ^ 18 - 64 + 15)).toNat / 16 % 4 = 0) ∧
    ∃ s : State, PageReads s.mod ∧ sget false s.mod.data.dmbValid 0 = true ∧ (sget 0 s.mod.data.dmbPar 0).toNat ≠ byteParity 8 (sget 0 s.mod.data.dmbData 0).toNat :=
  ⟨by unfold PageReads; decide, by unfold PageReads; decide, by unfold PageReads; decide, by decide, by decide, by decide, by decide, by decide,
   at_ .frozen (fun m => { m with data := { m.data with dmbData := [(0, 1)], dmbValid := [(0, true)] } }), by unfold PageReads; decide⟩

/-- Eight force entries at cells 0 to 7 of the last bit processor. -/
def eightForces : State :=
  opened .inspect (fun m => { m with data := { m.data with forces := [(262143, (List.range 8).map (fun c => { cell := c, value := true }))] } })

theorem witness_InspectionWrites :
    (PageWrites (opened .inspect).mod ∧ (1 : Word).toNat ≤ 1 ∧
      (top 29).toNat < 2 ^ 29 ∧ (top 22).toNat < 2 ^ 22 ∧ (top 30).toNat < 2 ^ 30 ∧ (top 18).toNat < 2 ^ 18 ∧
      (opened .inspect).mod.data.forced 262143 2047 = none ∧
      ((sget [] (opened .inspect).mod.data.forces 262143).filter (fun f => f.cell != 2047)).length < 8) ∧
    (PageWrites eightForces.mod ∧ (BitVec.ofNat 32 (262143 * 2048 + 7)).toNat < 2 ^ 29 ∧
      eightForces.mod.data.forced 262143 7 ≠ none) ∧
    8 ≤ ((sget [] eightForces.mod.data.forces 262143).filter (fun f => f.cell != 2047)).length := by
  unfold PageWrites; decide

theorem witness_InspectionElsewhere :
    (∃ s : State, s.mod.txn.inspStatus = 0xFF#8) ∧ (at_ .lockdown).mod.ctl.mode = .lockdown ∧ (∃ s : State, s.mod.pins.gated = true) ∧
    [Mode.reset, .load, .bringup, .linksvc, .selftest, .idle, .run, .step, .paced, .frozen, .inspect].all
      (fun k => decide ((at_ k).mod.txn.inspStatus ≠ 0xFF#8) && !(at_ k).mod.pins.gated && decide ((at_ k).mod.ctl.mode = k)) = true ∧
    ((1 : BitVec 24) ≠ 0 ∧ (top 30).toNat < 2 ^ 30 ∧ (top 29).toNat < 2 ^ 29 ∧ (1 : Word).toNat ≤ 1 ∧ (at_ .idle).mod.txn.slots.length = 16) ∧
    ((at_ .inspect).mod.start.wren = false ∧ (top 18).toNat < 2 ^ 18) ∧
    (∃ s : State, s.mod.ctl.mode = .run ∧ s.mod.txn.inspStatus ≠ 0xFF#8 ∧ s.mod.pins.gated = false ∧ s.mod.txn.slots.length = 16 ∧ s.mod.reg rWinSlot ≤ 15 ∧
      (s.mod.slot (s.mod.reg rWinSlot)).state = 1 ∧ (s.mod.slot (s.mod.reg rWinSlot)).scope = false ∧ (s.mod.slot (s.mod.reg rWinSlot)).winRecords = []) ∧
    15 < (at_ .idle).mod.reg rWinSlot :=
  ⟨⟨at_ .run (fun m => { m with txn := { m.txn with inspStatus := 0xFF } }), rfl⟩, by decide,
   ⟨at_ .idle (fun m => { m with pins := { m.pins with gated := true } }), rfl⟩, by decide, by decide, by decide,
   ⟨at_ .run (fun m => (m.setReg rWinSlot 15).setSlot 15 { Slot.init with state := 1 }), by decide⟩, by decide⟩

/-- Core 31 runs context 1023, with other contexts beside it. -/
def core31 (x : Ctx) (others : SMap Ctx) (m : Module) : Module :=
  { m with couriers := { m.couriers with run := BitVec.ofNat 32 (2 ^ 31), contexts := others ++ [(1023, { x with state := 2 })] } }

theorem witness_SchedulerCommands :
    (∃ s : State, swf Ctx.init s.mod.couriers.contexts = true ∧ s.mod.coreCtx 31 = some 1023 ∧ objReserved 0 = false ∧ s.mod.objReady 0 0 (s.mod.ctx 1023).pend = false ∧
      NotQueued s.mod 31 1023 ∧ (∀ e ∈ s.mod.couriers.contexts, e.2.state ≠ 3) ∧ (s.mod.ctx 0).state = 0 ∧ (s.mod.ctx 1023).state ≠ 0 ∧
      (s.mod.ctx 1023).home = 31 ∧ (s.mod.ctx 1023).failSelf = false ∧ s.mod.txn.pulses.getLsbD 63 = false ∧ s.mod.inSystem = false ∧ s.mod.txn.pulses = 0) ∧
    (∃ s : State, swf Ctx.init s.mod.couriers.contexts = true ∧ s.mod.coreCtx 31 = some 1023 ∧ s.mod.objReady 0 0 (s.mod.ctx 1023).pend = true ∧ s.mod.txn.pulses.getLsbD 63 = true ∧
      (s.mod.ctx 1023).failSelf = true) ∧
    (∃ s : State, swf Ctx.init s.mod.couriers.contexts = true ∧ s.mod.coreCtx 31 = some 1023 ∧ objReserved 0x5100 = true ∧
      ∃ e ∈ s.mod.txn.pulseCommit, e.2.getLsbD 63 = true) ∧
    (∃ s : State, swf Ctx.init s.mod.couriers.contexts = true ∧ s.mod.coreCtx 31 = some 1023 ∧ (s.mod.ctx 0).state ≠ 0 ∧ (s.mod.ctx 0).home ≠ 31) ∧
    (at_ .run).mod.coreCtx 31 = none ∧
    ∃ (s : State) (x : Ctx), s.mod.couriers.contexts = [(0, x)] ∧ x.state = 3 ∧ x.waitobj / 4096 = 5 ∧ x.waitArg ≤ s.mod.stew.now ∧
      s.mod.couriers.run.getLsbD x.home = true :=
  ⟨⟨at_ .run (core31 (Ctx.init 1023) []), by decide, by decide, by decide, by decide, by unfold NotQueued; decide, by decide⟩,
   ⟨at_ .run (fun m => { core31 { Ctx.init 1023 with pend := true, failSelf := true } [] m with txn := { m.txn with pulses := BitVec.ofNat 64 (2 ^ 63) } }), by decide⟩,
   ⟨at_ .run (fun m => { core31 (Ctx.init 1023) [] m with txn := { m.txn with pulseCommit := [(1, BitVec.ofNat 64 (2 ^ 63))] } }), by decide⟩,
   ⟨at_ .run (core31 (Ctx.init 1023) [(0, { Ctx.init 0 with state := 1 })]), by decide⟩, by decide,
   at_ .run (fun m => { m with couriers := { m.couriers with run := 1, contexts := [(0, { Ctx.init 0 with state := 3, waitobj := 0x5000 })] } }), _, rfl, by decide⟩

/-- Channel 255 enabled, with a configuration and a content; DMB 0 is its outbound queue and DMB 1 its inbound queue. -/
def chan255 (cfg : Nat) (ch : Channel) (m : Module) : Module :=
  let m := core31 (Ctx.init 1023) [] m
  { m.setReg (rChanCfg 255) (2 ^ 31 + cfg) with
    couriers := { m.couriers with channels := [(255, ch)] },
    data := { m.data with dmbDesc := [(0, BitVec.ofNat 64 (3 * 2 ^ 32 + 255 * 2 ^ 24)), (1, BitVec.ofNat 64 (2 * 2 ^ 32 + 255 * 2 ^ 24))],
                          queues := [(0, { Queue.init with tail := 1, count := 1 })] } }
/-- An entry of SEQ 0 in a state. -/
def entry (st len : Nat) : Channel := { Channel.init with entries := [(63, { Entry.init with state := st, len := len })] }

theorem witness_ChannelPage :
    (∃ s : State, PageOpen s.mod 31 255 ∧ s.mod.canTake 255 = false ∧ cfgPaired (s.mod.chanCfg 255) = false ∧
      (s.mod.chan 255).c2hFree ≠ 0 ∧ (s.mod.chan 255).allocated 63 = none ∧
      s.mod.outQueue 255 = some 0 ∧ (s.mod.data.queue 0).count ≠ 0) ∧
    (∃ s : State, PageOpen s.mod 31 255 ∧ cfgPaired (s.mod.chanCfg 255) = false ∧ (s.mod.chan 255).h2c = [[1]] ∧ (s.mod.chan 255).freeEntry = some 0) ∧
    (∃ s : State, PageOpen s.mod 31 255 ∧ cfgPaired (s.mod.chanCfg 255) = true ∧ s.mod.outQueue 255 = some 0 ∧ cfgReqw (s.mod.chanCfg 255) ≠ 0 ∧
      cfgReqw (s.mod.chanCfg 255) ≤ (s.mod.data.queue 0).count ∧ (s.mod.chan 255).freeEntry = some 0) ∧
    (∃ s : State, PageOpen s.mod 31 255 ∧ (sget Entry.init (s.mod.chan 255).entries 63).state = 1 ∧ 32 ≤ 32 ∧ s.mod.inQueue 255 ≠ none ∧
      (sget Entry.init (s.mod.chan 255).entries 0).state ≠ 1) ∧
    (∃ s : State, PageOpen s.mod 31 255 ∧ (s.mod.chan 255).c2hFree = 0 ∧ (s.mod.chan 255).allocated 63 ≠ none) ∧
    (at_ .run).mod.coreCtx 31 = none ∧
    ∃ s : State, (∃ n, s.mod.coreCtx 31 = some n) ∧ cfgEn (s.mod.chanCfg 255) = false :=
  ⟨⟨at_ .run (chan255 0 Channel.init), ⟨⟨1023, by decide⟩, by decide⟩, by decide +kernel⟩,
   ⟨at_ .run (chan255 0 { Channel.init with h2c := [[1]] }), ⟨⟨1023, by decide⟩, by decide⟩, by decide +kernel⟩,
   ⟨at_ .run (chan255 (2 ^ 30 + 256) Channel.init), ⟨⟨1023, by decide⟩, by decide⟩, by decide +kernel⟩,
   ⟨at_ .run (chan255 0 (entry 1 0)), ⟨⟨1023, by decide⟩, by decide⟩, by decide +kernel⟩,
   ⟨at_ .run (chan255 0 { Channel.init with c2hAlloc := 64 }), ⟨⟨1023, by decide⟩, by decide⟩, by decide +kernel⟩, by decide,
   at_ .run (core31 (Ctx.init 1023) []), ⟨1023, by decide⟩, by decide⟩

theorem witness_RingAndReplyCommands :
    ((255 : Nat) < 256 ∧ (at_ .idle).mod.ctl.mode ≠ .lockdown ∧ ((at_ .idle).mod.chan 255).credit ≠ 0) ∧
    (∃ s : State, s.mod.ctl.mode ≠ .lockdown ∧ (s.mod.chan 255).credit = 0) ∧
    (∃ s : State, ∃ e x, (s.mod.chan 255).oldest = some (e, x) ∧ x.state = 2 ∧ x.len = 32 ∧ x.len ≤ s.mod.inRoom 255) ∧
    ((at_ .run).mod.chan 255).oldest = none ∧
    (∃ s : State, (s.mod.chan 255).deadlines = [0] ∧ cfgDlstall (s.mod.chanCfg 255) = true) ∧
    (∃ s : State, s.mod.ctl.mode.running = true ∧ ∃ x ∈ s.mod.seq.stalls, x.cause = .deadline 255) ∧ (at_ .idle).mod.ctl.mode.running = false ∧
    ∃ s : State, s.mod.couriers.run.getLsbD 31 = true :=
  ⟨by decide, ⟨at_ .idle (chan255 0 { Channel.init with accepted := 64 }), by decide +kernel⟩,
   ⟨at_ .run (chan255 0 (entry 2 32)), _, _, rfl, by decide +kernel⟩, by decide,
   ⟨at_ .run (chan255 (2 ^ 28) { Channel.init with deadlines := [0] }), by decide⟩,
   ⟨at_ .run (stalled (.deadline 255)), by decide, _, List.mem_cons_self, rfl⟩, by decide, at_ .run (core31 (Ctx.init 1023) []), by decide⟩

/-- A packet from the host interface of die 8 to the memory controller of address 0. -/
def toHbm : Packet := { packet with dst := 0x120, src := 0x8C0 }

/-- A root register of the engine of sector 0 holds another tag than that of its child. -/
def badRoot : State := at_ .idle (fun m => { m with hbm := { m.hbm with trees := [(0, { Tree.init with roots := [(0, 1)] })] } })

theorem witness_MemoryPackets :
    ((opened .idle).mod.start.wren = true ∧ ReachesHbm (opened .idle).mod toHbm ∧ TreeGood (opened .idle).mod toHbm) ∧
    (at_ .idle).mod.start.wren = false ∧
    (ReachesHbm (at_ .idle).mod toHbm ∧ toHbm.len = 0 ∧ TreeGood (at_ .idle).mod toHbm) ∧
    (ReachesHbm (at_ .idle).mod { toHbm with len := 2 } ∧ { toHbm with len := 2 }.len ≠ 0 ∧ TreeGood (at_ .idle).mod { toHbm with len := 2 }) ∧
    (ReachesHbm badRoot.mod toHbm ∧ ¬ TreeGood badRoot.mod toHbm ∧ badRoot.mod.epochAt toHbm.addr = false ∧ badRoot.mod.reg rMemPolicy % 2 = 0 ∧ badRoot.mod.resetHeld = false) := by
  unfold ReachesHbm Reaches TreeGood TreeWhole; decide +kernel

/-- A packet to another module. -/
def away : Packet := { toHbm with dst := 4096 + 0x120 }
/-- Bundle 19 leads to module 1. -/
def routed (x : Bundle) : State := at_ .idle (fun m => { m.setReg (rModroute 1) (128 + 19) with bundles := [(19, x)] })

theorem witness_PacketArrivals :
    (Reaches (at_ .idle).mod toHbm ∧ endpointExists (toHbm.dst / 256 % 16) (toHbm.dst % 256) = true ∧
      queueFlits (sget [] (at_ .idle).mod.fabric.msgq toHbm.dst ++ [toHbm]) ≤ 64) ∧
    (∃ s : State, Reaches s.mod toHbm ∧ 64 < queueFlits (sget [] s.mod.fabric.msgq toHbm.dst ++ [toHbm])) ∧
    ((∃ s : State, s.mod.behind { toHbm with tag := 1 } = true) ∧ ∃ s : State, s.mod.pins.gated = true) ∧
    ((at_ .idle).mod.ctl.mode ≠ .lockdown ∧ (at_ .idle).mod.behind toHbm = false ∧ (at_ .idle).mod.pins.gated = false) ∧
    (∃ s : State, s.mod.ctl.mode ≠ .lockdown ∧ s.mod.pins.gated = false ∧
      [toHbm, { toHbm with op := opWR }, { toHbm with op := opPWR, ackreq := true }, { toHbm with op := opPWR }, { toHbm with op := opMSG }].all
        (fun p => !s.mod.behind p && s.mod.absorbs (s.mod.startOf p) p) = true) ∧
    (∃ s : State, ¬ ((s.mod.bundle 19).state = 1 ∧ (s.mod.bundle 19).pstate = 1) ∧ (s.mod.bundle 19).haveReq = 0 ∧ (s.mod.bundle 19).haveRsp = 0 ∧
      (s.mod.bundle 19).haveMsg = 0 ∧ s.mod.ctl.mode ≠ .lockdown ∧ s.mod.behind away = false ∧ s.mod.pins.gated = false ∧
      s.mod.absorbs (s.mod.startOf away) away = false ∧ away.dst / 4096 ≠ s.mod.disc.modnum ∧ s.mod.fabric.net.find? (samePacket away) = none ∧
      (s.mod.reg (rModroute (away.dst / 4096))).testBit 7 = true) ∧
    (∃ s : State, (s.mod.bundle 19).state = 1 ∧ (s.mod.bundle 19).pstate = 0 ∧ (s.mod.bundle 19).keepPkt.length < 64 ∧
      (s.mod.bundle 19).txPktQ = [] ∧ (s.mod.bundle 19).reqLeft = 0 ∧ (∀ f ∈ (s.mod.bundle 19).txq, f.rank ≠ 6) ∧ (s.mod.bundle 19).haveReq ≠ 0 ∧
      (s.mod.bundle 19).haveRsp ≠ 0 ∧ (s.mod.bundle 19).haveMsg ≠ 0 ∧ s.mod.behind away = false ∧
      s.mod.absorbs (s.mod.startOf away) away = false ∧ (s.mod.reg (rModroute (away.dst / 4096))).testBit 7 = true ∧
      s.mod.fabric.net.find? (samePacket away) = none ∧ (packetFlits { away with sr := false, hops := 0, route := 0 }).length = 1) ∧
    ([away, { away with op := opWR }, { away with op := opPWR, ackreq := true }, { away with op := opPWR }, { away with op := opMSG },
        { away with src := 0x2000, xhops := 15 }].all (fun p => !(at_ .idle).mod.behind p &&
      !(at_ .idle).mod.absorbs ((at_ .idle).mod.startOf p) p && p.dst / 4096 != (at_ .idle).mod.disc.modnum) = true ∧
      ((at_ .idle).mod.reg (rModroute (away.dst / 4096))).testBit 7 = false ∧ 15 ≤ min 15 (15 + 1)) ∧
    ((at_ .lockdown).mod.ctl.mode = .lockdown ∧ (at_ .lockdown).mod.behind toHbm = false ∧ (at_ .lockdown).mod.pins.gated = false ∧
      isHbm toHbm.dst = true ∧ (at_ .lockdown).mod.ctl.lockAt = (at_ .lockdown).mod.seq.cycle) ∧
    (let p := { toHbm with addr := 4 }
     Reaches (at_ .idle).mod p ∧ endpointExists (p.dst / 256 % 16) (p.dst % 256) = true ∧ (at_ .idle).mod.hbmAddrOk p = false) ∧
    (let p := { toHbm with dst := 0 }
     Reaches (at_ .idle).mod p ∧ endpointExists (p.dst / 256 % 16) (p.dst % 256) = true ∧ isHbm p.dst = false) :=
  let dead (m : Module) : Module := { m with fabric := { m.fabric with deadEp := [(0x120, true)] } }
  ⟨by unfold Reaches; decide +kernel,
   ⟨at_ .idle (fun m => { m with fabric := { m.fabric with msgq := [(0x120, List.replicate 64 toHbm)] } }), by unfold Reaches; decide +kernel⟩,
   ⟨⟨at_ .idle (fun m => { m with fabric := { m.fabric with net := [{ toHbm with op := opPWR }, { toHbm with tag := 1 }] } }), by decide +kernel⟩,
     at_ .idle (fun m => { m with pins := { m.pins with gated := true } }), rfl⟩, by decide +kernel,
   ⟨at_ .idle dead, by decide +kernel⟩,
   ⟨routed { Bundle.init with haveReq := 0, haveRsp := 0, haveMsg := 0 }, by decide +kernel⟩,
   ⟨routed { Bundle.init with state := 1, haveReq := 1, haveRsp := 1, haveMsg := 1 }, by decide +kernel⟩, by decide +kernel,
   by decide +kernel, by unfold Reaches; decide +kernel, by unfold Reaches; decide +kernel⟩

/-- A tag in use. -/
def tagged (tag use : Nat) (q : Bool) : TagUse := { tag := tag, src := 0, dst := 0, addr := 0, issued := 0, quarantine := q, use := use }
/-- A memory access of port 0. -/
def access (write : Bool) (tag : Option Nat) : MemAcc :=
  { portKey := 0, seqNo := 7, write := write, addr := 0, data := 0, waiting := false, tag := tag, issued := 0 }
/-- An answer to the NI of quire 0, from the memory controller of address 0. -/
def answer0 (m : Module) (tag status : Nat) : Packet := { packet with op := 8, dst := m.portEp 0, src := 0x120, tag := tag, status := status }

theorem witness_PacketAnswers :
    (∃ (s : State) (p : Packet) (t : TagUse) (a : MemAcc), Reaches s.mod p ∧ s.mod.fabric.tags.find? (fun t => t.tag == p.tag) = some t ∧
      t.quarantine = false ∧ t.use = 0 ∧ p.status = psOK ∧ s.mod.data.memAccs.find? (fun a => a.tag == some p.tag && !a.write) = some a) ∧
    (∃ (s : State) (p : Packet) (t : TagUse) (a : MemAcc), Reaches s.mod p ∧ s.mod.fabric.tags.find? (fun t => t.tag == p.tag) = some t ∧
      t.quarantine = false ∧ t.use = 0 ∧ p.status ≠ psOK ∧ s.mod.data.memAccs.find? (fun a => a.tag == some p.tag && !a.write) = some a ∧
      s.mod.ctl.mode.running = true) ∧
    (∃ (s : State) (p : Packet) (t : TagUse) (h : HostRead), Reaches s.mod p ∧ s.mod.fabric.tags.find? (fun t => t.tag == p.tag) = some t ∧
      t.quarantine = false ∧ t.use = 1 ∧ p.status = psOK ∧ s.mod.fabric.hostReads.find? (fun h => h.tags.contains p.tag) = some h ∧
      h.tags = [p.tag] ∧ h.bad = false ∧ p.data ≠ []) ∧
    (∃ (s : State) (p : Packet), Reaches s.mod p ∧ s.mod.fabric.tags.find? (fun t => t.tag == p.tag) = none) ∧
    (∃ (s : State) (p : Packet) (i : Nat), Reaches s.mod p ∧ p.dst = s.mod.epTxn ∧ s.mod.writerSlot p.addr p.tag = some i ∧
      i < s.mod.txn.slots.length ∧ (s.mod.slot i).rolling = false ∧ (s.mod.slot i).rewriting = false ∧ 1 < (s.mod.slot i).hbmwrOut.length) ∧
    (∃ (s : State) (p : Packet), Reaches s.mod p ∧ p.dst = s.mod.epTrigger ∧ s.mod.trig.capOut = some [p.addr] ∧ s.mod.trig.capOld = 0 ∧
      s.mod.trig.capStream = true) ∧
    (∃ (s : State) (p : Packet), Reaches s.mod p ∧ p.dst = s.mod.epTrigger ∧ p.status = psMac ∧ 1 ≤ s.mod.trig.capState ∧
      s.mod.trig.capState ≤ 3 ∧ s.mod.trig.capOut = none) ∧
    (∃ (s : State) (p : Packet), Reaches s.mod p ∧ p.dst = s.mod.epFunnel ∧ p.status = psMac ∧ s.mod.trace.state = 2 ∧ s.mod.trace.stopReq = false) ∧
    ∃ (s : State) (p : Packet) (a : MemAcc), Reaches s.mod p ∧ p.dst ≠ s.mod.epTxn ∧ p.dst ≠ s.mod.epTrigger ∧ p.dst ≠ s.mod.epFunnel ∧
      s.mod.data.memAccs.find? (fun a => a.write && !a.waiting && a.tag == some p.tag && a.addr == p.addr && s.mod.portEp a.portKey == p.dst) = some a ∧
      s.mod.ctl.mode.running = true :=
  let reading (m : Module) : Module :=
    { m with fabric := { m.fabric with tags := [tagged 383 0 false] }, data := { m.data with memAccs := [access false (some 383)] } }
  let host (m : Module) : Module :=
    { m with fabric := { m.fabric with tags := [tagged 3583 1 false], hostReads := [{ addr := 0, len := 32, span := 32, tags := [3583], got := [], bad := false, page := none }] } }
  let writer (m : Module) : Module := m.setSlot 15 { Slot.init with state := 5, hbmwrOut := [(0, 3840), (64, 3841)] }
  ⟨⟨at_ .run reading, answer0 (at_ .run).mod 383 0, _, _, by unfold Reaches; decide +kernel, rfl, rfl, rfl, rfl, rfl⟩,
   ⟨at_ .run reading, answer0 (at_ .run).mod 383 1, _, _, by unfold Reaches; decide +kernel, rfl, rfl, rfl, by decide, rfl, by decide⟩,
   ⟨at_ .idle host, { answer0 (at_ .idle).mod 3583 0 with dst := 0x860, data := [0] }, _, _, by unfold Reaches; decide +kernel, rfl, rfl, rfl, rfl, rfl, rfl, rfl, by decide⟩,
   ⟨at_ .idle, answer0 (at_ .idle).mod 0 0, by unfold Reaches; decide +kernel, rfl⟩,
   ⟨at_ .run writer, { answer0 (at_ .run).mod 3840 0 with dst := (at_ .run).mod.epTxn }, 15, by unfold Reaches; decide +kernel, rfl, by decide +kernel, by decide⟩,
   ⟨at_ .run (fun m => { m with trig := { m.trig with capOut := some [0], capStream := true } }), { answer0 (at_ .run).mod 0 0 with dst := (at_ .run).mod.epTrigger },
     by unfold Reaches; decide +kernel, rfl, rfl, rfl, rfl⟩,
   ⟨at_ .run (fun m => { m with trig := { m.trig with capState := 2 } }), { answer0 (at_ .run).mod 0 psMac with dst := (at_ .run).mod.epTrigger },
     by unfold Reaches; decide +kernel, by decide +kernel⟩,
   ⟨at_ .run (fun m => { m with trace := { m.trace with state := 2 } }), { answer0 (at_ .run).mod 0 psMac with dst := (at_ .run).mod.epFunnel },
     by unfold Reaches; decide +kernel, by decide +kernel⟩,
   at_ .run (fun m => { m with data := { m.data with memAccs := [access true (some 7)] } }), answer0 (at_ .run).mod 7 0, access true (some 7),
     by unfold Reaches; decide +kernel, by decide +kernel, by decide +kernel, by decide +kernel, by decide +kernel, by decide⟩

theorem witness_TagAndStatisticsCommands :
    (∃ (s : State) (t : TagUse) (h : HostRead), s.mod.fabric.tags.find? (fun t => t.tag == 3583 && !t.quarantine && t.use != 0 && t.use != 3) = some t ∧
      sget 0 s.mod.fabric.timeouts t.dst = 2 ∧ t.dst / 4096 = s.mod.disc.modnum ∧ t.use = 1 ∧
      s.mod.fabric.hostReads.find? (fun h => h.tags.contains 3583) = some h ∧ h.tags = [3583]) ∧
    (at_ .run).mod.fabric.tags.find? (fun t => t.tag == 4095 && !t.quarantine && t.use != 0 && t.use != 3) = none ∧
    (∃ s : State, ∃ t ∈ s.mod.fabric.tags, t.tag = 4095 ∧ t.quarantine = true) ∧
    (List.range 36).find? (fun k => linkOutput (k / 2) (k % 2) == linkOutput 17 1) = some 35 ∧
    ((List.range 36).find? (fun k => linkOutput (k / 2) (k % 2) == outputCode (bundleRouter 19) 4) = none ∧
      (List.range 20).find? (fun b => outputCode (bundleRouter b) 4 == outputCode (bundleRouter 19) 4) = some 19) ∧
    ((List.range 36).find? (fun k => linkOutput (k / 2) (k % 2) == outputCode (1, 1, 0) 4) = none ∧
      (List.range 20).find? (fun b => outputCode (bundleRouter b) 4 == outputCode (1, 1, 0) 4) = none ∧
      ∃ (s : State) (p : Packet), s.mod.fabric.net.find? (fun p => p.op < opMSG && s.mod.crosses (outputCode (1, 1, 0) 4) p) = some p) ∧
    (at_ .run).mod.fabric.net.find? (fun p => p.op < opMSG && (at_ .run).mod.crosses (outputCode (1, 1, 0) 4) p) = none ∧
    Served (at_ .idle).mod ∧ 2 ^ 20 - 1 < 2 ^ 20 :=
  ⟨⟨at_ .idle (fun m => { m with fabric := { m.fabric with tags := [tagged 3583 1 false], timeouts := [(0, 2)], hostReads := [{ addr := 0, len := 32, span := 32, tags := [3583], got := [], bad := false, page := none }] } }), _, _, rfl, by decide, by decide, rfl, rfl, rfl⟩,
   by decide, ⟨at_ .idle (fun m => { m with fabric := { m.fabric with tags := [tagged 4095 1 true] } }), _, List.mem_cons_self, rfl, rfl⟩,
   by decide +kernel, by decide +kernel,
   ⟨by decide +kernel, by decide +kernel, at_ .idle (fun m => { m with fabric := { m.fabric with net := [toHbm] } }), toHbm, by decide +kernel⟩,
   by decide, by unfold Served; decide, by decide⟩

/-- A direction of link 0 waits for the acknowledgement of SEQ 1. -/
def linked (dir passes : Nat) (mode : Mode) (at' : Option (Nat × Bool) := none) : State :=
  at_ mode (fun m => m.setDieLink 0 dir { DieLink.init with unacked := [(1, [])], passes := passes, passAt := at' })

/-- A frame with the one flit of a packet to the die controller of die 0. -/
def toDie : DieFrame := { frame with vcmap := [1, 0, 0, 0], flits := [packetFlit { packet with src := 0x8C0 }] }

theorem witness_DieLinkFrames :
    ((let fs := (toDie.flits.zip toDie.vcmap).filterMap (fun e => if e.2 = 0 then none else some (e.2, e.1))
      let r := takePackets 16 (((at_ .idle).mod.dieLink 0 1).rxq ++ fs)
      (r.1.length == 1 && (nth packet r.1 0) == { packet with src := 0x8C0 } && (at_ .idle).mod.aimOf (nth packet r.1 0) == some (0, 0, 0)) = true) ∧
      toDie.crcOk = true ∧ toDie.seq = ((at_ .idle).mod.dieLink 0 1).rxSeq) ∧
    (frame.crcOk = true ∧ frame.seq = ((at_ .idle).mod.dieLink 0 1).rxSeq ∧ (1 : Nat) < 2) ∧
    ({ frame with seq := 255 }.seq ≠ ((at_ .idle).mod.dieLink 0 1).rxSeq ∧ ((at_ .idle).mod.dieLink 0 1).nakSent = false) ∧
    (let s := linked 0 6 .idle (some (1, false))
     let back := s.mod.dieLink 0 (1 - 1)
     back.unacked ≠ [] ∧ (∀ u ∈ back.unacked, u.1 ≠ frame.ack) ∧ back.passes < 7 ∧ back.passAt ≠ some (s.mod.seq.cycle, false)) ∧
    ({ frame with crcOk := false }.crcOk = false ∧ ((at_ .idle).mod.dieLink 0 1).nakSent = false) ∧
    (((linked 1 6 .idle).mod.dieLink 0 1).unacked ≠ [] ∧ ((linked 1 6 .idle).mod.dieLink 0 1).passes < 7 ∧
      ((linked 1 6 .idle).mod.dieLink 0 1).passAt ≠ some ((linked 1 6 .idle).mod.seq.cycle, true)) ∧
    (((linked 1 7 .run).mod.dieLink 0 1).unacked ≠ [] ∧ ((linked 1 7 .run).mod.dieLink 0 1).passes = 7 ∧ (linked 1 7 .run).mod.ctl.mode.running = true ∧
      ((linked 1 7 .run).mod.dieLink 0 1).passAt ≠ some ((linked 1 7 .run).mod.seq.cycle, true)) ∧
    (let s := linked 1 0 .run (some (0, true))
     (s.mod.dieLink 0 1).passAt = some (s.mod.seq.cycle, true)) ∧
    ((at_ .idle).mod.dieLink 0 1).unacked = [] := by decide

/-- The transaction endpoint is dead. -/
def txnDead : State := at_ .run (fun m => { m with fabric := { m.fabric with deadEp := [(m.epTxn % 4096, true)] } })

theorem witness_HostPortReads :
    ((at_ .lockdown).mod.ctl.mode = .lockdown ∧ 2 ≠ 0) ∧ ((at_ .run).mod.ctl.mode ≠ .lockdown ∧ (at_ .run).mod.ctl.mode ≠ .inspect) ∧
    ([(0, slotBase + 15 * slotSpan + 0x10), (0, chanBase + 255 * 65536 + 0x118), (2, 0x10)].all (fun e =>
      (at_ .run).mod.pageDead e.1 e.2 true == none && !(at_ .run).mod.pageHeld e.1 e.2) = true) ∧
    ([(0, slotBase), (2, 4095)].all (fun e => (txnDead.mod.pageDead e.1 e.2 true).isSome) = true) ∧
    (∃ s : State, s.mod.ctl.mode ≠ .lockdown ∧ ([(0, slotBase), (2, 4095)].all (fun e =>
      s.mod.pageDead e.1 e.2 true == none && s.mod.pageHeld e.1 e.2) = true)) ∧
    (∃ s : State, s.mod.ctl.mode ≠ .lockdown ∧ s.mod.ctl.mode ≠ .inspect ∧ designAt ≤ designAt ∧ designAt - designAt < regSizeB s.mod.image.design) ∧
    (4096 ≤ 4096 ∧ 4096 < designAt ∧ regSizeB (at_ .run).mod.image.design ≤ designAt - designAt ∧ 512 ≤ 512) ∧
    (∃ s : State, s.mod.ctl.mode ≠ .lockdown ∧ 0 < traceAt ∧ 0 < 64 ∧ 0 + 64 ≤ regSizeB s.mod.image.capture ∧
      (sectorsIn (regBaseB s.mod.image.capture + 0) 64).length ≤ s.mod.hostTags.length) ∧
    ∃ (s : State) (h : HostRead), s.mod.fabric.hostReads.find? (fun h => h.tags.contains 3072) = some h :=
  ⟨by decide, by decide, by decide +kernel, by decide +kernel,
   ⟨at_ .run (fun m => { m with pins := { m.pins with gated := true } }), by decide +kernel⟩,
   ⟨at_ .run (fun m => { m with image := { m.image with design := 1 } }), by decide⟩, by decide,
   ⟨at_ .run (fun m => { m with image := { m.image with capture := 1 } }), by decide +kernel⟩,
   at_ .run (fun m => { m with fabric := { m.fabric with hostReads := [{ addr := 0, len := 32, span := 32, tags := [3072], got := [], bad := false, page := none }] } }), _, rfl⟩

theorem witness_HostPortWrites :
    (0x80FF + [(0 : Byte)].length ≤ 0x8100 ∧ [(0 : Byte)].length ≤ 512 ∧ (at_ .idle).mod.pageDead 0 0x80FF false = none) ∧
    (∃ bs : List Byte, 512 < bs.length) ∧ (at_ .lockdown).mod.ctl.mode = .lockdown ∧
    ((at_ .idle).mod.ctl.mode ≠ .lockdown ∧ 15 < (at_ .idle).mod.txn.slots.length ∧ (at_ .idle).mod.txn.inspStatus ≠ 0xFF#8 ∧
      (at_ .idle).mod.ctl.mode ≠ .inspect ∧ designAt ≤ designAt ∧ (at_ .idle).mod.pins.gated = false) ∧
    ([(0, slotBase + 15 * slotSpan), (0, chanBase + 255 * 65536 + 0x100), (0, chanBase + 255 * 65536 + 0x120), (2, 0),
        (0, slotBase + 15 * slotSpan + 0x1000 + 16 * 4095)].all (fun e => (at_ .idle).mod.pageDead e.1 e.2 false == none) = true) ∧
    (∃ s : State, s.mod.ctl.mode ≠ .lockdown ∧ 15 < s.mod.txn.slots.length ∧ (s.mod.slot 15).state = 1) ∧
    ([(0, slotBase), (2, 4095)].all (fun e => (txnDead.mod.pageDead e.1 e.2 false).isSome) = true) ∧
    ∃ s : State, s.mod.ctl.mode ≠ .lockdown ∧ ([(0, slotBase), (2, 4095)].all (fun e =>
      s.mod.pageDead e.1 e.2 false == none && s.mod.pageGated e.1 e.2) = true) :=
  ⟨by decide +kernel, ⟨List.replicate 513 0, by rw [List.length_replicate]; decide⟩, by decide, by decide, by decide +kernel,
   ⟨at_ .run (fun m => m.setSlot 15 { Slot.init with state := 1 }), by decide⟩, by decide +kernel,
   at_ .run (fun m => { m with pins := { m.pins with gated := true } }), by decide +kernel⟩

/-- An Ethernet frame from outside, to an address that ends in v: its type, and the message type and flags of a PTP message. -/
def ether (v a b kind flags : Byte) : List Byte :=
  [0, 0, 0, 0, 0, v] ++ List.replicate 6 0 ++ [a, b, kind, 0, 0, 0, 0, 0, flags, 0] ++ List.replicate 24 0

/-- Some frame is for neither management port. -/
theorem ether_elsewhere (a b kind flags : Byte) : ∃ v,
    beNat ((ether v a b kind flags).take 6) ≠ (Config.mac 0).toNat ∧ beNat ((ether v a b kind flags).take 6) ≠ (Config.mac 1).toNat := by
  have h (v : Byte) : (ether v a b kind flags).take 6 = [0, 0, 0, 0, 0, v] := rfl
  have h0 : beNat [(0 : Byte), 0, 0, 0, 0, 0] = 0 := by decide
  have h1 : beNat [(0 : Byte), 0, 0, 0, 0, 1] = 1 := by decide
  have h2 : beNat [(0 : Byte), 0, 0, 0, 0, 2] = 2 := by decide
  by_cases c0 : (Config.mac 0).toNat = 0 ∨ (Config.mac 1).toNat = 0
  · by_cases c1 : (Config.mac 0).toNat = 1 ∨ (Config.mac 1).toNat = 1
    · exact ⟨2, by rw [h, h2]; omega⟩
    · exact ⟨1, by rw [h, h1]; omega⟩
  · exact ⟨0, by rw [h, h0]; omega⟩

theorem witness_RequestFrames :
    (∃ s : State, s.mod.stew.mbBusy = false ∧ readBytes s.mod.stew.reqArea 0 32 = statusFrame (2 ^ 32 - 1) (2 ^ 64 - 1) ∧
      (∀ k ∈ s.mod.stew.kept, k.seq ≠ 2 ^ 32 - 1)) ∧
    (∃ s : State, s.mod.stew.mbBusy = true) ∧
    (∃ s : State, s.mod.reg (ent 0x1100 (3 + 1)) ≠ 0 ∧ (∀ k ∈ s.mod.stew.kept, k.seq ≠ 0) ∧
      s.mod.stew.parts.find? (fun r => r.port == 1 && r.src == 2 ^ 32 - 1 && r.ident == 65535) = none) ∧
    (∃ s : State, ∃ r, s.mod.reg (ent 0x1100 (3 + 1)) ≠ 0 ∧
      s.mod.stew.parts.find? (fun r => r.port == 1 && r.src == 2 ^ 32 - 1 && r.ident == 65535) = some r ∧ r.pieces = [(0, [0#8])]) ∧
    ((beNat ((([] : List Byte).drop 2).take 2) ≠ 50417 ∧ ([] : List Byte).length < 40) ∧
      ∃ s : State, ({ fragment with dst := 1 } : Fragment).dst = s.mod.reg (ent 0x1100 (3 + 1)) ∧ ({ fragment with dst := 1 } : Fragment).dst ≠ 0) ∧
    (at_ .idle).mod.reg (ent 0x1100 (3 + 0)) = 0 ∧
    -- a frame for none of the ports: no PTP message, a one-step Sync, a Delay_Req, a two-step Sync, a Follow_Up
    [(0, 0, 0, 0), (0x88, 0xF7, 0, 0), (0x88, 0xF7, 1, 0), (0x88, 0xF7, 0, 2), (0x88, 0xF7, 8, 0)].all (fun (e : Byte × Byte × Byte × Byte) =>
      let f := ether 0 e.1 e.2.1 e.2.2.1 e.2.2.2
      (beNat ((f.drop 12).take 2) == 0x88F7) == (e.1 == 0x88) && beNat ((f.drop 14).take 1) % 16 == e.2.2.1.toNat &&
        (beNat ((f.drop 20).take 1)).testBit 1 == (e.2.2.2 == 2)) = true ∧
    (∃ s : State, s.mod.stew.waitingReq = some (0, 0, []) ∧ s.mod.stew.reqQ = []) ∧
    ((at_ .idle).mod.stew.waitingReq = none ∧ (at_ .idle).mod.stew.lastStatus ≠ 0xFF#8) :=
  ⟨⟨at_ .idle (fun m => { m with stew := { m.stew with reqArea := writeBytes [] 0 (statusFrame (2 ^ 32 - 1) (2 ^ 64 - 1)) } }), by decide +kernel⟩,
   ⟨at_ .idle (fun m => { m with stew := { m.stew with mbBusy := true } }), rfl⟩, ⟨at_ .idle (reg_ (ent 0x1100 4) 1), by decide⟩,
   ⟨at_ .idle (fun m => { reg_ (ent 0x1100 4) 1 m with stew := { m.stew with parts := [{ port := 1, src := 2 ^ 32 - 1, ident := 65535, pieces := [(0, [0#8])], total := none }] } }),
     _, by decide, rfl, rfl⟩,
   ⟨by decide, at_ .idle (reg_ (ent 0x1100 4) 1), by decide⟩, by decide, by decide,
   ⟨at_ .idle (fun m => { m with stew := { m.stew with waitingReq := some (0, 0, []) } }), rfl, rfl⟩, by decide⟩

/-- A frame for the module itself. -/
theorem witness_RequestFrames_own : ∃ frame : List Byte, beNat (frame.take 6) = (Config.mac 0).toNat := by
  refine ⟨beBytes 6 (Config.mac 0).toNat, ?_⟩
  have h : ∀ v : BitVec 48, beNat ((beBytes 6 v.toNat).take 6) = v.toNat := by
    intro v
    simp only [beNat, beBytes, leBytes, List.reverse_cons, List.reverse_nil, List.nil_append, List.cons_append, List.take_succ_cons,
      List.take_nil, List.foldl_cons, List.foldl_nil, BitVec.toNat_ofNat]
    omega
  exact h _

theorem witness_RequestChecks :
    ((at_ .lockdown).mod.ctl.mode = .lockdown ∧ guaranteed true 0x2100 2 [] = false ∧ (Priv.admin = .vendor → vendorIndex 0x2100 = false)) ∧
    ((at_ .idle).mod.ctl.mode ≠ .lockdown ∧ entryInfo 0x2100 0xFF = none) ∧
    (entryInfo 0x2100 2 = some (.rwi, 4) ∨ ∃ a n, entryInfo 0x2100 2 = some (a, n) ∧ privOk .oper (writePriv 0x2100 2) = false ∧
      privOk .admin (writePriv 0x2100 2) = true ∧ a ≠ .const ∧ a ≠ .ro ∧ lenFits n n = true ∧ lenFits n 0 = false ∧ onIsland 0x2100 2 = false) ∧
    (∃ n, entryInfo 0x2000 1 = some (.ro, n) ∧ privOk .admin (writePriv 0x2000 1) = true) ∧
    State.reset.mod.pins.suppliesGood = false ∧ (at_ .idle).mod.pins.suppliesGood = true ∧ (at_ .run).mod.ctl.mode ≠ .idle ∧
    leNat [(1 : Byte), 0, 0, 0] % 256 ≠ 0 ∧ leNat [(0 : Byte), 1, 0, 0] % 256 = 0 := by
  refine ⟨by decide, by decide, Or.inr ⟨_, _, rfl, by decide⟩, ⟨_, rfl, by decide⟩, by decide⟩

/-- Bundle 19 is up with this content, in a mode, and its lane 7 with this one. -/
def lane19 (x : Bundle) (mode : Mode := .run) (y : Lane := Lane.init) : State :=
  at_ mode (fun m => ({ m with bundles := [(19, { x with state := 1 })], seq := { m.seq with cycle := 2 ^ 32 } }).setLane 159 y)
/-- A packet that no die has. -/
def stray : Sys2Proof.Packet := { packet with op := 5 }

theorem witness_LaneFrames :
    (((lane19 Bundle.init).mod.bundle 19).state = 1 ∧ QuietBlock ((lane19 Bundle.init).mod.bundle 19) still ∧
      ((lane19 Bundle.init).mod.lane (8 * 19 + 7)).phase ≠ some .verify) ∧
    [1022, 1023].all (fun n => let y := (lane19 Bundle.init .run { Lane.init with phase := some .verify, good := n }).mod.lane (8 * 19 + 7)
      y.phase == some .verify && y.good == n) = true ∧
    (let x := { Bundle.init with state := 1, keepStatic := [(7, 0, true)], keepPrio := [(7, .msix 0, .idle)], keepPkt := [(7, 0, 0)] }
     (lane19 x).mod.bundle 19 = x ∧ x.keepStatic.find? (fun f => f.1 == 7) = some (7, 0, true) ∧
       x.keepPrio.find? (fun f => f.1 == 7) = some (7, .msix 0, .idle) ∧ x.keepPkt.find? (fun f => f.1 == 7) = some (7, 0, 0) ∧
       (∀ u ∈ x.keepPkt, u.1 ≠ still.ackPkt) ∧ x.resent ≠ some (x.period, 7, false) ∧ x.resent.any (fun r => r.2.1 == 7) = false ∧ 1 < 8 ∧
       (∀ u ∈ x.keepPkt, u.1 ≠ 8) ∧ 8 ≠ x.txPkt ∧
       x.keepStatic.find? (fun f => f.1 == 8) = none ∧ (lane19 x).mod.ctl.mode.running = true ∧
       QuietBlock x { still with nclass := 1, nseq := 7 }) ∧
    (let x := { Bundle.init with state := 1, keepPkt := [(7, 0, 0)], resent := some (0, 7, true), pktResends := 7 }
     x.keepPkt.find? (fun f => f.1 == 7) = some (7, 0, 0) ∧ x.resent ≠ some (x.period, 7, false) ∧ x.resent.any (fun r => r.2.1 == 7) = true ∧
       8 ≤ x.pktResends + 1 ∧ QuietBlock x { still with nclass := 2, nseq := 7 }) ∧
    (let s := lane19 { Bundle.init with rxStatic := 255, rxPkt := 255 }
     let x := s.mod.bundle 19
     x.oooStatic = [] ∧ x.storeNext = [] ∧ x.rxStatic < 256 ∧ x.rxPkt < 256 ∧ x.oooPkt = [] ∧ 0 < seqDist x.rxStatic 126 ∧ seqDist x.rxStatic 126 < 128 ∧
       x.gapStatic = [] ∧ 128 ≤ seqDist x.rxStatic 127 ∧ s.mod.seq.phase ≠ .issuing ∧ x.gotBits = false ∧
       QuietBlock x { still with lsStatic := 254, lsPkt := 254 }) ∧
    (let x := (lane19 { Bundle.init with gapStatic := [0] }).mod.bundle 19
     x.gapStatic = (List.range (seqDist x.rxStatic 1)).map (fun i => (x.rxStatic + i) % 256)) ∧
    (let x := (lane19 { Bundle.init with gotBits := true }).mod.bundle 19
     x.gotBits = true) ∧
    (∃ s : State, (s.mod.bundle 19).state = 1 ∧ s.mod.seq.phase = .issuing) ∧
    -- a whole packet, one with a reserved OP, and a flit that completes none
    ([packet, stray].all (fun p => (takePackets 64 [(1, packetFlit p)]).1 == [p]) = true ∧ packet.op ∈ [0, 1, 2, 3, 8, 9, 10] ∧
      stray.op ∉ [0, 1, 2, 3, 8, 9, 10] ∧ (at_ .run).mod.routerDead (bundleRouter 19) = false ∧
      ((takePackets 64 [(1, packetFlit { packet with op := 1, len := 1 })]).1 == []) = true) :=
  ⟨by unfold QuietBlock; decide, by decide, by unfold QuietBlock; decide, by unfold QuietBlock; decide, by unfold QuietBlock; decide, by decide, by decide,
   ⟨at_ .run (fun m => { issuing [0] m with bundles := [(19, { Bundle.init with state := 1 })] }), by decide⟩, by decide +kernel⟩

theorem witness_LaneReplay :
    (({ Bundle.init with gapPrio := [255, 0] } : Bundle).gaps 3 = [255, 0] ∧ Bundle.init.gaps 1 = []) ∧
    [(6, none, 1), (6, some (0, 255, false), 7), (7, some (0, 255, false), 8)].all (fun e =>
      let x := (lane19 { Bundle.init with keepPkt := [(255, 3, 0)], pktResends := e.1, resent := e.2.1 }).mod.bundle 19
      x.state == 1 && x.pstate != 1 && x.keepPkt == [(255, 3, 0)] && x.resent != some (x.period, 255, true) &&
        (if x.resent.any (fun r => r.2.1 == 255) then x.pktResends + 1 else 1) == e.2.2) = true ∧
    (let x := (lane19 { Bundle.init with pstate := 1, keepPkt := [(255, 3, 0)] }).mod.bundle 19
     x.state = 1 ∧ x.pstate = 1 ∧ x.keepPkt = [(255, 3, 0)] ∧ x.resent = none) ∧
    (let x := (lane19 { Bundle.init with keepPkt := [(255, 3, 0)], resent := some (0, 255, true) }).mod.bundle 19
     x.keepPkt = [(255, 3, 0)] ∧ x.resent = some (x.period, 255, true)) ∧
    ((lane19 Bundle.init).mod.bundle 19).keepPkt = [] ∧
    [1, 2, 3].all (fun cls => !((lane19 Bundle.init).mod.bundle 19).holds cls (((lane19 Bundle.init).mod.bundle 19).expected cls % 256)) = true ∧
    (∃ s : State, (s.mod.bundle 19).state = 1 ∧ (s.mod.lane 159).healthy = true ∧ s.mod.reg (rBundleCfg 19) % 256 ≤ s.mod.windowErrs 159 ∧
      ∃ k ∈ lanesOf 19, k ≠ 159 ∧ (s.mod.lane k).healthy = true) ∧
    (∃ s : State, (s.mod.bundle 19).state = 1 ∧ (s.mod.lane 159).healthy = true ∧ ∀ k ∈ lanesOf 19, k ≠ 159 → (s.mod.lane k).healthy = false) ∧
    ((lane19 Bundle.init).mod.lane 159).healthy = false :=
  let good (ls : List Nat) : State := at_ .run (fun m => ls.foldl (fun (m : Module) k => m.setLane k { Lane.init with trained := true, errAt := List.replicate 255 0 })
    { m with bundles := [(19, { Bundle.init with state := 1 })] })
  ⟨by decide, by decide, by decide, by decide, by decide, by decide, ⟨good [152, 159], by decide +kernel, by decide +kernel, by decide +kernel, 152, by decide +kernel⟩,
   ⟨good [159], by decide +kernel⟩, by decide⟩

theorem witness_LanePowerCommands :
    ((lane19 Bundle.init).mod.mayQuiet 19 = true ∧ ((lane19 Bundle.init).mod.bundle 19).quietPending = false) ∧
    -- a QUIET_REQ that is granted, and one that is refused
    ([(0, true), (1, false)].all (fun e => let a := (lane19 { Bundle.init with rxPkt := e.1 }).mod.takeBlock 19 still
      ((lane19 { Bundle.init with rxPkt := e.1 }).mod.bundle 19).state == 1 && !(a.bundle 19).quietPending) = true) ∧
    (((lane19 Bundle.init).mod.takeBlock 19 still).mayQuiet 19 = true ∧
      ((lane19 { Bundle.init with busyAt := 2 ^ 32 }).mod.takeBlock 19 still).mayQuiet 19 = false) ∧
    (let y := ((lane19 { Bundle.init with quietPending := true, nbr := some 1 }).mod.takeBlock 19 still).bundle 19
     y.quietPending = true ∧ y.nbr = some 1 ∧ (lane19 Bundle.init).mod.disc.modnum < 1) ∧
    (let y := ((lane19 { Bundle.init with quietPending := true }).mod.takeBlock 19 still).bundle 19
     y.quietPending = true ∧ y.carries = true ∧ y.txPktQ = [] ∧ y.txq = []) ∧
    (let y := ((lane19 { Bundle.init with quietPending := true, txq := [{ rank := 5, seq := 0, body := .idle }] }).mod.takeBlock 19 still).bundle 19
     y.quietPending = true ∧ y.carries = true ∧ y.txq ≠ []) ∧
    ((at_ .run).mod.bundle 19).state ≠ 1 ∧
    (∃ s : State, s.mod.ctl.mode ≠ .linksvc ∧ (s.mod.bundle 19).carries = true ∧ (s.mod.bundle 19).txPktQ = [] ∧
      (s.mod.bundle 19).txq = [{ rank := 1, seq := 0, body := .lctl 3 0 0 0 }] ∧
      ∃ l ∈ lanesOf 19, (s.mod.lane l).healthy = true ∧ (s.mod.lane l).phase ≠ some .verify) ∧
    (let x := (lane19 { Bundle.init with pstate := 1 }).mod.bundle 19
     x.state = 1 ∧ x.pstate = 1) ∧
    (∃ s : State, s.mod.reg (rBundleCfg 19) / 256 % 4 = 2 ∧ (s.mod.bundle 19).state ≠ 2) ∧
    (at_ .run).mod.reg (rBundleCfg 19) / 256 % 4 ≠ 2 :=
  ⟨by decide, by decide +kernel, by decide +kernel, by decide +kernel, by decide +kernel, by decide +kernel, by decide,
   ⟨at_ .run (fun m => ({ m with bundles := [(19, { Bundle.init with state := 1, txq := [{ rank := 1, seq := 0, body := .lctl 3 0 0 0 }] })] }).setLane 152
     { Lane.init with trained := true }), by decide, by decide, by decide, by decide, 152, by decide +kernel⟩,
   by decide, ⟨at_ .run (reg_ (rBundleCfg 19) 512), by decide⟩, by decide⟩

theorem witness_LinkServiceCommands :
    (Served (at_ .linksvc).mod ∧ (at_ .linksvc).mod.ctl.mode = .linksvc ∧ (at_ .linksvc).mod.inSystem = false) ∧
    (Served (at_ .linksvc inTwo).mod ∧ (at_ .linksvc inTwo).mod.inSystem = true ∧ (at_ .linksvc inTwo).mod.image.modnum = 0) ∧
    (∃ s : State, Served s.mod ∧ s.mod.ctl.mode = .linksvc ∧ s.mod.inSystem = true ∧ s.mod.ringHead = true ∧ 1 < s.mod.disc.ringSize ∧
      1 < s.mod.disc.rings ∧ (s.mod.bundle 10).state = 1) ∧ (Served (at_ .idle).mod ∧ (at_ .idle).mod.ctl.mode ≠ .linksvc) ∧
    (∃ s : State, s.mod.ctl.mode = .linksvc ∧ bitOf (s.mod.lane (8 * 19 + 7)).ctl 6 = true ∧ (s.mod.lane (8 * 19 + 7)).prbsLock = true ∧
      (s.mod.lane (8 * 19 + 7)).prbsErrs < 2 ^ 32 - 1) ∧
    bitOf ((at_ .linksvc).mod.lane 159).ctl 6 = false ∧
    ∃ s : State, (s.mod.lane 159).prbsLock = true ∧ (s.mod.lane 159).ownPattern = true ∧ (s.mod.lane 159).prbsErrs < 2 ^ 32 :=
  ⟨by unfold Served; decide, by unfold Served; decide,
   ⟨at_ .linksvc (fun m => { inTwo m with disc := { m.disc with ringSize := 2, rings := 2 }, bundles := [(10, { Bundle.init with state := 1 })] }), by unfold Served; decide⟩,
   by unfold Served; decide,
   ⟨at_ .linksvc (fun m => m.setLane 159 { Lane.init with ctl := 64, prbsLock := true }), by decide⟩, by decide,
   at_ .linksvc (fun m => m.setLane 159 { Lane.init with ctl := 32 + 1, prbsLock := true }), by decide⟩

theorem witness_ScrubberCommands :
    (Served (at_ .idle).mod ∧ (at_ .idle).mod.scrubRefused = false) ∧
    (∃ s : State, Served s.mod ∧ s.mod.scrub.running = true ∧ s.mod.scrub.target = 2 ∧ s.mod.tagsOut s.mod.epSteward = false ∧
      ∀ e ∈ [((0 : Nat), SectorCheck.good), (64, .failed 0)], e.2 = .good ∨ sget 0 s.mod.hbm.ctr (e.1 / 64) = 0 ∧ e.1 < hbmTop ∧ e.2 ≠ .failed 2) ∧
    (∃ s : State, Served s.mod ∧ 2 < s.mod.reg rScrubTarget) ∧ (∃ s : State, Served s.mod ∧ s.mod.reg rScrubLast < s.mod.reg rScrubFirst) ∧
    (Served (at_ .load).mod ∧ (at_ .load).mod.ctl.mode.noScrub = true) ∧
    (∃ s : State, Served s.mod ∧ scrubSpace (s.mod.reg rScrubTarget) ≤ s.mod.reg rScrubLast) ∧
    (∃ s : State, Served s.mod ∧ s.mod.reg rScrubTarget = 2 ∧ s.mod.reg rScrubFirst % 64 ≠ 0) ∧ (at_ .idle).mod.scrub.running = false ∧
    ∃ s : State, s.mod.ctl.mode = .lockdown ∧ s.mod.scrub.target = 2 ∧ s.mod.ctl.lockAt = s.mod.seq.cycle :=
  ⟨by unfold Served; decide, ⟨at_ .idle (fun m => { m with scrub := { m.scrub with running := true, target := 2 } }), by unfold Served; decide +kernel⟩,
   ⟨at_ .idle (reg_ rScrubTarget 3), by unfold Served; decide⟩, ⟨at_ .idle (reg_ rScrubFirst 1), by unfold Served; decide⟩,
   by unfold Served; decide, ⟨at_ .idle (reg_ rScrubLast (2 ^ 29)), by unfold Served; decide⟩,
   ⟨at_ .idle (reg_ rScrubTarget 2 ∘ reg_ rScrubFirst 1), by unfold Served; decide⟩, by decide,
   at_ .lockdown (fun m => { m with scrub := { m.scrub with target := 2 } }), by decide⟩

/-- Sector 4095 in a state, with a record, in progress; sector 0 may hold the record's current copy. -/
def sector (st : Nat) (old : Bool) (fails : Nat) : State :=
  at_ .idle (fun m => { m with store := { m.store with
    sectors := (if old then [(0, { Sector.init with st := secValid, record := 0x30 }.sealed)] else []) ++ [(4095, { Sector.init with st := st, record := 0x30, fails := fails }.sealed)],
    journal := [4095], state := 2 } })

theorem witness_StoreCommands :
    (let s := sector secWriting false 0
     s.mod.stew.waitingReq = none ∧ s.mod.store.journal.contains 4095 = true ∧ (s.mod.store.sector 4095).st = secWriting ∧
     (s.mod.store.sector 4095).record ≠ 0x0020 ∧ s.mod.store.removals = [] ∧ s.mod.store.queue = [] ∧ s.mod.store.current 0x30 = none) ∧
    (∃ j y, (sector secWriting true 0).mod.store.current 0x30 = some (j, y) ∧ j ≠ 4095) ∧
    (at_ .idle).mod.store.journal.contains 4095 = false ∧
    [0, 1].all (fun n => let s := sector secClearing false n
      s.mod.store.journal.contains 4095 && (s.mod.store.sector 4095).st == secClearing && s.mod.store.queue.isEmpty && (s.mod.store.sector 4095).fails == n) = true ∧
    (∃ (s : State) (j : Nat) (y : Sector), s.mod.store.current (s.mod.reg rStoreReadSel / 65536) = some (j, y)) ∧
    (at_ .idle).mod.store.current ((at_ .idle).mod.reg rStoreReadSel / 65536) = none :=
  ⟨by decide +kernel, ⟨0, { Sector.init with st := secValid, record := 0x30 }.sealed, by decide +kernel⟩, by decide, by decide +kernel,
   ⟨{ sector secWriting true 0 with mod := (sector secWriting true 0).mod.setReg rStoreReadSel (0x30 * 65536) },
     0, { Sector.init with st := secValid, record := 0x30 }.sealed, by decide +kernel⟩, by decide +kernel⟩

/-- A mounted and empty store. -/
def mounted (m : Module) : Module := { m with store := { m.store with state := 2, sectors := [] } }
/-- A log entry. -/
def logged (seq : Nat) : LogEntry := { code := 0x0106, source := 8, seq := seq, folio := 0, time := 0, arg := 0 }

theorem storeReady_mounted (mode : Mode) : StoreReady (at_ mode mounted).mod 0 := by
  refine ⟨by cases mode <;> decide, by cases mode <;> rfl, ?_, ?_⟩
  · intro j hj
    cases mode <;> cases hj
  · cases mode <;> decide +kernel

theorem witness_RecordCommands :
    (StoreReady (at_ .idle mounted).mod 0 ∧ (at_ .idle mounted).mod.ctl.mode = .idle ∧ (0 : Byte) ≠ 1#8) ∧
    (StoreReady (at_ .run mounted).mod 0 ∧ (at_ .run mounted).mod.ctl.mode ≠ .idle ∧ (at_ .run mounted).mod.ctl.mode ≠ .lockdown ∧
      (at_ .run mounted).mod.stew.logQ = []) ∧
    (∃ s : State, s.mod.store = (at_ .idle mounted).mod.store ∧ s.mod.stew.ring = [logged 7] ∧ s.mod.stew.flushed ≤ (logged 7).seq) ∧
    (∃ (s : State) (e : LogEntry), s.mod.store = (at_ .idle mounted).mod.store ∧
      (s.mod.stew.ring.filter (fun e => s.mod.stew.flushed ≤ e.seq)).length = 2047 ∧
      s.mod.stew.lastFlush + 10000000000 ≤ s.mod.stew.up ∧ s.mod.stew.ring.head? = some e ∧ ∀ x ∈ s.mod.stew.ring, x.seq ≤ e.seq) ∧
    ∃ s : State, nextLogSource s.mod.stew.logQ s.mod.stew.lastServed = some 15 ∧ sget [] s.mod.stew.logQ 15 = [logged 0] :=
  ⟨⟨storeReady_mounted _, by decide⟩, ⟨storeReady_mounted _, by decide⟩,
   ⟨at_ .idle (fun m => { mounted m with stew := { m.stew with ring := [logged 7] } }), rfl, rfl, by decide⟩,
   ⟨at_ .idle (fun m => { mounted m with stew := { m.stew with ring := List.replicate 2047 (logged 0), up := 10000000000 } }), logged 0, rfl, by decide +kernel,
    by decide, rfl, fun x hx => Nat.le_of_eq (congrArg LogEntry.seq (List.eq_of_mem_replicate hx))⟩,
   at_ .idle (fun m => { m with stew := { m.stew with logQ := [(15, [logged 0])] } }), by decide⟩

/-- A store of n retired sectors. -/
theorem erased_retired (st : Store) (n : Nat) :
    ({ st with sectors := (List.range n).map (fun k => (k, { Sector.init with st := secRetired })) } : Store).erased = 4096 - n := by
  unfold Store.erased
  rw [List.filter_eq_self.2 (by simp [secRetired, secErased]), List.length_map, List.length_range]

theorem witness_KeyCommands :
    (15 < 16 ∧ (at_ .idle mounted).mod.keyMode = true ∧ (at_ .idle mounted).mod.keySlot 15 = false ∧ StoreReady (at_ .idle mounted).mod 0 ∧ (at_ .idle mounted).mod.store.erased ≠ 0) ∧
    (∃ s : State, s.mod.keyMode = true ∧ s.mod.store.erased = 0) ∧
    ((at_ .run).mod.ctl.mode ≠ .lockdown ∧ (at_ .run).mod.keyMode = false ∧ (at_ .run).mod.ctl.mode ≠ .idle ∧ (at_ .run).mod.sec.trngReady = false) ∧
    (∃ s : State, s.mod.keyMode = true ∧ s.mod.keySlot ((0 : BitVec 512).toNat / 2 ^ 504 % 16) = true) ∧ (15#8).toNat < 16 ∧ (0 : BitVec 32) ≠ 0x5A45524F#32 ∧
    (∃ s : State, s.mod.ctl.mode ≠ .lockdown ∧ s.mod.sec.trngReady = true ∧ s.mod.sec.drbgCount + 1 < 65536) ∧
    ∃ s : State, s.mod.ctl.mode ≠ .lockdown ∧ s.mod.sec.trngReady = true ∧ 65536 ≤ s.mod.sec.drbgCount + 1 :=
  ⟨⟨by decide, by decide, by decide, storeReady_mounted _, by decide⟩,
   ⟨at_ .idle (fun m => { m with store := { m.store with sectors := (List.range 4096).map (fun k => (k, { Sector.init with st := secRetired })) } }), rfl,
     (erased_retired State.reset.mod.store 4096).trans (Nat.sub_self 4096)⟩, by decide,
   ⟨at_ .idle (fun m => { m with store := { m.store with sectors := [(0, { Sector.init with st := secValid, record := 0x10 }.sealed)] } }), by decide +kernel⟩, by decide, by decide,
   ⟨at_ .idle (fun m => { m with sec := { m.sec with trngReady := true } }), by decide⟩,
   at_ .idle (fun m => { m with sec := { m.sec with trngReady := true, drbgCount := 65535 } }), by decide⟩

/-- Domain 1, with number 255, in a state, with a count of good Syncs. -/
def domain1 (st good : Nat) : State :=
  at_ .idle (fun m => { (m.setReg (rDomnum 1) 255).setReg rAutoswitch 0 with stew := { m.stew with domains := [Domain.init, { Domain.init with state := st, good := good, pendRx := some 0 }] } })

theorem witness_PtpCommands :
    [(0, 0), (1, 14), (1, 15), (2, 16), (3, 0)].all (fun e => let s := domain1 e.1 e.2
      s.mod.domainOf 255 == some 1 && s.mod.stew.domains.length == 2 && (s.mod.domain 1).state == e.1 && (s.mod.domain 1).good == e.2 &&
      (s.mod.domain 1).pendRx == some 0 && s.mod.stew.active == 0 && s.mod.reg rAutoswitch == 0) = true ∧
    (let s := domain1 1 15
     let lead (rx : Int) : Int := 0 + (0 + s.mod.asym 0) + (s.mod.domain 1).delay - (rx - ingressNs 0)
     ((s.mod.domain 1).ahead - lead (ingressNs 0 + 100)).natAbs ≤ 100 ∧ 100 < ((s.mod.domain 1).ahead - lead (ingressNs 0 + 101)).natAbs ∧
     1000 < ((s.mod.domain 1).ahead - lead (ingressNs 0 + 1001)).natAbs) ∧
    -- the active domain, before the first set
    (∃ s : State, s.mod.domainOf 255 = some 1 ∧ (s.mod.domain 1).state = 1 ∧ (s.mod.domain 1).good = 15 ∧ 1 = s.mod.stew.active ∧ s.mod.stew.timeSet = false) ∧
    (∃ s : State, s.mod.domainOf 255 = some 1 ∧ (s.mod.domain 1).state ≠ 0 ∧ (s.mod.domain 1).reqOut = true) ∧
    (domain1 1 0).mod.domainOf 255 = some 1 ∧ ((domain1 1 0).mod.domain 1).reqOut = false ∧
    ∃ s : State, s.mod.domainOf 255 = some 1 ∧ s.mod.stew.domains.length = 2 ∧ (s.mod.domain 1).pendRx = none :=
  ⟨by decide, by decide, ⟨at_ .idle (fun m => let m := (domain1 1 15).mod; { m with stew := { m.stew with active := 1 } }), by decide⟩,
   ⟨at_ .idle (fun m => let m := (domain1 1 15).mod; { m with stew := { m.stew with domains := [Domain.init, { Domain.init with state := 1, reqOut := true }] } }), by decide⟩,
   by decide, by decide, at_ .idle (reg_ (rDomnum 1) 255), by decide⟩

/-- Both domains LOCKED; domain 0 active. -/
def locked (auto : Nat) : State :=
  at_ .idle (fun m => { m.setReg rAutoswitch auto with
    stew := { m.stew with domains := [{ Domain.init with state := 2 }, { Domain.init with state := 2 }], timeSet := true, slewing := true } })

theorem witness_TimeCommands :
    ((locked 0).mod.stew.domains.length = 2 ∧ 1 < 2 ∧ ((locked 0).mod.domain 1).state = 2 ∧ (locked 0).mod.reg rAutoswitch = 0) ∧
    (((locked 1).mod.domain 0).state = 2 ∧ 0 = (locked 1).mod.stew.active ∧ (locked 1).mod.reg rAutoswitch = 1 ∧ ((locked 1).mod.domain (1 - 0)).state = 2 ∧
      (locked 1).mod.stew.timeSet = true) ∧
    ((at_ .idle).mod.stew.domains.length = 2 ∧ ((at_ .idle).mod.domain 1).state ≠ 2 ∧ (at_ .idle).mod.ctl.mode.running = false ∧ (at_ .idle).mod.stew.slewing = false) ∧
    ((locked 0).mod.ctl.mode ≠ .lockdown ∧ (1 : Byte).toNat ≤ 1 ∧ (1 : Byte).toNat ≠ (locked 0).mod.stew.active ∧ (0 : Byte).toNat = (locked 0).mod.stew.active ∧
      1 < (2 : Byte).toNat ∧ (locked 0).mod.stew.slewing = true ∧ (locked 0).mod.stew.active < 2 ∧ (locked 0).mod.stew.timeSet = true ∧ (locked 0).mod.stew.lead.natAbs ≤ 2) := by decide

theorem witness_HealthCommands :
    ((at_ .idle).mod.stew.tj.length = 11 ∧ (10999 : Int) < 11000 ∧ (11000 : Int) ≤ 11000 ∧ (at_ .idle).mod.ctl.mode = .idle ∧ (at_ .idle).mod.resetHeld = false) ∧
    (∃ s : State, s.mod.reg (rBankCfg 11) % 8 ≠ 0) ∧ (at_ .idle).mod.reg (rBankCfg 11) % 8 = 0 ∧
    (∃ s : State, 65536 ≤ (srange s.mod.fabric.pcWindow 0 32).foldl (fun a e => a + e.2) 0) ∧
    (∃ s : State, s.mod.collTime = true ∧ bitOf (s.mod.reg rCollCtrl) 0 = true ∧ 262143 < 2 ^ 18 ∧ s.mod.spareFree (262143 / 64) (262143 % 64 / 32) = true ∧
      s.mod.reg (rCollTested 0) + 1 < s.mod.reg (rCollEligible 0)) ∧
    (at_ .frozen).mod.collTime = false :=
  ⟨by decide, ⟨at_ .idle (reg_ (rBankCfg 11) 1), by decide⟩, by decide,
   ⟨at_ .run (fun m => { m with fabric := { m.fabric with pcWindow := [(31, 65536)] } }), by decide⟩, ⟨at_ .idle Module.recountEligible, by decide +kernel⟩, by decide⟩

theorem witness_EntryCommands :
    (Served (at_ .idle).mod ∧ (at_ .idle).mod.ctl.mode = .idle ∧ clkCfgBad (0x80000000 : BitVec 32).toNat = false ∧
      clkTimeBad (0x00010000 : BitVec 32).toNat = false ∧ clkCfgBad (1 : BitVec 32).toNat = true ∧ (at_ .idle).mod.ctl.mode.running = false ∧
      endpointExists 8 0x60 = true ∧ 4 % 4 = 0 ∧ routerExists 10 0 = true ∧ endpointExists 0 1 = false) ∧
    (Served (at_ .run).mod ∧ (at_ .run).mod.ctl.mode ≠ .idle ∧ (at_ .run).mod.ctl.mode.running = true ∧ (at_ .run).mod.ctl.mode.routesOpen = false) ∧
    (at_ .idle).mod.routeRefused ((256 * 8 + 0x60) * 16 + 15) (2 ^ 56 + 3) = false ∧ (0 : Word).toNat / 2 ^ 56 % 16 = 0 :=
  ⟨by unfold Served; decide, by unfold Served; decide, by decide +kernel, by decide⟩

/-- A discovery record with every field at its greatest value. -/
def widest : Bringup :=
  { kind := 5, ring := 15, count := 15, module := 255, sysid := 0, mods := 256, imgnum := 255, nbr := List.replicate 20 (some 255) }

theorem witness_LaneFrameRoundTrip :
    (255 < 256 ∧ ({ block with op := 5, nclass := 3, nseq := 255, nlane := 7, skewcr := 65535, vc := 3 } : CtlBlock).wf = true ∧ 3 < 4 ∧ 7 < 8) ∧
    (List.range 5).all (fun k => ({ token with kind := k } : Token).wf) = true ∧
    widest.ring < 16 ∧ widest.count < 16 ∧ widest.module < 256 ∧ widest.mods ≤ 256 ∧ widest.imgnum < 256 ∧ widest.nbr.length = 20 ∧
    ∀ n ∈ widest.nbr, n.all (· < 256) = true := by decide

/-- R141: the bit positions of the table. -/
theorem test_token_layout :
    tokenBits { token with folio := 1, kind := 2, members := 1, clkmis := true, masters := 2, target := 5, stepn := 3, lapns := 9, frzcode := 0x0921 } =
      2 ^ 400 + 2 * 2 ^ 397 + 2 ^ 376 + 2 ^ 295 + 2 * 2 ^ 290 + 5 * 2 ^ 285 + 3 * 2 ^ 261 + 9 * 2 ^ 245 + 0x0921 * 2 ^ 221 := by decide +kernel

/-- R289: 31 equal bits of a frame are followed by a stuffed bit of the inverse value, and the count starts again. -/
theorem test_stuffed_bit : stuff 0 false (List.replicate 32 true) = List.replicate 31 true ++ [false, true] := by decide

/-- The empty message of SP 800-38B, AES-256. -/
theorem test_cmac_of_nothing :
    cmac ([0x60, 0x3d, 0xeb, 0x10, 0x15, 0xca, 0x71, 0xbe, 0x2b, 0x73, 0xae, 0xf0, 0x85, 0x7d, 0x77, 0x81,
           0x1f, 0x35, 0x2c, 0x07, 0x3b, 0x61, 0x08, 0xd7, 0x2d, 0x98, 0x10, 0xa3, 0x09, 0x14, 0xdf, 0xf4]) [] =
      0x028962f61b7bf89efc6b551f4667d983#128 := by decide +kernel

/-- R332: before OUTEN a packet frame waits. -/
theorem test_outen : (({ Bundle.init with txq := [{ rank := 6, seq := 0, body := .packet 1 0 }] } : Bundle).takeFrame true false).1 = idleFrame ∧
    (({ Bundle.init with txq := [{ rank := 6, seq := 0, body := .packet 1 0 }] } : Bundle).takeFrame true true).1.rank = 6 := by decide

/-- R332, R266: before WREN a write of HBM is answered WRITE_ERR. -/
theorem test_wren : ((Module.serveWrite toHbm .good true (at_ .idle).mod).1, (Module.serveWrite toHbm .good true (opened .idle).mod).1) =
    (some psWrite, some psOK) := by decide +kernel

/-- R382, R384: every unit of activity 1 has a number. -/
theorem test_units : schedUnit (2 ^ 29 + 2 ^ 20 + 2 ^ 27 + 2 ^ 18 - 1) = some (5, 255, 511) ∧
    schedUnit (2 ^ 29 + 2 ^ 20 + 2 ^ 27 + 2 ^ 18 + 4095) = some (6, 1, 2047) ∧ schedUnit (2 ^ 29 + 2 ^ 20 + 2 ^ 27 + 2 ^ 18 + 4096) = none := by
  decide

end Sys2Proof.Tests
end

/-! PROOFS. Statements of chapter 01, machine overview (R24-R33): the faults of a stopped module, and the requests that the
mode controller refuses. -/

namespace Sys2Proof.Machine

/-! ### Log entries and the fault freeze of a stopped module (R27, R379) -/

/-- R379: in an open log an entry whose source has room waits last in the queue of its source. -/
theorem log_queue (code source : Nat) (items : List (Nat × Nat)) (m : Module) (ho : m.logOpen = true)
    (hr : (sget [] m.stew.logQ source).length < 16) :
    sget [] (m.log code source items).stew.logQ source = sget [] m.stew.logQ source ++
      [{ code := BitVec.ofNat 16 code, source := source, seq := 0, folio := m.seq.folio, time := m.stew.now, arg := packArgs items }] := by
  simp [Module.log, ho, hr]

theorem resetHeld_of_mode {m : Module} (h : m.ctl.mode ≠ .reset) : m.resetHeld = false := by
  simp [Module.resetHeld, h]

@[simp] theorem freezeBy_lockdown (flood : Module → Module) (code : Nat) (m : Module) (h : m.ctl.mode = .lockdown) :
    m.freezeBy flood code = m := by
  simp [Module.freezeBy, h]

/-- R27: in FROZEN and INSPECT a fault clears RESUMABLE, and tells the host where that changes MODE_STATUS. -/
theorem freezeBy_stopped (flood : Module → Module) (code : Nat) (m : Module) (h : m.ctl.mode = .frozen ∨ m.ctl.mode = .inspect) :
    m.freezeBy flood code =
      if m.ctl.resumable then ({ m with ctl := { m.ctl with resumable := false } } : Module).msix 3
      else { m with ctl := { m.ctl with resumable := false } } := by
  have hr : m.resetHeld = false := resetHeld_of_mode (by rcases h with h | h <;> simp [h])
  rcases h with h | h <;> simp [Module.freezeBy, hr, h]

theorem freezeBy_stopped_parts (flood : Module → Module) (code : Nat) (m : Module) (h : m.ctl.mode = .frozen ∨ m.ctl.mode = .inspect) :
    (m.freezeBy flood code).ctl = { m.ctl with resumable := false } ∧ (m.freezeBy flood code).stew = m.stew := by
  rw [freezeBy_stopped flood code m h]
  split <;> simp

/-- What the fault freeze of a stopped module leaves. -/
theorem faultWith_stopped (code source : Nat) (items : List (Nat × Nat)) (m : Module)
    (h : m.ctl.mode = .frozen ∨ m.ctl.mode = .inspect ∨ m.ctl.mode = .lockdown) :
    (m.faultWith code source items).ctl.mode = m.ctl.mode ∧
    (m.faultWith code source items).stew = (m.log code source items).stew ∧
    (m.ctl.mode = .frozen ∨ m.ctl.mode = .inspect → (m.faultWith code source items).ctl.resumable = false) := by
  unfold Module.faultWith Module.faultFreeze
  by_cases hl : m.ctl.mode = .lockdown
  · rw [freezeBy_lockdown _ _ _ (by simpa using hl)]
    simp [hl]
  · obtain ⟨hc, hs⟩ := freezeBy_stopped_parts (fun x => x.sendFlood x.disc.modnum code) code (m.log code source items)
      (by simp_all)
    simp [hc, hs]

/-- Settles O7: the fault freeze of a stopped module touches RESUMABLE alone, and the entry is what `log` queues. -/
theorem faultInAStoppedMode : Obligations.FaultInAStoppedMode := by
  unfold Obligations.FaultInAStoppedMode
  intro m code source items h
  obtain ⟨hmode, hstew, hres⟩ := faultWith_stopped code source items m h
  rw [hstew]
  exact ⟨hmode, rfl, fun ho hr => ⟨_, log_queue code source items m ho hr, rfl, rfl, rfl⟩, hres⟩

/-! ### The checks of a MODE_REQUEST (R33, R361, R393) -/

@[simp] theorem privOk_oper (p : Priv) : privOk p .oper = true := by cases p <;> rfl

theorem privOk_admin_iff (p : Priv) : privOk p .admin = true ↔ p ≠ .oper := by cases p <;> decide

section
variable {c : Instr} {s : State} {p need : Priv} {guaranteed argOk : Bool} {k : Module → Module}

/-- A request that passes the checks is what its transition makes of the module. -/
theorem completes_request {P : Module → Prop} (hc : exec c s = goOn (Module.request p need guaranteed true k) s)
    (hg : s.mod.ctl.mode = .lockdown → guaranteed = true) (hp : privOk p need = true) (hk : P (k s.mod)) : Completes c s P := by
  refine completes_goOn c s _ P hc ?_
  have hm : ¬ (s.mod.ctl.mode = .lockdown ∧ (!guaranteed) = true) := fun h => by simp [hg h.1] at h
  rwa [Module.request, if_neg hm, hp, if_neg (by simp), if_neg (by simp)]

/-- R33: outside LOCKDOWN a request with the privilege it needs is refused for its ARG. -/
theorem refused_of_arg (hc : exec c s = goOn (Module.request p need guaranteed argOk k) s) (hl : s.mod.ctl.mode ≠ .lockdown)
    (hp : privOk p need = true) (ha : argOk = false) : Completes c s (fun m => m = s.mod.answer stModeRefused) :=
  completes_goOn c s _ _ hc (by simp [Module.request, hl, hp, ha])

/-- R33: outside LOCKDOWN a request with the privilege it needs is refused where its transition refuses it, whatever its ARG. -/
theorem refused_of_transition (hc : exec c s = goOn (Module.request p need guaranteed argOk k) s) (hl : s.mod.ctl.mode ≠ .lockdown)
    (hp : privOk p need = true) (hk : k s.mod = s.mod.answer stModeRefused) :
    Completes c s (fun m => m = s.mod.answer stModeRefused) :=
  completes_goOn c s _ _ hc (by simp [Module.request, hl, hp, hk])

/-- R393: outside LOCKDOWN a request below its privilege is answered PRIVILEGE, whatever its ARG. -/
theorem privilege_of_request (hc : exec c s = goOn (Module.request p need guaranteed argOk k) s) (hl : s.mod.ctl.mode ≠ .lockdown)
    (hp : privOk p need = false) : Completes c s (fun m => m = s.mod.answer stPrivilege) :=
  completes_goOn c s _ _ hc (by simp [Module.request, hl, hp])
end

/-! ### The transitions of a MODE_REQUEST (R24) -/

theorem reqEntry_refused (target stepn : Nat) {m : Module} (h : m.ctl.mode ≠ .idle) :
    m.reqEntry target stepn = m.answer stModeRefused := if_neg h

theorem reqService_refused (mode : Mode) {m : Module} (h : m.ctl.mode ≠ .idle) :
    m.reqService mode = m.answer stModeRefused := if_neg h

theorem reqInspect_refused {m : Module} (h : m.ctl.mode ≠ .frozen) : m.reqInspect = m.answer stModeRefused := by
  unfold Module.reqInspect
  split
  · contradiction
  · rfl

theorem reqFreeze_refused {m : Module} (hi : m.ctl.mode ≠ .idle) (hr : m.ctl.mode.running = false) (hn : m.ctl.mode ≠ .inspect) :
    m.reqFreeze = m.answer stModeRefused := by
  unfold Module.reqFreeze
  split <;> simp_all [Mode.running]

theorem reqStop_refused {m : Module} (hr : m.ctl.mode.running = false) (hl : m.ctl.mode ≠ .linksvc) (ht : m.ctl.mode ≠ .selftest)
    (hf : m.ctl.mode = .frozen → m.ctl.resumable = false) : m.reqStop = m.answer stModeRefused := by
  unfold Module.reqStop
  split <;> simp_all [Mode.running]

theorem reqStop_running {m : Module} (h : m.ctl.mode.running = true) :
    m.reqStop = ({ m with ctl := { m.ctl with target := 3, stepn := 0 } } : Module).answer stOK := by
  unfold Module.reqStop
  split <;> simp_all [Mode.running]

theorem reqStop_resumes {m : Module} (h : m.ctl.mode = .frozen) (hr : m.ctl.resumable = true) :
    m.reqStop = (m.enter .idle 0).answer stOK := by
  simp [Module.reqStop, h, hr]

/-! ### LOCKDOWN (R29, R30) -/

@[simp] theorem lockdown_again (cause : Nat) {m : Module} (h : m.ctl.mode = .lockdown) : m.lockdown cause = m := by
  simp [Module.lockdown, h]

theorem lockdown_mode (cause : Nat) {m : Module} (h : m.resetHeld = false) : (m.lockdown cause).ctl.mode = .lockdown := by
  unfold Module.lockdown
  split
  · simp_all
  · split
    · assumption
    · simp

/-! ### What a MODE_REQUEST is answered (R33) -/

section
variable (s : State) (priv : Priv)

/-- R33: ARG is nonzero for a target other than STEP. -/
theorem refused_nonzero_arg (hl : s.mod.ctl.mode ≠ .lockdown) (arg : BitVec 24) (ha : arg ≠ 0) :
    let refused (c : Instr) : Prop := Completes c s (fun m => m = s.mod.answer stModeRefused)
    refused (.modeReqRun priv arg) ∧ refused (.modeReqPaced priv arg) ∧ refused (.modeReqStopResume priv arg) ∧
    refused (.modeReqFreeze priv arg) ∧ refused (.modeReqInspect priv arg) ∧
    (priv ≠ .oper → refused (.modeReqWarmStart priv arg) ∧ refused (.modeReqLinksvc priv arg) ∧
      refused (.modeReqSelftest priv arg) ∧ refused (.modeReqLockdown priv arg)) := by
  have hz : (arg == 0) = false := beq_false_of_ne ha
  have ho := privOk_oper priv
  refine ⟨refused_of_arg rfl hl ho hz, refused_of_arg rfl hl ho hz, refused_of_arg rfl hl ho hz, refused_of_arg rfl hl ho hz,
    refused_of_arg rfl hl ho hz, fun h => ?_⟩
  have hp := (privOk_admin_iff priv).mpr h
  exact ⟨refused_of_arg rfl hl hp hz, refused_of_arg rfl hl hp hz, refused_of_arg rfl hl hp hz, refused_of_arg rfl hl hp hz⟩

/-- R24, R33: folios and services start from IDLE alone. -/
theorem refused_outside_idle (hl : s.mod.ctl.mode ≠ .lockdown) (hi : s.mod.ctl.mode ≠ .idle) (arg : BitVec 24) :
    let refused (c : Instr) : Prop := Completes c s (fun m => m = s.mod.answer stModeRefused)
    refused (.modeReqRun priv 0) ∧ refused (.modeReqStep priv arg) ∧ refused (.modeReqPaced priv 0) ∧
    (priv ≠ .oper → refused (.modeReqLinksvc priv 0) ∧ refused (.modeReqSelftest priv 0)) := by
  have ho := privOk_oper priv
  refine ⟨refused_of_transition rfl hl ho (reqEntry_refused _ _ hi), refused_of_transition rfl hl ho (reqEntry_refused _ _ hi),
    refused_of_transition rfl hl ho (reqEntry_refused _ _ hi), fun h => ?_⟩
  have hp := (privOk_admin_iff priv).mpr h
  exact ⟨refused_of_transition rfl hl hp (reqService_refused _ hi), refused_of_transition rfl hl hp (reqService_refused _ hi)⟩

/-- R30, R33: LOCKDOWN is accepted in every mode; a held RESET outranks it, and in LOCKDOWN it does nothing. -/
theorem lockdown_accepted (h : priv ≠ .oper) : Completes (.modeReqLockdown priv 0) s (fun m => m.stew.lastStatus = 0 ∧
    (s.mod.resetHeld = false → m.ctl.mode = .lockdown) ∧ (s.mod.ctl.mode = .lockdown → m = s.mod.answer stOK)) := by
  refine completes_request (k := fun m => (m.lockdown 0).answer stOK) rfl (fun _ => rfl) ((privOk_admin_iff priv).mpr h)
    ⟨rfl, fun hr => ?_, fun hm => ?_⟩
  · simpa using lockdown_mode 0 hr
  · rw [lockdown_again 0 hm]

/-- R33, R393: the requests that need ADMIN. -/
theorem privilege_oper (hl : s.mod.ctl.mode ≠ .lockdown) (arg : BitVec 24) :
    ∀ c ∈ [Instr.modeReqWarmStart .oper arg, .modeReqLinksvc .oper arg, .modeReqSelftest .oper arg, .modeReqLockdown .oper arg],
      Completes c s (fun m => m = s.mod.answer stPrivilege) := by
  simp only [List.forall_mem_cons, List.not_mem_nil, false_implies, implies_true, and_true]
  exact ⟨privilege_of_request rfl hl rfl, privilege_of_request rfl hl rfl, privilege_of_request rfl hl rfl,
    privilege_of_request rfl hl rfl⟩
end

/-- Settles O17: every request goes through the same checks (`refused_of_arg`, `refused_of_transition`,
`privilege_of_request`, `completes_request`); what is left is the row of the transition table. -/
theorem modeRequestRefusals : Obligations.ModeRequestRefusals := by
  unfold Obligations.ModeRequestRefusals
  intro s priv arg refused
  have ho := privOk_oper priv
  refine ⟨fun hl => ⟨?_, ?_, ?_, ?_, ?_, ?_, ?_⟩, fun hr => ?_, fun hf hres => ?_, lockdown_accepted s priv, ?_⟩
  · exact refused_nonzero_arg s priv hl arg
  · exact refused_of_arg rfl hl ho rfl
  · exact fun _ => refused_of_transition rfl hl ho rfl
  · exact fun hi => refused_outside_idle s priv hl hi arg
  · exact fun hi hr hn => refused_of_transition rfl hl ho (reqFreeze_refused hi hr hn)
  · exact fun hf => refused_of_transition rfl hl ho (reqInspect_refused hf)
  · exact fun hr hk ht hf => refused_of_transition rfl hl ho (reqStop_refused hr hk ht hf)
  · exact completes_request rfl (fun hl => by simp [hl, Mode.running] at hr) ho (reqStop_running hr)
  · exact completes_request rfl (fun hl => by simp [hl] at hf) ho (by simp [reqStop_resumes hf hres])
  · rintro rfl hl
    exact privilege_oper s hl arg

end Sys2Proof.Machine

/-! PROOFS. Statement of chapter 02, bit processor and gathering (R47): the parity bits of an instruction word, bit by bit. -/

namespace Sys2Proof.Machine

/-! ### The parity of the low bits of a number -/

@[simp] theorem parityN_zero_right (n : Nat) : parityN n 0 = false := by
  induction n with
  | zero => rfl
  | succ n ih => simp [parityN, ih]

/-- `parityN` takes its bits from the lowest up; this is the equation at the highest bit. -/
theorem parityN_succ_testBit (n v : Nat) : parityN (n + 1) v = (parityN n v ^^ v.testBit n) := by
  induction n generalizing v with
  | zero => simp only [parityN, Nat.testBit_zero, Bool.xor_false, Bool.false_xor, Bool.beq_eq_decide_eq]
  | succ n ih => rw [parityN, ih (v / 2), Nat.testBit_succ, ← Bool.xor_assoc, ← parityN]

theorem parityN_eq_foldl (n v : Nat) : parityN n v = (List.range n).foldl (fun a i => a ^^ v.testBit i) false := by
  induction n with
  | zero => rfl
  | succ n ih => simp [parityN_succ_testBit, List.range_succ, ih]

theorem parityN_xor (n x y : Nat) : parityN n (x ^^^ y) = (parityN n x ^^ parityN n y) := by
  induction n with
  | zero => rfl
  | succ n ih => rw [parityN_succ_testBit, parityN_succ_testBit, parityN_succ_testBit, ih, Nat.testBit_xor, Bool.xor_assoc, Bool.xor_assoc,
      Bool.xor_left_comm (parityN n y)]

/-- The bits above the low `n` do not count. -/
theorem parityN_mod_two_pow {n m : Nat} (h : n ≤ m) (v : Nat) : parityN n (v % 2 ^ m) = parityN n v := by
  induction n with
  | zero => rfl
  | succ n ih => simp [parityN_succ_testBit, ih (by omega), Nat.testBit_mod_two_pow, Nat.lt_of_succ_le h]

/-! ### The parity bits of the bytes of a word (R47) -/

theorem b2n_eq_toNat (b : Bool) : b2n b = b.toNat := by cases b <;> rfl

/-- The equation of `byteParity` without its short cut for zero, which gives no parity bit another value. -/
theorem byteParity_succ (n v : Nat) :
    byteParity (n + 1) v = 2 * byteParity n (v / 2 ^ 8) + (parityN 8 v).toNat := by
  have hlow : parityN 8 (v % 256) = parityN 8 v := parityN_mod_two_pow (Nat.le_refl 8) v
  have hzero : byteParity n 0 = 0 := by cases n <;> simp [byteParity]
  rw [byteParity, hlow, b2n_eq_toNat, Nat.add_comm]
  split
  · subst v; simp [hzero]
  · rfl

/-- R47: parity bit k is the parity of byte k. -/
theorem byteParity_testBit (n v k : Nat) : (byteParity n v).testBit k = (decide (k < n) && parityN 8 (v / 2 ^ (8 * k))) := by
  induction n generalizing v k with
  | zero => simp [byteParity]
  | succ n ih =>
    rw [byteParity_succ]
    cases k with
    | zero =>
      rw [Nat.testBit_zero, Nat.mul_add_mod]
      cases h : parityN 8 v <;> simp [h]
    | succ k =>
      have hhalf : (2 * byteParity n (v / 2 ^ 8) + (parityN 8 v).toNat) / 2 = byteParity n (v / 2 ^ 8) := by
        have := Bool.toNat_lt (parityN 8 v)
        omega
      rw [Nat.testBit_succ, hhalf, ih, Nat.div_div_eq_div_mul, ← Nat.pow_add, Nat.mul_succ, Nat.add_comm 8]
      simp

/-- R47: the parity of byte k of a word, as the exclusive or of its bits 8k to 8k+7. -/
theorem parityN_byte_eq_foldl (w : BitVec 96) (k : Nat) :
    parityN 8 (w.toNat / 2 ^ (8 * k)) = (List.range 8).foldl (fun a i => a ^^ w.getLsbD (8 * k + i)) false := by
  simp [parityN_eq_foldl, Nat.testBit_div_two_pow, BitVec.testBit_toNat, Nat.add_comm]

/-- R47: the check compares the parity of each byte with its stored bit. -/
theorem imGood_iff (w : ImWord) : imGood w = true ↔ ∀ k < 12, w.par.getLsbD k = parityN 8 (w.word.toNat / 2 ^ (8 * k)) := by
  rw [imGood, decide_eq_true_iff]
  constructor
  · intro h k hk
    rw [← BitVec.testBit_toNat, h, byteParity_testBit, decide_eq_true hk, Bool.true_and]
  · refine fun h => Nat.eq_of_testBit_eq fun k => ?_
    rw [BitVec.testBit_toNat, byteParity_testBit]
    by_cases hk : k < 12
    · rw [h k hk, decide_eq_true hk, Bool.true_and]
    · simp [hk, BitVec.getLsbD_of_ge _ _ (Nat.le_of_not_lt hk)]

/-- R47: a word stored with its parity and then changed by `flips` passes the check exactly when every byte of `flips` is
even: the parity of a byte of the changed word is that of the stored byte and that of the flips. -/
theorem imGood_flipped_iff (w flips : BitVec 96) :
    imGood { word := w ^^^ flips, par := BitVec.ofNat 12 (byteParity 12 w.toNat) } = true ↔
      ∀ k < 12, parityN 8 (flips.toNat / 2 ^ (8 * k)) = false := by
  rw [imGood_iff]
  refine forall₂_congr fun k hk => ?_
  have hstored : (BitVec.ofNat 12 (byteParity 12 w.toNat)).getLsbD k = parityN 8 (w.toNat / 2 ^ (8 * k)) := by
    rw [BitVec.getLsbD_ofNat, byteParity_testBit, decide_eq_true hk, Bool.true_and, Bool.true_and]
  have hread : parityN 8 ((w ^^^ flips).toNat / 2 ^ (8 * k)) =
      (parityN 8 (w.toNat / 2 ^ (8 * k)) ^^ parityN 8 (flips.toNat / 2 ^ (8 * k))) := by
    rw [BitVec.toNat_xor, Nat.xor_div_two_pow, parityN_xor]
  have hsame : ∀ a b : Bool, a = (a ^^ b) ↔ b = false := by decide
  rw [hstored, hread, hsame]

/-- Settles O8: the parity bits by `byteParity_testBit`, the check by `imGood_flipped_iff`. -/
theorem imParity : Obligations.ImParity := by
  unfold Obligations.ImParity
  refine fun w => ⟨fun k hk => ?_, fun flips => ?_⟩
  · rw [byteParity_testBit, decide_eq_true hk, Bool.true_and, parityN_byte_eq_foldl]
  · simp only [Bool.eq_iff_iff (b := List.all _ _), imGood_flipped_iff, parityN_byte_eq_foldl, List.all_eq_true, List.mem_range,
      Bool.not_eq_true']

end Sys2Proof.Machine

/-! PROOFS. Statement of chapter 03, instruction set (R70): the watch latch that WATCH writes. -/

namespace Sys2Proof.Machine

/-! ### An opclass without a result, and the catch port (R45, R46) -/

/-- R45: an opclass without a result drives 0 on its bus lane and on chain-out. -/
theorem result_of_noResult (d : Data) (p : Present) (bp : Nat) {w : Nat} (chain : Bool) (h : opcResult (iwOpc w) = false) :
    result d p bp w chain = false := by
  simp [result, h]

@[simp] theorem catchPort_watch (d0 : Data) (p : Present) (bp w : Nat) (d : Data) : (catchPort d0 p bp w d).watch = d.watch := by
  unfold catchPort
  split
  · rfl
  · exact store_watch ..

/-- R46: the catch port writes cell CADR of its BP alone, and only when CSRC is nonzero. -/
theorem catchPort_cell_other (d0 : Data) (p : Present) (bp w : Nat) (d : Data) {b c : Nat}
    (h : ¬ (iwCsrc w ≠ 0 ∧ b * 2048 + c = bp * 2048 + iwCadr w)) : (catchPort d0 p bp w d).cell b c = d.cell b c := by
  unfold catchPort
  split
  case isTrue => rfl
  case isFalse hsrc => rw [cell_store, if_neg fun hcell => h ⟨hsrc, hcell.1⟩]

/-! ### WATCH (R70) -/

section
variable {w : Nat} (ho : iwOpc w = 0xC)
include ho

theorem evaluate_of_watch (d : Data) (p : Present) (bp : Nat) (chain : Bool) :
    evaluate d p bp w chain =
      ttEval (iwTT w) (d.cell bp (iwA w)) (d.cell bp (iwB w)) (d.cell bp (iwC w)) (operandD d bp w chain) := by
  simp only [evaluate, ho]

theorem watchPort_of_watch (bp : Nat) (v r : Bool) (d : Data) :
    (watchPort bp w v r d).watch = sset false d.watch bp v := by
  simp only [watchPort, if_pos ho]

/-- R70: a WATCH word acts through the catch port and on its watch latch; it leaves bus lane, chain-out, send ports and halt
requests at 0. -/
theorem laneStep_of_watch (d0 : Data) (p : Present) (ws : SMap Nat) (acc : LaneAcc) {bp : Nat} (hw : laneWord ws bp w = w) :
    laneStep d0 p ws acc (bp, w) =
      { acc with
        d := watchPort bp w (evaluate d0 p bp w (acc.chain && acc.last + 1 == bp)) false (catchPort d0 p bp w acc.d)
        last := bp
        chain := false } := by
  have hno : opcResult 0xC = false := rfl
  have hresult := result_of_noResult d0 p bp (acc.chain && acc.last + 1 == bp) (by rw [ho, hno] : opcResult (iwOpc w) = false)
  simp [laneStep, hw, hresult, hno, ho]
end

/-- Settles O22: the word acts as `laneStep_of_watch` says; the latch is what `watchPort` writes, and a cell is what the
catch port leaves. -/
theorem watchInstruction : Obligations.WatchInstruction := by
  unfold Obligations.WatchInstruction
  intro d0 p ws acc bp w hw ho
  have hlatch : (laneStep d0 p ws acc (bp, w)).d.watch =
      sset false acc.d.watch bp (evaluate d0 p bp w (acc.chain && acc.last + 1 == bp)) := by
    rw [laneStep_of_watch ho d0 p ws acc hw, watchPort_of_watch ho, catchPort_watch]
  have hvalue := evaluate_of_watch ho d0 p bp (acc.chain && acc.last + 1 == bp)
  refine ⟨?_, fun k hk => ?_, ?_⟩
  · rw [hlatch, sget_sset_same, hvalue]; rfl
  · rw [hlatch, sget_sset_other _ _ _ _ _ _ hk]
  · rw [laneStep_of_watch ho d0 p ws acc hw]
    refine ⟨rfl, rfl, rfl, rfl, rfl, fun b c hcell => ?_⟩
    rw [watchPort_cell, catchPort_cell_other d0 p bp w acc.d hcell]

end Sys2Proof.Machine

/-! PROOFS. Statement of chapter 05, spine and travel times (R136, R229): the fault freeze of a module whose folios run keeps
the entries of the log, and the two timeouts that freeze by it. -/

namespace Sys2Proof.Machine

/-! ### Entries that stay in the queues of the log (R379) -/

/-- Every entry that waits in a queue of the log in `a` waits in that queue in `b`. -/
structure LogKept (a b : Module) : Prop where
  waits : ∀ src, sget [] a.stew.logQ src ⊆ sget [] b.stew.logQ src

theorem LogKept.refl (m : Module) : LogKept m m := ⟨fun _ => List.Subset.refl _⟩

theorem LogKept.trans {a b c : Module} (h : LogKept a b) (k : LogKept b c) : LogKept a c :=
  ⟨fun src => List.Subset.trans (h.waits src) (k.waits src)⟩

theorem LogKept.of_logQ {a b : Module} (h : b.stew.logQ = a.stew.logQ) : LogKept a b :=
  ⟨fun src => by rw [h]; exact List.Subset.refl _⟩

theorem LogKept.of_stew {a b : Module} (h : b.stew = a.stew) : LogKept a b := .of_logQ (by rw [h])

theorem LogKept.foldl {β : Type} (f : Module → β → Module) (l : List β) (m : Module) (h : ∀ m x, LogKept m (f m x)) :
    LogKept m (l.foldl f m) := by
  induction l generalizing m with
  | nil => exact .refl m
  | cons x t ih => exact (h m x).trans (ih _)

/-- R379: a new entry goes behind those of its queue, or is lost. -/
theorem log_logKept (code source : Nat) (items : List (Nat × Nat)) (m : Module) : LogKept m (m.log code source items) := by
  by_cases hroom : m.logOpen = true ∧ (sget [] m.stew.logQ source).length < 16
  · obtain ⟨ho, hr⟩ := hroom
    refine ⟨fun src => ?_⟩
    by_cases hs : src = source
    · subst hs
      rw [log_queue _ _ _ _ ho hr]
      exact List.subset_append_left _ _
    · simp [Module.log, ho, hr, sget_sset_other _ _ _ _ _ _ hs]
  · refine .of_stew ?_
    unfold Module.log
    split
    · rw [if_neg fun hr => hroom ⟨‹_›, hr⟩]
      simp
    · rfl

/-! ### What the fault freeze does keeps them: transactions and halts (R74, R212) -/

theorem abortSlot_logKept (i reason atIdx : Nat) (m : Module) : LogKept m (m.abortSlot i reason atIdx) := by
  unfold Module.abortSlot
  exact .trans (.of_stew (by rfl)) (.trans (log_logKept ..) (.of_stew rfl))

theorem unwind_logKept (i reason : Nat) (m : Module) : LogKept m (m.unwind i reason) := by
  unfold Module.unwind
  dsimp only
  split
  · exact .of_stew rfl
  · split
    · exact abortSlot_logKept ..
    · exact .of_stew rfl

theorem discardWork_logKept (m : Module) : LogKept m (m.discardWork false) := by
  have slots : LogKept m ((List.range 16).foldl (Module.discardSlot false) m) := by
    refine .foldl _ _ _ fun m i => ?_
    unfold Module.discardSlot
    dsimp only
    split
    · exact unwind_logKept ..
    · exact .refl _
  exact slots.trans (.of_stew (by simp [Module.discardWork]))

theorem logOutranked_logKept (m : Module) : LogKept m m.logOutranked := by
  unfold Module.logOutranked
  split
  · unfold Module.logHalt
    split
    · exact .refl _
    · exact log_logKept ..
  · exact .refl _

/-! ### Trace (R253-R261) -/

theorem traceDrop_logKept (src : Nat) (m : Module) : LogKept m (m.traceDrop src) := by
  unfold Module.traceDrop
  dsimp only
  split
  · exact .refl _
  · generalize (if src = 0 then rTraceDroppedA else rTraceDroppedB) = key
    split
    · exact .trans (.of_stew (by simp)) (log_logKept ..)
    · exact .of_stew (by simp)

theorem tracePut_logKept (src ty body t : Nat) (m : Module) : LogKept m (m.tracePut src ty body t) := by
  unfold Module.tracePut
  dsimp only
  split
  · exact .of_stew (by simp)
  · exact traceDrop_logKept ..

theorem syncPut_logKept (src addr folio t : Nat) (m : Module) : LogKept m (m.syncPut src addr folio t) := by
  unfold Module.syncPut
  dsimp only
  split
  · exact (tracePut_logKept ..).trans (.of_stew rfl)
  · exact tracePut_logKept ..

theorem traceLead_logKept (src addr folio t : Nat) (m : Module) : LogKept m (m.traceLead src addr folio t) := by
  have gap : LogKept m (m.traceGap src addr folio t) := by
    unfold Module.traceGap
    dsimp only
    split
    · exact .trans (.of_stew (by simp)) (.trans (tracePut_logKept ..) (syncPut_logKept ..))
    · exact .refl _
  unfold Module.traceLead
  dsimp only
  split
  · exact gap.trans (syncPut_logKept ..)
  · exact gap

theorem traceEmit_logKept (src ty body addr folio t : Nat) (m : Module) : LogKept m (m.traceEmit src ty body addr folio t) := by
  refine (traceLead_logKept src addr folio t m).trans ?_
  unfold Module.traceEmit Module.traceOffer
  split
  · exact traceDrop_logKept ..
  · exact tracePut_logKept ..

theorem endBranch_logKept (src pc : Nat) (m : Module) : LogKept m (m.endBranch src pc) := by
  unfold Module.endBranch
  dsimp only
  split
  · exact .refl _
  · exact .trans (.of_stew (by simp)) (traceEmit_logKept ..)

theorem stopTrace_logKept (m : Module) : LogKept m m.stopTrace := by
  unfold Module.stopTrace Module.stopSources
  split
  · refine .trans (b := List.foldl _ _ _) (.foldl _ _ _ fun m x => ?_) (.of_stew rfl)
    exact .trans (b := m.freePc.2) (.of_stew rfl) (endBranch_logKept ..)
  · exact .refl _

/-! ### The flush, which copies the ring and leaves the queues (R351, R379) -/

theorem storePump_logKept (m : Module) : LogKept m m.storePump := by
  have full (record : Nat) (m : Module) : LogKept m (m.storeFull record) := by
    refine (log_logKept 0x0804 srcSteward [] m).trans (.of_logQ ?_)
    unfold Module.storeFull
    dsimp only
    split <;> rfl
  unfold Module.storePump
  split
  · exact .refl _
  · split
    · exact .refl _
    · dsimp only
      split
      · exact .trans (.of_stew (by rfl)) (.foldl _ _ _ fun m (e : Nat × List Byte) => full e.1 m)
      · exact .of_stew rfl

theorem queueRecord_logKept (record : Nat) (body : List Byte) (m : Module) : LogKept m (m.queueRecord record body) :=
  .trans (.of_stew (by rfl)) (storePump_logKept _)

theorem flushChunks_logKept (n : Nat) (m : Module) : LogKept m (m.flushChunks n) := by
  induction n generalizing m with
  | zero => exact .refl m
  | succ n ih =>
    unfold Module.flushChunks
    dsimp only
    split
    · exact .refl _
    · refine .trans ?_ (ih _)
      exact (queueRecord_logKept ..).trans (.of_logQ rfl)

/-! ### The fault freeze of a module whose folios run (R26, R28) -/

theorem mode_running_iff (k : Mode) : k.running = true ↔ k = .run ∨ k = .step ∨ k = .paced := by
  cases k <;> decide

/-- R28: the work under way ends, then the module enters FROZEN, floods the system and flushes its log. -/
theorem freezeBy_running (flood : Module → Module) (code : Nat) {m : Module} (h : m.ctl.mode.running = true) :
    ∃ ended : Module, LogKept m ended ∧ m.freezeBy flood code = (flood (ended.enter .frozen code)).flushLog := by
  have hr : m.resetHeld = false := resetHeld_of_mode fun hm => by simp [hm, Mode.running] at h
  have discarded : LogKept m (m.logOutranked.paceLeft.discardWork false) :=
    (logOutranked_logKept m).trans (.trans (b := m.logOutranked.paceLeft) (.of_stew rfl) (discardWork_logKept _))
  have stopped : LogKept m (m.logOutranked.paceLeft.discardWork false).stopCapture.stopTrace :=
    discarded.trans (.trans (b := Module.stopCapture _) (.of_stew (by simp)) (stopTrace_logKept _))
  unfold Module.freezeBy
  rw [hr, if_neg Bool.false_ne_true]
  rcases (mode_running_iff _).mp h with hm | hm | hm
  all_goals
    rw [hm]
    refine ⟨_, ?_, rfl⟩
    exact stopped.trans (.of_stew (by simp))

/-- R26, R27, R379: the fault freeze of a module whose folios run, and the entry that it logs. -/
theorem faultWith_running (code source : Nat) (items : List (Nat × Nat)) {m : Module} (h : m.ctl.mode.running = true)
    (ho : m.logOpen = true) (hroom : (sget [] m.stew.logQ source).length < 16) :
    (m.faultWith code source items).ctl.mode = .frozen ∧ (m.faultWith code source items).ctl.cause = BitVec.ofNat 16 code ∧
    (m.faultWith code source items).ctl.resumable = false ∧
    ∃ src, ∃ e ∈ sget [] (m.faultWith code source items).stew.logQ src,
      e.code = BitVec.ofNat 16 code ∧ e.folio = m.seq.folio ∧ e.arg = packArgs items := by
  obtain ⟨ended, hkept, hfreeze⟩ := freezeBy_running (m := m.log code source items)
    (fun m => m.sendFlood m.disc.modnum code) code (by simpa using h)
  have hfault : m.faultWith code source items =
      ((ended.enter .frozen code).sendFlood (ended.enter .frozen code).disc.modnum code).flushLog := hfreeze
  have hlog : LogKept (m.log code source items) (m.faultWith code source items) := by
    rw [hfault]
    exact hkept.trans (.trans (.of_stew (by simp)) (flushChunks_logKept 3 _))
  have hwaits := hlog.waits source
  rw [log_queue code source items m ho hroom] at hwaits
  exact ⟨by simp [hfault], by simp [hfault], by simp [hfault], source, _, hwaits (List.mem_append_right _ List.mem_cons_self),
    rfl, rfl, rfl⟩

/-! ### The timeouts of a starvation stall and of a reply (R136, R229) -/

theorem starved_iff (m : Module) (b : Nat) : m.starved b = true ↔ ∃ x ∈ m.seq.stalls, ∃ t, x.cause = .lateStatic b t := by
  unfold Module.starved
  rw [List.any_eq_true]
  refine exists_congr fun x => and_congr_right fun _ => ?_
  cases hc : x.cause <;> simp

/-- R136: past the barrier timeout a starved bundle freezes the module; the budget step is the one whose bits are the first
that are absent. -/
theorem starveTimeout_of_starved {m : Module} {b i : Nat} (h : m.ctl.mode.running = true) (hs : m.starved b = true) (hi : i < 4)
    (habs : m.bitsPresent b i = false) (hpres : ∀ j, j < i → m.bitsPresent b j = true) :
    m.starveTimeout b = m.faultWith 0x0921 (if b < 10 then dieL0 else dieL1) [(5, b), (11, nth 0 m.seq.steps (i - 1))] := by
  have hfirst : (List.range 4).find? (fun i => !m.bitsPresent b i) = some i := by
    rw [List.find?_range_eq_some]
    exact ⟨by simp [habs], List.mem_range.mpr hi, fun j hj => by simp [hpres j hj]⟩
  simp only [Module.starveTimeout, hs, h, and_self, if_true, hfirst]

/-- R229: a deadline stall or a FIXED wait past the barrier timeout freezes the module. -/
theorem replyTimeout_of_wait {m : Module} {c : Nat} (h : m.ctl.mode.running = true)
    (hw : (∃ x ∈ m.seq.stalls, x.cause = .deadline c) ∨ m.seq.phase = .hold ∧ m.fixedDue c = true) :
    m.replyTimeout c = m.faultWith 0x0253 dieH [(8, c), (32, (m.chan c).retireSeq)] := by
  unfold Module.replyTimeout
  rw [if_pos]
  simpa [h] using hw

/-- Settles O19: each timeout is the fault freeze of a running module (`starveTimeout_of_starved`, `replyTimeout_of_wait`),
which keeps the entry it logs (`faultWith_running`). -/
theorem barrierTimeouts : Obligations.BarrierTimeouts := by
  unfold Obligations.BarrierTimeouts
  intro s hrun hopen
  refine ⟨fun b i hstall hi habs hpres hroom => ?_, fun c hwait hroom => ?_⟩
  · refine completes_goOn _ s (Module.starveTimeout b) _ rfl ?_
    rw [starveTimeout_of_starved hrun ((starved_iff s.mod b).mpr hstall) hi habs hpres]
    exact faultWith_running _ _ _ hrun hopen hroom
  · refine completes_goOn _ s (Module.replyTimeout c) _ rfl ?_
    rw [replyTimeout_of_wait hrun hwait]
    exact faultWith_running _ _ _ hrun hopen hroom

end Sys2Proof.Machine
